-- ==== Sys2Proof/Word.lean ====
section
/-!
DEFINITION. The word types of the TR-5240 model: bytes, 32-bit register words and byte strings.
Numbers that the manual counts rather than masks (times, indices, ledger sequence numbers, pseudocode variables)
are `Nat` or `Int`; R5 fixes the pseudocode operators and `Machine/Bits.lean` writes them.
-/
namespace Sys2Proof

/-- One byte of a frame, a payload, a window or host memory (R3: multi-byte fields are little-endian). -/
abbrev Byte := BitVec 8

/-- One 32-bit register of BAR0 (R57). -/
abbrev Word := BitVec 32

/-- A byte string, byte 0 first. -/
abbrev Bytes := List Byte

end Sys2Proof
end

