-- ==== Sys2Proof/Syntax.lean ====
section
/-!
DEFINITION. The commands and events of the TR-5240 as data: one constructor of `Instr` per row of the table of
operations and events, with the operands a row carries: a command frame, a register value, a received frame, a
measured level.
-/
namespace Sys2Proof

/-- The commands of Velov interface 2.4, one per opcode (R36). -/
inductive Op where
  | cmdAbort
  | evringSet
  | eventRoute
  | faultList
  | faultClear
  | sessionChallenge
  | sessionOpen
  | sessionClose
  | ledgerStatus
  | ledgerRead
  | ledgerIdent
  | ledgerSeal
  | ledgerRelease
  | timeAnchor
  | streamStatus
  | pageStatus
  | portSet
  | streamOpen
  | streamRekey
  | streamClose
  | pageRelease
  | launchStatus
  | jobStatus
  | sheetGet
  | jobOpen
  | sheetAdd
  | jobClose
  | jobHold
  | sheetAbort
  | jobAbort
  | jobRelease
  | pathSet
  | launchControl
  | calResult
  | calRun
  | calApply
  | regSet
  | screenInfo
  | ecmRead
  | profileGet
  | screenLoad
  | ecmLoad
  | profileSet
  | linkStatus
  | apcRead
  | historyLoad
  | delayLoad
  | apcTarget
  | linkSet
  | polygonSet
  | scanSet
  | facetLoad
  | scanStart
  | scanStop
  | facetLearn
  | scanPlan
  | motorGet
  | busGet
  | motorSet
  | motorStart
  | motorStop
  | motorSpeed
  | motorClear
  | busSet
  | axisGet
  | axisSet
  | axisEnable
  | axisMove
  | axisStop
  | axisHome
  | axisClear
  | fbGet
  | prbRead
  | qeSet
  | seSet
  | prbSet
  | cmpSet
  | posSet
  | fbClear
  | loopGet
  | loopLoad
  | loopSet
  | loopStart
  | loopStop
  | loopSp
  | loopClear
  | thermalGet
  | zoneSet
  | thSet
  | curveLoad
  | dieSet
  | thermalClear
  | rimStatus
  | nodeGet
  | nodeRead
  | rimConfig
  | nodeWrite
  | rimEnum
  | powerStatus
  | railGet
  | railSet
  | powerSet
  | enginePower
  | powerControl
  | clockStatus
  | clockSet
  | clockOutSet
  | pairStatus
  | pairSet
  | pairHandover
  | bgStatus
  | telemetryRead
  | lifeGet
  | bgSet
  | bootStatus
  | fwStage
  | fwActivate
  | fwCommit
  | lifecycleSet
  | debugUnlock
  | debugLock
deriving DecidableEq, Repr

/-- The opcode of a command (R36). -/
def Op.code : Op → Nat
  | .cmdAbort => 0x0180
  | .evringSet => 0x0181
  | .eventRoute => 0x0182
  | .faultList => 0x0110
  | .faultClear => 0x0190
  | .sessionChallenge => 0x0200
  | .sessionOpen => 0x0280
  | .sessionClose => 0x0281
  | .ledgerStatus => 0x0300
  | .ledgerRead => 0x0301
  | .ledgerIdent => 0x0302
  | .ledgerSeal => 0x0303
  | .ledgerRelease => 0x0380
  | .timeAnchor => 0x0381
  | .streamStatus => 0x0400
  | .pageStatus => 0x0401
  | .portSet => 0x0480
  | .streamOpen => 0x0481
  | .streamRekey => 0x0482
  | .streamClose => 0x0483
  | .pageRelease => 0x0484
  | .launchStatus => 0x0500
  | .jobStatus => 0x0501
  | .sheetGet => 0x0502
  | .jobOpen => 0x0580
  | .sheetAdd => 0x0581
  | .jobClose => 0x0582
  | .jobHold => 0x0583
  | .sheetAbort => 0x0584
  | .jobAbort => 0x0585
  | .jobRelease => 0x0586
  | .pathSet => 0x0587
  | .launchControl => 0x0588
  | .calResult => 0x1400
  | .calRun => 0x1480
  | .calApply => 0x1481
  | .regSet => 0x1482
  | .screenInfo => 0x0601
  | .ecmRead => 0x0602
  | .profileGet => 0x0603
  | .screenLoad => 0x0680
  | .ecmLoad => 0x0681
  | .profileSet => 0x0682
  | .linkStatus => 0x0604
  | .apcRead => 0x0605
  | .historyLoad => 0x0683
  | .delayLoad => 0x0684
  | .apcTarget => 0x0685
  | .linkSet => 0x0686
  | .polygonSet => 0x0780
  | .scanSet => 0x0781
  | .facetLoad => 0x0782
  | .scanStart => 0x0783
  | .scanStop => 0x0784
  | .facetLearn => 0x0785
  | .scanPlan => 0x0701
  | .motorGet => 0x0800
  | .busGet => 0x0801
  | .motorSet => 0x0880
  | .motorStart => 0x0881
  | .motorStop => 0x0882
  | .motorSpeed => 0x0883
  | .motorClear => 0x0884
  | .busSet => 0x0885
  | .axisGet => 0x0900
  | .axisSet => 0x0980
  | .axisEnable => 0x0981
  | .axisMove => 0x0982
  | .axisStop => 0x0983
  | .axisHome => 0x0984
  | .axisClear => 0x0985
  | .fbGet => 0x0A00
  | .prbRead => 0x0A01
  | .qeSet => 0x0A80
  | .seSet => 0x0A81
  | .prbSet => 0x0A82
  | .cmpSet => 0x0A83
  | .posSet => 0x0A84
  | .fbClear => 0x0A85
  | .loopGet => 0x0B00
  | .loopLoad => 0x0B01
  | .loopSet => 0x0B80
  | .loopStart => 0x0B81
  | .loopStop => 0x0B82
  | .loopSp => 0x0B83
  | .loopClear => 0x0B84
  | .thermalGet => 0x0C00
  | .zoneSet => 0x0C80
  | .thSet => 0x0C81
  | .curveLoad => 0x0C82
  | .dieSet => 0x0C83
  | .thermalClear => 0x0C84
  | .rimStatus => 0x0D00
  | .nodeGet => 0x0D01
  | .nodeRead => 0x0D02
  | .rimConfig => 0x0D80
  | .nodeWrite => 0x0D81
  | .rimEnum => 0x0D82
  | .powerStatus => 0x0E00
  | .railGet => 0x0E01
  | .railSet => 0x0E80
  | .powerSet => 0x0E81
  | .enginePower => 0x0E82
  | .powerControl => 0x0E83
  | .clockStatus => 0x0F00
  | .clockSet => 0x0F80
  | .clockOutSet => 0x0F81
  | .pairStatus => 0x1100
  | .pairSet => 0x1180
  | .pairHandover => 0x1181
  | .bgStatus => 0x1200
  | .telemetryRead => 0x1201
  | .lifeGet => 0x1202
  | .bgSet => 0x1280
  | .bootStatus => 0x1300
  | .fwStage => 0x1380
  | .fwActivate => 0x1381
  | .fwCommit => 0x1382
  | .lifecycleSet => 0x1383
  | .debugUnlock => 0x1384
  | .debugLock => 0x1385

/-- How the one read of a payload in host memory ends (R37). -/
inductive Fetch where
  | bytes (b : Bytes)
  | timeout
  | poisoned
deriving DecidableEq, Repr

/-- A command frame as the hamper unit copies it out of a request slot, without its opcode (R33, R35). `inl` is the
48-byte payload area and `fetch` what the one payload read returns when FLAGS.REF is 1 (R37). -/
structure Frame where
  hamper : Fin 8
  flags : BitVec 8 := 0
  tag : BitVec 6 := 0
  rsvd : BitVec 2 := 0
  length : BitVec 16 := 0
  target : BitVec 16 := 0
  session : BitVec 32 := 0
  seq : BitVec 32 := 0
  inl : Bytes := List.replicate 48 0
  fetch : Fetch := .bytes []
deriving DecidableEq, Repr

/-- The two key-guarded blocks (R62). -/
inductive Block where
  | dma
  | svc
deriving DecidableEq, Repr

/-- Who writes a register or the configuration bus: the origins and DETAIL of R65 and R358. -/
inductive Writer where
  | host (requester : BitVec 16)
  | renune (task : BitVec 16)
  | peer
  | debug
  | bootRom
  | rambler (job : BitVec 16)
  | protection (line : BitVec 8)
  | node (addr : BitVec 16)
deriving DecidableEq, Repr

/-- How a register write arrives: the byte enables of its doubleword (R57) and who writes. -/
structure Access where
  be : BitVec 4
  writer : Writer
deriving DecidableEq, Repr

/-- The level that an edge of BDs brings (R181): whether it rises, and for how long it then stays, in tu. -/
structure BdLevel where
  rising : Bool
  hold : Nat
deriving DecidableEq, Repr

/-- The three key-guarded registers of a DMA ring (R73). -/
inductive DmaReg where
  | baseLo
  | baseHi
  | cfg
deriving DecidableEq, Repr

/-- A complete answer of a serial encoder: the raw word, the bits nE and nW, the received CRC and the measured delay
in ns (R275, R276). -/
structure SeRead where
  raw : Nat
  nE : Bool
  nW : Bool
  crc : Nat
  delay : Nat
deriving DecidableEq, Repr

/-- Slots of a returned cycle frame (R320). -/
inductive RimSlotKind where
  | fast
  | slow
  | mailbox
deriving DecidableEq, Repr

/-- A slot of a returned cycle frame in which a node has written: its data blocks and its trailer block T (R321). -/
structure RimSlot where
  kind : RimSlotKind
  index : Nat
  data : Bytes
  trailer : Bytes
deriving DecidableEq, Repr

/-- One returned copy of a cycle frame: HOPS and WRAPPED of its SOF, the slots in which a node has written, and the
alert nibbles by position; a position beyond the list has nibble 0 (R319, R320, R338). -/
structure RimCopy where
  hops : Nat
  wrapped : Bool
  slots : List RimSlot
  alerts : List Nat
deriving DecidableEq, Repr

/-- The return of an enumeration frame's A copy: HOPS, the loop delay in ns, the idents by position (R327). -/
structure EnumCopy where
  nodes : Nat
  loopNs : Nat
  idents : List Bytes
deriving DecidableEq, Repr

/-- An error on a data request of a DMA descriptor (R355). -/
inductive DmaErr where
  | hostErr
  | timeout
  | poison
  | dramEcc
deriving DecidableEq, Repr

/-- What the source reads of a DMA descriptor return: the bytes of HOST space, or an error and its address (R355). -/
inductive DmaRead where
  | data (b : Bytes)
  | fail (e : DmaErr) (addr : BitVec 64)
deriving DecidableEq, Repr

/-- A page that the peer has reported COMPLETE: PAGE_ID, MANIFEST_DIGEST and the PEAK_COST of its planes (R460,
R461). -/
structure PeerPage where
  stream : Nat
  page : Nat
  digest : Bytes
  peaks : List Nat
deriving DecidableEq, Repr

/-- A HEARTBEAT frame (R454): ROLE, highest fault class, TIME64 and the groups strobed per station; with it the peer's
FIT mask and the pages it has newly reported COMPLETE (R460, R461). -/
structure Heartbeat where
  role : BitVec 2
  cls : BitVec 3
  time : BitVec 64
  groups : List Nat
  fit : BitVec 5
  pages : List PeerPage
deriving DecidableEq, Repr

/-- The content of a MIRROR frame: a change (R453), which is a command with its TARGET and payload, a guarded register's
write, a capture, or a CMD_ABORT with the command whose TAG it names; or an axis's position, mode and queue, as absolute
segments (R267). -/
inductive Mirrored where
  | command (op : Op) (target : BitVec 16) (payload : Bytes)
  | register (addr value : Word)
  | capture
  | abort (op : Op) (target : BitVec 16) (payload : Bytes)
  | axis (a : Fin 20) (position : BitVec 48) (strong : Bool) (segs : Bytes)
deriving DecidableEq, Repr

/-- Where an uncorrectable or corrected SRAM error lies (R14, R377): a line slot of a station, its screen store or
correction tables, the shared region, an RT memory, firmware data, or the L2 of a supervisor pair. -/
inductive SramRegion where
  | lineStore (station : Fin 5) (slot : Nat)
  | screenStore (station : Fin 5)
  | corrTables (station : Fin 5)
  | shared
  | tcm
  | firmware
  | l2 (pair : Fin 2)
deriving DecidableEq, Repr

/-- An SRAM error that the scrubber meets. -/
structure SramErr where
  region : SramRegion
  addr : BitVec 64
  ue : Bool
deriving DecidableEq, Repr

/-- What holds the DRAM word of an error (R378). -/
inductive DramPlace where
  | unused
  | band (stream : Fin 256) (page : Word)
  | capture (set : Nat)
  | firmware
deriving DecidableEq, Repr

/-- A DRAM error that the scrubber meets. -/
structure DramErr where
  addr : BitVec 64
  place : DramPlace
  ue : Bool
deriving DecidableEq, Repr

/-- What one sensor stake node has seen of the calibration sheets (R220, R222): TIME64 of the sheet edge and, by station, of
the bar edge, the separation of the chevron's arms in 1/64 px, and the density of each patch. -/
structure StakeMarks where
  node : Nat
  edge : Nat
  bar : List Nat
  sep : List Int
  rho : List (List Nat)
deriving DecidableEq, Repr

/-- What Renune has of the calibration sheets (R220, R222): the latched belt positions, TIME64 and count, oldest first; the
marks by sensor node; the Berril targets by code. -/
structure Measured where
  latches : List (Nat × Int)
  marks : List StakeMarks
  target : List Nat
deriving DecidableEq, Repr

--TYPES--
/-- The operations and events of the table, one constructor per row. -/
inductive Instr where
  /-- CMD_ABORT (R45): Command 0x0180 aborts an outstanding TAG of the same session and hamper, or returns
  ALREADY_DONE if the target already posted its final status. -/
  | cmdAbort (f : Frame)
  /-- EVRING_SET (R52): Command 0x0181 sets, resets, enables or disables the hamper's event ring in host memory. -/
  | evringSet (f : Frame)
  /-- EVENT_ROUTE (R53): Command 0x0182 sets the host sink codes of positions 2 and 3 of one event line. -/
  | eventRoute (f : Frame)
  /-- FAULT_LIST (R451): Query 0x0110 returns the active-fault list with its head into the RBUF buffer. -/
  | faultList (f : Frame)
  /-- FAULT_CLEAR (R450): Command 0x0190 removes ended fault entries, releases interlock and STOP latches where
  allowed and returns the controller state. -/
  | faultClear (f : Frame)
  /-- SESSION_CHALLENGE (R48): Command 0x0200 reserves a session slot on the hamper and returns a fresh nonce. -/
  | sessionChallenge (f : Frame)
  /-- SESSION_OPEN (R49): Command 0x0280 verifies a role-key signature over the nonce and opens a session on the
  hamper. -/
  | sessionOpen (f : Frame)
  /-- SESSION_CLOSE (R47): Command 0x0281 ends the issuing session, letting its outstanding commands complete. -/
  | sessionClose (f : Frame)
  /-- SESSION_IDLE_END (R47): Expiry of SESS_IDLE with no outstanding command ends the session and records a
  COMMAND entry of origin 0x03. -/
  | sessionIdleEnd (slot : Fin 16)
  /-- NONCE_EXPIRY (R48): A hamper's nonce becomes invalid 10 s after its challenge. -/
  | nonceExpiry (n : Fin 8)
  /-- LEDGER_STATUS (R374): Query 0x0300 returns head, held, exported and free-space figures of the ledger. -/
  | ledgerStatus (f : Frame)
  /-- LEDGER_READ (R374): Command 0x0301 copies whole stored ledger entries from START into the RBUF buffer and
  advances EXPORTED. -/
  | ledgerRead (f : Frame)
  /-- LEDGER_IDENT (R374): Query 0x0302 returns the ledger public key and its certificate chain. -/
  | ledgerIdent (f : Frame)
  /-- LEDGER_SEAL (R374): Command 0x0303 signs the ledger head together with a host nonce with the ledger key. -/
  | ledgerSeal (f : Frame)
  /-- LEDGER_RELEASE (R372): Command 0x0380 moves FIRST_HELD past an exported signed checkpoint so that NOR
  sectors can be reclaimed. -/
  | ledgerRelease (f : Frame)
  /-- TIME_ANCHOR (R364): Command 0x0381 records an AUDITOR time anchor as an ANCHOR entry chained right after
  its COMMAND entry. -/
  | timeAnchor (f : Frame)
  /-- STREAM_STATUS (R82): Query 0x0400 returns the state, epoch, window and counters of one stream. -/
  | streamStatus (f : Frame)
  /-- PAGE_STATUS (R98): Query 0x0401 returns the staging report of one page. -/
  | pageStatus (f : Frame)
  /-- PORT_SET (R76): Command 0x0480 sets speed, FEC, VLAN, MTU, UDP port and addresses of an Ethernet port and
  retrains its link. -/
  | portSet (f : Frame)
  /-- STREAM_OPEN (R101): Command 0x0481 opens a stream with its transport, peer, weight, quota and first key. -/
  | streamOpen (f : Frame)
  /-- STREAM_REKEY (R81): Command 0x0482 installs the key of the next epoch of a stream. -/
  | streamRekey (f : Frame)
  /-- STREAM_CLOSE (R94): Command 0x0483 closes a stream, erases its keys and frees its RECEIVING and REJECTED
  pages. -/
  | streamClose (f : Frame)
  /-- PAGE_RELEASE (R94): Command 0x0484 frees a page that no sheet needs, rechecking the need at its
  application point. -/
  | pageRelease (f : Frame)
  /-- LAUNCH_STATUS (R205): Query 0x0500 returns planned speed, tokens held and launch-gate resources. -/
  | launchStatus (f : Frame)
  /-- JOB_STATUS (R201): Query 0x0501 returns the state and counts of one job. -/
  | jobStatus (f : Frame)
  /-- SHEET_GET (R219): Query 0x0502 returns the 512-byte sheet record of one sheet. -/
  | sheetGet (f : Frame)
  /-- JOB_OPEN (R201): Command 0x0580 creates an OPEN job with its profiles, reprint, capture and placement
  settings. -/
  | jobOpen (f : Frame)
  /-- SHEET_ADD (R202): Command 0x0581 adds PLANNED sheets to an OPEN job and assigns consecutive SHEET_IDs. -/
  | sheetAdd (f : Frame)
  /-- JOB_CLOSE (R201): Command 0x0582 makes a job CLOSED so that it accepts no more sheets. -/
  | jobClose (f : Frame)
  /-- JOB_HOLD (R203): Command 0x0583 sets or clears the HELD flag that stops admission of a job's sheets. -/
  | jobHold (f : Frame)
  /-- SHEET_ABORT (R215): Command 0x0584 withdraws, blanks or spoils a sheet according to its state at the
  launch gate. -/
  | sheetAbort (f : Frame)
  /-- JOB_ABORT (R215): Command 0x0585 closes a job and aborts every non-terminal sheet of it at one ordering
  instant. -/
  | jobAbort (f : Frame)
  /-- JOB_RELEASE (R224): Command 0x0586 frees the records and capture sets of an ENDED job. -/
  | jobRelease (f : Frame)
  /-- PATH_SET (R205): Command 0x0587 sets the paper-path geometry, gate tolerance, gap and speed step. -/
  | pathSet (f : Frame)
  /-- LAUNCH_CONTROL (R431): Command 0x0588 moves the controller from READY to RUN or from RUN to DRAIN. -/
  | launchControl (f : Frame)
  /-- CAL_RESULT (R223): Query 0x1400 returns the calibration proposal that is held. -/
  | calResult (f : Frame)
  /-- CAL_RUN (R220): Command 0x1480 prints registration or density calibration sheets and reads their marks
  through sensor nodes. -/
  | calRun (f : Frame)
  /-- CAL_APPLY (R223): Command 0x1481 writes the held calibration proposals as recorded REG_SET, ECM_LOAD and
  APC_TARGET changes. -/
  | calApply (f : Frame)
  /-- REG_SET (R223): Command 0x1482 sets REG_Y16 and REG_X64 of one station. -/
  | regSet (f : Frame)
  /-- CAL_PROPOSAL_READY (R221): When the calibration sheets have been read, Renune computes the proposal and
  pulses EV076. -/
  | calProposalReady (m : Measured)
  /-- SCREEN_INFO (R132): Query 0x0601 returns the state, geometry and threshold hash of a screen slot. -/
  | screenInfo (f : Frame)
  /-- ECM_READ (R140): Query 0x0602 returns one ECM bank with its zone phase table. -/
  | ecmRead (f : Frame)
  /-- PROFILE_GET (R127): Query 0x0603 returns one imaging profile. -/
  | profileGet (f : Frame)
  /-- SCREEN_LOAD (R148): Command 0x0680 writes a threshold screen into a screen slot, LOADING until its final
  status. -/
  | screenLoad (f : Frame)
  /-- ECM_LOAD (R149): Command 0x0681 writes the inactive ECM bank and zone phases, which sides take from their
  next schedule fix. -/
  | ecmLoad (f : Frame)
  /-- PROFILE_SET (R129): Command 0x0682 writes one imaging profile of a station. -/
  | profileSet (f : Frame)
  /-- LINK_STATUS (R172): Query 0x0604 returns the lane states and module identities of a station. -/
  | linkStatus (f : Frame)
  /-- APC_READ (R169): Query 0x0605 returns DRIVE, photodiode reading, target and flags of every beam. -/
  | apcRead (f : Frame)
  /-- HISTORY_LOAD (R174): Command 0x0683 writes one class of the inactive history bank after copying the others
  from the active bank. -/
  | historyLoad (f : Frame)
  /-- DELAY_LOAD (R175): Command 0x0684 stores beam delays to be sent before the first sweep of the next fixed
  side. -/
  | delayLoad (f : Frame)
  /-- APC_TARGET (R169): Command 0x0685 sets photodiode targets, gain, step and tolerance for laser power
  control. -/
  | apcTarget (f : Frame)
  /-- LINK_SET (R172): Command 0x0686 sets lane enables, LPI_MIN and may restart training. -/
  | linkSet (f : Frame)
  /-- POLYGON_SET (R197): Command 0x0780 sets facets, facet mode, belt encoder and limits of a polygon. -/
  | polygonSet (f : Frame)
  /-- SCAN_SET (R197): Command 0x0781 sets optics, beam-detect and width parameters of a station. -/
  | scanSet (f : Frame)
  /-- FACET_LOAD (R188): Command 0x0782 sets the per-facet in-scan delays of a station. -/
  | facetLoad (f : Frame)
  /-- SCAN_START (R198): Command 0x0783 plans K for a speed and starts or re-plans a polygon, ending DONE when
  its Weavers are LOCKED. -/
  | scanStart (f : Frame)
  /-- SCAN_STOP (R198): Command 0x0784 stops a polygon and turns its Weavers OFF. -/
  | scanStop (f : Frame)
  /-- FACET_LEARN (R199): Command 0x0785 measures 256 revolutions and records a new facet signature. -/
  | facetLearn (f : Frame)
  /-- SCAN_PLAN (R177): Query 0x0701 reports whether a speed can be planned and with which K and pixel clocks. -/
  | scanPlan (f : Frame)
  /-- MOTOR_GET (R249): Query 0x0800 returns the parameter set of a motor channel. -/
  | motorGet (f : Frame)
  /-- BUS_GET (R251): Query 0x0801 returns the settings of a bus monitor. -/
  | busGet (f : Frame)
  /-- MOTOR_SET (R249): Command 0x0880 loads the parameter set of a motor channel. -/
  | motorSet (f : Frame)
  /-- MOTOR_START (R250): Command 0x0881 starts an auxiliary, belt, drum or fuser-roller channel toward its
  setpoint. -/
  | motorStart (f : Frame)
  /-- MOTOR_STOP (R250): Command 0x0882 ramps or coasts a motor channel to OFF. -/
  | motorStop (f : Frame)
  /-- MOTOR_SPEED (R250): Command 0x0883 applies a new setpoint to an auxiliary channel. -/
  | motorSpeed (f : Frame)
  /-- MOTOR_CLEAR (R250): Command 0x0884 moves a motor channel from FAULT to OFF once its cause is gone. -/
  | motorClear (f : Frame)
  /-- BUS_SET (R251): Command 0x0885 sets bus thresholds and chopper parameters and clears CHOP_FAULT and
  CHOP_HOT. -/
  | busSet (f : Frame)
  /-- AXIS_GET (R269): Query 0x0900 returns an axis's settings, position, velocity and load angle. -/
  | axisGet (f : Frame)
  /-- AXIS_SET (R268): Command 0x0980 loads the parameter set of an axis. -/
  | axisSet (f : Frame)
  /-- AXIS_ENABLE (R269): Command 0x0981 moves an axis between OFF and HOLD. -/
  | axisEnable (f : Frame)
  /-- AXIS_MOVE (R259): Command 0x0982 queues 1 to 16 segments of a planned move on a HOST axis in HOLD. -/
  | axisMove (f : Frame)
  /-- AXIS_STOP (R264): Command 0x0983 decelerates an axis to rest and empties its queue. -/
  | axisStop (f : Frame)
  /-- AXIS_HOME (R265): Command 0x0984 moves an axis to a probe edge and sets its home position. -/
  | axisHome (f : Frame)
  /-- AXIS_CLEAR (R269): Command 0x0985 moves an axis from FAULT to OFF once its cause is gone. -/
  | axisClear (f : Frame)
  /-- PATH_MOVE (R259): Pair B's paper-path routing queues a move on a PATH axis as operating data. -/
  | pathMove (a : Fin 20) (segs : Bytes)
  /-- FB_GET (R287): Query 0x0A00 returns the setting payload of a feedback unit. -/
  | fbGet (f : Frame)
  /-- PRB_READ (R282): Query 0x0A01 drains up to 8 latches from an unowned probe FIFO. -/
  | prbRead (f : Frame)
  /-- QE_SET (R287): Command 0x0A80 configures a quadrature input. -/
  | qeSet (f : Frame)
  /-- SE_SET (R275): Command 0x0A81 configures a serial encoder port. -/
  | seSet (f : Frame)
  /-- PRB_SET (R281): Command 0x0A82 sets edge polarity, filter and source counter of a probe. -/
  | prbSet (f : Frame)
  /-- CMP_SET (R284): Command 0x0A83 writes a host compare unit and evaluates BEHIND for LATE_FIRE or NEXT_REV. -/
  | cmpSet (f : Frame)
  /-- POS_SET (R285): Command 0x0A84 sets a feedback counter, clears POS_BAD and disarms its compares. -/
  | posSet (f : Frame)
  /-- FB_CLEAR (R277): Command 0x0A85 clears a feedback unit's fault and returns a READY serial port from
  FALLBACK. -/
  | fbClear (f : Frame)
  /-- LOOP_GET (R301): Query 0x0B00 returns a loop descriptor. -/
  | loopGet (f : Frame)
  /-- LOOP_LOAD (R289): Query 0x0B01 returns the worst-tick cost and the number of loops holding descriptors. -/
  | loopLoad (f : Frame)
  /-- LOOP_SET (R301): Command 0x0B80 loads a loop descriptor after checking assignments, cascades and the tick
  budget. -/
  | loopSet (f : Frame)
  /-- LOOP_START (R296): Command 0x0B81 starts a loop bumplessly from its measured value, ending DONE in
  REGULATING. -/
  | loopStart (f : Frame)
  /-- LOOP_STOP (R297): Command 0x0B82 moves a loop to OUT_SAFE and OFF, slewed or at once. -/
  | loopStop (f : Frame)
  /-- LOOP_SP (R301): Command 0x0B83 sets a loop setpoint at its next period. -/
  | loopSp (f : Frame)
  /-- LOOP_CLEAR (R301): Command 0x0B84 clears sticky flags and moves a loop from FAULT to OFF. -/
  | loopClear (f : Frame)
  /-- THERMAL_GET (R316): Query 0x0C00 returns the settings of a zone, thermistor or the die. -/
  | thermalGet (f : Frame)
  /-- ZONE_SET (R316): Command 0x0C80 configures and enables or disables a fuser zone. -/
  | zoneSet (f : Frame)
  /-- TH_SET (R306): Command 0x0C81 configures a thermistor's source, zone, curve and offset. -/
  | thSet (f : Frame)
  /-- CURVE_LOAD (R306): Command 0x0C82 loads a thermistor conversion curve. -/
  | curveLoad (f : Frame)
  /-- DIE_SET (R314): Command 0x0C83 sets the die throttling threshold, step, dwell and release time. -/
  | dieSet (f : Frame)
  /-- THERMAL_CLEAR (R312): Command 0x0C84 clears a zone or die fault once its cause is gone, never OVERTEMP. -/
  | thermalClear (f : Frame)
  /-- RIM_STATUS (R344): Query 0x0D00 returns the ring mirror words. -/
  | rimStatus (f : Frame)
  /-- NODE_GET (R344): Query 0x0D01 returns a node's status, ident and last DELTA. -/
  | nodeGet (f : Frame)
  /-- NODE_READ (R344): Command 0x0D02 reads a node parameter through its mailbox. -/
  | nodeRead (f : Frame)
  /-- RIM_CONFIG (R328): Command 0x0D80 stores the ring topology to apply at the next enumeration. -/
  | rimConfig (f : Frame)
  /-- NODE_WRITE (R345): Command 0x0D81 writes a node parameter through its mailbox. -/
  | nodeWrite (f : Frame)
  /-- RIM_ENUM (R327): Command 0x0D82 re-enumerates and configures the ring, ending DONE in RUN. -/
  | rimEnum (f : Frame)
  /-- POWER_STATUS (R435): Query 0x0E00 returns the power mirror words. -/
  | powerStatus (f : Frame)
  /-- RAIL_GET (R435): Query 0x0E01 returns the parameter set in force of a rail slot. -/
  | railGet (f : Frame)
  /-- RAIL_SET (R420): Command 0x0E80 stores rail slot parameters in MRAM for the next enable. -/
  | railSet (f : Frame)
  /-- POWER_SET (R435): Command 0x0E81 stores sequencer parameters in MRAM. -/
  | powerSet (f : Frame)
  /-- ENGINE_POWER (R430): Command 0x0E82 starts or powers down the engine phase of the rails. -/
  | enginePower (f : Frame)
  /-- POWER_CONTROL (R435): Command 0x0E83 issues an off request, a power cycle or a controller reset. -/
  | powerControl (f : Frame)
  /-- CLOCK_STATUS (R417): Query 0x0F00 returns the clock mirror words. -/
  | clockStatus (f : Frame)
  /-- CLOCK_SET (R417): Command 0x0F80 stores REF_MODE, XTAL_MODE and XTAL_START_MAX in the always-on domain. -/
  | clockSet (f : Frame)
  /-- CLOCK_OUT_SET (R416): Command 0x0F81 reconfigures a CKO output glitch-free. -/
  | clockOutSet (f : Frame)
  /-- PAIR_STATUS (R471): Query 0x1100 returns the pair mirror words. -/
  | pairStatus (f : Frame)
  /-- PAIR_SET (R471): Command 0x1180 stores PEER_SERIAL and pairing enable for the next reset. -/
  | pairSet (f : Frame)
  /-- PAIR_HANDOVER (R462): Command 0x1181 makes the ACTIVE send DECLARE so that the FIT STANDBY takes over at
  T. -/
  | pairHandover (f : Frame)
  /-- BG_STATUS (R386): Query 0x1200 returns the background mirror words. -/
  | bgStatus (f : Frame)
  /-- TELEMETRY_READ (R385): Query 0x1201 returns telemetry records from a START SEQ. -/
  | telemetryRead (f : Frame)
  /-- LIFE_GET (R383): Query 0x1202 returns the life counters. -/
  | lifeGet (f : Frame)
  /-- BG_SET (R386): Command 0x1280 sets Rambler job periods, CE_WARN and AGE_WARN. -/
  | bgSet (f : Frame)
  /-- BOOT_STATUS (R399): Query 0x1300 returns lifecycle, slots, versions, rollback counters and boot count. -/
  | bootStatus (f : Frame)
  /-- FW_STAGE (R398): Command 0x1380 programs image bytes into the inactive slot of its kind. -/
  | fwStage (f : Frame)
  /-- FW_ACTIVATE (R398): Command 0x1381 verifies a staged image and sets it as the trial slot, optionally
  resetting. -/
  | fwActivate (f : Frame)
  /-- FW_COMMIT (R398): Command 0x1382 makes the trial slot PRIMARY and raises the rollback counter. -/
  | fwCommit (f : Frame)
  /-- LIFECYCLE_SET (R395): Command 0x1383 moves the lifecycle forward and burns OTP. -/
  | lifecycleSet (f : Frame)
  /-- DEBUG_UNLOCK (R397): Command 0x1384 opens the debug port to EXTEST and processor debug. -/
  | debugUnlock (f : Frame)
  /-- DEBUG_LOCK (R397): Command 0x1385 closes the debug port. -/
  | debugLock (f : Frame)
  /-- HAMPER_DOORBELL (R32): A write to HnDB sets the request producer index, or is refused with DBERR. -/
  | hamperDoorbell (n : Fin 8) (v : Word)
  /-- RESPONSE_CONSUMER_WRITE (R72): A write to HnRSP_CONS releases response slots, letting waiting responses
  post. -/
  | responseConsumerWrite (n : Fin 8) (v : Word)
  /-- EVENT_CONSUMER_WRITE (R72): A write to HnEVR_CONS releases event-ring entries, letting a LOST entry and
  waiting COMPLETIONs post. -/
  | eventConsumerWrite (n : Fin 8) (v : Word)
  /-- COMPLETION_POSTED (R43): A long-running command reaches its final status and posts a COMPLETION or second
  response slot. -/
  | completionPosted
  /-- EV_PEND_CLEAR (R61): A write of 1 to an EV_PEND bit clears PENDING and the line's counter unless an event
  hits in the same cycle. -/
  | evPendClear (i : Fin 8) (mask hit : Word)
  /-- KEY_UNLOCK_WRITE (R62): A write to DMA_UNLOCK or SVC_UNLOCK opens or relocks a guarded block. -/
  | keyUnlockWrite (b : Block) (v : Word)
  /-- DMA_SETUP_WRITE (R73): An RWK write to DnBASE_LO, DnBASE_HI or DnCFG is captured and held until its ledger
  entry is in MRAM. -/
  | dmaSetupWrite (r : Fin 8) (reg : DmaReg) (v : Word) (w : Writer)
  /-- RWK_WRITE_APPLY (R66): A held RWK write applies once its ledger entry is in MRAM, or is discarded with
  NOTREC. -/
  | rwkWriteApply (b : Block)
  /-- HALT_REQ (R67): Writing 1 to SVC_CMD.HALT_REQ raises the HALT-class fault HOST_HALT within 1 us. -/
  | haltReq (w : Writer)
  /-- STOP_REQ (R67): Writing 1 to SVC_CMD.STOP_REQ raises the STOP-class fault HOST_STOP within 1 us. -/
  | stopReq (halt : Bool) (w : Writer)
  /-- INH_FORCE_SET (R67): Setting SVC_INH.INH_FORCE asserts the internal inhibit at once as a protective write. -/
  | inhForceSet (w : Writer)
  /-- INH_FORCE_CLEAR (R74): Clearing SVC_INH.INH_FORCE removes the forced cause after its ledger entry. -/
  | inhForceClear (w : Writer)
  /-- DMA_RING_DOORBELL (R350): Writing DnDB.RING starts, wakes or resumes a DMA ring. -/
  | dmaRingDoorbell (r : Fin 8)
  /-- DMA_STOP (R354): Writing DnDB.STOP halts a ring at the next descriptor boundary. -/
  | dmaStop (r : Fin 8)
  /-- SNAPSHOT_SELECT (R69): A write to SWw_SEL captures the selected wide value and TIME64 in one cycle. -/
  | snapshotSelect (w : Fin 4) (v : Word)
  /-- SNAPSHOT_LAST_READ (R69): Reading data word LEN minus 1 of a snapshot window clears VALID. -/
  | snapshotLastRead (w : Fin 4)
  /-- PARTIAL_WIDTH_WRITE (R57): A BAR0 register write without all byte enables is ignored and counted in
  SYS_REGERR.PARTIAL. -/
  | partialWidthWrite
  /-- REGISTER_WRITE (R60): A write to any register without a row of its own acts by its register type. -/
  | registerWrite (offset : BitVec 20) (v : Word) (x : Access)
  /-- HOST_INTERFACE_RESET (R30): FLR or nPERST resets the host interface, closes sessions, empties hampers and
  halts DMA rings. -/
  | hostInterfaceReset
  /-- CONFIG_CAPTURE (R358): The change recorder captures a configuration-bus write, tagged or untagged. -/
  | configCapture (w : Writer) (addr old new : Word) (tag : Option (BitVec 64))
  /-- LEDGER_ENTRY_COMMIT (R44): A ledger entry and the updated head reach MRAM, letting the waiting change
  apply. -/
  | ledgerEntryCommit
  /-- LEDGER_SPILL (R368): Renune spills journal entries to the NOR ledger area, raising LEDGER_SPILL on a
  failed program or erase. -/
  | ledgerSpill (count : Nat) (ok : Bool)
  /-- SIGNATURE_CHAINED (R366): The trust core's signature of a checkpoint is chained as a SIGNATURE entry. -/
  | signatureChained
  /-- SEAL_TIMEOUT (R366): A checkpoint unsigned after 1 s raises SEAL_FAIL. -/
  | sealTimeout
  /-- GAP_ENTRY_WRITE (R369): Once space returns, Renune writes one GAP entry for lost entries. -/
  | gapEntryWrite
  /-- ETH_FRAME_RX (R76): A port receives a frame and drops it or passes it to intake, PTP or Renune. -/
  | ethFrameRx (port : Fin 2) (fcsOk : Bool) (frame : Bytes)
  /-- ETH_LINK_CHANGE (R77): A port's Ethernet link goes down or up. -/
  | ethLinkChange (port : Fin 2) (up : Bool)
  /-- TRT_PACKET_DECRYPTED (R83): Crypto completes on a queued packet, which is authenticated, marked and
  applied to its page. -/
  | trtPacketDecrypted (st : Fin 256)
  /-- NACK_DUE (R85): A gap reaches NACK_DELAY or NACK_REPEAT and is requested in a NACK, possibly making the
  stream BROKEN. -/
  | nackDue (st : Fin 256) (seqs : List Nat)
  /-- ACK_SEND (R86): The controller sends an ACK at ACK_INTERVAL or after a page state change. -/
  | ackSend (st : Fin 256)
  /-- PCIE_STREAM_GAP_TIMEOUT (R88): A gap lasting 100 ms on a PCIe stream makes it BROKEN. -/
  | pcieStreamGapTimeout (st : Fin 256)
  /-- PAGE_VERIFY_DONE (R90): The verification read of a fully received page ends and makes it COMPLETE or
  REJECTED. -/
  | pageVerifyDone (st : Fin 256) (page : Word) (ecc : Bool)
  /-- PTP_MASTER_LOST (R100): Loss of the PTP master raises a NOTE-class fault. -/
  | ptpMasterLost
  /-- PTP_ANCHOR_DUE (R364): ANCHOR_INTERVAL expires or the prediction errs by more than 1 us and Renune writes
  a PTP anchor. -/
  | ptpAnchorDue (sec ns uncert : Nat) (rate : Int)
  /-- BAND_DECODE_DONE (R112): A station decoder finishes a band and releases its 64 lines, or passes an absence
  mark. -/
  | bandDecodeDone (i : Fin 5) (ecc : Bool)
  /-- GENERAL_ENGINE_JOB (R124): The general engine completes a COMPRESS, DECOMPRESS or CHECK job and writes its
  result record. -/
  | generalEngineJob (badCoded badRaw : List Nat)
  /-- BD_EDGE (R181): An edge on BDs is accepted as the facet's edge or counted as stray. Time in tu. -/
  | bdEdge (i : Fin 5) (t : Nat) (e : BdLevel)
  /-- BD_WINDOW_CLOSE (R182): A BD window closes with no valid edge and the Weaver bridges or aborts the sweep. -/
  | bdWindowClose (i : Fin 5)
  /-- NOMINAL_SWEEP_START (R184): Outside LOCKED after a lock, a sweep start occurs every T_NOM and is aborted. -/
  | nominalSweepStart (i : Fin 5)
  /-- BD_LIGHT_SEND (R179): The Weaver sends BD_LIGHT on the BD lane 1 us before the predicted edge. -/
  | bdLightSend (i : Fin 5)
  /-- ACQUIRE_RETRY (R185): In ACQUIRE with no valid edge, the Weaver retries after 100 ms and faults at the
  tenth failure. -/
  | acquireRetry (i : Fin 5)
  /-- SWEEP_START_SEND (R161): The exposure stage sends SWEEP_START and groups 0 to 2 on each UP lane before
  S_0. -/
  | sweepStartSend (i : Fin 5) (late : List Nat)
  /-- SLOT_GROUP_SEND (R164): The exposure stage sends a slot group at its instant, as zeros if incomplete. -/
  | slotGroupSend (i : Fin 5) (complete : Bool)
  /-- SWEEP_END (R163): After the last strobe edge the stage sends SWEEP_END with CRC and STROBED, and ends the
  side after its last sweep. -/
  | sweepEnd (i : Fin 5) (strobed : Nat) (badCoded badRaw : List Nat) (ecc : Bool)
  /-- APC_EXCHANGE (R169): In blanking the station sends APC_MEASURE to all four modules, or skips the exchange. -/
  | apcExchange (i : Fin 5) (fits : Bool)
  /-- STATUS_ROUND (R168): After each sweep the stage polls STATUS from modules 0 to 3. -/
  | statusRound (i : Fin 5)
  /-- BACKCHANNEL_FRAME_RX (R168): A back-channel frame arrives and yields spoil causes, APC drive updates or
  training progress. -/
  | backchannelFrameRx (i : Fin 5) (frame : Bytes)
  /-- BACKCHANNEL_TIMEOUT (R167): No valid frame arrives within 2 us and the stage re-polls once or posts
  BK_MISSING. -/
  | backchannelTimeout (i : Fin 5)
  /-- LANE_TRAINING_TIMEOUT (R172): A lane training phase times out, advancing to IDENT or failing the attempt. -/
  | laneTrainingTimeout (i : Fin 5) (m : Fin 4)
  /-- LANE_LPI_ENTER (R173): With no sweep due within LPI_MIN, the station sends LPI_ENTER and turns off non-BD
  lanes. -/
  | laneLpiEnter (i : Fin 5)
  /-- LANE_WAKE (R173): WAKE_LEAD before a scheduled sweep, lanes leave LPI and must relock within 20 us. -/
  | laneWake (i : Fin 5)
  /-- DELAY_SET_SEND (R175): The station sends the loaded delays as DELAY_SET in the blanking before a new side. -/
  | delaySetSend (i : Fin 5)
  /-- ADMISSION (R205): The launch gate admits a STAGED sheet when every reservation and token is held. -/
  | admission
  /-- LAUNCH (R208): The belt reaches G minus FEED16 and the feeder starts an ADMITTED sheet. -/
  | launch (sheet : BitVec 16)
  /-- PROBE_EDGE (R281): A probe latches an edge with TIME64 and its counter into its FIFO or its owner. -/
  | probeEdge (k : Fin 8) (rising held : Bool) (at_ : Nat)
  /-- GATE_WINDOW_CLOSE (R209): A sheet's front or back window closes without an edge and the sheet becomes LOST
  with MISFEED. -/
  | gateWindowClose (sheet : BitVec 16) (back : Bool)
  /-- ROUTE_DECISION (R213): At G plus DIVERT16 the sheet's route is set to spoil or delivery. -/
  | routeDecision (sheet : BitVec 16)
  /-- SHEET_FUSED (R200): The trailing edge leaves the fuser after the last pass and the sheet becomes FUSED. -/
  | sheetFused (sheet : BitVec 16)
  /-- SHEET_OUTPUT (R213): The trailing edge passes the output sensor and the sheet becomes DELIVERED or
  SPOILED. -/
  | sheetOutput (sheet : BitVec 16)
  /-- TOKEN_WITHDRAWN (R207): A readiness token is withdrawn and sheets are restaged, blanked or spoiled by
  their state. -/
  | tokenWithdrawn
  /-- SPEED_LOWER (R218): In SPEED_HOLD once no sheet is LAUNCHED to IMAGED, Renune plans a lower speed or
  raises SPEED_FLOOR. -/
  | speedLower
  /-- DRAIN_COMPLETE (R431): In DRAIN once no sheet is LAUNCHED to FUSED, the controller passes to READY. -/
  | drainComplete
  /-- READY_ENTRY (R431): When all READY conditions hold, Renune moves WARM to READY and records STATE_MOVE. -/
  | readyEntry
  /-- READY_EXIT (R431): When a READY condition ends, Renune returns the controller to WARM. -/
  | readyExit
  /-- LARGE_CHANNEL_PERIOD (R229): A large channel runs one PWM period of current control, observer, protection
  and state tests. -/
  | largeChannelPeriod (n : Fin 6) (ia ib ic va vb vc vbus : Int)
  /-- SMALL_CHANNEL_PERIOD (R231): A small channel runs one DTC period with its sampling slot and switching
  vector. -/
  | smallChannelPeriod (n : Fin 10) (ia ib : Int)
  /-- SPEED_LOOP_PERIOD (R238): RT0 to RT3 run a channel's speed PI and setpoint slewing. -/
  | speedLoopPeriod (m : Fin 16)
  /-- DRV_FAULT_INPUT (R226): An nDRVFLT input low for 100 ns drives the channel's gates low and faults it with
  DRV_FAULT. -/
  | drvFaultInput (m : Fin 16) (low : Bool)
  /-- SDM_STUCK (R230): A sigma-delta data line without transition for 64 clocks faults the channel with
  SENSE_ERR. -/
  | sdmStuck (n : Fin 6)
  /-- ALIGN_END (R233): T_ALIGN elapses and the channel enters RAMP or faults ALIGN_FAIL. -/
  | alignEnd (m : Fin 16) (iMid : Nat)
  /-- RAMP_TIMEOUT (R233): RAMP_TIMEOUT elapses before handover and the channel faults RAMP_FAIL. -/
  | rampTimeout (m : Fin 16)
  /-- CATCH_EDGE (R236): A phase-voltage comparator edge in CATCH counts toward a catch of six edges. -/
  | catchEdge (n : Fin 6) (phase : Fin 3) (rising : Bool) (at_ : Nat)
  /-- CATCH_TIMEOUT (R236): CATCH_TIME elapses after a loss without a catch and the channel faults CATCH_FAIL. -/
  | catchTimeout (n : Fin 6)
  /-- CATCH_QUIET (R236): 5 ms without an edge in CATCH counts the rotor at rest and the channel enters ALIGN. -/
  | catchQuiet (n : Fin 6)
  /-- SM_COAST_END (R237): SM_COAST ends in FLOAT and the small channel enters ALIGN. -/
  | smCoastEnd (n : Fin 10)
  /-- SPEED_LIMIT_TRIP (R244): A speed estimate above SPEED_LIMIT for 10 ms faults the channel. -/
  | speedLimitTrip (m : Fin 16)
  /-- BUS_SAMPLE (R240): A bus monitor samples bus voltage and chopper current and acts on its thresholds. -/
  | busSample (n : Fin 4) (mv ma : Nat)
  /-- BUS_UVP_TIMEOUT (R240): An ARMED bus below V_UVP for 1 ms floats its bridges with BUS_UVP. -/
  | busUvpTimeout (n : Fin 4)
  /-- BUS_ARMED (R240): A bus above V_UVP for 10 ms becomes ARMED. -/
  | busArmed (n : Fin 4)
  /-- CHOP_CHECK_END (R242): 200 us after CHOPn turns on, the monitor may latch CHOP_FAULT. -/
  | chopCheckEnd (n : Fin 4)
  /-- PROFILE_TICK (R257): RT4 to RT5 advance every axis profile by 20 us, applying stops and ending segments. -/
  | profileTick
  /-- STEPPER_PWM_PERIOD (R255): An SC axis regulates phase currents for one PWM period and checks stall at full
  steps. -/
  | stepperPwmPeriod (a : Fin 12) (i : Int × Int) (quarters : List (Int × Int))
  /-- HOLD_CURRENT (R255): HOLD_DELAY after an axis stops, its current drops to I_HOLD. -/
  | holdCurrent (a : Fin 12)
  /-- SD_DRIVE_FAULT (R263): The FAULT_GPIO of an SD axis low for 10 us faults it with DRIVE_FAULT. -/
  | sdDriveFault (a : Fin 8) (low : Bool)
  /-- QE_COUNT (R270): A quadrature input accepts a level change and counts, evaluating its compares. -/
  | qeCount (n : Fin 8) (a b : Bool)
  /-- WIRE_DISAGREE (R272): A QE pair in disagreement for WIRE_T stops counting and faults with WIRE. -/
  | wireDisagree (n : Fin 8) (pair : Fin 3)
  /-- WIRE_AGREE (R272): A disagreeing QE pair agrees again for WIRE_T and resumes counting. -/
  | wireAgree (n : Fin 8) (pair : Fin 3)
  /-- INDEX_EDGE (R274): A qualified Z edge indexes or corrects the counter, or faults IDX_ERR. -/
  | indexEdge (n : Fin 8)
  /-- SE_READ (R276): A serial encoder port reads its encoder and adds d, extrapolates or falls back. -/
  | seRead (n : Fin 4) (r : Option SeRead)
  /-- SPEED_WINDOW_END (R280): A feedback unit's speed window ends and reports NET, SPEED, DIRCHG and SETTLING. -/
  | speedWindowEnd (u : Fin 12)
  /-- LOOP_TICK (R288): Every 12.5 us the engine runs the due loops in ascending order. -/
  | loopTick (ain : List (BitVec 16)) (late : List Nat)
  /-- ZERO_CROSS (R303): A mains zero crossing decides whether a heater zone fires in the next half-cycle. -/
  | zeroCross (zc : Fin 2)
  /-- MODEL_STEP (R305): Every 1 ms a zone's thermal model steps and Tm is compared with T_SHUT. -/
  | modelStep (z : Fin 8) (load : Bool)
  /-- THERMISTOR_SAMPLE (R307): A thermistor sample is compared with T_SHUT and classified for exclusion or
  readmission. -/
  | thermistorSample (j : Fin 24) (raw : BitVec 16)
  /-- POWER_LOST (R304): No power-node value for 20 ms faults the zone. -/
  | powerLost (z : Fin 8)
  /-- ZC_LOST (R304): No zero-crossing edge for 15 ms faults the zone. -/
  | zcLost (z : Fin 8)
  /-- HEATER_OPEN (R304): Firing over 2 s with too little measured power faults the zone. -/
  | heaterOpen (z : Fin 8)
  /-- RELAY_STUCK (R304): Power measured while not fired for 200 ms raises a CUTOFF-class fault. -/
  | relayStuck (z : Fin 8)
  /-- MODEL_STALL (R304): A model not updated for 10 ms drives HTR0 to HTR7 low in hardware. -/
  | modelStall (z : Fin 8)
  /-- THROTTLE_DWELL (R309): Every THR_DWELL a zone lowers or raises P_LIM by one step. -/
  | throttleDwell (z : Fin 8)
  /-- FAST_SAMPLING_END (R306): After 1 s below the fast threshold a zone returns to T_NORM sampling. -/
  | fastSamplingEnd (z : Fin 8)
  /-- MODEL_ONLY_TIMEOUT (R308): A zone MODEL_ONLY for MODEL_ONLY_MAX faults with NO_SENSOR. -/
  | modelOnlyTimeout (z : Fin 8)
  /-- DIE_SENSOR_READ (R313): The four die sensors are read every 1 ms, possibly tripping DIE_SHUT. -/
  | dieSensorRead (d0 d1 d2 d3 : Int)
  /-- DIE_THROTTLE_STEP (R314): T_die at or below threshold for the dwell lowers or raises V_PERM by one step. -/
  | dieThrottleStep
  /-- DIE_HOT (R315): T_die above 110 C for 1 s raises the HALT-class fault DIE_HOT. -/
  | dieHot
  /-- FAST_CYCLE_START (R320): Every 50 us the controller sends a cycle frame in both ring directions. -/
  | fastCycleStart
  /-- RIM_MERGE (R324): The two returned copies of a frame are merged and published, locating breaks and node
  losses. -/
  | rimMerge (a b : Option RimCopy)
  /-- BLANKET_WINDOW_CLOSE (R339): A Blanket window closes and emits or merges one event with count and root. -/
  | blanketWindowClose (c : Fin 16) (drained : Bool)
  /-- RIM_DOWN_TIMEOUT (R327): Ports locked or 10 ms elapsed in DOWN moves the ring to ENUM. -/
  | rimDownTimeout
  /-- ENUM_FRAME (R327): An enumeration frame returns and nodes, count and loop delay are taken. -/
  | enumFrame (e : EnumCopy)
  /-- ENUM_RETRY (R327): Without two agreeing frames, enumeration retries after 100 ms. -/
  | enumRetry
  /-- MAILBOX_MESSAGE_RX (R336): A complete mailbox message from a node is acted on, including NOTICE and
  CONFIG_CHANGED. -/
  | mailboxMessageRx (addr : BitVec 10)
  /-- MBX_TIMEOUT (R336): A node silent 10 ms after a request is retried once, then raises MBX_TIMEOUT. -/
  | mbxTimeout (addr : BitVec 10)
  /-- RIM_PORT_LOCK (R317): A ring port gains or loses block lock. -/
  | rimPortLock (b locked : Bool)
  /-- DESCRIPTOR_FETCH (R350): A running ring reads a descriptor and executes it or stops on OWN 0. -/
  | descriptorFetch (r : Fin 8) (d : Option Bytes) (rd : DmaRead)
  /-- DESCRIPTOR_COMPLETE (R352): A descriptor's writes are acknowledged; OWN is returned and its event may
  pulse. -/
  | descriptorComplete (r : Fin 8) (ok : Bool)
  /-- RAMBLER_WINDOW (R375): A new 10 ms window of pair B restores the Rambler time budget. -/
  | ramblerWindow (want : Nat)
  /-- SRAM_SCRUB (R377): Rambler job 1 scrubs SRAM regions, correcting and reporting errors. -/
  | sramScrub (errs : List SramErr)
  /-- DRAM_SCRUB (R377): Rambler job 2 scrubs DRAM and retires granules. -/
  | dramScrub (errs : List DramErr)
  /-- ADC_CAL (R380): Rambler job 3 calibrates the SAR converters. -/
  | adcCal (coeffs : List (Nat × Int × Int))
  /-- PPLL_CAL (R380): Rambler job 4 measures the pixel synthesiser taps. -/
  | ppllCal (i : Fin 5) (taps : List (Nat × Int))
  /-- BG_APPLY (R381): A completed calibration pass applies its coefficients as one recorded change 0x1281. -/
  | bgApply (i : Option (Fin 5))
  /-- NOR_WEAR (R382): Rambler job 5 tracks sector erase counts and retires worn sectors. -/
  | norWear
  /-- LIFE (R383): Rambler job 6 updates the life counters. The pass carries nothing: all is in the state. -/
  | life (pass : Unit)
  /-- LASER_TREND (R384): Rambler job 7 fits drive slopes and projects laser ageing. The pass carries nothing. -/
  | laserTrend (pass : Unit)
  /-- TELEMETRY (R385): Rambler job 8 writes telemetry records and pulses EV248. -/
  | telemetry (kinds : List (Fin 6))
  /-- SRAM_UE (R14): An uncorrectable SRAM error is found and handled by region. -/
  | sramUe (region : SramRegion)
  /-- LOCKSTEP (R10): A lockstep mismatch or uncorrectable error in a supervisor pair raises HALT. -/
  | lockstep (pair : Fin 2) (ue : Bool)
  /-- TRUST_CORE_BOOT (R390): The trust core leaves reset, selects and verifies images and releases pairs A and
  B. -/
  | trustCoreBoot
  /-- RENUNE_START (R392): Renune chains BOOT and MEASURE entries, applies Berril, tests the inhibit and enters
  IDLE or LATCHED. -/
  | renuneStart (selfTestOk : Bool)
  /-- BOOT_FAIL_RETRY (R391): In BOOT_FAIL the slot selection is retried every 10 s. -/
  | bootFailRetry
  /-- TRIAL_BOOT_TIMEOUT (R390): A trial boot not in IDLE within BOOT_TRIAL_TIME resets the controller. -/
  | trialBootTimeout
  /-- EXTEST_SELECT (R397): Selecting or deselecting EXTEST asserts or releases the inhibit. -/
  | extestSelect (on : Bool)
  /-- VAON_ARRIVAL (R433): VAON arrives, resetting the always-on domain and starting the IRC. -/
  | vaonArrival
  /-- EN_RELEASE (R479): After reading rail parameters, the sequencer drives each EN to its inactive level. -/
  | enRelease
  /-- IRC_START_COMPLETE (R402): The IRC completes its start count and counts as running. -/
  | ircStartComplete
  /-- IRC_STALL (R402): The IRC stall detector restarts the IRC. -/
  | ircStall
  /-- XOK_CHANGE (R404): The crystal amplitude detector rises or falls, possibly entering CLOCK_HOLD. -/
  | xokChange (up : Bool)
  /-- XTAL_MONITOR_ARM (R404): The crystal start counter reaches 131,072 and the monitor arms. -/
  | xtalMonitorArm
  /-- XTAL_WINDOW (R405): A monitor window of 256 IRC cycles ends, proving or losing the crystal. -/
  | xtalWindow (cycles : Nat)
  /-- XTAL_START_TIMEOUT (R405): The crystal is not PROVEN within XTAL_START_MAX and is restarted or given up. -/
  | xtalStartTimeout
  /-- XTAL_RESTART (R405): After 1 ms disabled, the crystal oscillator starts again. -/
  | xtalRestart
  /-- RPLL_LOCK (R410): The RPLL qualifies lock, releases its dividers and switches the domains from bypass. -/
  | rpllLock (counts : List Nat)
  /-- RPLL_LOSS (R411): Loss of lock puts the RPLL in BYPASS and raises RPLL_UNLOCK. -/
  | rpllLoss
  /-- RPLL_RELOCK_ATTEMPT (R411): Every 1 ms in BYPASS the RPLL attempts a relock, faulting RPLL_FAIL after 8
  failures. -/
  | rpllRelockAttempt (counts : List Nat) (qualified : Bool)
  /-- SWITCH_ACK_TIMEOUT (R412): No stop acknowledge within 64 reference cycles gates the domain and raises
  OLDCLK_DEAD. -/
  | switchAckTimeout (d : Fin 8)
  /-- OLDCLK_RESET_TIMEOUT (R412): 100 ms after an OLDCLK_DEAD switch without Renune, the controller resets. -/
  | oldclkResetTimeout
  /-- NWAKE_EDGE (R428): A deglitched falling edge on nWAKE is an on request. -/
  | nwakeEdge (low : Bool)
  /-- NPBTN_PRESS (R428): nPBTN low for 50 ms is a press, an on request in OFF. -/
  | npbtnPress
  /-- NPBTN_RELEASE (R428): Release of a press before LONG_PRESS outside OFF is an off request. -/
  | npbtnRelease
  /-- LONG_PRESS (R429): A press held for LONG_PRESS is FORCE_OFF and drops every EN. -/
  | longPress
  /-- ON_REQUEST (R427): An on request starts the crystal or is latched until MIN_OFF ends. -/
  | onRequest (src : Fin 4)
  /-- OFF_REQUEST (R428): An off request stops power-up or gives Renune OFF_GRACE to drain. -/
  | offRequest (src : Fin 4)
  /-- OFF_GRACE_EXPIRY (R428): OFF_GRACE expires, raising POWER_OFF and powering down. -/
  | offGraceExpiry
  /-- DRAIN_POWER_DOWN (R428): Once drained after an off request, Renune asks the sequencer for power-down. -/
  | drainPowerDown
  /-- RAIL_ENABLE (R422): ON_DELAY ends and the sequencer asserts the next rail's EN. -/
  | railEnable (n : Fin 16)
  /-- PG_CHANGE (R421): A PG input becomes good or lost after DEGLITCH, restarting qualification or raising a
  running-rail fault. -/
  | pgChange (n : Fin 16) (good : Bool)
  /-- RAIL_QUALIFIED (R421): A rail's PG stays good for QUAL and the phase advances or completes. -/
  | railQualified (n : Fin 16)
  /-- RAIL_TIMEOUT (R422): A rail not qualified within TIMEOUT fails the attempt, leading to retry or LOCKOUT. -/
  | railTimeout (n : Fin 16)
  /-- RAIL_OFF_STEP (R425): OFF_DELAY ends and the next lower rail's EN drops. -/
  | railOffStep
  /-- MIN_OFF_END (R427): MIN_OFF ends and a latched on request is honoured or dropped. -/
  | minOffEnd
  /-- NMRST_LOW (R432): nMRST low for 1 us asserts the inhibit and holds internal reset. -/
  | nmrstLow
  /-- NMRST_HIGH (R432): nMRST high for 1 us releases reset and starts boot. -/
  | nmrstHigh
  /-- RSTOUT_RELEASE (R434): RSTOUT_DELAY after the trust core leaves reset, nRSTOUT goes high. -/
  | rstoutRelease
  /-- INTERLOCK_INPUT (R442): An interlock input low for 20 ns sets its latch, asserts the inhibit and raises
  its STOP-class fault. -/
  | interlockInput (i : Fin 4)
  /-- HEARTBEAT_SEND (R455): Every 1 us a controller sends a HEARTBEAT frame. -/
  | heartbeatSend
  /-- HEARTBEAT_RX (R455): A HEARTBEAT frame from the peer is received, possibly raising PAIR_CONFLICT. -/
  | heartbeatRx (ok : Bool) (h : Heartbeat)
  /-- FORWARD_RX (R458): The STANDBY applies a forwarded TRT packet to its intake. -/
  | forwardRx (ok : Bool) (port : Fin 3) (packet : Bytes)
  /-- MIRROR_RX (R453): The STANDBY applies and records a mirrored change of the ACTIVE. -/
  | mirrorRx (ok : Bool) (seq : BitVec 64) (body : Bytes) (m : Mirrored)
  /-- REPORT_RX (R460): The STANDBY receives the ACTIVE's band digest and STROBED for a sweep. -/
  | reportRx (ok : Bool) (station : Fin 5) (sweep : BitVec 27) (strobed : BitVec 12) (digest : Bytes)
  /-- DIGEST_COMPARE (R460): The STANDBY compares its digest with the REPORT and becomes UNFIT on mismatch. -/
  | digestCompare (i : Fin 5)
  /-- DECLARE_RX (R462): The STANDBY receives a DECLARE naming the handover instant T. -/
  | declareRx (ok : Bool) (t : BitVec 64)
  /-- CKPT_RX (R467): A controller chains the peer's signed checkpoint as a PEER_CKPT entry. -/
  | ckptRx (ok : Bool) (ckptSeq : BitVec 64) (hash sig : Bytes)
  /-- HEARTBEAT_LOSS (R456): No PAIR_HB_IN edge for 1 us and no HEARTBEAT for 2 us trigger takeover. -/
  | heartbeatLoss (noEdge noFrame : Bool)
  /-- TAKEOVER (R462): At T the STANDBY raises OWN and becomes ACTIVE, units taking over at their boundaries. -/
  | takeover
  /-- PAIR_LINK_UP (R457): The pair link comes up; keys are derived, OFS measured and a join image sent. -/
  | pairLinkUp (serial : Bytes) (ofs : Int) (rbDelay : Word)
  /-- OFFSET_CHECK (R457): Every 1 s the STANDBY remeasures OFS and becomes UNFIT if it drifts. -/
  | offsetCheck (ofs : Int)
  /-- PAIR_ROLE_TIMEOUT (R452): No peer heartbeat within 1 s of IDLE makes the controller ACTIVE. -/
  | pairRoleTimeout
  /-- UNKNOWN_OPCODE (R40): A consumed command frame whose opcode is not known for interface 2.4, including the
  package-only opcodes, fails with BAD_OPCODE. -/
  | unknownOpcode (opcode : BitVec 16) (f : Frame)
  /-- SCAN_START_TIMEOUT (R198): 60 s after SCAN_START with its Weavers not LOCKED, the command's final status
  is TIMEOUT. -/
  | scanStartTimeout (p : Fin 3)
  /-- VAON_LOSS (R311): Removal of VAON releases the always-on thermal latch and ends LATCHED and every state of
  the controller. -/
  | vaonLoss
  /-- INTERLOCK_INPUT_RELEASE (R442): An interlock input returns high, changing ILK_STAT.INPUTS, pulsing EV238
  and starting its 10 ms high time. -/
  | interlockInputRelease (i : Fin 4)
  /-- PAIR_LINK_DOWN (R467): The pair link goes down, clearing PAIR_STATE.LINK, pulsing EV211 and queueing
  unsent checkpoints. -/
  | pairLinkDown
  /-- OWN_DROP (R455): Hardware drops OWN within 100 ns when the ACTIVE has not toggled its own PAIR_HB_OUT for
  1 us. -/
  | ownDrop
  /-- OVERCURRENT_TRIP (R230): A large channel's OSR-8 overcurrent filter crosses I_TRIP, and the channel floats
  within 1.5 us and faults with OVERCURRENT. -/
  | overcurrentTrip (n : Fin 6)
  /-- MIRROR_REFRESH (R75): The updater of a mirror block brackets its writes with an odd and then an even GEN
  value, on its period or on change. -/
  | mirrorRefresh (block : BitVec 20)
  /-- NPBTN_LOW (R408): In CLOCK_HOLD, any low level on nPBTN drops EN0 to EN15 at once as FORCE_OFF. -/
  | npbtnLow
deriving DecidableEq, Repr

end Sys2Proof
end

