-- ==== Sys2Proof/Config.lean ====
section
/-!
DEFINITION. What the spec leaves open: the free values, as opaque constants that nothing can evaluate, and the
cryptographic functions that the spec names and does not define (assumptions 3 and 13).
A free value is `Config.free` applied to a place, a counter the machine advances, and an index of its own.
-/
namespace Sys2Proof

/-- The places at which the spec states an effect and no value. Each is named in assumption 3. -/
inductive FreeSite where
  | nonce          -- random bytes of the trust core (R48)
  | sessionId      -- a session identifier that was never used before (R49)
  | keyBytes       -- keys that the trust core generates (R387, R457)
  | signature      -- ECDSA signatures, whose per-signature secret is random (R366, R374)
  | certificate    -- the certificate chain of the ledger key (R374)
  | observer       -- internal values of a motor observer (R229 to R234)
  | measured       -- a measured quantity that the spec names and gives no formula for
  | codec          -- the bytes of a compressor where the spec fixes only what they decode to (R114)
  | thermal        -- thermal results for which the spec states no value
  | calibration    -- calibration results for which the spec states no value (R221, R380)
  | boot           -- boot values that the spec leaves to the die or the image (R392)
  | clock          -- clock results for which the spec states no value
  | background     -- background results for which the spec states no value
  | pair           -- pair results for which the spec states no value
  | net            -- network answers whose bytes the spec does not fix
  | store          -- which free granules of the band store a reservation takes (R92)
deriving DecidableEq, Repr

/-- A value the spec leaves open: any integer, chosen by the place, the counter and the index (assumption 3). -/
opaque Config.free : FreeSite → Nat → Nat → Int

/-- The task ID of Renune's own tasks, DETAIL of an entry of origin 0x03 (R358); the spec gives none. -/
opaque Config.renuneTask : BitVec 16

/-- ECDSA verification (R49, R366, R389): key bytes, message digest, signature (assumption 13). -/
opaque Config.ecdsaOk : Bytes → Bytes → Bytes → Bool

/-- AES-GCM opening of a packet (R101): key, nonce, associated data, text and tag; none where the tag does not match
(assumption 13). -/
opaque Config.gcmOpen : Bytes → Bytes → Bytes → Bytes → Option Bytes

/-- AES-GCM sealing of a packet (R86, R101): key, nonce, associated data, text; the text and tag (assumption 13). -/
opaque Config.gcmSeal : Bytes → Bytes → Bytes → Bytes → Bytes

end Sys2Proof
end

