-- ==== Sys2Proof/Machine/Bits.lean ====
section
/-!
DEFINITION. Byte-order readers and writers (R3), the integer helpers of R6 and the operators of R5, the CRC-16 of
R489, and the list helpers by which the model reads and updates one unit of a numbered family (R2).
-/
namespace Sys2Proof.Machine

/-- Unit `i` of a family is replaced by `f` of itself; an index outside the family changes nothing. -/
def upd {α : Type} : List α → Nat → (α → α) → List α
  | [], _, _ => []
  | x :: xs, 0, f => f x :: xs
  | x :: xs, i + 1, f => x :: upd xs i f

/-- Byte `i` of a string, 0 beyond its end. -/
def byteAt (b : Bytes) (i : Nat) : Nat := (b.getD i 0).toNat

/-- The little-endian number in `n` bytes from offset `i` (R3). -/
def leAt (b : Bytes) (i : Nat) : Nat → Nat
  | 0 => 0
  | n + 1 => byteAt b i + 256 * leAt b (i + 1) n

/-- A little-endian 16-bit field (R3). -/
def u16At (b : Bytes) (i : Nat) : Nat := leAt b i 2
/-- A little-endian 32-bit field (R3). -/
def u32At (b : Bytes) (i : Nat) : Nat := leAt b i 4
/-- A little-endian 64-bit field (R3). -/
def u64At (b : Bytes) (i : Nat) : Nat := leAt b i 8

/-- The two's-complement value of an `n`-bit number (R4). -/
def toSigned (n x : Nat) : Int := if x % 2 ^ n < 2 ^ (n - 1) then (x % 2 ^ n : Nat) else ((x % 2 ^ n : Nat) : Int) - 2 ^ n

/-- A signed 8-bit field. -/
def i8At (b : Bytes) (i : Nat) : Int := toSigned 8 (byteAt b i)
/-- A signed little-endian 16-bit field. -/
def i16At (b : Bytes) (i : Nat) : Int := toSigned 16 (u16At b i)
/-- A signed little-endian 32-bit field. -/
def i32At (b : Bytes) (i : Nat) : Int := toSigned 32 (u32At b i)

/-- `n` little-endian bytes of a number, higher bits dropped (R3). -/
def le : Nat → Nat → Bytes
  | 0, _ => []
  | n + 1, x => BitVec.ofNat 8 x :: le n (x / 256)

/-- `n` little-endian bytes of a signed number in two's complement (R4). -/
def leI (n : Nat) (x : Int) : Bytes := le n (x % (2 : Int) ^ (8 * n)).toNat

/-- `n` big-endian bytes (signature fields of R366). -/
def be (n x : Nat) : Bytes := (le n x).reverse

/-- `n` zero bytes. -/
def zeros (n : Nat) : Bytes := List.replicate n 0

/-- Exactly `n` bytes of `b`: cut or filled with zeros. -/
def fit (n : Nat) (b : Bytes) : Bytes := b.take n ++ zeros (n - b.length)

/-- Bytes `i` to `i + n - 1`. -/
def sub (b : Bytes) (i n : Nat) : Bytes := fit n (b.drop i)

/-- Every byte from offset `i`, `n` of them, is 0: the check of a reserved range. -/
def zeroAt (b : Bytes) (i n : Nat) : Bool := leAt b i n == 0

/-- Field `[hi:lo]` of a number, in the manual's field notation. -/
def fld (x hi lo : Nat) : Nat := x / 2 ^ lo % 2 ^ (hi + 1 - lo)

/-- Bit `k` of a number. -/
def bit (x k : Nat) : Bool := x / 2 ^ k % 2 == 1

/-- A Boolean as the bit value 0 or 1. -/
def b2n (b : Bool) : Nat := if b then 1 else 0

/-- `clamp` of R6. -/
def clamp (x lo hi : Int) : Int := if x < lo then lo else if hi < x then hi else x
/-- `sat16` of R6. -/
def sat16 (x : Int) : Int := clamp x (-32768) 32767
/-- `sat32` of R6. -/
def sat32 (x : Int) : Int := clamp x (-2147483648) 2147483647
/-- `satu` of R6. -/
def satu (x : Int) (n : Nat) : Int := clamp x 0 (2 ^ n - 1)
/-- `>>` of R5: rounds toward minus infinity. -/
def sar (x : Int) (s : Nat) : Int := x.fdiv (2 ^ s)
/-- `round_half_up` of R6. -/
def roundHalfUp (x : Int) (s : Nat) : Int := sar (x + 2 ^ (s - 1)) s
/-- `/` of R5: truncates toward zero. -/
def cdiv (a b : Int) : Int := a.tdiv b
/-- `%` of R5: the remainder of the truncating division. -/
def cmod (a b : Int) : Int := a.tmod b
/-- `floor_div` of R6. -/
def floorDiv (a b : Int) : Int := a.fdiv b
/-- `ceil_div` of R6. -/
def ceilDiv (a b : Int) : Int := -floorDiv (-a) b
/-- `ceil_div` on natural numbers. -/
def ceilDivN (a b : Nat) : Nat := (a + b - 1) / b
/-- A counter of `n` bits that saturates at its maximum. -/
def satInc (n x : Nat) : Nat := if x + 1 < 2 ^ n then x + 1 else 2 ^ n - 1
/-- A sum held in `n` bits, saturating. -/
def satAdd (n x y : Nat) : Nat := if x + y < 2 ^ n then x + y else 2 ^ n - 1
/-- A number held in `n` bits, saturating. -/
def satN (n x : Nat) : Nat := if x < 2 ^ n then x else 2 ^ n - 1
/-- Integer square root rounded down, by bits from `2^k` downward. -/
def isqrtGo (x : Nat) : Nat → Nat → Nat
  | 0, r => if (r + 1) * (r + 1) ≤ x then r + 1 else r
  | k + 1, r => isqrtGo x k (if (r + 2 ^ (k + 1)) * (r + 2 ^ (k + 1)) ≤ x then r + 2 ^ (k + 1) else r)
/-- Integer square root rounded down, for arguments below 2^128. -/
def isqrt (x : Nat) : Nat := isqrtGo x 63 0

/-- One bit step of `crc16` (R489). -/
def crc16Bit (c : Nat) : Nat :=
  if bit c 15 then Nat.xor (c * 2) 0x1021 % 65536 else c * 2 % 65536
/-- One byte step of `crc16` (R489). -/
def crc16Byte (c : Nat) (b : Byte) : Nat :=
  crc16Bit (crc16Bit (crc16Bit (crc16Bit (crc16Bit (crc16Bit (crc16Bit (crc16Bit
    (Nat.xor c (b.toNat * 256)))))))))
/-- `crc16` of R489: polynomial 0x1021, initial value 0xFFFF, most significant bit first. -/
def crc16 (m : Bytes) : Nat := m.foldl crc16Byte 0xFFFF

/-- One bit step of `crc32`, reflected. -/
def crc32Bit (c : Nat) : Nat := if c % 2 = 1 then Nat.xor (c / 2) 0xEDB88320 else c / 2
/-- One byte step of `crc32`. -/
def crc32Byte (c : Nat) (b : Byte) : Nat :=
  crc32Bit (crc32Bit (crc32Bit (crc32Bit (crc32Bit (crc32Bit (crc32Bit (crc32Bit (Nat.xor c b.toNat))))))))
/-- The CRC-32 of IEEE 802.3 (R163). -/
def crc32 (m : Bytes) : Nat := Nat.xor (m.foldl crc32Byte 0xFFFFFFFF) 0xFFFFFFFF

/-- The ASCII bytes of a text. -/
def ascii (t : String) : Bytes := t.toList.map fun c => BitVec.ofNat 8 c.toNat

/-- The first of a list of tests that fails, as the status and DETAIL it names (the check order of R40). -/
def firstFail : List (Bool × Nat × Nat) → Option (Nat × Nat)
  | [] => none
  | (b, st, d) :: rest => if b then some (st, d) else firstFail rest

end Sys2Proof.Machine
end

