-- ==== Sys2Proof/Machine/Sha.lean ====
section
/-!
DEFINITION. SHA-384 and SHA-256, which the ledger chain (R362), the signatures (R49, R366), the staging
digests (R98) and the imaging digests (R158) name and do not define. PRESUMED: taken from FIPS 180-4 (assumption 12).
-/
namespace Sys2Proof.Machine

/-- Round constants 0 to 19 of SHA-384 (PRESUMED, FIPS 180-4). -/
def shaK0 : List Nat :=
  [0x428a2f98d728ae22, 0x7137449123ef65cd, 0xb5c0fbcfec4d3b2f, 0xe9b5dba58189dbbc,
   0x3956c25bf348b538, 0x59f111f1b605d019, 0x923f82a4af194f9b, 0xab1c5ed5da6d8118,
   0xd807aa98a3030242, 0x12835b0145706fbe, 0x243185be4ee4b28c, 0x550c7dc3d5ffb4e2,
   0x72be5d74f27b896f, 0x80deb1fe3b1696b1, 0x9bdc06a725c71235, 0xc19bf174cf692694,
   0xe49b69c19ef14ad2, 0xefbe4786384f25e3, 0x0fc19dc68b8cd5b5, 0x240ca1cc77ac9c65]
/-- Round constants 20 to 39 of SHA-384 (PRESUMED, FIPS 180-4). -/
def shaK1 : List Nat :=
  [0x2de92c6f592b0275, 0x4a7484aa6ea6e483, 0x5cb0a9dcbd41fbd4, 0x76f988da831153b5,
   0x983e5152ee66dfab, 0xa831c66d2db43210, 0xb00327c898fb213f, 0xbf597fc7beef0ee4,
   0xc6e00bf33da88fc2, 0xd5a79147930aa725, 0x06ca6351e003826f, 0x142929670a0e6e70,
   0x27b70a8546d22ffc, 0x2e1b21385c26c926, 0x4d2c6dfc5ac42aed, 0x53380d139d95b3df,
   0x650a73548baf63de, 0x766a0abb3c77b2a8, 0x81c2c92e47edaee6, 0x92722c851482353b]
/-- Round constants 40 to 59 of SHA-384 (PRESUMED, FIPS 180-4). -/
def shaK2 : List Nat :=
  [0xa2bfe8a14cf10364, 0xa81a664bbc423001, 0xc24b8b70d0f89791, 0xc76c51a30654be30,
   0xd192e819d6ef5218, 0xd69906245565a910, 0xf40e35855771202a, 0x106aa07032bbd1b8,
   0x19a4c116b8d2d0c8, 0x1e376c085141ab53, 0x2748774cdf8eeb99, 0x34b0bcb5e19b48a8,
   0x391c0cb3c5c95a63, 0x4ed8aa4ae3418acb, 0x5b9cca4f7763e373, 0x682e6ff3d6b2b8a3,
   0x748f82ee5defb2fc, 0x78a5636f43172f60, 0x84c87814a1f0ab72, 0x8cc702081a6439ec]
/-- Round constants 60 to 79 of SHA-384 (PRESUMED, FIPS 180-4). -/
def shaK3 : List Nat :=
  [0x90befffa23631e28, 0xa4506cebde82bde9, 0xbef9a3f7b2c67915, 0xc67178f2e372532b,
   0xca273eceea26619c, 0xd186b8c721c0c207, 0xeada7dd6cde0eb1e, 0xf57d4f7fee6ed178,
   0x06f067aa72176fba, 0x0a637dc5a2c898a6, 0x113f9804bef90dae, 0x1b710b35131c471b,
   0x28db77f523047d84, 0x32caab7b40c72493, 0x3c9ebe0a15c9bebc, 0x431d67c49c100d4c,
   0x4cc5d4becb3e42b6, 0x597f299cfc657e2a, 0x5fcb6fab3ad6faec, 0x6c44198c4a475817]

/-- All 80 round constants; SHA-256 uses the upper halves of the first 64. -/
def shaK : List Nat := shaK0 ++ shaK1 ++ shaK2 ++ shaK3

/-- Rotate right in `w` bits. -/
def ror (w k x : Nat) : Nat := Nat.lor (x / 2 ^ k) (x * 2 ^ (w - k) % 2 ^ w)

/-- The big-endian number of `n` bytes from offset `i`. -/
def beAt (b : Bytes) (i n : Nat) : Nat := (b.drop i).take n |>.foldl (fun a x => a * 256 + x.toNat) 0

/-- The two rotation patterns and word width that tell SHA-256 from SHA-384. -/
structure ShaKind where
  w : Nat
  rounds : Nat
  s0 : Nat × Nat × Nat
  s1 : Nat × Nat × Nat
  b0 : Nat × Nat × Nat
  b1 : Nat × Nat × Nat
  k : List Nat
  h : List Nat
  out : Nat
deriving DecidableEq, Repr

/-- SHA-384 (PRESUMED, FIPS 180-4). -/
def sha384Kind : ShaKind where
  w := 64
  rounds := 80
  s0 := (1, 8, 7)
  s1 := (19, 61, 6)
  b0 := (28, 34, 39)
  b1 := (14, 18, 41)
  k := shaK
  h := [0xcbbb9d5dc1059ed8, 0x629a292a367cd507, 0x9159015a3070dd17, 0x152fecd8f70e5939,
   0x67332667ffc00b31, 0x8eb44a8768581511, 0xdb0c2e0d64f98fa7, 0x47b5481dbefa4fa4]
  out := 48

/-- SHA-256 (PRESUMED, FIPS 180-4). -/
def sha256Kind : ShaKind where
  w := 32
  rounds := 64
  s0 := (7, 18, 3)
  s1 := (17, 19, 10)
  b0 := (2, 13, 22)
  b1 := (6, 11, 25)
  k := shaK.map (· / 2 ^ 32)
  h := [0x6a09e667, 0xbb67ae85, 0x3c6ef372, 0xa54ff53a,
   0x510e527f, 0x9b05688c, 0x1f83d9ab, 0x5be0cd19]
  out := 32

/-- Message-schedule function: two rotations and a shift. -/
def shaSmall (w : Nat) (r : Nat × Nat × Nat) (x : Nat) : Nat :=
  Nat.xor (Nat.xor (ror w r.1 x) (ror w r.2.1 x)) (x / 2 ^ r.2.2)

/-- Compression function rotations. -/
def shaBig (w : Nat) (r : Nat × Nat × Nat) (x : Nat) : Nat :=
  Nat.xor (Nat.xor (ror w r.1 x) (ror w r.2.1 x)) (ror w r.2.2 x)

/-- The message schedule, newest word first, extended by `n` words. -/
def shaSchedule (K : ShaKind) : Nat → List Nat → List Nat
  | 0, ws => ws
  | n + 1, ws => shaSchedule K n
      (((shaSmall K.w K.s1 (ws.getD 1 0) + ws.getD 6 0 + shaSmall K.w K.s0 (ws.getD 14 0) + ws.getD 15 0) % 2 ^ K.w) :: ws)

/-- One round on the eight working variables. -/
def shaRound (K : ShaKind) (v : List Nat) (kw : Nat × Nat) : List Nat :=
  match v with
  | [a, b, c, d, e, f, g, h] =>
    let ch := Nat.xor (Nat.land e f) (Nat.land (2 ^ K.w - 1 - e) g)
    let maj := Nat.xor (Nat.xor (Nat.land a b) (Nat.land a c)) (Nat.land b c)
    let t1 := h + shaBig K.w K.b1 e + ch + kw.1 + kw.2
    let t2 := shaBig K.w K.b0 a + maj
    [(t1 + t2) % 2 ^ K.w, a, b, c, (d + t1) % 2 ^ K.w, e, f, g]
  | v => v

/-- One block of `16` words. -/
def shaBlock (K : ShaKind) (h : List Nat) (blk : Bytes) : List Nat :=
  let w0 := (List.range 16).map fun i => beAt blk (i * (K.w / 8)) (K.w / 8)
  let ws := (shaSchedule K (K.rounds - 16) w0.reverse).reverse
  List.zipWith (fun x y => (x + y) % 2 ^ K.w) h ((K.k.zip ws).foldl (shaRound K) h)

/-- The blocks of a padded message in order. -/
def shaBlocks (K : ShaKind) : Nat → List Nat → Bytes → List Nat
  | 0, h, _ => h
  | n + 1, h, m => shaBlocks K n (shaBlock K h (m.take (2 * K.w))) (m.drop (2 * K.w))

/-- Padding: 0x80, zeros, the bit length big-endian. -/
def shaPad (K : ShaKind) (m : Bytes) : Bytes :=
  let z := (2 * K.w - (m.length + 1 + K.w / 4) % (2 * K.w)) % (2 * K.w)
  m ++ [0x80] ++ zeros z ++ be (K.w / 4) (8 * m.length)

/-- The hash of a message. -/
@[irreducible] def sha (K : ShaKind) (m : Bytes) : Bytes :=
  let p := shaPad K m
  ((shaBlocks K (p.length / (2 * K.w)) K.h p).map (be (K.w / 8))).flatten.take K.out

/-- SHA-384 of a message, 48 bytes. -/
def sha384 (m : Bytes) : Bytes := sha sha384Kind m

/-- SHA-256 of a message, 32 bytes. -/
def sha256 (m : Bytes) : Bytes := sha sha256Kind m

end Sys2Proof.Machine
end

