-- ==== Sys2Proof/Machine/StHost.lean ====
section
/-!
DEFINITION. State of the host interface: sessions, hampers, event rings, event lines, the memories the controller
writes, the guarded blocks, the snapshot windows and the identity block (chapters 01, 02, 03).
A field's note in parentheses gives its width, its rule and chapter, and its value at reset; `choice` marks a reset
value that the spec does not give (assumption 2).
-/
namespace Sys2Proof.Machine

/-- Controller states in the order of their encodings (chapter 03). -/
inductive CState where
  | off | powerUp | boot | idle | warm | ready | run | drain | halted | safe | latched | clockHold
deriving DecidableEq, Repr

/-- SYS_STATE.CTRL (chapter 03). -/
def CState.code : CState → Nat
  | .off => 0 | .powerUp => 1 | .boot => 2 | .idle => 3 | .warm => 4 | .ready => 5 | .run => 6 | .drain => 7
  | .halted => 8 | .safe => 9 | .latched => 10 | .clockHold => 11

/-- The states "IDLE to LATCHED" of R45: Renune runs in these and in no other. -/
def CState.serving : CState → Bool
  | .off | .powerUp | .boot | .clockHold => false
  | _ => true

/-- Session roles that a key can grant (R46, SESSION_OPEN). -/
inductive Role where
  | operator | service | auditor | vendor
deriving DecidableEq, Repr

/-- ROLE as SESSION_OPEN codes it (R49). -/
def Role.code : Role → Nat
  | .operator => 1 | .service => 2 | .auditor => 3 | .vendor => 4

/-- Memory as the spec's byte-addressed windows and host buffers: (address, byte) pairs in rising address order, no
byte equal to what an unlisted address reads as, 0 (assumption 4). -/
abbrev Mem := List Host.Cell

/-- Fields of a session slot (R47). -/
structure Session where
  /-- Session identifier (32 bits; R49, 02; reset 0, no session). -/
  id : Nat
  /-- Hamper on which the session is valid (3 bits; R47, 02; reset 0, no session). -/
  hamper : Nat
  /-- Granted role (R46, 02; reset none, no session). -/
  role : Role
  /-- Last accepted SEQ (32 bits; R40, R49, 02; reset 0). -/
  lastSeq : Nat := 0
deriving DecidableEq, Repr

/-- A challenge that waits for its SESSION_OPEN (R48). -/
structure Nonce where
  /-- NONCE (256 bits; R48, 02; reset none). -/
  value : Bytes
  /-- Reserved session slot (4 bits; R48, 02; reset none). -/
  slot : Nat
deriving DecidableEq, Repr

/-- How far a command has come: waiting for its start (R42), its change record handed to the recorder (R44), ACCEPTED
and running (R43), or at its final status and waiting for ring space (R34, R51). -/
inductive Stage where
  | held | recording | running | final
deriving DecidableEq, Repr

/-- A command in flight; its TAG is outstanding (R41). -/
structure Flight where
  op : Op
  f : Frame
  /-- A change by its opcode's low byte (R37). -/
  change : Bool
  stage : Stage
  /-- LEDGER_SEQ once recorded (64 bits; R38, 02; reset 0). -/
  seq : Nat := 0
  /-- Host-interface resets since the command was submitted: from the first on it completes internally and is not
  reported (R30; the model's own count). -/
  gone : Nat := 0
  /-- TIME64 at which its slot was copied (64 bits; R33). -/
  copied : Nat := 0
  /-- Slot of its session, 16 for an anonymous command (R47). -/
  slot : Nat := 16
  /-- Role of its session, none for an anonymous command (R46). -/
  role : Option Role := none
  /-- CMD_ABORT has stopped it before it applied: its entry takes no effect (R45). -/
  aborted : Bool := false
  /-- Number of this flight, by which a CMD_ABORT holds its target: above the number of every flight that was in the
  hamper before it (the model's own count, R45). -/
  no : Nat := 0
  /-- For CMD_ABORT: the number of the flight that its TAG named when it was checked, 0 for none (R45). -/
  victim : Nat := 0
deriving DecidableEq, Repr

/-- A completed command's response (R38). -/
structure Resp where
  opcode : Nat
  tag : Nat
  status : Nat
  length : Nat
  detail : Nat
  seq : Nat
  time : Nat
  result : Bytes
  /-- Also written as an event-ring entry: EVCOPY (R36). -/
  evcopy : Bool
  /-- The flight leaves the hamper when this response is written (R41): false for the ACCEPTED response. -/
  closes : Bool
deriving DecidableEq, Repr

/-- The event ring of a hamper in host memory (R50 to R52). -/
structure EvRing where
  /-- BASE (64 bits; R52, 02; reset 0). -/
  base : Nat := 0
  /-- LOG2N (4 bits; R52, 02; choice 6). -/
  log2n : Nat := 6
  /-- ENABLE (1 bit; R30, R52, 02; reset 0). -/
  enabled : Bool := false
  /-- Producer index, modulo twice the ring size (13 bits; R52, 02; reset 0). -/
  pi : Nat := 0
  /-- HnEVR_CONS.CI (13 bits; R72, 03; reset 0). -/
  ci : Nat := 0
  /-- Entries discarded since the last LOST entry (R51, 02; reset 0). -/
  lost : Nat := 0
deriving DecidableEq, Repr

/-- One hamper (R31 to R34, R41 to R43, R48, R50). -/
structure Hamper where
  /-- HnDB.PI (7 bits; R31, 03; reset 0). -/
  pi : Nat := 0
  /-- HnSTAT.CI (7 bits; R33, 03; reset 0). -/
  ci : Nat := 0
  /-- HnSTAT.RSP_PI (7 bits; R34, 03; reset 0). -/
  rspPi : Nat := 0
  /-- HnRSP_CONS.CI (7 bits; R72, 03; reset 0). -/
  rspCons : Nat := 0
  /-- HnSTAT.DBERR (1 bit; R32, 03; reset 0). -/
  dberr : Bool := false
  /-- The event ring. -/
  ring : EvRing := {}
  /-- Commands in flight in ring order (at most 64; R41, 02; reset none). -/
  flights : List Flight := []
  /-- Responses that wait for ring space, in completion order (R34, 02; reset none). -/
  rspWait : List Resp := []
  /-- COMPLETIONs that wait for event-ring space, in completion order (R51, 02; reset none). -/
  complWait : List Resp := []
  /-- Refusal counters by status, each a saturating 32-bit mirror counter (R40, 02; reset 0). -/
  refusals : List (Nat × Nat) := []
  /-- The challenge in force (R48, 02; reset none). -/
  nonce : Option Nonce := none
deriving DecidableEq, Repr

/-- One line of the event matrix (R25, R53). -/
structure Line where
  /-- PENDING (1 bit; R25, 03; reset 0). -/
  pending : Bool := false
  /-- Occurrence counter, saturating at 255 (8 bits; R25, 03; reset 0). -/
  count : Nat := 0
  /-- Sink codes of positions 0 to 3 (8 bits each; R53, R54, 03; positions 0 and 1 choice 0, 2 and 3 per R54). -/
  sinks : List Nat := [0, 0, 0, 0]
deriving DecidableEq, Repr

/-- Position 2 of the default host routing (R54). -/
def defaultSink (l : Nat) : Nat :=
  if l < 8 then 0x20 + 8 + l
  else if l < 16 then 0x20 + 16
  else if l < 24 then 0x20 + (l - 16)
  else if l < 32 then 0x20 + (l - 24)
  else if 224 ≤ l ∧ l < 240 then 0x20 + 17
  else 0

/-- The event matrix after reset of the host interface (R54). -/
def defaultLines : List Line :=
  (List.range 256).map fun l => { sinks := [0, 0, defaultSink l, 0] }

/-- The final status that a unit has reached for a long-running command and the hamper unit has not yet posted
(R43). -/
structure Final where
  /-- Hamper of the command. -/
  hamper : Nat
  /-- TAG of the command. -/
  tag : Nat
  /-- Host-interface resets since the command was submitted (R30). -/
  gone : Nat := 0
  status : Nat
  detail : Nat
  /-- LEDGER_SEQ of an OUTCOME entry, 0 for the command's own entry (R44). -/
  seq : Nat := 0
  /-- The RBUF result, written before the final status is posted (R39). -/
  result : Bytes := []
deriving DecidableEq, Repr

/-- Everything an event, a response or a completion touches: the clock count, the hampers, the event matrix, the
hamper windows, what the controller has written to host memory and the MSI-X messages it has sent. -/
structure Io where
  /-- TIME64 in ns (64 bits; R70, 03; reset 0). -/
  time : Nat := 0
  /-- H0 to H7. -/
  hampers : List Hamper := List.replicate 8 {}
  /-- The 16 session slots, two per hamper: slot 2n and 2n + 1 on Hn (R47, 02; reset none). -/
  sessions : List (Option Session) := List.replicate 16 none
  /-- Identifiers already given to sessions since the controller reset (R49, 02; reset none). -/
  usedIds : List Nat := []
  /-- EV000 to EV255 (R25). -/
  lines : List Line := defaultLines
  /-- Hamper windows by offset from 0x1_0000, 64 KiB (R57, R71, 03; choice: reads 0 until written). -/
  windows : Mem := []
  /-- Host memory as the controller has last written it (R56, 02; choice: reads 0 until written). -/
  host : Mem := []
  /-- MSI-X messages sent per vector (R25, R29; the model's own count of an output; reset 0). -/
  msix : List Nat := List.replicate 32 0
  /-- Final statuses that wait to be posted, in completion order (R43, 02; reset none). -/
  finals : List Final := []
deriving DecidableEq, Repr

/-- A guarded register that one RWK write addresses (R65). -/
inductive Guarded where
  | ring (r : Fin 8) (reg : DmaReg)
  | svcCmd
  | svcInh
deriving DecidableEq, Repr

/-- A captured RWK write that waits for its ledger entry (R66). -/
structure HeldWrite where
  reg : Guarded
  value : Nat
  origin : Nat
  detail : Nat
  /-- LEDGER_SEQ of its entry once that is in MRAM. -/
  seq : Option Nat := none
deriving DecidableEq, Repr

/-- KSTAT and the held writes of a guarded block (R62 to R66). -/
structure Guard where
  /-- KSTAT.OPEN (1 bit; R62, 03; reset 0). -/
  isOpen : Bool := false
  /-- Captured writes in arrival order; KSTAT.APPLY_PEND reads 1 while any waits (1 bit; R66, 03; reset 0). -/
  held : List HeldWrite := []
  /-- KSTAT.KEYERR (1 bit; R62, R63, 03; reset 0). -/
  keyErr : Bool := false
  /-- KSTAT.NOTREC (1 bit; R66, R68, 03; reset 0). -/
  notRec : Bool := false
  /-- KSTAT.SEQ_LO (16 bits; R73, 03; reset 0). -/
  seqLo : Nat := 0
deriving DecidableEq, Repr

/-- A snapshot window (R69). -/
structure Snap where
  /-- SWw_SEL.SEL (16 bits; R69, 03; reset 0). -/
  sel : Nat := 0
  /-- SWw_STAT.VALID (1 bit; R69, 03; reset 0). -/
  valid : Bool := false
  /-- SWw_STAT.OVERRUN (1 bit; R69, 03; reset 0). -/
  overrun : Bool := false
  /-- SWw_STAT.SELERR (1 bit; R69, 03; reset 0). -/
  selErr : Bool := false
  /-- SWw_STAT.LEN (4 bits; R69, 03; reset 0). -/
  len : Nat := 0
  /-- SWw_TIME_LO and _HI (64 bits; R69, 03; reset 0). -/
  time : Nat := 0
  /-- SWw_D0 to D11 (32 bits each; R69, 03; reset 0). -/
  data : List Nat := List.replicate 12 0
deriving DecidableEq, Repr

/-- Identity block, guarded blocks, snapshot windows, mirrors and the recorder's BAR0 capture places. -/
structure Regs where
  /-- ID_PART.PART (16 bits; chapter 03; reset 0x5240). -/
  part : Nat := 0x5240
  /-- ID_STEP.MAJOR and MINOR (8 bits each; chapter 03; choice 0, per die). -/
  step : Nat := 0
  /-- FW_VER.VER (24 bits; chapter 03; choice 0, per image). -/
  fwVer : Nat := 0
  /-- IF_VER.VER (16 bits; R1, 03; reset 0x0204). -/
  ifVer : Nat := 0x0204
  /-- ID_SERIAL0 to 3 (128 bits; chapter 03; choice 0, per die). -/
  serial : Bytes := List.replicate 16 0
  /-- SCRATCH0 to 3 (16 bits each; R60, 03; reset 0). -/
  scratch : List Nat := [0, 0, 0, 0]
  /-- FABRIC_CTL_OVERCAP (32 bits; R19, 03; reset 0). -/
  overcap : Nat := 0
  /-- SYS_REGERR.PARTIAL, saturating (16 bits; R57, 03; reset 0). -/
  partialCnt : Nat := 0
  /-- The DMA block's guard at 0x2_0FF0 (R62, 03). -/
  dma : Guard := {}
  /-- The safety and service block's guard at 0x3_4000 (R62, 03). -/
  svc : Guard := {}
  /-- SW0 to SW3 (R69, 03). -/
  snaps : List Snap := List.replicate 4 {}
  /-- Stored words of the mirror blocks by BAR0 offset (32 bits each; R75, 03; reset 0: nothing listed). -/
  mirrors : List (Nat × Word) := []
  /-- Protective writes that found no capture place, saturating at 65,535 (16 bits; R68, 03; reset 0). -/
  lostWrites : Nat := 0
  /-- TIME64 of the first of them (64 bits; R68, 03; reset 0). -/
  lostFirst : Nat := 0
  /-- TIME64 of the last of them (64 bits; R68, 03; reset 0). -/
  lostLast : Nat := 0
deriving DecidableEq, Repr

end Sys2Proof.Machine
end

