-- ==== Sys2Proof/Machine/StLedger.lean ====
section
/-!
DEFINITION. State of the change recorder, the ledger, the fault list and the inhibit (chapters 17 and 22).
-/
namespace Sys2Proof.Machine

/-- Kinds of ledger entry (R362), in the order of their codes. -/
inductive Kind where
  | command | register | capture | refused | outcome | protect | node | sheet | measure | boot | anchor | checkpoint
  | signature | peerCkpt | takeover | gap
deriving DecidableEq, Repr

/-- KIND as the entry header codes it (R361). -/
def Kind.code : Kind → Nat
  | .command => 1 | .register => 2 | .capture => 3 | .refused => 4 | .outcome => 5 | .protect => 6 | .node => 7
  | .sheet => 8 | .measure => 9 | .boot => 10 | .anchor => 11 | .checkpoint => 12 | .signature => 13
  | .peerCkpt => 14 | .takeover => 15 | .gap => 16

/-- What an entry's space comes from (R369): free units, a sheet's reservation, or also the safety reserve. -/
inductive Draw where
  | ordinary | sheet | reserve | protective
deriving DecidableEq, Repr

/-- What waits for an entry to reach MRAM (R44). -/
inductive Act where
  /-- Nothing waits. -/
  | none
  /-- A change from a hamper waits to be applied. -/
  | command (op : Op) (f : Frame)
  /-- The oldest undecided RWK write of an origin waits in a guarded block (R66). -/
  | heldWrite (b : Block) (origin : Nat)
  /-- A guarded block's SEQ_LO takes the LEDGER_SEQ of a write that has already taken effect (R66, R67, R73). -/
  | seqLo (b : Block)
  /-- The fault list's entry takes the LEDGER_SEQ of its PROTECT entry (R451). -/
  | fault (line index cause : Nat)
  /-- A change that Renune makes by itself waits (R363). -/
  | renune (op : Op) (target : Nat) (payload : Bytes)
  /-- A mirrored change of the ACTIVE waits in the STANDBY: the ACTIVE's LEDGER_SEQ and the change (R453). -/
  | mirror (seq : Nat) (m : Mirrored)
  /-- A SIGNATURE entry: CKPT_SEQ, H(CKPT_SEQ) and SIG (R366). -/
  | signature (n : Nat) (hash sig : Bytes)
  /-- The coefficients of a calibration pass wait: job and coefficients (R381). -/
  | bgApply (job : Nat) (coeffs : List (Nat × List Int))
  /-- The BOOT entry: the always-on causes and the rail record are cleared (R424, R433). -/
  | boot
  /-- The MEASURE entry: admission may begin (R392). -/
  | measured
  /-- A response that waits for its OUTCOME entry: hamper, TAG, STATUS, DETAIL (R44). -/
  | outcome (hamper tag status detail : Nat)
  /-- A job's first sheet record and the record store take the SEQ of the SHEET entry (R219). -/
  | sheet (id : Nat)
  /-- A node's CONFIG_CHANGED waits for its answer: node address and MSG tag (R337). -/
  | node (addr tag : Nat)
deriving DecidableEq, Repr

/-- A record handed to the change recorder and not yet an entry (R360). -/
structure Rec where
  kind : Kind
  /-- TIME64 of the recorded event (R361). -/
  time : Nat
  origin : Nat
  detail : Nat
  subject : Nat
  body : Bytes
  draw : Draw
  act : Act := .none
deriving DecidableEq, Repr

/-- An entry held on the controller (R361). -/
structure Entry where
  seq : Nat
  kind : Kind
  /-- The 80-byte header and the body. -/
  bytes : Bytes
  /-- Position in the NOR log, for a spilled entry (R368). -/
  pos : Nat := 0
deriving DecidableEq, Repr

/-- Bytes an entry occupies: its size padded to a multiple of 16 (R361). -/
def Entry.size (e : Entry) : Nat := (e.bytes.length + 15) / 16 * 16

/-- The change recorder and the ledger. -/
structure Ledger where
  /-- Last SEQ written, the MRAM head (64 bits; R362, 17; reset 0 at genesis, kept over later resets). -/
  head : Nat := 0
  /-- H(head) (384 bits; R362, 17; kept over resets; choice: H(0) is computed at genesis, empty means H(0)). -/
  headHash : Bytes := []
  /-- The last MIRROR frame sent to the peer: LEDGER_SEQ and the change record (R453, R454, 23; reset none). -/
  mirrored : Option (Nat × Bytes) := none
  /-- Boot count (32 bits; R361, 17; choice 0). -/
  boot : Nat := 0
  /-- Records that wait to become entries, in the order of R360 (R360, 17; reset none). -/
  queue : List Rec := []
  /-- Entries in the MRAM journal, oldest first (1.5 MiB; R368, 17; reset none). -/
  journal : List Entry := []
  /-- Entries in the NOR ledger area, oldest first (R368, 17; reset none). -/
  nor : List Entry := []
  /-- Bytes ever written to the NOR log (R368, 17; reset 0). -/
  norEnd : Nat := 0
  /-- Position below which NOR sectors are reclaimed (R372, 17; reset 0). -/
  norStart : Nat := 0
  /-- Size of the NOR ledger area in MiB (9 bits; R368, 17; reset 384, the default). -/
  areaMiB : Nat := 384
  /-- LOW_MARK in % (6 bits; R369, 17; reset 5, the default). -/
  lowMark : Nat := 5
  /-- Units held by sheet reservations, S (R369, 17; reset 0). -/
  resv : Nat := 0
  /-- LED_STATE.LOW (1 bit; R369, 17; reset 0). -/
  low : Bool := false
  /-- LED_STATE.FULL (1 bit; R369, 17; reset 0). -/
  full : Bool := false
  /-- LED_STATE.SPILL_ERR (1 bit; R368, 17; reset 0). -/
  spillErr : Bool := false
  /-- Checkpoints that await their SIGNATURE, oldest first: CKPT_SEQ and H(CKPT_SEQ) (R366, 17; reset none). -/
  unsigned : List (Nat × Bytes) := []
  /-- SEQ of the checkpoint whose SIGNATURE is the last one, 0 before the transition to RETURN (R396, 19; reset 0). -/
  lastCkpt : Nat := 0
  /-- Last signed CKPT_SEQ (64 bits; R374, 17; reset 0). -/
  signed : Nat := 0
  /-- Checkpoints with a chained SIGNATURE, newest first: CKPT_SEQ, H and SIG (R372, R467, 17; reset none). -/
  signatures : List (Nat × Bytes × Bytes) := []
  /-- EXPORTED (64 bits; R372, 17; reset 0). -/
  exported : Nat := 0
  /-- FIRST_HELD (64 bits; R372, 17; reset 1). -/
  firstHeld : Nat := 1
  /-- LOST_TOTAL (64 bits; R365, 17; reset 0). -/
  lostTotal : Nat := 0
  /-- Entries lost since the last GAP entry, LOST (32 bits; R369, 17; reset 0). -/
  gapCount : Nat := 0
  /-- TIME64 of the first of them (64 bits; R362, 17; reset 0). -/
  gapFirst : Nat := 0
  /-- TIME64 of the last of them (64 bits; R362, 17; reset 0). -/
  gapLast : Nat := 0
  /-- Tagged captures of the present interval in capture order; APPLY_DIGEST is SHA-384 over them (R359, 17; reset
  none). -/
  captures : List Bytes := []
  /-- LED_UNTAG, saturating (32 bits; R374, 17; reset 0). -/
  untag : Nat := 0
  /-- Captures of the boot ROM that wait for Renune (R66, 17; reset none). -/
  bootCaptures : List Rec := []
  /-- Guarded registers that the boot ROM has written in this boot, at most 16 (5 bits; R66, 03; reset 0). -/
  bootWrites : Nat := 0
  /-- ANCHOR_INTERVAL in s (17 bits; R364, 17; reset 600, the default). -/
  anchorInterval : Nat := 600
  /-- The device ledger key exists (1 bit; R374, R396, 17; choice: none in BLANK). -/
  keyed : Bool := false
  /-- Public key of the ledger key (776 bits; R374, 17; choice: empty in BLANK). -/
  pubKey : Bytes := []
deriving DecidableEq, Repr

/-- Fault classes in rising order (R437). -/
inductive Cls where
  | note | spoil | halt | stop | cutoff
deriving DecidableEq, Repr

/-- FAULT_SUM.CLASS (R437). -/
def Cls.code : Cls → Nat
  | .note => 1 | .spoil => 2 | .halt => 3 | .stop => 4 | .cutoff => 5

/-- An entry of the active-fault list (R449, R451). -/
structure FaultEntry where
  cls : Cls
  line : Nat
  index : Nat
  cause : Nat
  /-- Raises, saturating at 65,535 (R448). -/
  count : Nat := 1
  /-- TIME64 of the first raise. -/
  time : Nat
  /-- LEDGER_SEQ of the PROTECT entry, 0 until it is written. -/
  seq : Nat := 0
deriving DecidableEq, Repr

/-- One interlock input (R442). -/
structure Ilk where
  /-- The input is active, low at the ball (1 bit; R442, 22; choice: an open input reads active, the board drives it
  high). -/
  active : Bool := false
  /-- Interlock latch (1 bit; R442, 22; choice 0). -/
  latch : Bool := false
  /-- ns since VAON at which the input last went high (R442, 22; choice 0). -/
  highSince : Nat := 0
deriving DecidableEq, Repr

/-- Controller state, fault list and inhibit sources. -/
structure Safety where
  /-- SYS_STATE.CTRL (4 bits; R437, R438, 03; reset OFF). -/
  ctrl : CState := .off
  /-- The active-fault list, oldest first, at most 128 (R449, 22; reset none). -/
  faults : List FaultEntry := []
  /-- ILK_CNT.OVERFLOW, saturating (16 bits; R449, 22; reset 0). -/
  overflow : Nat := 0
  /-- nILK_LASER, nILK_HV, nILK_EXT, nSTOP (R442, 22). -/
  ilk : List Ilk := List.replicate 4 {}
  /-- STOP latch (1 bit; R440, 22; choice 0). -/
  stopLatch : Bool := false
  /-- SVC_INH.INH_FORCE (1 bit; R67, 22; reset 0). -/
  inhForce : Bool := false
  /-- Rail fault source (1 bit; R440, 22; reset 0). -/
  railFault : Bool := false
  /-- Power-down source (1 bit; R440, 22; reset 0). -/
  powerDown : Bool := false
  /-- nMRST low source (1 bit; R440, 22; reset 0). -/
  nmrstLow : Bool := false
  /-- Internal reset held (1 bit; R440, 22; reset 1). -/
  internalReset : Bool := true
  /-- EXTEST selected (1 bit; R440, 22; reset 0). -/
  extest : Bool := false
  /-- Self-test source (1 bit; R440, R445, 22; reset 0). -/
  selfTest : Bool := false
  /-- INH_TEST_FAIL stands until the next successful test (1 bit; R445, 22; reset 0). -/
  inhTestFail : Bool := false
  /-- ILK_CNT.TRIPS since VAON, saturating (16 bits; R442, 22; reset 0). -/
  trips : Nat := 0
  /-- TIME64 of the first fault of this boot, for the BOOT entry of the next (64 bits; R362, 17; reset 0). -/
  firstFault : Nat := 0
deriving DecidableEq, Repr

/-- The internal inhibit: asserted while any source of R440 is active. -/
def Safety.inhibit (f : Safety) : Bool :=
  f.ilk.any (·.latch) || f.inhForce || f.stopLatch || f.railFault || f.powerDown || f.nmrstLow
    || f.ctrl == .clockHold || f.internalReset || f.extest || f.selfTest

end Sys2Proof.Machine
end

