-- ==== Sys2Proof/Machine/StPower.lean ====
section
/-!
DEFINITION. State of the clocks, the power sequencer and the boot chain (chapters 19, 20, 21).
-/
namespace Sys2Proof.Machine

/-- CLK_STATE.RPLL (R418). -/
inductive Rpll where
  | off | search | settle | qualify | locked | bypass | failed
deriving DecidableEq, Repr

/-- Code of an RPLL state (R418). -/
def Rpll.code : Rpll → Nat
  | .off => 0 | .search => 1 | .settle => 2 | .qualify => 3 | .locked => 4 | .bypass => 5 | .failed => 6

/-- A clock output (R415, R416). -/
structure Cko where
  /-- FORMAT (3 bits; R415, 20; reset 0 OFF). -/
  format : Nat := 0
  /-- SOURCE (1 bit; R415, 20; reset 0). -/
  source : Nat := 0
  /-- DIV (8 bits; R415, 20; reset 0). -/
  div : Nat := 0
  /-- Sensed VDDCKOn in 0.1 V (R415, 20; choice 18). -/
  vdd : Nat := 18
deriving DecidableEq, Repr

/-- The oscillators, the RPLL, the domains and the clock outputs. -/
structure Clocks where
  /-- The IRC counts as running (1 bit; R402, 20; reset 0: in its start count). -/
  ircRunning : Bool := false
  /-- The crystal oscillator is enabled (1 bit; R403, 20; reset 0). -/
  xtalOn : Bool := false
  /-- CLK_STATE.XOK (1 bit; R403, 20; reset 0). -/
  xok : Bool := false
  /-- XOK has risen since the oscillator was enabled (1 bit; R408, 20; reset 0). -/
  xokRisen : Bool := false
  /-- The start counter has reached 131,072 (1 bit; R404, 20; reset 0). -/
  startCounted : Bool := false
  /-- Consecutive good windows (3 bits; R405, 20; reset 0). -/
  goodWindows : Nat := 0
  /-- CLK_STATE.PROVEN (1 bit; R405, 20; reset 0). -/
  proven : Bool := false
  /-- Failed starts of the crystal (2 bits; R405, 20; reset 0). -/
  failedStarts : Nat := 0
  /-- The oscillator is disabled for 1 ms before its next start (1 bit; R405, 20; reset 0). -/
  xtalPause : Bool := false
  /-- CLK_STATE.REF_IRC (1 bit; R400, 20; reset 1). -/
  refIrc : Bool := true
  /-- CLK_STATE.AON_REF (1 bit; R407, 20; reset 0). -/
  aonRef : Bool := false
  /-- CLK_STATE.RPLL (3 bits; R410, 20; reset OFF). -/
  rpll : Rpll := .off
  /-- Consecutive failed locks (4 bits; R411, 20; reset 0). -/
  relockFails : Nat := 0
  /-- CLK_STATE.BAND (6 bits; R410, 20; reset 0). -/
  band : Nat := 0
  /-- CLK_COUNT.VCO (11 bits; R418, 20; reset 0). -/
  vco : Nat := 0
  /-- REF_MODE in use (2 bits; R409, 20; reset 0). -/
  refMode : Nat := 0
  /-- REF_MODE stored by CLOCK_SET (2 bits; R409, R417, 20; reset 0, the default). -/
  refModeSet : Nat := 0
  /-- XTAL_MODE in use (1 bit; R403, 20; reset 0). -/
  xtalMode : Nat := 0
  /-- XTAL_MODE stored by CLOCK_SET (1 bit; R417, 20; reset 0, the default). -/
  xtalModeSet : Nat := 0
  /-- XTAL_START_MAX in ms (7 bits; R405, 20; reset 20, the default). -/
  startMax : Nat := 20
  /-- CLK_STATE.TIME_UNCERTAIN (1 bit; R413, 20; reset 0). -/
  timeUncertain : Bool := false
  /-- CLK_STATE.OLDCLK_DEAD, an always-on cause (1 bit; R412, 20; reset 0). -/
  oldclkDead : Bool := false
  /-- Domains on their bypass or fallback source, bit d in the row order of R400 (8 bits; R412, 20; reset: 0x3F, the
  RPLL domains on the bypass clock, CLK_REF and CLK_AON told by REF_IRC and AON_REF). -/
  bypassed : Nat := 0x3F
  /-- CLK_SWITCH.DOMAIN (8 bits; R418, 20; reset 0). -/
  lastDomain : Nat := 0
  /-- CLK_SWITCH.LOST (8 bits; R418, 20; reset 0). -/
  lastLost : Nat := 0
  /-- CLK_SWITCH.COUNT, saturating (16 bits; R418, 20; reset 0). -/
  switches : Nat := 0
  /-- CLK_ERR.UNLOCKS, saturating (16 bits; R418, 20; reset 0). -/
  unlocks : Nat := 0
  /-- CLK_ERR.XTAL_LOST, saturating (16 bits; R418, 20; reset 0). -/
  xtalLost : Nat := 0
  /-- CLK_IRC.RESTARTS since VAON, saturating (16 bits; R418, 20; reset 0). -/
  ircRestarts : Nat := 0
  /-- CLK_IRC.HOLD_RETRIES (8 bits; R408, 20; reset 0). -/
  holdRetries : Nat := 0
  /-- CKO0 to CKO3 (R415, 20). -/
  cko : List Cko := List.replicate 4 {}
deriving DecidableEq, Repr

/-- Rail slot parameters (R420). -/
structure RailSet where
  /-- ORDER (4 bits; R419, R420, 21; reset per the rail-slots table). -/
  order : Nat := 0
  /-- OPTIONS bit 0 PG_USED (1 bit; R420, 21; reset 1, the default). -/
  pgUsed : Bool := true
  /-- OPTIONS bit 1 EN_LOW (1 bit; R420, 21; reset 0, the default). -/
  enLow : Bool := false
  /-- ON_DELAY in 0.1 ms (14 bits; R420, 21; reset 10, the default). -/
  onDelay : Nat := 10
  /-- QUAL in 0.1 ms (10 bits; R420, 21; reset 20, the default). -/
  qual : Nat := 20
  /-- TIMEOUT in ms (13 bits; R420, 21; reset 50, the default). -/
  timeout : Nat := 50
  /-- DEGLITCH in us (10 bits; R420, 21; reset 8, the default). -/
  deglitch : Nat := 8
  /-- OFF_DELAY in 0.1 ms (14 bits; R420, 21; reset 10, the default). -/
  offDelay : Nat := 10
deriving DecidableEq, Repr

/-- A rail slot (R419 to R422). -/
structure Rail where
  /-- Values stored in MRAM (R420, 21). -/
  stored : RailSet := {}
  /-- Values of the present enable (R420, 21). -/
  used : RailSet := {}
  /-- EN asserted (1 bit; R419, 21; reset 0). -/
  en : Bool := false
  /-- EN driven: no longer at high impedance (1 bit; R479, 24; reset 0). -/
  driven : Bool := false
  /-- PG good after deglitch (1 bit; R421, 21; reset 0). -/
  pg : Bool := false
  /-- Qualified (1 bit; R421, 21; reset 0). -/
  qualified : Bool := false
deriving DecidableEq, Repr

/-- Sequencer states (PWR_STATE.SEQ). -/
inductive Seq where
  | off | xtalStart | chipUp | chipOn | engineUp | engineOn | engineDown | chipDown | lockout
deriving DecidableEq, Repr

/-- PWR_STATE.SEQ (R436). -/
def Seq.code : Seq → Nat
  | .off => 0 | .xtalStart => 1 | .chipUp => 2 | .chipOn => 3 | .engineUp => 4 | .engineOn => 5 | .engineDown => 6
  | .chipDown => 7 | .lockout => 8

/-- What a power-down in progress ends in (R422, R425, R426, R430); `engineUp` restores the engine phase that an
aborted ENGINE_POWER 0 took down (R45). -/
inductive DownFor where
  | off | retry | engineOff | engineLockout | chipLockout | engineUp
deriving DecidableEq, Repr

/-- Where a latched on request came from (R427). -/
inductive OnSource where
  | nwake | button | cycle | autoOn
deriving DecidableEq, Repr

/-- The MRAM record of the first rail fault (R424). -/
structure RailRecord where
  rail : Nat
  cause : Nat
  phase : Nat
  attempt : Nat
  time : Nat
  aonUs : Nat
deriving DecidableEq, Repr

/-- Default ORDER of a slot (R419). -/
def defaultOrder (n : Nat) : Nat := match n with
  | 9 => 1 | 7 => 2 | 8 => 3 | 10 => 4 | _ => 0

/-- The power sequencer. -/
structure Power where
  /-- PWR_STATE.SEQ (4 bits; R436, 21; reset OFF). -/
  seq : Seq := .off
  /-- RL0 to RL15 (R419, 21). -/
  rails : List Rail := (List.range 16).map fun n => { stored := { order := defaultOrder n }, used := { order := defaultOrder n } }
  /-- PWR_STATE.ATTEMPT (4 bits; R422, 21; reset 0). -/
  attempt : Nat := 0
  /-- What the power-down in progress ends in (R425, 21; reset OFF). -/
  downFor : DownFor := .off
  /-- MIN_OFF is being counted (1 bit; R425, 21; reset 0). -/
  minOffRuns : Bool := false
  /-- PWR_STATE.ON_LATCHED and its source (R427, 21; reset none). -/
  latched : Option OnSource := none
  /-- nWAKE is low (1 bit; R428, 21; choice 0). -/
  nwakeLow : Bool := false
  /-- PWR_STATE.BUTTON: a press is recognised and held (1 bit; R428, 21; reset 0). -/
  button : Bool := false
  /-- The press was recognised in OFF, so its release makes no request (1 bit; R428, 21; reset 0). -/
  pressInOff : Bool := false
  /-- No on request is accepted until nPBTN is released after FORCE_OFF (1 bit; R429, 21; reset 0). -/
  forceHeld : Bool := false
  /-- OFF_GRACE runs after an off request (1 bit; R428, 21; reset 0). -/
  grace : Bool := false
  /-- PWR_STATE.FUSER_SKIPPED (1 bit; R430, 21; reset 0). -/
  fuserSkipped : Bool := false
  /-- PWR_STATE.RESET_SRC (3 bits; R433, 21; reset 1, VAON). -/
  resetSrc : Nat := 1
  /-- RETRIES (4 bits; R422, 21; reset 3, the default). -/
  retries : Nat := 3
  /-- AUTO_ON (1 bit; R428, 21; reset 1, the default). -/
  autoOn : Bool := true
  /-- MIN_OFF in ms (14 bits; R425, 21; reset 500, the default). -/
  minOff : Nat := 500
  /-- LONG_PRESS in 0.1 s (7 bits; R428, 21; reset 40, the default). -/
  longPress : Nat := 40
  /-- OFF_GRACE in s (10 bits; R428, 21; reset 30, the default). -/
  offGrace : Nat := 30
  /-- RSTOUT_DELAY in ms (10 bits; R434, 21; reset 10, the default). -/
  rstoutDelay : Nat := 10
  /-- nRSTOUT is high (1 bit; R434, 21; reset 0). -/
  rstoutHigh : Bool := false
  /-- First rail fault record in MRAM (R424, 21; reset none). -/
  record : Option RailRecord := none
  /-- Rail faults counted after the first (R424, 21; reset 0). -/
  laterFaults : Nat := 0
  /-- PWR_CNT.RETRIES since VAON, saturating (16 bits; R436, 21; reset 0). -/
  retryCnt : Nat := 0
  /-- PWR_CNT.RUNNING since VAON, saturating (16 bits; R436, 21; reset 0). -/
  runningCnt : Nat := 0
  /-- Always-on cause bit CLOCK_HOLD (1 bit; R408, 17; reset 0). -/
  causeHold : Bool := false
  /-- Always-on cause bit FORCE_OFF (1 bit; R429, 17; reset 0). -/
  causeForce : Bool := false
  /-- Always-on cause bit rail fault (1 bit; R424, 17; reset 0). -/
  causeRail : Bool := false
  /-- ns since VAON arrived; AON_US is its us, saturating at 32 bits (R424, 21; reset 0). -/
  aonNs : Nat := 0
  /-- The controller has come up since the arrival of VAON, so that the next power-up has source 2 (R433, 21; reset
  0). -/
  upSinceVaon : Bool := false
  /-- The rail whose failure ended the last attempt (R422, R435, 21; reset 0). -/
  failRail : Nat := 0
  /-- nMRST is low (1 bit; R432, 21; choice 0). -/
  nmrstLow : Bool := false
  /-- A POWER_CONTROL RESET, or a reset with another source code, is due (R433, 21; reset none). -/
  resetDue : Option Nat := none
  /-- Power-up sequences since the last LIFE update (R383, 18; reset 0; the model's own count). -/
  lifeUps : Nat := 0
deriving DecidableEq, Repr

/-- Lifecycle states (R395). -/
inductive Life where
  | blank | provisioned | field | returned
deriving DecidableEq, Repr

/-- SYS_STATE.LIFE (chapter 03). -/
def Life.code : Life → Nat
  | .blank => 0 | .provisioned => 1 | .field => 2 | .returned => 3

/-- A role key (R393, R396). -/
structure RoleKey where
  keyId : Nat
  role : Role
  /-- 1 P-256, 2 P-384. -/
  curve : Nat
  key : Bytes
deriving DecidableEq, Repr

/-- The boot record of one image kind in MRAM (R390). -/
structure BootRec where
  /-- PRIMARY: 0 A, 1 B (1 bit; R390, 19; choice 0). -/
  primary : Nat := 0
  /-- TRIAL: 0 none, 1 A, 2 B (2 bits; R390, 19; choice 0). -/
  trial : Nat := 0
  /-- TRIES (1 bit; R390, 19; choice 0). -/
  tries : Nat := 0
  /-- TRIAL_FAILED (1 bit; R390, 19; choice 0). -/
  trialFailed : Bool := false
  /-- The booted slot: 0 none, 1 A, 2 B (2 bits; R390, 19; reset 0). -/
  booted : Nat := 0
  /-- OTP rollback counter (8 bits; R389, 19; choice 0). -/
  rollback : Nat := 0
deriving DecidableEq, Repr

/-- Boot, trust and the Berril settings. -/
structure Boot where
  /-- SYS_STATE.LIFE (2 bits; R395, 19; choice BLANK). -/
  life : Life := .blank
  /-- Vendor key hashes VK0 to VK3, revoked or absent ones empty (R389, 19; choice none). -/
  vk : List Bytes := [[], [], [], []]
  /-- OEM key hashes OK0 and OK1, absent ones empty (R389, 19; choice none). -/
  ok : List Bytes := [[], []]
  /-- VENDOR role keys of OTP slots 0xFF00 to 0xFF03 (R396, 19; choice none). -/
  otpKeys : List RoleKey := []
  /-- Boot records of Renune and Berril (R390, 19). -/
  recs : List BootRec := [{}, {}]
  /-- Bytes programmed into the four slots since their last erase, as (OFFSET, bytes): Renune A, Renune B, Berril A,
  Berril B (R387, 19; choice: erased). -/
  flash : List (List (Nat × Bytes)) := [[], [], [], []]
  /-- BOOT_TRIAL_TIME in s (6 bits; R390, 19; reset 10, the default). -/
  trialTime : Nat := 10
  /-- The boot ROM is in BOOT_FAIL (1 bit; R391, 19; reset 0). -/
  bootFail : Bool := false
  /-- Cause of the last BOOT_FAIL in MRAM (8 bits; R391, 19; choice 0). -/
  failCause : Nat := 0
  /-- Pairs A and B are released from reset (1 bit; R391, 19; reset 0). -/
  released : Bool := false
  /-- TIME64 at which Renune started (64 bits; R399, 19; reset 0). -/
  started : Nat := 0
  /-- A Berril package has applied in full (1 bit; R394, 19; reset 0). -/
  berrilOk : Bool := false
  /-- Berril settings by ID 1 to 16 (32 bits each; R394, 19; reset per the settings table). -/
  settings : List Nat := [8192, 0, 384, 900, 50, 500, 64, 0, 600, 5, 100000, 512, 128, 10, 0, 0]
  /-- Role keys of the Berril package, at most 64 (R393, 19; reset none). -/
  roleKeys : List RoleKey := []
  /-- LEDGER_AREA with which the area was last laid out, in MiB (9 bits; R394, 19; choice 384). -/
  laidArea : Nat := 384
  /-- The debug port is open (1 bit; R397, 19; choice 0: BLANK is open by its lifecycle). -/
  debugOpen : Bool := false
  /-- The BOOT and MEASURE entries of this boot are chained (1 bit; R392, 19; reset 0). -/
  measured : Bool := false
deriving DecidableEq, Repr

end Sys2Proof.Machine
end

