-- ==== Sys2Proof/Machine/StMotors.lean ====
section
/-!
DEFINITION. State of the motor channels, bus monitors and axes (chapters 10 and 11). Parameter sets are kept as the
payload their command carries, with defaults filled in.
-/
namespace Sys2Proof.Machine

/-- Channel states (chapter 10, channel-states table). -/
inductive MState where
  | off | align | ramp | closed | float | catching | fault
deriving DecidableEq, Repr

/-- LMn_STATE.STATE and SMn_STATE.STATE. -/
def MState.code : MState → Nat
  | .off => 0 | .align => 1 | .ramp => 2 | .closed => 3 | .float => 4 | .catching => 5 | .fault => 6

/-- The bridge is floated in these states (channel-states table). -/
def MState.floated : MState → Bool
  | .off | .float | .catching | .fault => true
  | _ => false

/-- A recorded command that a channel applies at the start of its next period (R247): a start toward a setpoint in 0.01
rpm, a stop in a mode of MOTOR_STOP, a new setpoint, or a clear. -/
inductive MotorCmd where
  | start (setpoint : Int) | stop (mode : Nat) | speed (setpoint : Int) | clear
deriving DecidableEq, Repr

/-- What a channel drives on its six gate outputs (R226): all low, the compare values of R228, or the sampling slot
followed by a vector (R231). -/
inductive Gate where
  | low | pwm | vector
deriving DecidableEq, Repr

/-- A motor channel: LM0 to LM5 are channels 0 to 5, SM0 to SM9 channels 6 to 15. -/
structure Motor where
  /-- Parameter set, MOTOR_SET payload (640 bits; R249, 10; reset none). -/
  set : Option Bytes := none
  /-- STATE (4 bits; R233, 10; reset 0 OFF). -/
  state : MState := .off
  /-- FAULT, first cause (8 bits; R244, 10; reset 0). -/
  fault : Nat := 0
  /-- SPEED estimate, 0.01 rpm (32 bits; chapter 03; reset 0). -/
  speed : Int := 0
  /-- Setpoint, 0.01 rpm (32 bits; R239, R250, 10; reset 0). -/
  target : Int := 0
  /-- LMn_SET: setpoint in use after slewing, 0.01 rpm (32 bits; R238, 10; reset 0). -/
  slew : Int := 0
  /-- Part of a slewing step not yet applied, 10^-9 of 0.01 rpm (R238, 10; reset 0). -/
  slewRem : Nat := 0
  /-- The setpoint applies without slewing: a polygon from TRACKING onward (R239, 10; reset 0). -/
  direct : Bool := false
  /-- LMn_CUR.ID, mA (16 bits; R229, 03; reset 0). -/
  id : Int := 0
  /-- LMn_CUR.IQ, mA (16 bits; R229, 03; reset 0). -/
  iq : Int := 0
  /-- d reference after the clamps of R229, mA (R229, R243, 10; reset 0). -/
  idRef : Int := 0
  /-- Output of the speed loop: q reference, mA, or torque reference, mN m (R229, R238, 10; reset 0). -/
  iqRef : Int := 0
  /-- q reference after the clamps of R229 and R243, mA (R229, 10; reset 0). -/
  iqUse : Int := 0
  /-- d and q currents, 2^-16 mA (R229, 10; reset 0). -/
  iDq : Int × Int := (0, 0)
  /-- d and q voltages of the last period, 2^-16 V (R229, R243, 10; reset 0). -/
  vDq : Int × Int := (0, 0)
  /-- Integrators of the d and q regulators, 2^-16 V (R229, 10; reset 0). -/
  intDq : Int × Int := (0, 0)
  /-- Integrator of the speed loop, 2^-16 mA or mN m (R238, 10; reset 0). -/
  intW : Int := 0
  /-- LMn_CONF.CONF (16 bits; R234, 03; reset 0). -/
  conf : Nat := 0
  /-- LMn_MOD.M (16 bits; R228, 10; reset 0). -/
  mod : Nat := 0
  /-- VSAT was set in the last period (1 bit; R228, 10; reset 0). -/
  vsat : Bool := false
  /-- TIME64 of the last period that set VSAT, for LMn_MOD.VSAT (64 bits; R228, chapter 10; reset none). -/
  vsatAt : Option Nat := none
  /-- Compare values of phases A to C (R228, 10; reset 0). -/
  cmp : List Nat := [0, 0, 0]
  /-- LMn_EVT.LOSSES, saturating (16 bits; R235, 10; reset 0). -/
  losses : Nat := 0
  /-- LMn_EVT.CATCHES, saturating (16 bits; R236, 10; reset 0). -/
  catches : Nat := 0
  /-- Consecutive periods with a current sum beyond I_MAX / 10 (2 bits; R230, 10; reset 0). -/
  sumBad : Nat := 0
  /-- Time in the present state, ns (R233, R247, 10; reset 0). -/
  inState : Nat := 0
  /-- Forced speed in RAMP, 0.01 rpm (R229, 10; reset 0). -/
  forced : Nat := 0
  /-- Time the hand-over test has held, ns (R233, 10; reset 0). -/
  handNs : Nat := 0
  /-- Time the loss condition has lasted, ns (R235, 10; reset 0). -/
  lossNs : Nat := 0
  /-- Two electrical periods at the speed held when the loss condition began, ns (R235, 10; reset 0). -/
  lossLimit : Nat := 0
  /-- Instants of the last losses, TIME64 (R237, 10; reset none). -/
  lossTimes : List Nat := []
  /-- Time CLOSED within 1 % of the setpoint, ns (R250, 10; reset 0). -/
  nearNs : Nat := 0
  /-- A MOTOR_START runs, with the time since it applied, ns (R250, 10; reset none). -/
  startNs : Option Nat := none
  /-- A MOTOR_STOP in mode RAMP runs (1 bit; R250, 10; reset 0). -/
  stopping : Bool := false
  /-- CATCH was entered as a start probe (1 bit; R236, 10; reset 0). -/
  probe : Bool := false
  /-- Edges of the present catch: phase, rising, TIME64, newest first (R236, 10; reset none). -/
  edges : List (Nat × Bool × Nat) := []
  /-- A catch opposite to the setpoint: wait for quiet (1 bit; R236, 10; reset 0). -/
  opposite : Bool := false
  /-- A catch has succeeded, with its speed in 0.01 rpm; the bridge is enabled at the next period (R236, 10; reset none). -/
  caught : Option Int := none
  /-- Commands that wait for the next period (R247, 10; reset none). -/
  wait : List MotorCmd := []
  /-- FAULT was recorded in the present period (1 bit; R244, 10; reset 0). -/
  faultNew : Bool := false
  /-- What the gate outputs carry (R226, 10; reset low). -/
  gate : Gate := .low
  /-- The gate outputs are driven: this controller was named by OWN when the present period began (R246, 10; choice 0). -/
  drives : Bool := false
  /-- TIME64 at which a small channel last drove torque (R237, 10; reset none). -/
  torqueAt : Option Nat := none
  /-- nDRVFLT input low (1 bit; R226, 10; choice 0). -/
  drvLow : Bool := false
  /-- SMn_DTC.TORQUE, mN m (16 bits; R231, 10; reset 0). -/
  torque : Int := 0
  /-- SMn_DTC.FLUX, uWb (16 bits; R231, 10; reset 0). -/
  flux : Nat := 0
  /-- SMn_SECT.SECTOR (3 bits; R232, 10; reset 0). -/
  sector : Nat := 0
  /-- SMn_CUR.IA, mA (16 bits; R231, 10; reset 0). -/
  ia : Int := 0
  /-- SMn_CUR.IB, mA (16 bits; R231, 10; reset 0). -/
  ib : Int := 0
  /-- Flux estimate: its alpha part, and its beta part times the root of 3, in 2^-16 / 3 pWb (R231, 10; reset 0). -/
  psi : Int × Int := (0, 0)
  /-- The flux comparator demands an increase (1 bit; R232, 10; choice 0). -/
  fluxUp : Bool := false
  /-- Vector applied: 0 for 000, k for Vk (3 bits; R232, 10; reset 0). -/
  vector : Nat := 0
  /-- Vector of the period before (3 bits; R226, R232, 10; reset 0). -/
  vectorWas : Nat := 0
  /-- Trained sampling phase of the channel's seven SDM_D lines, 0 to 15 (R487, 25; choice 0). -/
  sdmPhase : List Nat := List.replicate 7 0
deriving DecidableEq, Repr

/-- A DC bus monitor (R240 to R243). -/
structure Bus where
  /-- Settings, BUS_SET payload (192 bits; R251, 10; reset none). -/
  set : Option Bytes := none
  /-- BUSn_V, mV (32 bits; R240, 10; reset 0). -/
  v : Nat := 0
  /-- BUSn_FLAGS.CHOP (1 bit; R240, 10; reset 0). -/
  chop : Bool := false
  /-- BUSn_FLAGS.CHOP_FAULT (1 bit; R242, 10; reset 0). -/
  chopFault : Bool := false
  /-- BUSn_FLAGS.CHOP_HOT (1 bit; R242, 10; reset 0). -/
  chopHot : Bool := false
  /-- BUSn_FLAGS.ARMED (1 bit; R240, 10; reset 0). -/
  armed : Bool := false
  /-- Consecutive samples at or above V_OVP (2 bits; R240, 10; reset 0). -/
  ovpRun : Nat := 0
  /-- Bus voltage when CHOPn turned on, mV (R242, 10; reset 0). -/
  chopV0 : Nat := 0
  /-- In the check of the present turn-on, current or voltage drop was seen (1 bit; R242, 10; reset 0). -/
  chopSeen : Bool := false
  /-- Consecutive samples with chopper current while CHOPn is low (R242, 10; reset 0). -/
  shortRun : Nat := 0
  /-- On-intervals of CHOPn in the last second, TIME64, newest first (R242, 10; reset none). -/
  ons : List (Nat × Nat) := []
  /-- BUSn_CHOP.ONS, saturating (16 bits; chapter 10; reset 0). -/
  onCnt : Nat := 0
  /-- Chopper turn-ons since the last LIFE update (R383, 18; reset 0; the model's own count). -/
  lifeChop : Nat := 0
deriving DecidableEq, Repr

/-- The motor channels and buses. -/
structure Motors where
  /-- LM0 to LM5, SM0 to SM9 (R225, 10). -/
  chs : List Motor := List.replicate 16 {}
  /-- BUS0 to BUS3 (R225, 10). -/
  buses : List Bus := List.replicate 4 {}
  /-- Planned process speed, um/s, 0 when none is planned (R198, R239, 10; reset 0). -/
  planV : Nat := 0
deriving DecidableEq, Repr

/-- Axis states (chapter 11). -/
inductive AState where
  | off | hold | moving | stopping | homing | fault
deriving DecidableEq, Repr

/-- AXn_STATE.STATE. -/
def AState.code : AState → Nat
  | .off => 0 | .hold => 1 | .moving => 2 | .stopping => 3 | .homing => 4 | .fault => 5

/-- A planned segment (R257, R258): where it ends, its flags, limits and joint speeds. -/
structure Seg where
  pos : Int
  mark : Bool
  blend : Bool
  vmax : Nat
  acc : Nat
  jerk : Nat
deriving DecidableEq, Repr

/-- What the two inputs x1 and x2 of an SC phase carry (R253): both low, x1 high, x2 high, or both high. -/
inductive Phase where
  | float | pos | neg | brake
deriving DecidableEq, Repr

/-- An axis: SC0 to SC11 are axes 0 to 11, SD0 to SD7 axes 12 to 19. -/
structure Axis where
  /-- Parameter set, AXIS_SET payload (512 bits; R268, 11; reset none). -/
  set : Option Bytes := none
  /-- AXn_STATE.STATE (3 bits; R264, 11; reset 0 OFF). -/
  state : AState := .off
  /-- AXn_STATE.FAULT (8 bits; R263, 11; reset 0). -/
  fault : Nat := 0
  /-- Commanded position, usteps (48 bits signed; R252, 11; reset 0). -/
  pos : Int := 0
  /-- Fraction of the position carried between ticks, 2^-16 ustep (16 bits; R257, 11; reset 0). -/
  frac : Nat := 0
  /-- AXn_VEL, usteps/s (32 bits signed; R257, 11; reset 0). -/
  vel : Int := 0
  /-- Acceleration, usteps/s^2; from the acceptance of a stop on, the one found then (R257, R264, 11; reset 0). -/
  accel : Int := 0
  /-- Segments left (0 to 16; R259, 11; reset none). -/
  queue : List Seg := []
  /-- Position at the start of the segment, stop or homing in progress, 2^-16 ustep (R257, 11; reset 0). -/
  start : Int := 0
  /-- Time in the segment, stop or homing in progress, ns (R257, 11; reset 0). -/
  segT : Nat := 0
  /-- Speed at its start, usteps/s (R258, 11; reset 0). -/
  vIn : Nat := 0
  /-- Peak speed (R258, 11; reset 0). -/
  vPeak : Nat := 0
  /-- Speed at its end (R258, 11; reset 0). -/
  vOut : Nat := 0
  /-- Joint speeds that the plan gives the segments left (R258, 11; reset none). -/
  joints : List Nat := []
  /-- Position at the last PWM period, by which full-step boundaries show (48 bits; R256, 11; reset 0). -/
  lastPos : Int := 0
  /-- The conditions of R261 have held since the last full-step boundary (1 bit; R261, 11; reset 0). -/
  stepOk : Bool := false
  /-- E_d and E_q summed since the last full-step boundary, 2^-36 mV (R262, 11; reset 0). -/
  eDq : Int × Int := (0, 0)
  /-- AXn_STATE.HOMED (1 bit; R265, 11; reset 0). -/
  homed : Bool := false
  /-- AXn_STATE.MODE: strong (1 bit; R256, 11; reset 0). -/
  strong : Bool := false
  /-- A mode change is due at the next full-step boundary (1 bit; R256, 11; reset 0). -/
  modeDue : Bool := false
  /-- AXn_STATE.STALL_VALID (1 bit; R261, 11; reset 0). -/
  stallValid : Bool := false
  /-- usteps travelled since the last mode change and since the axis left HOLD, saturating at 1,024 (R261, 11; reset 0). -/
  settled : Nat := 0
  /-- Consecutive failed full steps (5 bits; R262, 11; reset 0). -/
  failed : Nat := 0
  /-- AXn_LOAD.ANGLE, 0.01 degree (16 bits signed; R262, 11; reset 0). -/
  angle : Int := 0
  /-- AXn_LOAD.STALLS, saturating (16 bits; R262, 11; reset 0). -/
  stalls : Nat := 0
  /-- Phase A current, mA (16 bits signed; R255, 11; reset 0). -/
  ia : Int := 0
  /-- Phase B current, mA (16 bits signed; R255, 11; reset 0). -/
  ib : Int := 0
  /-- I_RUN applies rather than I_HOLD (1 bit; R255, 11; reset 0). -/
  running : Bool := false
  /-- Consecutive periods of phases A and B below half their target (7 bits each; R255, 11; reset 0). -/
  lowRun : Nat × Nat := (0, 0)
  /-- The bridge regulates the phase currents: from AXIS_ENABLE to a float (R253, R255, R263, 11; reset 0). -/
  drive : Bool := false
  /-- Signed duty of phases A and B in the present PWM period, 2^-16 (R256, 11; reset 0). -/
  duty : Int × Int := (0, 0)
  /-- DIRk high (R254, 11; choice 0). -/
  dirHigh : Bool := false
  /-- TIME64 of the last change of DIRk (R254, 11; reset 0). -/
  dirAt : Nat := 0
  /-- Rising edges of STEPk placed by the last profile tick, TIME64 (R254, 11; reset none). -/
  edges : List Nat := []
  /-- The last rising edge of STEPk, TIME64 (R254, 11; reset none). -/
  lastEdge : Option Nat := none
  /-- FAULT was recorded in the present tick (1 bit; R263, 11; reset 0). -/
  faultNew : Bool := false
  /-- FAULT_GPIO low (1 bit; R269, 11; choice 0). -/
  gpioLow : Bool := false
  /-- Homing: probe, DIR negative, EDGE falling, SPEED, HOME_POS (R265, 11; reset none). -/
  home : Option (Nat × Bool × Bool × Nat × Int) := none
  /-- The homing edge has set the position (1 bit; R265, 11; reset 0). -/
  homeHit : Bool := false
  /-- The DETAIL that the move in progress posts when it is stopped: 0x80 or 0xAB (R264, 11; reset 0). -/
  stopDetail : Nat := 0
deriving DecidableEq, Repr

/-- The axes. -/
structure Axes where
  /-- SC0 to SC11, SD0 to SD7 (R252, 11). -/
  axs : List Axis := List.replicate 20 {}
  /-- TIME64 of the last profile tick (64 bits; R257, R265, 11; reset 0). -/
  tickAt : Nat := 0
  /-- The outputs of the axes are driven: this controller was named by OWN when the present tick began (R267, 11; choice 0). -/
  drives : Bool := false
deriving DecidableEq, Repr

end Sys2Proof.Machine
end

