-- ==== Sys2Proof/Machine/StControl.lean ====
section
/-!
DEFINITION. State of position feedback, the closed-loop engine and the thermal unit (chapters 12, 13, 14). Settings
are kept as the payload their command carries.
-/
namespace Sys2Proof.Machine

/-- A position counter with its direction and windowed speed (R273, R279, R280). -/
structure Counter where
  /-- Counter, linear or 0 to CPR - 1 (48 bits; R273, 12; reset 0). -/
  pos : Int := 0
  /-- QEn_REV: signed wraps (32 bits; R273, 12; reset 0). -/
  rev : Int := 0
  /-- Counts travelled, without wrap, for the direction rule (R279, 12; reset 0). -/
  travel : Int := 0
  /-- DIR: 0 REST, 1 POSITIVE, 2 NEGATIVE (2 bits; R279, 12; reset 0). -/
  dir : Nat := 0
  /-- Extreme position E since DIR last changed (R279, 12; reset 0). -/
  extreme : Int := 0
  /-- Net count of the running window (R280, 12; reset 0). -/
  net : Int := 0
  /-- The running window holds a count (R280, 12; reset 0). -/
  counted : Bool := false
  /-- Sign of the last count in the running window, 0 for none (R280, 12; reset 0). -/
  sign : Int := 0
  /-- The running window holds a reversal (R280, 12; reset 0). -/
  reversed : Bool := false
  /-- NET of the last window (32 bits; R280, 12; reset 0). -/
  lastNet : Int := 0
  /-- SPEED of the last window, counts/s (32 bits; R280, 12; reset 0). -/
  speed : Int := 0
  /-- DIRCHG of the last window (1 bit; R280, 12; reset 0). -/
  dirchg : Bool := false
  /-- SETTLING of the last window (1 bit; R280, 12; reset 0). -/
  settling : Bool := false
  /-- The last window held a count (R280, 12; reset 0). -/
  lastCounted : Bool := false
  /-- The next window is settling as well (R280, 12; reset 0). -/
  settleNext : Bool := false
deriving DecidableEq, Repr

/-- A quadrature input (R270 to R274). -/
structure Qe where
  /-- Settings, QE_SET payload (192 bits; R287, 12; reset: the stated defaults). -/
  set : Bytes := [0, 0, 4, 3, 50, 0, 4, 2, 0, 0, 0, 0, 0, 0, 0, 0, 16, 0, 0, 0, 100, 0, 0, 0]
  ctr : Counter := {}
  /-- Accepted level of A (1 bit; R270, 12; choice 0). -/
  a : Bool := false
  /-- Accepted level of B (1 bit; R270, 12; choice 0). -/
  b : Bool := false
  /-- INDEXED (1 bit; R274, 12; reset 0). -/
  indexed : Bool := false
  /-- The index is armed (1 bit; R274, 12; reset 0). -/
  idxArmed : Bool := false
  /-- POS_BAD (1 bit; R271, 12; reset 0). -/
  posBad : Bool := false
  /-- WIRE: pairs A, B, Z in disagreement (3 bits; R272, 12; reset 0). -/
  wire : List Bool := [false, false, false]
  /-- FAULT: first cause (8 bits; R278, 12; reset 0). -/
  fault : Nat := 0
  /-- Causes raised since FB_CLEAR, and the TIME64 at which FAULT was recorded (R278, 12; reset none, 0). -/
  raised : List Nat := []
  faultAt : Nat := 0
  /-- ILLEGAL, saturating (16 bits; R271, 12; reset 0). -/
  illegal : Nat := 0
  /-- IDX_CORR, saturating (16 bits; R274, 12; reset 0). -/
  idxCorr : Nat := 0
  /-- STRAY_Z, saturating (16 bits; R274, 12; reset 0). -/
  strayZ : Nat := 0
deriving DecidableEq, Repr

/-- A serial encoder port (R275 to R277). -/
structure Se where
  /-- Settings, SE_SET payload (256 bits; R287, 12; reset: the stated defaults, with PROTOCOL choice 0, POS_BITS
  choice 13, the least of its range, and so MAX_STEP 2^11; assumption 14). -/
  set : Bytes := [0, 13, 0, 0, 50, 0, 40, 0, 64, 1, 0x90, 1, 0xFF, 0, 0, 0, 0, 0, 0, 0, 0, 8, 0, 0, 0, 0, 0, 0, 100, 0, 0, 0]
  ctr : Counter := {}
  /-- Previous good word (32 bits; R276, 12; reset none). -/
  last : Option Nat := none
  /-- Last good change d (33 bits signed; R277, 12; reset 0). -/
  d : Int := 0
  /-- TIME64 of the last good read that the counter took (64 bits; R281, 12; reset 0). -/
  readAt : Nat := 0
  /-- Last good position: the counter after that read (48 bits; R281, 12; reset 0). -/
  goodPos : Int := 0
  /-- VALID (1 bit; R277, 12; reset 0). -/
  valid : Bool := false
  /-- EXTRAP (1 bit; R277, 12; reset 0). -/
  extrap : Bool := false
  /-- FALLBACK (1 bit; R277, 12; reset 0). -/
  fallback : Bool := false
  /-- Consecutive failed reads (R277, 12; reset 0). -/
  failRun : Nat := 0
  /-- Consecutive good reads; READY from 1,000 (R277, 12; reset 0). -/
  goodRun : Nat := 0
  /-- Remainder of BK_SCALE in 2^-16 counts (16 bits; R277, 12; reset 0). -/
  bkRem : Int := 0
  /-- FAULT: first cause (8 bits; R278, 12; reset 0). -/
  fault : Nat := 0
  /-- Causes raised since FB_CLEAR, and the TIME64 at which FAULT was recorded (R278, 12; reset none, 0). -/
  raised : List Nat := []
  faultAt : Nat := 0
  /-- CRC errors, saturating (16 bits; R278, 12; reset 0). -/
  crcErr : Nat := 0
  /-- TIMEOUT errors, saturating (16 bits; R278, 12; reset 0). -/
  timeoutErr : Nat := 0
  /-- PLAUS errors, saturating (16 bits; R278, 12; reset 0). -/
  plausErr : Nat := 0
  /-- ENC_ERR errors, saturating (16 bits; R278, 12; reset 0). -/
  encErr : Nat := 0
  /-- DELAY, ns (16 bits; R275, 12; reset 0). -/
  delay : Nat := 0
  /-- WARN, saturating (16 bits; R276, 12; reset 0). -/
  warn : Nat := 0
deriving DecidableEq, Repr

/-- A latch of a probe (R281, R282). -/
structure Latch where
  time : Nat
  pos : Int
  rising : Bool
  interp : Bool
deriving DecidableEq, Repr

/-- A probe input (R281, R282). -/
structure Prb where
  /-- Settings, PRB_SET payload (64 bits; R281, 12; choice: EDGE rising, PFILT 0, SRC none). -/
  set : Bytes := [1, 0, 0xFF, 0, 0, 0, 0, 0]
  /-- FIFO, oldest first, at most 8 (R282, 12; reset none). -/
  fifo : List Latch := []
  /-- OVERFLOW, saturating (16 bits; R282, 12; reset 0). -/
  overflow : Nat := 0
  /-- GLITCH, saturating (16 bits; R281, 12; reset 0). -/
  glitch : Nat := 0
  /-- PRBk_POS: last latched position (48 bits; R282, 12; reset 0). -/
  lastPos : Int := 0
  /-- PRBk_TIME: last latched TIME64 (64 bits; R282, 12; reset 0). -/
  lastTime : Nat := 0
deriving DecidableEq, Repr

/-- A compare unit (R283 to R285). -/
structure Cmp where
  /-- Settings, CMP_SET payload (128 bits; R287, 12; reset: off, HYST 4, the default). -/
  set : Bytes := [0, 0, 4, 0, 0, 0, 0, 0, 0, 0, 0xFF, 0, 0, 0, 0, 0]
  /-- Written since reset and since the last POS_SET of its counter (R285, 12; reset 0). -/
  live : Bool := false
  /-- ARMED (1 bit; R283, 12; reset 0). -/
  armed : Bool := false
  /-- BEHIND (1 bit; R284, 12; reset 0). -/
  behind : Bool := false
  /-- LATE (1 bit; R284, 12; reset 0). -/
  late : Bool := false
  /-- FIRES, saturating (16 bits; R283, 12; reset 0). -/
  fires : Nat := 0
  /-- Position latched at the last fire (48 bits; R283, 12; reset 0). -/
  firePos : Int := 0
  /-- TIME64 latched at the last fire (64 bits; R283, 12; reset 0). -/
  fireTime : Nat := 0
  /-- TIME64 at which the last pulse on OUT_GPIO began (64 bits; R283, 12; reset none). -/
  pulseAt : Option Nat := none
deriving DecidableEq, Repr

/-- Feedback units. -/
structure Feedback where
  /-- QE0 to QE7 (R270, 12). -/
  qe : List Qe := List.replicate 8 {}
  /-- SE0 to SE3 (R275, 12). -/
  se : List Se := List.replicate 4 {}
  /-- PRB0 to PRB7 (R281, 12). -/
  prb : List Prb := List.replicate 8 {}
  /-- CMP0 to CMP15 (R283, 12). -/
  cmp : List Cmp := List.replicate 16 {}
deriving DecidableEq, Repr

/-- Loop states (chapter 13). -/
inductive LState where
  | off | ramp | settle | regulating | stopping | fault
deriving DecidableEq, Repr

/-- LPi_STATE.STATE. -/
def LState.code : LState → Nat
  | .off => 0 | .ramp => 1 | .settle => 2 | .regulating => 3 | .stopping => 4 | .fault => 5

/-- A recorded command that a loop applies at the start of its next period (R302). -/
inductive LoopCmd where
  | start | stop (mode : Nat) | sp (v : Int) | clear
deriving DecidableEq, Repr

/-- A loop of the closed-loop engine (R288 to R299). -/
structure Loop where
  /-- Descriptor, LOOP_SET payload (768 bits; R301, 13; reset none). -/
  set : Option Bytes := none
  /-- STATE (3 bits; chapter 13; reset 0 OFF). -/
  state : LState := .off
  /-- FAULT: first cause (8 bits; R299, 13; reset 0). -/
  fault : Nat := 0
  /-- Sticky flags ARITH, OUT_SAT, SLEW, WINDUP, IN_RANGE, FE, OVERRUN (7 bits; R295, 13; reset 0). -/
  flags : List Bool := List.replicate 7 false
  /-- SP, Q16.16 (32 bits; R301, 13; reset 0). -/
  sp : Int := 0
  /-- SP in use by the reference at the last state test (R296, 13; reset 0). -/
  spUsed : Int := 0
  /-- r, Q16.16 (32 bits; R293, 13; reset 0). -/
  r : Int := 0
  /-- y, Q16.16 (32 bits; R293, 13; reset 0). -/
  y : Int := 0
  /-- u, Q16.16 (32 bits; R293, 13; reset 0). -/
  u : Int := 0
  /-- I, Q16.16 (32 bits; R293, 13; reset 0). -/
  i : Int := 0
  /-- m, Q16.16 (32 bits; R293, 13; reset 0). -/
  m : Int := 0
  /-- dl[0..15], Q16.16 (512 bits; R293, 13; reset 0). -/
  dl : List Int := List.replicate 16 0
  /-- Timer fe (16 bits; R293, 13; reset 0). -/
  fe : Nat := 0
  /-- Consecutive invalid periods, bad (8 bits; R294, 13; reset 0). -/
  bad : Nat := 0
  /-- Consecutive periods inside, or outside, REG_BAND (4 bits; chapter 13; reset 0). -/
  bandRun : Nat := 0
  /-- Consecutive due periods skipped (2 bits; R290, 13; reset 0). -/
  skipRun : Nat := 0
  /-- SKIPS, saturating (16 bits; R290, 13; reset 0). -/
  skips : Nat := 0
  /-- The first measurement of a start is still due (1 bit; R296, 13; reset 0). -/
  fresh : Bool := false
  /-- Periods since LOOP_START while its final status is due (R301, 13; reset none). -/
  startRun : Option Nat := none
  /-- Effective OUT_MAX that a heater zone writes (32 bits; R303, 13; reset none). -/
  outMax : Option Int := none
  /-- Refresh of the RIM input that the last period used (R294, 13; reset 0). -/
  rimSeen : Nat := 0
  /-- High time of the HVPWM output in 5 ns counts (R291, 13; reset 0). -/
  high : Nat := 0
  /-- The high time before it, which the output keeps to the next start of a PWM period (R291, 13; reset 0). -/
  highWas : Nat := 0
  /-- TIME64 at which `high` was computed (64 bits; R291, 13; reset 0). -/
  highAt : Nat := 0
  /-- Commands that wait for the next period (R302, 13; reset none). -/
  wait : List LoopCmd := []
  /-- FAULT was recorded in the present period (1 bit; R299, 13; reset 0). -/
  faultNew : Bool := false
  /-- The output is driven: this controller was named by OWN when the present period began (R300, 13; choice 0). -/
  drives : Bool := false
deriving DecidableEq, Repr

/-- The closed-loop engine. -/
structure Loops where
  /-- LP0 to LP63 (R288, 13). -/
  lps : List Loop := List.replicate 64 {}
  /-- Tick number modulo 8,192 (13 bits; R288, 13; reset 0). -/
  tick : Nat := 0
  /-- CLE_OVR: ticks with a skipped step, saturating (32 bits; chapter 13; reset 0). -/
  ovr : Nat := 0
  /-- CLE_LOAD.PEAK: longest measured tick of the last second, cycles (16 bits; chapter 13; reset 0). -/
  peak : Nat := 0
  /-- Longest measured tick of the running second, cycles (16 bits; chapter 13; reset 0). -/
  peakRun : Nat := 0
  /-- Ticks of the running second, 0 to 79,999 (17 bits; chapter 13; reset 0). -/
  secTicks : Nat := 0
deriving DecidableEq, Repr

/-- A heater zone (R303 to R312). -/
structure Zone where
  /-- Settings, ZONE_SET payload (512 bits; R316, 14; reset none). -/
  set : Option Bytes := none
  /-- Enabled (1 bit; R316, 14; reset 0). -/
  enabled : Bool := false
  /-- FAULT: first cause (8 bits; R312, 14; reset 0). -/
  fault : Nat := 0
  /-- Tm, 2^-32 degree C (64 bits; R305, 14; reset 0). -/
  tm : Int := 0
  /-- Tp of the last step (64 bits; R305, 14; reset 0). -/
  tp : Int := 0
  /-- Ts, Q16.16 (32 bits; R305, 14; reset 0). -/
  ts : Int := 0
  /-- P, 0.1 W (16 bits; R304, 14; reset 0). -/
  p : Nat := 0
  /-- P_LIM, 0.1 W (16 bits; R309, 14; reset 0). -/
  pLim : Nat := 0
  /-- STEPS, saturating (16 bits; R309, 14; reset 0). -/
  steps : Nat := 0
  /-- Sum of the power values of the running model step, 0.1 W (R304, 14; reset 0). -/
  pSum : Nat := 0
  /-- Count of the power values of the running model step (R304, 14; reset 0). -/
  pCnt : Nat := 0
  /-- Firing accumulator acc, 0.1 W (R303, 14; reset 0). -/
  acc : Nat := 0
  /-- HTRz fires in this half-cycle (1 bit; R303, 14; reset 0). -/
  fire : Bool := false
  /-- HTRz fired in the half-cycle before (1 bit; R303, 14; reset 0). -/
  fireWas : Bool := false
  /-- TIME64 of the last zero crossing (64 bits; R303, 14; reset 0). -/
  crossAt : Nat := 0
  /-- FAST (1 bit; R306, 14; reset 0). -/
  fast : Bool := false
  /-- Consecutive MODEL_DIVERGE samples (6 bits; R307, 14; reset 0). -/
  divRun : Nat := 0
  /-- Consecutive steps of Tm at or above T_SHUT (2 bits; R311, 14; reset 0). -/
  shutRun : Nat := 0
  /-- No node value since POWER_LOST (1 bit; R304, R312, 14; reset 0). -/
  powerLost : Bool := false
  /-- No edge since ZC_LOST (1 bit; R304, R312, 14; reset 0). -/
  zcLost : Bool := false
  /-- No model step since MODEL_STALL (1 bit; R304, R312, 14; reset 0). -/
  stalled : Bool := false
  /-- The recorded cause dates from the present model step, in which a lower code replaces it (R312, 14; reset 0). -/
  faultNew : Bool := false
  /-- On-time of HTRz since the last LIFE update, ns (R383, 18; reset 0; the model's own count). -/
  lifeOn : Nat := 0
  /-- Switchings of its relay since the last LIFE update (R383, 18; reset 0; the model's own count). -/
  lifeSwitch : Nat := 0
deriving DecidableEq, Repr

/-- A thermistor (R306, R307). -/
structure Th where
  /-- Settings, TH_SET payload (128 bits; R306, 14; reset 0: no source). -/
  set : Bytes := List.replicate 16 0
  /-- STATUS: 0 unused, 1 valid, 2 DISAGREE, 3 ELECTRICAL (2 bits; R307, 14; reset 0). -/
  status : Nat := 0
  /-- Temperature, offset removed, Q16.16 (32 bits; R306, 14; reset 0). -/
  temp : Int := 0
  /-- DIS: consecutive disagreements (8 bits; R307, 14; reset 0). -/
  dis : Nat := 0
  /-- Consecutive good samples while excluded (7 bits; R307, 14; reset 0). -/
  goodRun : Nat := 0
  /-- Consecutive samples at or above T_SHUT (2 bits; R311, 14; reset 0). -/
  shutRun : Nat := 0
deriving DecidableEq, Repr

/-- The always-on thermal latch (R311, R315). -/
structure ThLatch where
  /-- AON_LATCH.CAUSE: 0x07 or 0x12 (8 bits; R311, 14; reset 0). -/
  cause : Nat
  /-- AON_LATCH.SRC (8 bits; R311, 14; reset 0). -/
  src : Nat
  /-- AON_LATCH.SENSOR (8 bits; R311, 14; reset 0). -/
  sensor : Nat
  /-- Temperature, Q16.16, in MRAM (R311, 14; reset 0). -/
  temp : Int
  /-- TIME64 in MRAM (R311, 14; reset 0). -/
  time : Nat
  /-- Renune has recorded the MRAM entry (R311, 14; reset 0). -/
  recorded : Bool := false
deriving DecidableEq, Repr

/-- The thermal unit. -/
structure Thermal where
  /-- FZ0 to FZ7 (R303, 14). -/
  zones : List Zone := List.replicate 8 {}
  /-- TH0 to TH23 (R306, 14). -/
  ths : List Th := List.replicate 24 {}
  /-- Curves 0 to 3: C[0..32], Q16.16 (R306, 14; reset none loaded). -/
  curves : List (List Int) := [[], [], [], []]
  /-- DIE_SET payload (64 bits; R314, 14; reset: 100, 10, 10, 0, 60, the defaults). -/
  dieSet : Bytes := [100, 10, 10, 0, 60, 0, 0, 0]
  /-- DS0 to DS3, signed 0.25 degree C (16 bits each; R313, 14; reset 0). -/
  die : List Int := [0, 0, 0, 0]
  /-- Consecutive reads at or above 125 degree C per sensor (2 bits each; R315, 14; reset 0). -/
  dieRun : List Nat := [0, 0, 0, 0]
  /-- The present DIE_SENSOR deviation per sensor (R313, 14; reset 0). -/
  dieDev : List Bool := [false, false, false, false]
  /-- First cause of the die, 0x10 or 0x11, 0 none (8 bits; R313, R315, 14; reset 0). -/
  dieFault : Nat := 0
  /-- DIE_VPERM, um/s (32 bits; R314, 14; reset 1,600,000). -/
  vPerm : Nat := 1600000
  /-- The always-on latch and its MRAM entry (R311, R315, 14; reset none; held by VAON). -/
  latch : Option ThLatch := none
deriving DecidableEq, Repr

end Sys2Proof.Machine
end

