-- ==== Sys2Proof/Machine/StIntake.lean ====
section
/-!
DEFINITION. State of raster intake, the band store, the Ethernet ports and the PTP clock (chapter 04), and of the DMA
rings (chapter 16).
-/
namespace Sys2Proof.Machine

/-- A stream key (R80, R81). -/
structure StreamKey where
  epoch : Nat
  /-- SALT (24 bits). -/
  salt : Bytes
  /-- AES-256 key. -/
  key : Bytes
deriving DecidableEq, Repr

/-- A gap that was requested in a NACK (R85): SEQ and its requests so far. -/
structure Gap where
  seq : Nat
  requests : Nat
deriving DecidableEq, Repr

/-- STREAM_STATUS.STATE. -/
inductive StrState where
  | closed | opened | broken
deriving DecidableEq, Repr

/-- Codes of STREAM_STATUS.STATE. -/
def StrState.code : StrState → Nat
  | .closed => 0 | .opened => 1 | .broken => 2

/-- A page report that the next ACKs carry (R86): PAGE_ID, STATE, REASON. -/
structure PageReport where
  page : Nat
  state : Nat
  reason : Nat
deriving DecidableEq, Repr

/-- A stream (R78 to R88). -/
structure Stream where
  /-- STATE (2 bits; chapter 04; reset CLOSED). -/
  state : StrState := .closed
  /-- TRANSPORT (1 bit; STREAM_OPEN, 04; reset 0). -/
  pcie : Bool := false
  /-- PORTS (2 bits; STREAM_OPEN, 04; reset 0). -/
  ports : Nat := 0
  /-- PEER_UDP (16 bits; STREAM_OPEN, 04; reset 0). -/
  peerUdp : Nat := 0
  /-- WEIGHT (8 bits; R96, 04; reset 0). -/
  weight : Nat := 0
  /-- V, the stream's virtual time as a requestor (64 bits; R21, R96, 01; reset 0, the width is a choice). -/
  vtime : Nat := 0
  /-- QUOTA, MiB (32 bits; R93, 04; reset 0). -/
  quota : Nat := 0
  /-- PEER_ADDR (128 bits; STREAM_OPEN, 04; reset 0). -/
  peer : Bytes := List.replicate 16 0
  /-- Key of the current epoch (R81, 04; reset none). -/
  cur : Option StreamKey := none
  /-- Key of the next epoch, or, after the switch, none (R81, 04; reset none). -/
  next : Option StreamKey := none
  /-- Key of the epoch before the switch with the switch point's SEQ (R81, 04; reset none). -/
  old : Option (StreamKey × Nat) := none
  /-- L, the lowest SEQ not yet marked (64 bits; R82, 04; reset 1). -/
  low : Nat := 1
  /-- Marked SEQ above L (1,024-bit window; R82, 04; reset none). -/
  marks : List Nat := []
  /-- HIGH_SEQ (64 bits; chapter 04; reset 0). -/
  high : Nat := 0
  /-- Queued packets with their arriving port, 2 for PCIe (at most 64; R83, 04; reset none). -/
  queue : List (Nat × Bytes) := []
  /-- Gaps requested so far (R85, 04; reset none). -/
  gaps : List Gap := []
  /-- AUTH_FAIL, saturating (32 bits; chapter 04; reset 0). -/
  authFail : Nat := 0
  /-- DROPPED, saturating (32 bits; chapter 04; reset 0). -/
  dropped : Nat := 0
  /-- DUP_FRAGMENT, saturating (32 bits; R90, 04; reset 0). -/
  dupFrag : Nat := 0
  /-- SEQ of the next outbound packet (64 bits; R80, 04; reset 1). -/
  outSeq : Nat := 1
  /-- Port of the last authenticated packet (1 bit; R86, 04; reset 0). -/
  lastPort : Nat := 0
  /-- A packet was marked since the last ACK (1 bit; R86, 04; reset 0). -/
  ackDue : Bool := false
  /-- Page reports not yet sent, oldest first (R86, 04; reset none). -/
  reports : List PageReport := []
deriving DecidableEq, Repr

/-- Page states (R90). -/
inductive PgState where
  | receiving | complete | rejected
deriving DecidableEq, Repr

/-- STATE of the staging report. -/
def PgState.code : PgState → Nat
  | .receiving => 1 | .complete => 2 | .rejected => 3

/-- A band of a page as it arrives, in 64-byte units by index (R90). -/
structure BandBuf where
  station : Nat
  side : Nat
  band : Nat
  /-- BAND_LEN. -/
  len : Nat
  units : List (Nat × Bytes)
  /-- The band record's granule numbers, in order (21 bits each; R92). -/
  grans : List Nat := []
deriving DecidableEq, Repr

/-- A page of the band store (R89 to R95). -/
structure Page where
  stream : Nat
  id : Nat
  state : PgState := .receiving
  reason : Nat := 0
  /-- TOTAL_LEN once a manifest fragment has arrived (32 bits; R78, R93). -/
  total : Option Nat := none
  /-- Manifest bytes in 64-byte units by index (R90). -/
  manUnits : List (Nat × Bytes) := []
  /-- Bands in the order of their first fragments. -/
  bands : List BandBuf := []
  /-- The manifest bytes, once complete and in order with R89. -/
  manifest : Option Bytes := none
  /-- LARGEST_BAND and PEAK_COST by plane, once COMPLETE (R98). -/
  costs : List (Nat × Nat) := []
  /-- The granule numbers of the manifest, in order (21 bits each; R92). -/
  manGrans : List Nat := []
deriving DecidableEq, Repr

/-- The granules that a page holds: its manifest's, then its bands' in their order (R92, R93). -/
def Page.grans (p : Page) : List Nat := p.manGrans ++ p.bands.flatMap (·.grans)
/-- Granules charged (R93). -/
def Page.granules (p : Page) : Nat := p.grans.length
/-- A page gives up its granules and with them the bytes that they hold. -/
def Page.empty (p : Page) : Page :=
  { p with bands := [], manUnits := [], manifest := none, total := none, manGrans := [], costs := [] }

/-- An Ethernet port (R76, R77). -/
structure Port where
  /-- PORT_SET payload (256 bits; PORT_SET, 04; reset: speed from the module, Clause 108, untagged, MTU 9,000, UDP port
  47,240, no address; prefixes choice 8 and 16). -/
  set : Bytes := [0, 2, 0, 0, 0x28, 0x23, 0x88, 0xB8, 0, 0, 0, 0, 8, 16] ++ List.replicate 18 0
  /-- MAC address from OTP (48 bits; chapter 04; choice 0). -/
  mac : Bytes := List.replicate 6 0
  /-- Link up (1 bit; R77, 04; reset 0). -/
  link : Bool := false
  /-- Frames dropped under R76 (32 bits; R76, 04; reset 0; the width is a choice). -/
  dropped : Nat := 0
  /-- MALFORMED (32 bits; R83, 04; reset 0; the width is a choice). -/
  malformed : Nat := 0
  /-- UNKNOWN_STREAM (32 bits; R83, 04; reset 0; the width is a choice). -/
  unknown : Nat := 0
  /-- Answers given by Renune in the present second (chapter 04; reset 0). -/
  answers : Nat := 0
  /-- Second of TIME64 in which they were given. -/
  answerSec : Nat := 0
  /-- The last frame payload sent through the port: an ACK or a NACK packet (R85, R86; reset none). -/
  sent : Bytes := []
deriving DecidableEq, Repr

/-- The PTP master that the controller has selected (R99): its grandmaster data set and the port. -/
structure PtpMaster where
  /-- Announce bytes 47 to 62: priority1, clock quality, priority2, grandmaster identity, stepsRemoved. -/
  dataset : Bytes
  port : Nat
  /-- sourcePortIdentity (80 bits). -/
  src : Bytes := zeros 10
deriving DecidableEq, Repr

/-- A foreign master: what its last Announce said (R99). -/
structure PtpForeign where
  /-- sourcePortIdentity (80 bits). -/
  src : Bytes
  port : Nat
  dataset : Bytes
  /-- currentUtcOffset (16 bits). -/
  utc : Nat
  /-- TIME64 at which its last Announce arrived. -/
  at_ : Nat
  /-- A second Announce has come within the foreign master time window. -/
  qualified : Bool := false
deriving DecidableEq, Repr

/-- The exchange of event messages with the selected master (R99): time-stamps in TIME64 to 5 ns, and the master's
times in ns of the PTP epoch. -/
structure PtpExchange where
  /-- SEQUENCE of the last Sync, and its arrival t2 (64 bits; R99, 04; reset none). -/
  sync : Option (Nat × Nat) := none
  /-- The Sync was two-step and its Follow_Up is awaited (1 bit; R99, 04; reset 0). -/
  twoStep : Bool := false
  /-- Its correctionField, ns (64 bits; R99, 04; reset 0). -/
  corr : Int := 0
  /-- t1 of the last Sync with its corrections (R99, 04; reset none). -/
  t1 : Option Int := none
  /-- Sequence of the next Delay_Req (16 bits; R99, 04; reset 0). -/
  reqSeq : Nat := 0
  /-- The Delay_Req in flight: its sequence and its departure t3 (R99, 04; reset none). -/
  req : Option (Nat × Nat) := none
  /-- meanPathDelay and offsetFromMaster of the last complete exchange, ns (R99, R100, 04; reset none). -/
  result : Option (Int × Int) := none
deriving DecidableEq, Repr

/-- Raster intake. -/
structure Intake where
  /-- ST000 to ST255 (R78, 04). -/
  streams : List Stream := List.replicate 256 {}
  /-- Installed DRAM in MiB (R119, 05; choice 16,384). -/
  dramMiB : Nat := 16384
  /-- Pages of the band store, oldest first, at most 8,192 (R92, 04; reset none). -/
  pages : List Page := []
  /-- E0 and E1 (R76, 04). -/
  ports : List Port := [{}, {}]
  /-- The selected PTP master (R99, 04; reset none). -/
  master : Option PtpMaster := none
  /-- The foreign masters heard, at most one entry per port identity (R99, 04; reset none). -/
  foreign : List PtpForeign := []
  /-- The exchange of event messages with the master (R99, 04; reset none). -/
  ptp : PtpExchange := {}
  /-- MALFORMED and UNKNOWN_STREAM packets of the intake aperture (R83, R88, 04; reset 0). -/
  pcieBad : Nat := 0
  /-- Current UTC offset of the master, s (16 bits; R364, 17; choice 0). -/
  utcOffset : Nat := 0
deriving DecidableEq, Repr

/-- What the source reads of a DMA descriptor returned (R353, R355). -/
structure DmaDesc where
  /-- Ring index of the descriptor (12 bits; R350). -/
  index : Nat
  /-- The descriptor's 32 bytes (R346). -/
  bytes : Bytes
  /-- What its source reads return. -/
  read : DmaRead
  /-- It has started (R354). -/
  started : Bool := false
  /-- A CODEC job of it still runs in the general engine (R352). -/
  codec : Bool := false
deriving DecidableEq, Repr

/-- A DMA ring (R346 to R356). -/
structure DmaRing where
  /-- DnBASE_LO.ADDR and DnBASE_HI (52 and 12 address bits; R73, 03; reset 0). -/
  base : Nat := 0
  /-- DnCFG.LOG2N (4 bits; R73, 03; reset 5). -/
  log2n : Nat := 5
  /-- DnCFG.WEIGHT (8 bits; R21, 03; reset 16). -/
  weight : Nat := 16
  /-- DnCFG.ENABLE (1 bit; R73, 03; reset 0). -/
  enable : Bool := false
  /-- DnSTAT.CI (12 bits; R350, 03; reset 0). -/
  ci : Nat := 0
  /-- DnSTAT.RUN (1 bit; R350, 03; reset 0). -/
  run : Bool := false
  /-- DnSTAT.HALTED (1 bit; R354, 03; reset 0). -/
  halted : Bool := false
  /-- DnSTAT.ERR (4 bits; R355, 03; reset 0). -/
  err : Nat := 0
  /-- DnSTAT.CFGERR (1 bit; R73, 03; reset 0). -/
  cfgErr : Bool := false
  /-- DnDONE.COUNT (32 bits; chapter 16; reset 0). -/
  done : Nat := 0
  /-- DnERRADDR (64 bits; R355, 16; reset 0). -/
  errAddr : Nat := 0
  /-- DnSTAT2.WAKE: a doorbell is pending (1 bit; R350, 16; reset 0). -/
  wake : Bool := false
  /-- The ring has stopped fetching at a descriptor it does not own (R350, 16; reset 0). -/
  idle : Bool := false
  /-- A STOP waits for the next descriptor boundary: its ERR code, 0 none (R354, R356, 16; reset 0). -/
  stopErr : Nat := 0
  /-- A doorbell waits for a held setup write of the ring to apply (1 bit; R73, 03; reset 0). -/
  doorHeld : Bool := false
  /-- A STOP waits for a held setup write of the ring to apply (1 bit; R73, 03; reset 0). -/
  stopHeld : Bool := false
  /-- Descriptors fetched and not returned, oldest first, at most 32 (R350, 16; reset none). -/
  fetched : List DmaDesc := []
deriving DecidableEq, Repr

/-- A capture set (R120): its bytes as the capture aperture reads them. -/
structure CaptureSet where
  /-- CAPSET (8 bits; R120, 05). -/
  num : Nat
  bytes : Bytes
deriving DecidableEq, Repr

/-- The DMA rings. -/
structure Dma where
  /-- D0 to D7 (R346, 16). -/
  rings : List DmaRing := List.replicate 8 {}
  /-- Rings whose CODEC descriptors wait for or run in the general engine, in arrival order (R123, 05; reset none). -/
  jobs : List Nat := []
  /-- Coded blocks that the general engine discarded for a mismatch and counted, saturating at 16 bits (R117; the spec
  gives this count no register; reset 0). -/
  verify : Nat := 0
deriving DecidableEq, Repr

end Sys2Proof.Machine
end

