-- ==== Sys2Proof/Machine/StImaging.lean ====
section
/-!
DEFINITION. State of the stations: imaging profiles, screens, correction and history banks, the line store, the sides
in progress, the beam link (chapters 05, 06, 07), and of the Weavers and polygons (chapter 08).
-/
namespace Sys2Proof.Machine

/-- Screen slot states (R132). -/
inductive ScrState where
  | empty | loading | loaded
deriving DecidableEq, Repr

/-- SCREEN_INFO.STATE. -/
def ScrState.code : ScrState → Nat
  | .empty => 0 | .loading => 1 | .loaded => 2

/-- A screen slot. -/
structure Screen where
  /-- STATE (2 bits; R132, 06; reset EMPTY). -/
  state : ScrState := .empty
  /-- W, H, ORG_X, ORG_Y and the thresholds, as the SCREEN_LOAD payload holds them (245,776 bytes; R131, 06; reset
  none). -/
  data : Bytes := []
deriving DecidableEq, Repr

/-- An ECM bank with its zone phase table (R137, R139, R140). -/
structure EcmBank where
  /-- The ECM_LOAD payload: entries, then phases; bytes beyond the list are 0 (24,672 bytes; R137, R139, 06; reset 0). -/
  data : Bytes := []
  /-- LEDGER_SEQ of the load that filled the bank (64 bits; R140, 06; reset 0). -/
  seq : Nat := 0
deriving DecidableEq, Repr

/-- A history class after reset, as a HISTORY_LOAD payload (R152). -/
def defaultClass : Bytes :=
  [4, 2, 1, 1, 3, 1, 0, 0] ++ (List.range 15).flatMap (fun k => le 2 (12 * (k + 1))) ++ [0, 0]
    ++ (List.range 256).map fun i => if i < 16 then 0 else BitVec.ofNat 8 (16 + i / 16)

/-- A history bank (R152, R153). -/
structure HistBank where
  /-- Classes 0 to 3 as HISTORY_LOAD payloads (296 bytes each; R152, 07; reset per R152). -/
  classes : List Bytes := List.replicate 4 defaultClass
  /-- LEDGER_SEQ of the last load into the bank (64 bits; R153, 07; reset 0). -/
  seq : Nat := 0
deriving DecidableEq, Repr

/-- Lane states (lane-states table). -/
inductive LnState where
  | down | locking | ident | config | up | lpi | wake | failed
deriving DecidableEq, Repr

/-- STs_LINK.STATE. -/
def LnState.code : LnState → Nat
  | .down => 0 | .locking => 1 | .ident => 2 | .config => 3 | .up => 4 | .lpi => 5 | .wake => 6 | .failed => 7

/-- A beam-link lane and what its driver module reported (R159 to R173). -/
structure Lane where
  /-- STATE (4 bits; R172, 07; reset DOWN). -/
  state : LnState := .down
  /-- Consecutive failed training attempts (2 bits; R172, 07; reset 0). -/
  bad : Nat := 0
  /-- Failed training attempts since reset (8 bits; LINK_STATUS, 07; reset 0; the width is a choice). -/
  fails : Nat := 0
  /-- MAKER (16 bits; R167, 07; reset 0). -/
  maker : Nat := 0
  /-- MODEL (16 bits; R167, 07; reset 0). -/
  model : Nat := 0
  /-- Last module temperature, °C (8 bits; R167, 07; reset 0). -/
  temp : Int := 0
  /-- DRIVE_MAX of the module (12 bits; R167, 07; reset 0). -/
  driveMax : Nat := 0
  /-- The last 64 control blocks sent, oldest first, each its type and payload (64 bits each; R159, 07; reset IDLE). -/
  sent : List (Nat × Nat) := [(0x1E, 0)]
  /-- CMD blocks that wait for the SWEEP_END of the sweep on the lane (R161, 07; reset none). -/
  wait : List (Nat × Nat) := []
deriving DecidableEq, Repr

/-- The last control block sent on a lane. -/
def Lane.last (l : Lane) : Nat × Nat := l.sent.getLastD (0x1E, 0)
/-- Control blocks are sent on a lane. -/
def Lane.put (l : Lane) (bs : List (Nat × Nat)) : Lane :=
  { l with sent := (l.sent ++ bs).drop (l.sent.length + bs.length - 64) }

/-- A POLL whose frame is awaited (R167). -/
structure Poll where
  lane : Nat
  /-- 1 STATUS, 2 IDENT. -/
  kind : Nat
  seq : Nat
  /-- The poll belongs to the status round of a sweep (R168). -/
  round : Bool
  /-- It is the one re-poll (R167). -/
  again : Bool := false
deriving DecidableEq, Repr

/-- The sweep that a status round judges (R168): its side, the causes known before the round, and whether it already
counts as bad. -/
structure Judged where
  sheet : Nat
  side : Nat
  causes : List Nat
  bad : Bool := false
  /-- Its work-tag SWEEP (27 bits; R11, R12). -/
  sweep : Nat := 0
deriving DecidableEq, Repr

/-- A TAG_MISMATCH as it is reported (R12): the work tags expected and received, none where nothing was there. -/
structure TagReport where
  expected : Nat
  received : Option Nat
deriving DecidableEq, Repr

/-- A line slot of the line store (R134). -/
structure LineSlot where
  /-- Slot number, 0 to 255. -/
  num : Nat
  sheet : Nat
  side : Nat
  band : Nat
  line : Nat
  /-- The slot is marked absent (R134). -/
  absent : Bool
  /-- Exposure codes of positions 0 to WIDTH_PX x UPX - 1 (4 bits each). -/
  codes : List Nat
deriving DecidableEq, Repr

/-- A side whose schedule is fixed and whose last sweep has not ended (R141, R210). -/
structure Side where
  sheet : Nat
  side : Nat
  stream : Nat
  page : Nat
  /-- SWEEP of the side's sweep 0 (R210). -/
  n0 : Nat
  placeY : Int
  x0 : Int
  bands : Nat
  bits : Nat
  width : Nat
  /-- WA when the schedule was fixed. -/
  wa : Nat
  /-- The side's copy of its profile (R129). -/
  profile : Bytes
  /-- ECM bank and history bank that the side uses (R140, R153). -/
  ecm : Nat
  hist : Nat
  /-- Sweep starts since the schedule was fixed (R111). -/
  starts : Nat := 0
  /-- Bands whose decoding has started, in order; the first is in progress (R111, R113). -/
  decoding : List Nat := []
  /-- Next band to be started (R111). -/
  nextBand : Nat := 0
  /-- Absent bands with their causes (R112). -/
  absent : List (Nat × Nat) := []
  /-- Sweeps of the side ended so far. -/
  done : Nat := 0
  /-- Beams 60 to 63 of the sweep before, empty for a sweep without codes (R151). -/
  tail : List (List Nat) := []
  /-- Bytes of the fired-image digest so far (R157). -/
  digest : Bytes := []
  /-- side_err, 1/16 line (R194). -/
  err : Int := 0
  /-- OVERSPEED has been posted (R194). -/
  overDone : Bool := false
  /-- UNDERSPEED has been posted (R194). -/
  under : Bool := false
  /-- First cause that the exposure stage posted, 0 none (R155). -/
  cause : Nat := 0
  /-- CORR_CLAMP has been raised (R143). -/
  clamped : Bool := false
  /-- Largest band cost decoded (STs_COST.PEAK). -/
  peak : Nat := 0
  /-- Capture set number of a captured side (R120). -/
  capset : Option Nat := none
  /-- Captured bands so far (R118). -/
  capBands : List Bytes := []
  /-- CAPTURE_BAD and ABORTED of the set (R120, R122). -/
  capBad : Bool := false
  capAborted : Bool := false
deriving DecidableEq, Repr

/-- The sweep in progress of a side, from its sweep start to its end (R161 to R164). -/
structure Sweep where
  /-- Sweep n of the side. -/
  n : Nat
  /-- SWEEP_START has been sent. -/
  sent : Bool := false
  /-- Exposure codes after substitution, 64 beams of 8G positions (R150, R155). -/
  codes : List (List Nat) := []
  /-- The 384 bytes of each group sent so far (R160). -/
  groups : List Bytes := []
  /-- STBs stops after the current group (R195, R441). -/
  stop : Bool := false
  /-- Causes known so far that are posted at the status round (R155). -/
  causes : List Nat := []
deriving DecidableEq, Repr

/-- Weaver scan states. -/
inductive WState where
  | off | spinup | acquire | tracking | locked | fault
deriving DecidableEq, Repr

/-- STs_SCAN.STATE. -/
def WState.code : WState → Nat
  | .off => 0 | .spinup => 1 | .acquire => 2 | .tracking => 3 | .locked => 4 | .fault => 5

/-- A Weaver (R176 to R196). -/
structure Weaver where
  /-- SCAN_SET payload (192 bits; R197, 08; reset none). -/
  set : Option Bytes := none
  /-- DLY_ADD[0..11] in use, FACET_LOAD payload (16 bytes; R186, 08; reset 0). -/
  facets : Bytes := zeros 16
  /-- A FACET_LOAD that waits for the next side (R188, 08; reset none). -/
  facetsNext : Option Bytes := none
  /-- STs_SCAN.STATE (3 bits; R184, 08; reset OFF). -/
  state : WState := .off
  /-- Edge times t_BD since TRACKING, newest first, tu, as far back as four revolutions (48 bits each; R183, 08; reset
  none). -/
  edges : List Nat := []
  /-- Edges counted since TRACKING (R187, 08; reset 0). -/
  count : Nat := 0
  /-- Edges counted since LOCKED (R184, 08; reset 0). -/
  locked : Nat := 0
  /-- The predicted edge, tu, while its window is open (48 bits; R183, 08; reset none). -/
  that : Option Nat := none
  /-- Consecutive valid edges in BD_WIN windows (6 bits; R184, 08; reset 0). -/
  valid : Nat := 0
  /-- Consecutive missing edges (3 bits; R182, 08; reset 0). -/
  missing : Nat := 0
  /-- T_rev, tu (32 bits; R183, 08; reset 0). -/
  trev : Nat := 0
  /-- STs_TRACK.STRAY, saturating (16 bits; R181, 08; reset 0). -/
  stray : Nat := 0
  /-- STs_BD.BRIDGED, saturating (16 bits; R182, 08; reset 0). -/
  bridged : Nat := 0
  /-- STs_BD.ABORTED, saturating (16 bits; R182, 08; reset 0). -/
  aborted : Nat := 0
  /-- Work-tag SWEEP (27 bits; R11, R184, 08; reset 0). -/
  sweep : Nat := 0
  /-- LOCKED has been entered since the last SCAN_START (1 bit; R184, 08; reset 0). -/
  wasLocked : Bool := false
  /-- Instant of the last sweep start, tu; none since SCAN_START (48 bits; R193, 08; reset none). -/
  lastStart : Option Nat := none
  /-- Belt count latched at the last sweep start (R184, 08; reset 0). -/
  pos : Int := 0
  /-- BELT16 latched at the last sweep start (R210, 09; reset 0). -/
  belt16 : Int := 0
  /-- PERIOD, 1/16 ps (20 bits; R190, 08; reset 0). -/
  period : Nat := 0
  /-- S_ref, tu (48 bits; R190, 08; reset 0). -/
  sRef : Nat := 0
  /-- STs_SCAN.FACET (4 bits; R186, 08; reset 0). -/
  facet : Nat := 0
  /-- Facet of counter position 0 once identified (4 bits; R187, 08; reset none). -/
  ident : Option Nat := none
  /-- Edges gathered for the present identification (R187, 08; reset 0). -/
  gathered : Nat := 0
  /-- Failed identification attempts (5 bits; R187, 08; reset 0). -/
  idFails : Nat := 0
  /-- Consecutive revolutions in which the check of R189 failed (3 bits; R189, 08; reset 0). -/
  idBad : Nat := 0
  /-- An index pulse has been latched since the last edge (1 bit; R186, 08; reset 0). -/
  indexSeen : Bool := false
  /-- Failed lightings in ACQUIRE (4 bits; R185, 08; reset 0). -/
  acqFails : Nat := 0
  /-- BD_BEAM is lit for the present attempt of ACQUIRE (1 bit; R184, R185, 08; reset 0). -/
  lit : Bool := false
  /-- Consecutive sweeps within 0.05 % of the setpoint, up to 64 (7 bits; R196, 08; reset 0). -/
  speedRun : Nat := 0
  /-- Predicted TIME64 of the next two sweep starts (64 bits each; R196, 08; reset 0). -/
  next : List Nat := [0, 0]
  /-- STs_SPDERR.OVER, saturating (16 bits; R194, 08; reset 0). -/
  overCnt : Nat := 0
  /-- STs_SPDERR.UNDER, saturating (16 bits; R194, 08; reset 0). -/
  under : Nat := 0
  /-- Sweeps since the last LIFE update (R383, 18; reset 0; the model's own count). -/
  lifeSweeps : Nat := 0
deriving DecidableEq, Repr

/-- A station (chapters 05 to 08). -/
structure Station where
  /-- Imaging profiles 0 to 15 (64 bits each; R127, 06; reset: profile 0 per R127, the others EMPTY). -/
  profiles : List Bytes := [2, 1, 15, 0, 0xE4, 0, 0, 0] :: List.replicate 15 (zeros 8)
  /-- Screen slots 0 to 3 (R132, 06). -/
  screens : List Screen := List.replicate 4 {}
  /-- ECM banks 0 and 1 (R140, 06). -/
  ecm : List EcmBank := [{}, {}]
  /-- STs_ECM.BANK (1 bit; R140, 06; reset 0). -/
  ecmActive : Nat := 0
  /-- History banks 0 and 1 (R153, 07). -/
  hist : List HistBank := [{}, {}]
  /-- STs_HIST.BANK (1 bit; R153, 07; reset 0). -/
  histActive : Nat := 0
  /-- Static delays d_b in use (64 × 6 bits; R146, R175, 07; choice 0). -/
  delays : Bytes := zeros 64
  /-- LEDGER_SEQ of the DELAY_LOAD in use (64 bits; R175, 07; reset 0). -/
  delaySeq : Nat := 0
  /-- A DELAY_LOAD that waits for the next side, with its LEDGER_SEQ (R175, 07; reset none). -/
  delayNext : Option (Bytes × Nat) := none
  /-- Taken delays wait to be sent as DELAY_SET (1 bit; R175, 07; reset 0). -/
  delaySend : Bool := false
  /-- Lanes 0 to 3 (R172, 07). -/
  lanes : List Lane := List.replicate 4 {}
  /-- LINK_SET lane enable mask (4 bits; LINK_SET, 07; reset 0xF, the default). -/
  laneMask : Nat := 15
  /-- LPI_MIN, ms (16 bits; R173, 07; reset 10, the default). -/
  lpiMin : Nat := 10
  /-- STs_LINK.RETRAINS, saturating (16 bits; R172, 07; reset 0). -/
  retrains : Nat := 0
  /-- POLLs on the back-channel, the first one awaited (R167, 07; reset none). -/
  polls : List Poll := []
  /-- Next POLL SEQ (8 bits; R167, 07; choice 0). -/
  pollSeq : Nat := 0
  /-- STs_LINKERR.BAD_SWEEPS, saturating (16 bits; R168, 07; reset 0). -/
  badSweeps : Nat := 0
  /-- STs_LINKERR.BK_ERR, saturating (16 bits; R167, 07; reset 0). -/
  bkErr : Nat := 0
  /-- The sweep that the present status round judges (R168, 07; reset none). -/
  judged : Option Judged := none
  /-- APC_TARGET payload in force (136 bytes; R171, 07; reset: every T 0, the other fields their defaults). -/
  apc : Bytes := zeros 128 ++ [64, 16, 64, 0, 0, 0, 0, 0]
  /-- DRIVE of beams 0 to 63 (12 bits each; R169, 07; choice 0). -/
  drive : List Nat := List.replicate 64 0
  /-- Last photodiode readings (12 bits each; R169, 07; reset 0). -/
  pd : List Nat := List.replicate 64 0
  /-- LASER_WEAK flags (64 bits; R171, 07; reset 0). -/
  weak : List Bool := List.replicate 64 false
  /-- Dark flags (64 bits; R171, 07; reset 0). -/
  dark : List Bool := List.replicate 64 false
  /-- Exchange counter k modulo 16 (4 bits; R169, 07; reset 0). -/
  apcK : Nat := 0
  /-- An exchange has run whose status frames are awaited (1 bit; R169, 07; reset 0). -/
  apcRuns : Bool := false
  /-- STs_APC.SKIPPED, saturating (16 bits; R170, 07; reset 0). -/
  apcSkipped : Nat := 0
  /-- The line store: slots written so far (256 slots; R134, 06; reset none). -/
  slots : List LineSlot := []
  /-- Sides in progress in schedule order (R140, 06; reset none). -/
  sides : List Side := []
  /-- The sweep in progress (R161, 07; reset none). -/
  sweep : Option Sweep := none
  /-- STs_TAG_LO and _HI (64 bits; R11, 03; reset 0). -/
  tag : Nat := 0
  /-- STs_DEC.BANDS (32 bits; R112, 05; reset 0). -/
  decBands : Nat := 0
  /-- STs_DEC_ERR.CAUSE (8 bits; R109, 05; reset 0). -/
  decCause : Nat := 0
  /-- STs_DEC_ERR.COUNT, saturating (16 bits; R112, 05; reset 0). -/
  decErr : Nat := 0
  /-- STs_CAP.BANDS, saturating (16 bits; R118, 05; reset 0). -/
  capBands : Nat := 0
  /-- STs_CAP.RAW, saturating (16 bits; R115, 05; reset 0). -/
  capRaw : Nat := 0
  /-- STs_CAP_ERR.VERIFY, saturating (16 bits; R117, 05; reset 0). -/
  capVerify : Nat := 0
  /-- STs_CAP_ERR.BAD_SIDES, saturating (16 bits; R122, 05; reset 0). -/
  capBad : Nat := 0
  /-- STs_CORR.CLAMP, saturating (16 bits; R143, 06; reset 0). -/
  clamp : Nat := 0
  /-- STs_CORR.TRIMSAT, saturating (16 bits; R143, 06; reset 0). -/
  trimSat : Nat := 0
  /-- STs_LS.ABSENT, saturating (16 bits; R134, 06; reset 0). -/
  lsAbsent : Nat := 0
  /-- STs_LS.ECC, saturating (16 bits; R14, 06; reset 0). -/
  lsEcc : Nat := 0
  /-- STs_EXPO.GROUP_LATE, saturating (16 bits; R164, 07; reset 0). -/
  groupLate : Nat := 0
  /-- STs_SPOIL.UNDERRUN, saturating (16 bits; R155, 03; reset 0). -/
  underrun : Nat := 0
  /-- STs_SPOIL.SIDES, saturating (16 bits; chapter 03; reset 0). -/
  spoiled : Nat := 0
  /-- Peak band cost of the last side, clocks (STs_COST.PEAK; chapter 03; reset 0). -/
  peak : Nat := 0
  /-- D_s of the last completed side, snapshot select 0x0200 + s (384 bits; R158, 07; reset 0). -/
  sideDigest : Bytes := zeros 48
  /-- Band digest of the last sweep, snapshot select 0x0210 + s (128 bits; R459, 23; reset 0). -/
  bandDigest : Bytes := zeros 16
  /-- STROBED of the last sweep (12 bits; R460, 23; reset 0). -/
  lastStrobed : Nat := 0
  /-- The screen store took an uncorrectable error and waits for a reload (1 bit; R14, 01; reset 0). -/
  screenOut : Bool := false
  /-- The correction tables took one and wait for a reload (1 bit; R14, 01; reset 0). -/
  corrOut : Bool := false
  /-- The last TAG_MISMATCH reported, with its tags (R12, 01; reset none). -/
  tagReport : Option TagReport := none
  /-- An APC_TARGET payload that waits for the exchange in progress to end (R171, 07; reset none). -/
  apcNext : Option Bytes := none
  /-- Sums and numbers of the DRIVE values set since the last LASER_TREND, by beam (R171, R384, 18; reset 0). -/
  driveSum : List Nat := List.replicate 64 0
  driveCount : List Nat := List.replicate 64 0
  /-- The Weaver. -/
  weaver : Weaver := {}
  /-- Sides imaged since the last LIFE update (R383, 18; reset 0; the model's own count). -/
  lifeSides : Nat := 0
deriving DecidableEq, Repr

/-- The station is out of service until the region that took an uncorrectable error is reloaded (R14). -/
def Station.outOfService (x : Station) : Bool := x.screenOut || x.corrOut

/-- FACET_LEARN in progress (R199): intervals left, the sums of the intervals by counter position and of the
revolution periods. -/
structure Learn where
  left : Nat
  sums : List Nat
  total : Nat
deriving DecidableEq, Repr

/-- A polygon P0 to P2 (R177, R193). -/
structure Polygon where
  /-- POLYGON_SET payload (384 bits; R197, 08; reset none). -/
  set : Option Bytes := none
  /-- Planned speed v, um/s; 0 none (21 bits; R178, 08; reset 0). -/
  v : Nat := 0
  /-- K (5 bits; R177, 08; reset 0). -/
  k : Nat := 0
  /-- RPM100_NOM, 0.01 rpm (R193, 08; reset 0). -/
  rpmNom : Nat := 0
  /-- T_NOM, tu (R193, 08; reset 0). -/
  tNom : Nat := 0
  /-- rpm100_set (R193, 08; reset 0). -/
  rpmSet : Int := 0
  /-- q, 2^-16 (R193, 08; reset 65,536). -/
  q : Int := 65536
  /-- qb, 2^-16 (R193, 08; reset 65,536). -/
  qb : Int := 65536
  /-- perr, 1/16 line (R193, 08; reset 0). -/
  perr : Int := 0
  /-- Consecutive sweeps with qb out of range (7 bits; R218, 09; reset 0). -/
  qbRun : Nat := 0
  /-- FACET_LEARN in progress (R199, 08; reset none). -/
  learn : Option Learn := none
  /-- Planned speed before the SCAN_START that is running, 0 none (21 bits; R45, 08; reset 0). -/
  vPrev : Nat := 0
  /-- Revolutions since the last LIFE update (R383, 18; reset 0; the model's own count). -/
  lifeRevs : Nat := 0
deriving DecidableEq, Repr

/-- The stations and polygons. -/
structure Imaging where
  /-- S0 to S4. -/
  stations : List Station := List.replicate 5 {}
  /-- P0 to P2. -/
  polygons : List Polygon := List.replicate 3 {}
  /-- Capture sets held, by CAPSET (R120, R121, 05; reset none). -/
  captures : List CaptureSet := []
deriving DecidableEq, Repr

end Sys2Proof.Machine
end

