-- ==== Sys2Proof/Machine/StSheets.lean ====
section
/-!
DEFINITION. State of jobs, sheets, the launch gate and calibration (chapter 09).
-/
namespace Sys2Proof.Machine

/-- Sheet states (R200). -/
inductive ShState where
  | planned | staged | admitted | launched | committed | imaged | fused | delivered | spoiled | lost
deriving DecidableEq, Repr

/-- Codes of the sheet-states table. -/
def ShState.code : ShState → Nat
  | .planned => 1 | .staged => 2 | .admitted => 3 | .launched => 4 | .committed => 5 | .imaged => 6 | .fused => 7
  | .delivered => 8 | .spoiled => 9 | .lost => 10

/-- DELIVERED, SPOILED and LOST. -/
def ShState.terminal (x : ShState) : Bool := decide (8 ≤ x.code)
/-- LAUNCHED to FUSED. -/
def ShState.running (x : ShState) : Bool := decide (4 ≤ x.code) && decide (x.code ≤ 7)
/-- ADMITTED to FUSED. -/
def ShState.inFlight (x : ShState) : Bool := decide (3 ≤ x.code) && decide (x.code ≤ 7)

/-- A station side of a sheet: what it reserves, what its record says (R205, R219). -/
structure SideRec where
  station : Nat
  side : Nat
  /-- Plane of the page: BANDS, SYMBOL_BITS, WIDTH_PX (R89). -/
  bands : Nat := 0
  bits : Nat := 0
  width : Nat := 0
  /-- The copy of the profile taken at admission (R129). -/
  profile : Bytes := []
  /-- P_s once the side's edge is matched (R210). -/
  p : Option Int := none
  /-- The schedule is fixed (R210). -/
  fixed : Bool := false
  /-- The last sweep has ended. -/
  ended : Bool := false
  /-- PRESENT (8 bits; R219). -/
  present : Nat := 0
  /-- SIDE_CAUSE (8 bits; R219). -/
  cause : Nat := 0
  placeY : Int := 0
  x0 : Int := 0
  sweep0 : Nat := 0
  /-- CAPSET, 0xFFFF none (R219). -/
  capset : Nat := 0xFFFF
  /-- Granules of the capture area held (R121). -/
  granules : Nat := 0
  ecmSeq : Nat := 0
  histSeq : Nat := 0
  delaySeq : Nat := 0
  /-- D_s (R157). -/
  digest : Bytes := zeros 48
deriving DecidableEq, Repr

/-- A sheet (R200 to R219). -/
structure Sheet where
  /-- SHEET_ID (16 bits; R202). -/
  id : Nat
  job : Nat
  jobSeq : Nat
  stream : Nat
  page : Nat
  /-- LEN, 0.1 mm. -/
  len : Nat
  duplex : Bool
  /-- LEDGER_SEQ of its SHEET_ADD (R203). -/
  addSeq : Nat
  state : ShState := .planned
  cause : Nat := 0
  /-- CAUSE_SRC: station, 6 launch gate, 7 none (R219). -/
  causeSrc : Nat := 7
  /-- IN_OUTPUT (R213). -/
  inOutput : Bool := false
  /-- BLANK (R207, R215). -/
  blank : Bool := false
  /-- SPOIL_PENDING (R200). -/
  spoil : Bool := false
  reprintNo : Nat := 0
  orig : Nat := 0
  speed : Nat := 0
  tAdmit : Nat := 0
  tCommit : Nat := 0
  tEnd : Nat := 0
  edge16 : Int := 0
  recordSeq : Nat := 0
  /-- WAIT (R204, R205). -/
  wait : Nat := 0
  /-- The staging code for which EV072 has pulsed, 0 none (R204). -/
  blockedBy : Nat := 0
  /-- G, 1/16 line of belt (R205). -/
  gate : Int := 0
  /-- Real-time slots held per station (R20, R205). -/
  slots : List Nat := [0, 0, 0, 0, 0]
  /-- The front edge has been matched (R209). -/
  frontEdge : Bool := false
  /-- The back edge has been matched (R209). -/
  backEdge : Bool := false
  /-- The route decided at G + DIVERT16: true spoil (R213). -/
  route : Option Bool := none
  /-- Captured: CAPTURE_EVERY names it and the capture area is not empty (R119). -/
  capture : Bool := false
  /-- The HV and FUSER causes have been posted (R207). -/
  hvLost : Bool := false
  fuserLost : Bool := false
  /-- The station sides it images, in the order of p = 2 × STATION + SIDE. -/
  sides : List SideRec := []
deriving DecidableEq, Repr

/-- Job states (R201). -/
inductive JState where
  | opened | closed | ended
deriving DecidableEq, Repr

/-- JOB_STATUS.STATE. -/
def JState.code : JState → Nat
  | .opened => 0 | .closed => 1 | .ended => 2

/-- A job (R201): its JOB_OPEN payload and its sheets in queue order. -/
structure Job where
  num : Nat
  /-- JOB_OPEN payload (128 bits). -/
  set : Bytes
  state : JState := .opened
  held : Bool := false
  /-- SHEET_IDs in the order of the queue (R203, R216). -/
  sheets : List Nat := []
  /-- Sheets added so far: the next JOB_SEQ (R219). -/
  added : Nat := 0
  /-- Reprints created so far per original SHEET_ID (R216). -/
  reprints : List (Nat × Nat) := []
  /-- A job that CAL_RUN opened (R220). -/
  cal : Bool := false
deriving DecidableEq, Repr

/-- What R147 makes of a placement map: PHASE by zone, d by beam, ISHIFT by beam and zone, and the largest absolute
residual D - 64 x ISHIFT - PHASE - d. -/
structure Split where
  phase : List Int := []
  delay : List Int := []
  shift : List (List Int) := []
  residual : Nat := 0
deriving DecidableEq, Repr

/-- A calibration proposal (R221, R222). -/
structure Proposal where
  /-- 1 registration, 2 density. -/
  kind : Nat
  /-- Proposed REG_Y16 and REG_X64 per station. -/
  regs : List (Int × Int)
  /-- Proposed ECM_LOAD payloads per station, empty for none. -/
  ecms : List Bytes
  /-- Proposed APC_TARGET payloads per station, empty for none. -/
  apcs : List Bytes
  /-- A value of the proposal was clamped (R221). -/
  clamped : Bool
  /-- By station: the split of the placement map of a registration, with its largest residual (R147). -/
  splits : List Split := []
deriving DecidableEq, Repr

/-- Jobs, sheets and the launch gate. -/
structure Sheets where
  /-- Jobs held, by number (at most 256; R201, 09; reset none). -/
  jobs : List Job := []
  /-- Sheets of unreleased jobs, oldest first (R201, R202, 09; reset none). -/
  sheets : List Sheet := []
  /-- Next SHEET_ID (16 bits; R202, 09; choice 0). -/
  nextId : Nat := 0
  /-- PATH_SET payload (384 bits; R205, 09; reset none). -/
  path : Option Bytes := none
  /-- REG_Y16_s (16 bits each; R223, 09; reset 0). -/
  regY : List Int := [0, 0, 0, 0, 0]
  /-- REG_X64_s (32 bits each; R223, 09; reset 0). -/
  regX : List Int := [0, 0, 0, 0, 0]
  /-- SPEED_HOLD (1 bit; R218, 09; reset 0). -/
  speedHold : Bool := false
  /-- A late spoil whose fault LATE_SPOIL is about to be raised (1 bit; R213, 09; reset 0). -/
  lateDue : Bool := false
  /-- CAL_RUN in progress: its payload (192 bits; R220, 09; reset none). -/
  calRun : Option Bytes := none
  /-- The job of the last CAL_RUN (8 bits; R200, R220, 09; reset 0). -/
  calJob : Nat := 0
  /-- The proposal held (R223, 09; reset none). -/
  proposal : Option Proposal := none
deriving DecidableEq, Repr

end Sys2Proof.Machine
end

