-- ==== Sys2Proof/Machine/StPair.lean ====
section
/-!
DEFINITION. State of the redundant pair (chapter 23) and of the background services (chapter 18).
-/
namespace Sys2Proof.Machine

/-! ## The pair -/

/-- Pair roles (R452). -/
inductive PRole where
  | single | active | standby | unfit
deriving DecidableEq, Repr

/-- PAIR_STATE.ROLE. -/
def PRole.code : PRole → Nat
  | .single => 0 | .active => 1 | .standby => 2 | .unfit => 3

/-- A REPORT of the ACTIVE on a sweep (R460): station, SWEEP, STROBED and the band digest. -/
structure SweepReport where
  station : Nat
  sweep : Nat
  strobed : Nat
  digest : Bytes
deriving DecidableEq, Repr

/-- A frame of the pair link as this controller sends it (R454, R459, R467): ROLE, highest fault class, TIME64 and the groups
strobed per station; a forwarded packet with its arriving port; station, SWEEP, STROBED and the band digest; T; CKPT_SEQ, its
hash and its signature. A MIRROR frame is held beside the ledger (`Ledger.mirrored`). -/
inductive PairFrame where
  | heartbeat (role cls time : Nat) (groups : List Nat)
  | forward (port : Nat) (packet : Bytes)
  | report (r : SweepReport)
  | declare (t : Nat)
  | ckpt (seq : Nat) (hash sig : Bytes)
deriving DecidableEq, Repr

/-- KIND of a frame (R454). -/
def PairFrame.kind : PairFrame → Nat
  | .heartbeat _ _ _ _ => 1 | .forward _ _ => 2 | .report _ => 4 | .declare _ => 5 | .ckpt _ _ _ => 6

/-- The redundant pair. -/
structure Pair where
  /-- PEER_SERIAL in MRAM (128 bits; R471, 23; reset 0, not paired). -/
  peerSerial : Bytes := zeros 16
  /-- ENABLE in MRAM, in force from the next controller reset (1 bit; R471, 23; reset 0, not paired). -/
  stored : Bool := false
  /-- The controller is paired in this boot: SYS_CAPS.PAIR (1 bit; R452, 23; reset 0). -/
  paired : Bool := false
  /-- PAIR_STATE.ROLE (2 bits; R452, 23; reset SINGLE). -/
  role : PRole := .single
  /-- A paired controller has taken its role since its boot (1 bit; R452, 23; reset 0). -/
  roleTaken : Bool := false
  /-- The OWN output is high (1 bit; R455, 23; reset 0). -/
  own : Bool := false
  /-- PAIR_STATE.LINK (1 bit; chapter 23; reset 0). -/
  link : Bool := false
  /-- PAIR_STATE.PEER_HB (1 bit; R456, 23; reset 0). -/
  peerHb : Bool := false
  /-- PAIR_STATE.FIT (5 bits; R461, 23; reset 0). -/
  fit : Nat := 0
  /-- The join image has been applied (1 bit; R461, 23; reset 0). -/
  joined : Bool := false
  /-- PAIR_STATE.CAUSE (4 bits; R460, 23; reset 0). -/
  cause : Nat := 0
  /-- PAIR_OFS, ns (32 bits; R457, 23; reset 0). -/
  ofs : Int := 0
  /-- PAIR_CNT.MISMATCH, saturating (16 bits; R460, 23; reset 0). -/
  mismatch : Nat := 0
  /-- PAIR_CNT.TAKEOVERS, saturating (16 bits; R462, 23; reset 0). -/
  takeovers : Nat := 0
  /-- PAIR_CNT.AUTH, saturating (16 bits; R454, 23; reset 0). -/
  auth : Nat := 0
  /-- PAIR_CNT.CKPT_LOST, saturating (16 bits; R467, 23; reset 0). -/
  ckptLost : Nat := 0
  /-- PAIR_RB_DELAY, ps (32 bits; R464, 23; reset 0). -/
  rbDelay : Nat := 0
  /-- FORWARD bytes by the ms of their arrival, of the last ms (32 bits; PAIR_FWD, 23; reset 0). -/
  fwd : List (Nat × Nat) := []
  /-- The peer's last HEARTBEAT: ROLE, highest fault class, groups strobed per station (R454, 23; reset none). -/
  peerRole : PRole := .single
  peerClass : Nat := 0
  peerGroups : List Nat := [0, 0, 0, 0, 0]
  /-- TIME64 at which it arrived (64 bits; R456, 23; reset 0). -/
  peerAt : Nat := 0
  /-- FIT mask that the peer reports (5 bits; R461, 23; reset 0). -/
  peerFit : Nat := 0
  /-- Pages that the peer has reported COMPLETE (R460, R461, 23; reset none). -/
  peerPages : List PeerPage := []
  /-- LEDGER_SEQ of the peer's last mirrored change (64 bits; R466, 23; reset 0). -/
  peerSeq : Nat := 0
  /-- REPORTs that wait for their comparison (R460, 23; reset none). -/
  reports : List SweepReport := []
  /-- A declared handover: T in this controller's TIME64 and the CAUSE of the TAKEOVER entry (R462, 23; reset none). -/
  declared : Option (Nat × Nat) := none
  /-- Signed checkpoints not yet sent to the peer, at most 64 (R467, 23; reset none). -/
  unsent : List (Nat × Bytes × Bytes) := []
  /-- The last frame of each KIND that this controller has sent, newest first (R454, 23; reset none). -/
  sent : List PairFrame := []
deriving DecidableEq, Repr

/-- A frame leaves on the pair link; while the link is down nothing does (R454). -/
def Pair.send (f : PairFrame) (p : Pair) : Pair :=
  if p.link then { p with sent := f :: p.sent.filter fun x => x.kind != f.kind } else p

/-! ## Background services -/

/-- An ECC region (R379), numbered as MEMORY_UE: 0 and 1 the L2 of pairs A and B, 2 shared region, 3 RT tightly coupled
memories, 4 firmware data, 5 DRAM; then 6 screen store, 7 correction tables, 8 line store. -/
structure EccRegion where
  /-- Corrected errors, saturating (16 bits; R379, 18; reset 0; the width is that of the mirror fields). -/
  ce : Nat := 0
  /-- Uncorrectable errors, saturating (16 bits; R379, 18; reset 0; the width is that of the mirror fields). -/
  ue : Nat := 0
  /-- Hour of the powered time in which `hourCe` was counted (R379, 18; reset 0). -/
  hour : Nat := 0
  /-- Corrected errors of that hour (R379, 18; reset 0). -/
  hourCe : Nat := 0
  /-- ECC_RATE has been raised in that hour (1 bit; R379, 18; reset 0). -/
  raised : Bool := false
deriving DecidableEq, Repr

/-- A Rambler job (R376). -/
structure Job8 where
  /-- Period in s (32 bits; R376, 18; reset: the period default). -/
  period : Nat
  /-- TIME64 at which its last pass completed or it last counted as late (64 bits; R376, 18; reset 0). -/
  since : Nat := 0
  /-- Period from the next pass on, 0: the present one (32 bits; R386, 18; reset 0). -/
  next : Nat := 0
deriving DecidableEq, Repr

/-- A pass ends at `t`; a new period applies from the next pass (R376, R386). -/
def Job8.done (t : Nat) (j : Job8) : Job8 := { period := if j.next = 0 then j.period else j.next, since := t, next := 0 }

/-- Hourly DRIVE points of a beam (R384). -/
structure Trend where
  station : Nat
  beam : Nat
  /-- Mean DRIVE by hour, newest first, at most 256 (12 bits each; R384, 18; reset none). -/
  points : List Nat := []
  /-- LASER_AGEING has been raised (1 bit; R384, 18; reset 0). -/
  aged : Bool := false
deriving DecidableEq, Repr

/-- The background services. -/
structure Background where
  /-- Jobs 1 to 8 (R376, 18). -/
  jobs : List Job8 := [{ period := 60 }, { period := 3600 }, { period := 600 }, { period := 600 }, { period := 3600 },
    { period := 60 }, { period := 3600 }, { period := 10 }]
  /-- CE_WARN (16 bits; R379, 18; reset 64, the default). -/
  ceWarn : Nat := 64
  /-- AGE_WARN in h (16 bits; R384, 18; reset 500, the default). -/
  ageWarn : Nat := 500
  /-- Pair B time that the Rambler has used in the windows of the last 1 s, us, newest window first (R375, 18; reset
  none). -/
  used : List Nat := []
  /-- BG_TIME.SUSPENDS, saturating (16 bits; R375, 18; reset 0). -/
  suspends : Nat := 0
  /-- BG_LATE.COUNT, saturating (16 bits; R376, 18; reset 0). -/
  late : Nat := 0
  /-- BG_LATE.JOB (8 bits; R376, 18; reset 0). -/
  lateJob : Nat := 0
  /-- ECC regions (R379, 18). -/
  ecc : List EccRegion := List.replicate 9 {}
  /-- BG_UE_ADDR and the bits above it (64 bits; R378, 18; reset 0). -/
  ueAddr : Nat := 0
  /-- Granules that corrected errors in recent DRAM passes: granule, TIME64 of the passes, newest first (R379, 18; reset
  none). -/
  granules : List (Nat × List Nat) := []
  /-- Retired DRAM granules in MRAM, at most 256 (R379, 18; reset none). -/
  retired : List Nat := []
  /-- Erase counts of NOR sectors in MRAM: sector, count (R382, 18; reset none: 0). -/
  erases : List (Nat × Nat) := []
  /-- Sectors whose count has reached 80 % of NOR_ENDURANCE (R382, 18; reset none). -/
  worn : List Nat := []
  /-- Retired sectors of the ledger area (R382, 18; reset none). -/
  sectors : List Nat := []
  /-- Coefficients in force: unit, then offset and gain or the 64 taps (R380, 18; choice: none). -/
  coeffs : List (Nat × List Int) := []
  /-- Coefficients measured so far in the present ADC_CAL and PPLL_CAL passes: converter k under k, offset and gain;
  taps of station s under 256 + s, tap number and value in turn (R380, 18; reset none). -/
  pass : List (Nat × List Int) := []
  /-- The 64-bit saturating life counters in MRAM, in the order listed (R383, 18; choice 0). -/
  life : List Nat := List.replicate 71 0
  /-- Hourly points (R384, 18; reset none). -/
  trends : List Trend := []
  /-- Telemetry records, oldest first, at most 4,096 (64 bytes each; R385, 18; reset none). -/
  telemetry : List Bytes := []
  /-- BG_TEL_SEQ: SEQ of the newest record (32 bits; R385, 18; reset 0). -/
  telSeq : Nat := 0
  /-- TIME64 of the last LIFE update (64 bits; R383, 18; reset 0). -/
  lifeAt : Nat := 0
  /-- Part of an hour that the counters of hours have not yet counted, ns, by their order in `life` (R383, 18; reset 0). -/
  lifeRem : List Nat := List.replicate 71 0
deriving DecidableEq, Repr

end Sys2Proof.Machine
end

