-- ==== Sys2Proof/Machine/StRim.lean ====
section
/-!
DEFINITION. State of the Rim ring, its nodes, its mailboxes and the Blanket (chapter 15).
-/
namespace Sys2Proof.Machine

/-- NODEa.STATE; an address without a node reads 0 ABSENT. -/
inductive NState where
  | enumerated | configured | operational | lost
deriving DecidableEq, Repr

/-- Codes of NODEa.STATE. -/
def NState.code : NState → Nat
  | .enumerated => 1 | .configured => 2 | .operational => 3 | .lost => 4

/-- What a message to a node is for. -/
inductive RimWhy where
  | roleSet
  | timeSet
  /-- NODE_READ or NODE_WRITE of a hamper's TAG (R344). -/
  | command (write : Bool) (hamper tag : Nat)
  /-- The answer to a CONFIG_CHANGED (R337). -/
  | answer
deriving DecidableEq, Repr

/-- A message to a node (R335, R336). -/
structure RimMsg where
  why : RimWhy
  /-- MSG tag (8 bits; R321, 15). -/
  tag : Nat
  /-- Header and data, at most 1,024 bytes. -/
  bytes : Bytes
  /-- Next fragment to grant. -/
  next : Nat := 0
  /-- Fragments acknowledged in order from 0. -/
  acked : Nat := 0
  /-- The request was already sent again with a new tag. -/
  retried : Bool := false
deriving DecidableEq, Repr

/-- Fragments of a message: 1 to 16 of up to 64 bytes (R335). -/
def RimMsg.frags (m : RimMsg) : Nat := max 1 ((m.bytes.length + 63) / 64)

/-- A stake node; its position is its index in the list of nodes. -/
structure RimNode where
  /-- ADDR (10 bits; R328, 15). -/
  addr : Nat
  /-- FAST_SLOT, 0xFF none (8 bits; R328, 15). -/
  fast : Nat
  /-- FAULT_CLASS (R328, 15; 0 selects HALT). -/
  cls : Nat
  /-- Ident (192 bits; R327, 15). -/
  ident : Bytes
  /-- NODEa.STATE (3 bits; R329, R333, 15). -/
  state : NState := .enumerated
  /-- NODEa.SAFE (1 bit; R330, 15; reset 0). -/
  safe : Bool := false
  /-- NODEa.TIME_OK (1 bit; R325, 15; reset 0). -/
  timeOk : Bool := false
  /-- NODEa.ALERT (4 bits; R338, 15; reset 0). -/
  alert : Nat := 0
  /-- Last DELTA, ns (16 bits; R324, 15; reset 0). -/
  delta : Int := 0
  /-- ROLE_SET was answered with STATUS 0 (R329). -/
  roleOk : Bool := false
  /-- TIME_SET was queued (R329). -/
  timeSent : Bool := false
  /-- TIME_SET was answered with STATUS 0 (R329). -/
  timeAns : Bool := false
  /-- Consecutive due cycles without a valid slot (8 bits; R333, 15; reset 0). -/
  invalidRun : Nat := 0
  /-- Published fast input bytes (128 bits; R324, 15; reset 0). -/
  inFast : Bytes := List.replicate 16 0
  /-- Published slow input bytes (64 bits; R324, 15; reset 0). -/
  inSlow : Bytes := List.replicate 8 0
  /-- Refreshes of the published inputs (R324; the model's own count). -/
  refresh : Nat := 0
  /-- MBX_PEND of the last cyclic T (1 bit; R335, 15; reset 0). -/
  mbxPend : Bool := false
  /-- Virtual time of the mailbox grant (R21, R335, 15; reset 0). -/
  vtime : Nat := 0
  /-- Work was pending at the last grant (R21). -/
  active : Bool := false
  /-- Messages to the node, oldest first (R335). -/
  msgs : List RimMsg := []
  /-- MSG tag and fragments of the message that the node is sending (R335). -/
  inTag : Nat := 0
  /-- Fragments received of it, by FRAG (R335). -/
  inFrags : List (Nat × Bytes) := []
  /-- Complete messages from the node, oldest first (R335). -/
  inbox : List (Nat × Bytes) := []
deriving DecidableEq, Repr

/-- RIM_STATE.STATE. -/
inductive RState where
  | down | enum | config | run | fault
deriving DecidableEq, Repr

/-- Codes of RIM_STATE.STATE. -/
def RState.code : RState → Nat
  | .down => 0 | .enum => 1 | .config => 2 | .run => 3 | .fault => 4

/-- A mailbox fragment of a frame on its way: node address, direction, MSG tag and FRAG (R335). -/
structure RimGrant where
  addr : Nat
  up : Bool
  tag : Nat := 0
  frag : Nat := 0
deriving DecidableEq, Repr

/-- A slot of a cycle frame as the controller sends it: its H block and the O blocks or D0 to D7 behind it (R321). -/
structure RimOut where
  kind : RimSlotKind
  index : Nat
  head : Bytes
  data : Bytes
deriving DecidableEq, Repr

/-- A cycle frame on its way: its cycle, its mailbox grants in slot order, its slots that are not empty, and where and when
its copies leave (R320, R321, R464). -/
structure RimFrame where
  cycle : Nat
  grants : List RimGrant
  slots : List RimOut := []
  /-- The A copy leaves RB_TX and the B copy RA_TX (R464). -/
  swapped : Bool := false
  /-- TIME64 in ps, relative to S_c, at which the A copy and the B copy start (R320, R464). -/
  starts : Int × Int := (0, 0)
deriving DecidableEq, Repr

/-- An open Blanket window (R339): count, lowest and highest reporting position, highest class raised in it. -/
structure BlWindow where
  count : Nat
  lo : Nat
  hi : Nat
  raised : Nat
deriving DecidableEq, Repr

/-- An undrained Blanket event (R342). -/
structure BlEvent where
  count : Nat
  lo : Nat
  hi : Nat
  /-- 0xFFFF: the controller's own port. -/
  root : Nat
deriving DecidableEq, Repr

/-- The Rim ring. -/
structure Rim where
  /-- RIM_STATE.STATE (3 bits; chapter 15; reset DOWN). -/
  state : RState := .down
  /-- RIM_STATE.BROKEN (1 bit; R332, 15; reset 0). -/
  broken : Bool := false
  /-- RIM_STATE.FAULT (8 bits; chapter 15; reset 0). -/
  fault : Nat := 0
  /-- Block lock of RA_RX and RB_RX (2 bits; R317, 15; reset 0). -/
  lockA : Bool := false
  /-- Block lock of RB_RX. -/
  lockB : Bool := false
  /-- Nodes by position (R327, 15; reset none). -/
  nodes : List RimNode := []
  /-- Nodes served by A while BROKEN, k + 1 (11 bits; R332, 15; reset 0). -/
  servedA : Nat := 0
  /-- RIM_BREAK.COUNT, saturating (16 bits; chapter 15; reset 0). -/
  breaks : Nat := 0
  /-- RIM_LOOP: L, ns (32 bits; R325, 15; reset 0). -/
  loopNs : Nat := 0
  /-- RIM_CYCLE (32 bits; chapter 15; reset 0). -/
  cycle : Nat := 0
  /-- RIM_ERR.CRC, saturating (16 bits; chapter 15; reset 0). -/
  crcErr : Nat := 0
  /-- RIM_ERR.MISMATCH, saturating (16 bits; R324, 15; reset 0). -/
  mismatch : Nat := 0
  /-- RIM_BLANKET.EVENTS, saturating (16 bits; chapter 15; reset 0). -/
  events : Nat := 0
  /-- RIM_BLANKET.MERGED, saturating (16 bits; R342, 15; reset 0). -/
  merged : Nat := 0
  /-- RIM_REPORTSc for classes 1 to 16, saturating (32 bits; R342, 15; reset 0). -/
  reports : List Nat := List.replicate 16 0
  /-- Open windows of classes 1 to 16 (R339, 15; reset none). -/
  windows : List (Option BlWindow) := List.replicate 16 none
  /-- Undrained events of classes 1 to 16 (R342, 15; reset none). -/
  undrained : List (Option BlEvent) := List.replicate 16 none
  /-- The last enumeration frame, until two agree (R327, 15; reset none). -/
  enumLast : Option EnumCopy := none
  /-- Enumeration frames of this attempt (5 bits; R327, 15; reset 0). -/
  enumFrames : Nat := 0
  /-- RIM_CONFIG payload that waits for the next RIM_ENUM (R344, 15; reset none). -/
  config : Option Bytes := none
  /-- Topology in use (R328, 15; reset none). -/
  topo : Option Bytes := none
  /-- Next MSG tag (8 bits; R335, 15; choice 0). -/
  nextTag : Nat := 0
  /-- Cycle frames on their way, oldest first (R320). -/
  flying : List RimFrame := []
  /-- Direction A leaves RB_TX and direction B leaves RA_TX, since this controller has taken the ring over (1 bit; R464, 23;
  reset 0). -/
  swapped : Bool := false
deriving DecidableEq, Repr

end Sys2Proof.Machine
end

