-- ==== Sys2Proof/Machine/State.lean ====
section
/-!
DEFINITION. The machine's state, its faults and refusals, and the machine right after reset.
-/
namespace Sys2Proof.Machine

/-- No meaning of this model ends in a fault: the spec gives every command and every event an effect. The one
constructor says why a machine could stop; nothing raises it (safe). -/
inductive Fault where
  /-- A machine that cannot go on; raised by no meaning (safe). -/
  | stuck
deriving DecidableEq, Repr

/-- Why a command or event has no meaning in the model. -/
inductive Refusal where
  /-- A row of the table that the model gives no meaning yet; raised by arms of `exec` only (safe). -/
  | notModelled (mnemonic : String)
deriving DecidableEq, Repr

/-- The whole controller. -/
structure State where
  /-- Commands and events that wait, first in, first out (the model's own queue). -/
  pending : List Instr := []
  /-- Counter that a free value reads and advances (the model's own field; choice 0). -/
  free : Nat := 0
  /-- Host interface, event matrix, time. -/
  io : Io := {}
  /-- Identity, guarded blocks, snapshot windows, mirrors. -/
  reg : Regs := {}
  /-- Change recorder and ledger. -/
  led : Ledger := {}
  /-- Controller state, faults, inhibit. -/
  saf : Safety := {}
  /-- Clocks. -/
  clk : Clocks := {}
  /-- Power sequencer. -/
  pwr : Power := {}
  /-- Boot, trust, settings. -/
  boot : Boot := {}
  /-- Motor channels and buses. -/
  mot : Motors := {}
  /-- Axes. -/
  axs : Axes := {}
  /-- Position feedback. -/
  fb : Feedback := {}
  /-- The closed-loop engine. -/
  cle : Loops := {}
  /-- The thermal unit. -/
  thm : Thermal := {}
  /-- The Rim ring. -/
  rim : Rim := {}
  /-- Raster intake, the band store and the Ethernet ports. -/
  itk : Intake := {}
  /-- The DMA rings. -/
  dma : Dma := {}
  /-- Stations, Weavers and polygons. -/
  img : Imaging := {}
  /-- Jobs, sheets and the launch gate. -/
  shs : Sheets := {}
  /-- The redundant pair. -/
  pair : Pair := {}
  /-- The background services. -/
  bg : Background := {}
deriving DecidableEq, Repr

/-- The machine right after the arrival of VAON (R433 source 1). -/
def State.reset : State := {}

end Sys2Proof.Machine
end

