-- ==== Sys2Proof/Machine/Ops.lean ====
section
/-!
DEFINITION. The named operations over windows, host memory, event lines, rings, responses and ledger records that
every command and event shares.
-/
namespace Sys2Proof.Machine

/-! ## Memory -/

/-- The byte at an address; an unlisted address reads 0 (assumption 4). -/
def memRead : Mem → Nat → Byte
  | [], _ => 0
  | (a, b) :: m, x => if x = a then b else if x < a then 0 else memRead m x

/-- A byte is written; writing 0 removes the entry, so that equal memories are equal lists. -/
def memWrite : Mem → Nat → Byte → Mem
  | [], x, v => if v = 0 then [] else [(x, v)]
  | (a, b) :: m, x, v =>
    if x = a then (if v = 0 then m else (a, v) :: m)
    else if x < a then (if v = 0 then (a, b) :: m else (x, v) :: (a, b) :: m)
    else (a, b) :: memWrite m x v

/-- Bytes are written from an address upward. -/
def memWriteBytes (m : Mem) (x : Nat) : Bytes → Mem
  | [] => m
  | v :: vs => memWriteBytes (memWrite m x v) (x + 1) vs

/-- `n` bytes from an address. -/
def memReadBytes (m : Mem) (x : Nat) : Nat → Bytes
  | 0 => []
  | n + 1 => memRead m x :: memReadBytes m (x + 1) n

/-- The canonical form: addresses strictly rising above `lo`, no entry 0. -/
def memWfFrom : Nat → Mem → Bool
  | _, [] => true
  | lo, (a, b) :: m => decide (lo ≤ a) && (b != 0) && memWfFrom (a + 1) m

/-- A memory in its canonical form. -/
def Mem.wf (m : Mem) : Bool := memWfFrom 0 m

/-! ## Free values -/

/-- Free value `i` of the present step at a place (assumption 3). -/
def freeVal (p : FreeSite) (i : Nat) (s : State) : Int := Config.free p s.free i

/-- A free value reduced to `n` bits. -/
def freeBits (p : FreeSite) (n i : Nat) (s : State) : Nat := (freeVal p i s % (2 : Int) ^ n).toNat

/-- `n` free bytes, from index `i` upward. -/
def freeBytes (p : FreeSite) (n i : Nat) (s : State) : Bytes :=
  (List.range n).map fun k => BitVec.ofInt 8 (freeVal p (i + k) s)

/-- The counter advances, so that the next step's free values are others. -/
def advanceFree (s : State) : State := { s with free := s.free + 1 }

/-- Control requests beyond the cap since the last count, which FABRIC_CTL_OVERCAP counts, saturating (R19). How many requests a
control client makes in a frame of the fabric is not stated, so their number is free (assumption 3). -/
def controlTraffic (s : State) : State :=
  advanceFree { s with reg := { s.reg with overcap := satAdd 32 s.reg.overcap (freeBits .measured 8 90000 s) } }

/-! ## Hampers -/

/-- Hamper `n`. -/
def Io.hamper (io : Io) (n : Nat) : Hamper := io.hampers.getD n {}

/-- Hamper `n` is replaced by `f` of itself. -/
def Io.setHamper (io : Io) (n : Nat) (f : Hamper → Hamper) : Io := { io with hampers := upd io.hampers n f }

/-- Entries of an event ring (R52). -/
def EvRing.size (r : EvRing) : Nat := 2 ^ r.log2n

/-- Entries that the host has not released. -/
def EvRing.used (r : EvRing) : Nat := (r.pi + 2 * r.size - r.ci) % (2 * r.size)

/-- The ring has no released entry (R51). -/
def EvRing.full (r : EvRing) : Bool := r.size ≤ r.used

/-- Response slots that the host has not released (R34). -/
def Hamper.rspUsed (h : Hamper) : Nat := (h.rspPi + 128 - h.rspCons) % 128

/-- Bytes of an event-ring entry (R50). -/
def ringEntryBytes (kind line tag phase opcode status count time seq detail : Nat) : Bytes :=
  le 4 (kind + line * 2 ^ 8 + tag * 2 ^ 16 + phase * 2 ^ 31) ++ le 4 (opcode + status * 2 ^ 16 + count * 2 ^ 24)
    ++ le 8 time ++ le 8 seq ++ le 8 detail

/-- An entry is written into the event ring of hamper `n` at its producer index, and the index advances (R50). -/
def writeEntry (n kind line tag opcode status count time seq detail : Nat) (io : Io) : Io :=
  let r := (io.hamper n).ring
  let phase := if r.pi < r.size then 1 else 0
  { io.setHamper n (fun h => { h with ring := { h.ring with pi := (r.pi + 1) % (2 * r.size) } }) with
    host := memWriteBytes io.host (r.base + 32 * (r.pi % r.size))
      (ringEntryBytes kind line tag phase opcode status count time seq detail) }

/-- One delivery of an event line to a sink code, and the further lines it pulses: a full ring counts the entry as
lost (R51), a ring entry pulses the hamper's event-ring line (R25). -/
def sinkInto (line detail code : Nat) (io : Io) : Io × Option Nat :=
  if 0x20 ≤ code ∧ code < 0x40 then ({ io with msix := upd io.msix (code - 0x20) (· + 1) }, none)
  else if 0x40 ≤ code ∧ code < 0x48 then
    let n := code - 0x40
    let r := (io.hamper n).ring
    if !r.enabled then (io, none)
    else if r.full then (io.setHamper n fun h => { h with ring := { h.ring with lost := h.ring.lost + 1 } }, none)
    else (writeEntry n 3 line 0 0 0 (io.lines.getD line {}).count io.time 0 detail io, some (24 + n))
  else (io, none)

/-- PENDING is set and the occurrence counter counts, saturating at 255 (R25). -/
def markLine (line : Nat) (io : Io) : Io :=
  { io with lines := upd io.lines line fun l => { l with pending := true, count := satInc 8 l.count } }

/-- A line's pulse and its deliveries to positions 2 and 3 (R25, R53); `fuel` bounds a line that is routed into the
ring whose entries pulse it, which ends when that ring is full. -/
def pulseGo : Nat → Nat → Nat → Io → Io
  | 0, line, _, io => markLine line io
  | fuel + 1, line, detail, io =>
    ((io.lines.getD line {}).sinks).foldl
      (fun io code => match sinkInto line detail code io with
        | (io', none) => io'
        | (io', some l) => pulseGo fuel l 0 io')
      (markLine line io)

/-- More than the entries that the eight event rings can hold together. -/
def pulseFuel : Nat := 40000

/-- An event line pulses (R25, R51). -/
def pulse (line detail : Nat) (io : Io) : Io := pulseGo pulseFuel line detail io

/-- An event line of the machine pulses with DETAIL. -/
def State.pulse (s : State) (line detail : Nat) : State := { s with io := Machine.pulse line detail s.io }

/-- Bytes of a response slot (R38). -/
def Resp.slot (r : Resp) (phase : Nat) : Bytes :=
  le 4 (r.opcode + r.status * 2 ^ 16 + r.tag * 2 ^ 24 + phase * 2 ^ 31) ++ le 4 (r.length + r.detail * 2 ^ 16)
    ++ le 8 r.seq ++ le 8 r.time ++ fit 40 r.result

/-- The flight with a TAG leaves its hamper (R41). -/
def dropFlight (n tag : Nat) (io : Io) : Io :=
  io.setHamper n fun h => { h with flights := h.flights.filter fun x => x.f.tag.toNat != tag || x.gone != 0 }

/-- A response is written into the response ring, EV016 + n pulses, and EVCOPY writes the copy (R34, R36, R38). -/
def putResponse (n : Nat) (r : Resp) (io : Io) : Io :=
  let h := io.hamper n
  let io := { io.setHamper n (fun h => { h with rspPi := (h.rspPi + 1) % 128 }) with
    windows := memWriteBytes io.windows (n * 0x2000 + 0x1000 + 64 * (h.rspPi % 64))
      (r.slot (if h.rspPi < 64 then 1 else 0)) }
  let io := if r.closes then dropFlight n r.tag io else io
  let io := pulse (16 + n) 0 io
  let ring := (io.hamper n).ring
  if r.evcopy && ring.enabled then
    if ring.full then io.setHamper n fun h => { h with ring := { h.ring with lost := h.ring.lost + 1 } }
    else pulse (24 + n) 0 (writeEntry n 2 0 r.tag r.opcode r.status 0 r.time r.seq r.detail io)
  else io

/-- Waiting responses are written while the ring has released slots (R34). -/
def drainResponses : Nat → Nat → Io → Io
  | 0, _, io => io
  | k + 1, n, io =>
    let h := io.hamper n
    match h.rspWait with
    | [] => io
    | r :: rs =>
      if h.rspUsed < 64 then drainResponses k n (putResponse n r (io.setHamper n fun h => { h with rspWait := rs }))
      else io

/-- A response is posted: it is written at once, or waits behind earlier ones for ring space (R34). -/
def postResponse (n : Nat) (r : Resp) (io : Io) : Io :=
  let h := io.hamper n
  if h.rspWait = [] ∧ h.rspUsed < 64 then putResponse n r io
  else io.setHamper n fun h => { h with rspWait := h.rspWait ++ [r] }

/-- A COMPLETION entry is written and its TAG is free (R43, R51). -/
def putCompletion (n : Nat) (r : Resp) (io : Io) : Io :=
  pulse (24 + n) 0
    (dropFlight n r.tag (writeEntry n 1 0 r.tag r.opcode r.status 0 r.time r.seq r.detail io))

/-- Waiting COMPLETIONs are written while the ring has space (R51). -/
def drainCompletions : Nat → Nat → Io → Io
  | 0, _, io => io
  | k + 1, n, io =>
    let h := io.hamper n
    match h.complWait with
    | [] => io
    | r :: rs =>
      if h.ring.enabled && !h.ring.full then
        drainCompletions k n (putCompletion n r (io.setHamper n fun h => { h with complWait := rs }))
      else io

/-- Waiting COMPLETIONs of a disabled ring move to the response ring (R43). -/
def moveCompletions : List Resp → Nat → Io → Io
  | [], _, io => io
  | r :: rs, n, io => moveCompletions rs n (postResponse n { r with length := 0 } io)

/-- A final status is posted as a COMPLETION where the ring is enabled, else as a second response slot of LENGTH 0
(R43, R51). -/
def postFinal (n : Nat) (r : Resp) (io : Io) : Io :=
  let h := io.hamper n
  if h.ring.enabled then
    if h.complWait = [] ∧ h.ring.full = false then putCompletion n r io
    else io.setHamper n fun h => { h with complWait := h.complWait ++ [r] }
  else postResponse n { r with length := 0 } io

/-- Refusals are counted per hamper and per status, saturating at 32 bits (R40). -/
def countRefusal (l : List (Nat × Nat)) (st : Nat) : List (Nat × Nat) :=
  match l with
  | [] => [(st, 1)]
  | (x, c) :: rest => if x = st then (x, satInc 32 c) :: rest else (x, c) :: countRefusal rest st

/-! ## Ledger records -/

/-- The order in which records of one CLK_CTL cycle are chained: protective ones first, then by origin (R360); nothing
comes before BOOT and MEASURE (R392). -/
def Rec.rank (r : Rec) : Nat := if r.draw = .protective ∨ r.kind = .boot ∨ r.kind = .measure then 0 else 1 + r.origin

/-- A record takes its place: after every record of an earlier cycle and every record of its own cycle that ranks no
higher (R360). -/
def insertRec (r : Rec) : List Rec → List Rec
  | [] => [r]
  | x :: xs => if x.time = r.time ∧ r.rank < x.rank then r :: x :: xs else x :: insertRec r xs

/-- A record is handed to the change recorder (R360). -/
def State.record (s : State) (r : Rec) : State := { s with led := { s.led with queue := insertRec r s.led.queue } }

/-- A record is chained immediately after the entry in progress, with no other between them (R364). -/
def State.recordNext (s : State) (r : Rec) : State := { s with led := { s.led with queue := r :: s.led.queue } }

/-- Payload part of a COMMAND body from byte 14: FORM, 0, and the payload (FORM 0), or its SHA-384 and 4-byte length
(FORM 1) (R362). -/
def formBytes (form : Nat) (payload : Bytes) : Bytes :=
  [BitVec.ofNat 8 form, 0] ++ if form = 1 then sha384 payload ++ le 4 payload.length else payload

/-- A change that Renune makes by itself, recorded as a COMMAND with origin 0x03, FORM 0, or FORM 1 above 256 bytes
(R363). -/
def renuneRec (s : State) (opcode target : Nat) (payload : Bytes) (draw : Draw) (act : Act) : Rec where
  kind := .command
  time := s.io.time
  origin := 3
  detail := Config.renuneTask.toNat
  subject := opcode
  body := le 2 target ++ [0xFF, 0] ++ le 4 0 ++ le 4 0 ++ le 2 (min 65535 payload.length)
    ++ formBytes (if payload.length ≤ 256 then 0 else 1) payload
  draw := draw
  act := act

/-- STATE_MOVE: Renune moves the controller state and records it (R363); EV239 reports it (R449). -/
def State.moveState (s : State) (c : CState) : State :=
  let r := renuneRec s 0x01F0 0 (le 1 s.saf.ctrl.code ++ le 1 c.code) .ordinary .none
  ({ s with saf := { s.saf with ctrl := c } }.record r).pulse 239 c.code

/-- The controller state changes without a STATE_MOVE of its own; EV239 reports a change (R449). -/
def State.setCtrl (s : State) (c : CState) : State :=
  if s.saf.ctrl = c then s else ({ s with saf := { s.saf with ctrl := c } }).pulse 239 c.code

/-- A protective action that is no fault raise: a PROTECT entry with class 0 (R362, R369). -/
def State.protect (s : State) (line index cause old new : Nat) : State :=
  s.record { kind := .protect, time := s.io.time, origin := 8, detail := line, subject := 0,
             body := le 1 line ++ le 1 index ++ le 1 cause ++ [0] ++ le 4 old ++ le 4 new, draw := .protective }

/-! ## Final statuses of long-running commands -/

/-- Final statuses are due for every running flight of `op` whose frame satisfies `p` (R43). -/
def finishAll (op : Op) (p : Frame → Bool) (status detail : Nat) (result : Bytes) (io : Io) : Io :=
  { io with finals := io.finals ++ ((io.hampers.flatMap (·.flights)).filter fun x =>
      x.op = op && x.stage = .running && p x.f
        && !(io.finals.any fun y => y.hamper = x.f.hamper.val && y.tag = x.f.tag.toNat && y.gone = x.gone)).map fun x =>
      { hamper := x.f.hamper.val, tag := x.f.tag.toNat, gone := x.gone, status := status, detail := detail, result := result } }

/-- A unit reaches the final status of the long-running command `op` on TARGET `t` (R43). -/
def State.finish (s : State) (op : Op) (t status detail : Nat) : State :=
  { s with io := finishAll op (fun f => f.target.toNat = t) status detail [] s.io }

/-- As `finish`, whatever the TARGET. -/
def State.finishAny (s : State) (op : Op) (status detail : Nat) : State :=
  { s with io := finishAll op (fun _ => true) status detail [] s.io }

/-- The final status of the one long-running command with TAG `tag` on hamper `n` (R43). -/
def State.finishOne (s : State) (n tag status detail : Nat) (result : Bytes) : State :=
  match (s.io.hamper n).flights.find? fun x => x.f.tag.toNat == tag && x.stage == .running
      && !(s.io.finals.any fun y => y.hamper == n && y.tag == tag && y.gone == x.gone) with
  | none => s
  | some x => { s with io := { s.io with finals := s.io.finals ++
      [{ hamper := n, tag := tag, gone := x.gone, status := status, detail := detail, result := result }] } }

end Sys2Proof.Machine
end

