-- ==== Sys2Proof/Machine/LedgerSpace.lean ====
section
/-!
DEFINITION. Free space of the ledger in units (R361, R368, R369).
-/
namespace Sys2Proof.Machine

/-- The ledger unit: the largest stored entry (R361). -/
def ledgerUnit : Nat := 1104
/-- Bytes of entries. -/
def entryBytes (l : List Entry) : Nat := l.foldl (fun n e => n + e.size) 0
/-- Free units of the journal of 1.5 MiB (R368). -/
def journalFree (s : State) : Nat := (1572864 - entryBytes s.led.journal) / ledgerUnit
/-- Bytes of the NOR area, without its retired sectors (R368, R382). -/
def norBytes (s : State) : Nat := s.led.areaMiB * 1048576 - 65536 * s.bg.sectors.length
/-- Free units of the NOR area. -/
def norFree (s : State) : Nat := (norBytes s - (s.led.norEnd - s.led.norStart)) / ledgerUnit
/-- Free space U (R369). -/
def ledgerU (s : State) : Nat := min (journalFree s) (norFree s)
/-- Units beyond the safety reserve and the sheets' reservations: U - 1,024 - S, 0 where that is negative. -/
def ledgerSpare (s : State) : Nat := ledgerU s - 1024 - s.led.resv
/-- The LEDGER readiness token (R369). -/
def ledgerToken (s : State) : Bool := decide (1 ≤ ledgerSpare s)

/-- BOOT and MEASURE wait for space at the head of the chain (R392). -/
def Rec.bootKind (r : Rec) : Bool := r.kind == .boot || r.kind == .measure
/-- The BOOT and MEASURE entries still to be chained have no space: the controller stays in IDLE (R392). -/
def bootWaits (s : State) : Bool := decide (ledgerSpare s < (s.led.queue.filter Rec.bootKind).length)

end Sys2Proof.Machine
end

