-- ==== Sys2Proof/Machine/Command.lean ====
section
/-!
DEFINITION. What a Velov command is to the check order of R40: the command with its fetched payload, its answer, and
the table of checks, effect and answer that each command's owning chapter gives.
-/
namespace Sys2Proof

/-- The buffer size an RBUF command names, 0 without RBUF (R37). -/
def Frame.rbufSize (f : Frame) : Nat := if f.flags.toNat / 2 % 2 = 1 then Machine.u32At f.inl 32 else 0
/-- The RBUF address (R37). -/
def Frame.rbufAddr (f : Frame) : Nat := Machine.u64At f.inl 24
/-- FLAGS.REF (R36). -/
def Frame.ref (f : Frame) : Bool := f.flags.toNat % 2 == 1
/-- FLAGS.RBUF (R36). -/
def Frame.rbuf (f : Frame) : Bool := f.flags.toNat / 2 % 2 == 1
/-- FLAGS.FENCE (R36). -/
def Frame.fence (f : Frame) : Bool := f.flags.toNat / 4 % 2 == 1
/-- FLAGS.EVCOPY (R36). -/
def Frame.evcopy (f : Frame) : Bool := f.flags.toNat / 8 % 2 == 1

end Sys2Proof

namespace Sys2Proof.Machine

/-! ## Status codes (R39) -/
def stDone : Nat := 0x00
def stAccepted : Nat := 0x01
def stBadOpcode : Nat := 0x10
def stBadLength : Nat := 0x11
def stBadParam : Nat := 0x12
def stBadTarget : Nat := 0x13
def stDeniedRole : Nat := 0x20
def stDeniedState : Nat := 0x21
def stLocked : Nat := 0x22
def stNotRecorded : Nat := 0x23
def stBusy : Nat := 0x30
def stAlreadyDone : Nat := 0x31
def stCommitted : Nat := 0x32
def stFaulted : Nat := 0x40
def stTimeout : Nat := 0x41

/-- A command past step 6: its frame, its payload, the payload's length and the session that issued it. -/
structure Cmd where
  f : Frame
  pl : Bytes
  len : Nat
  role : Option Role := none
  /-- The issuing session's slot, 16 for an anonymous command. -/
  slot : Nat := 16
  /-- TIME64 at which its slot was copied. -/
  copied : Nat := 0
deriving DecidableEq, Repr

/-- TARGET as a number. -/
def Cmd.tgt (c : Cmd) : Nat := c.f.target.toNat
/-- The hamper's number. -/
def Cmd.hamper (c : Cmd) : Nat := c.f.hamper.val
/-- The payload's byte at an offset. -/
def Cmd.u8 (c : Cmd) (i : Nat) : Nat := byteAt c.pl i
/-- The payload's 16-bit field at an offset. -/
def Cmd.u16 (c : Cmd) (i : Nat) : Nat := u16At c.pl i
/-- The payload's 32-bit field at an offset. -/
def Cmd.u32 (c : Cmd) (i : Nat) : Nat := u32At c.pl i
/-- The payload's 64-bit field at an offset. -/
def Cmd.u64 (c : Cmd) (i : Nat) : Nat := u64At c.pl i

/-- STATUS, DETAIL and RESULT of a command that ran. -/
structure Ans where
  status : Nat := stDone
  detail : Nat := 0
  result : Bytes := []
deriving DecidableEq, Repr

/-- DONE without a result. -/
def ansDone : Ans := {}
/-- ACCEPTED: the command is long-running (R43). -/
def ansAccepted : Ans := { status := stAccepted }
/-- ALREADY_DONE. -/
def ansAlready : Ans := { status := stAlreadyDone }
/-- DONE with a result. -/
def ansResult (b : Bytes) : Ans := { result := b }

/-- A command as its owning chapter specifies it. A check answers the STATUS and DETAIL with which it fails. -/
structure CmdSpec where
  /-- Marked VIEWER: any session, and anonymously on H2 to H7 (R46). -/
  viewer : Bool := false
  /-- Session roles that may issue it (R40 step 4). -/
  roles : List Role := []
  /-- Accepted anonymously on every hamper (R46). -/
  anon : Bool := false
  /-- Allowed controller states (R40 step 8). -/
  states : CState → Bool := CState.serving
  /-- The command's entry uses FORM 2 (R363). -/
  form2 : Bool := false
  /-- The command's entry uses FORM 1 whatever its length (R363). -/
  form1 : Bool := false
  /-- LENGTH and the other demands of step 6 hold. -/
  lenOk : Cmd → State → Bool := fun c _ => c.len == 0
  /-- TARGET names an existing unit (step 7). -/
  target : Cmd → State → Bool := fun c _ => c.tgt == 0
  /-- Unit state (step 8). -/
  pre : Cmd → State → Option (Nat × Nat) := fun _ _ => none
  /-- Parameters, ownership, resources (steps 9 to 11). -/
  post : Cmd → State → Option (Nat × Nat) := fun _ _ => none
  /-- Length of the result (R39). -/
  size : Cmd → State → Nat := fun _ _ => 0
  /-- The command requires RBUF = 1, whatever the length of its result. -/
  needsRbuf : Bool := false
  /-- What a refusal with a STATUS and a DETAIL still does: a failed verification consumes its nonce (R49). -/
  onRefuse : Cmd → Nat → Nat → State → State := fun _ _ _ s => s
  /-- A unit that has faulted since the checks keeps its previous setting (R44). -/
  faulted : Cmd → State → Bool := fun _ _ => false
  /-- The effect. -/
  eff : Cmd → State → State := fun _ s => s
  /-- The answer, read from the state before the effect. -/
  ans : Cmd → State → Ans := fun _ _ => ansDone
  /-- What a running command still does when its final status is posted, and the RBUF result it then writes. -/
  late : Option (Cmd → State → State × Bytes) := none
  /-- What CMD_ABORT does to the unit of a running command (R45). -/
  abort : Cmd → State → State := fun _ s => s
  /-- The running command has not passed the point after which CMD_ABORT answers ALREADY_DONE (R45). -/
  canAbort : Cmd → State → Bool := fun _ _ => true
  /-- CMD_ABORT posts FAULTED, DETAIL 0x00AB, at once; false where the unit posts it later (R45). -/
  abortPosts : Bool := true

/-- A spec that is allowed in the states a list names. -/
def inStates (l : List CState) (c : CState) : Bool := l.contains c

/-- BAD_PARAM with the byte offset of the first faulty field as DETAIL: the fields in order with their faults. -/
def badField : List (Bool × Nat) → Option (Nat × Nat)
  | [] => none
  | (bad, off) :: rest => if bad then some (stBadParam, off) else badField rest

/-- The first of several checks that fails. -/
def orElse (a b : Option (Nat × Nat)) : Option (Nat × Nat) := match a with
  | some x => some x
  | none => b

/-- A check that fails with a status when its condition holds. -/
def failIf (b : Bool) (status detail : Nat) : Option (Nat × Nat) := if b then some (status, detail) else none

/-- A field outside its range. -/
def outside (x lo hi : Nat) : Bool := decide (x < lo) || decide (hi < x)

/-- A field with a default takes it when it holds 0. -/
def orDefault (x d : Nat) : Nat := if x = 0 then d else x

/-! ## Payload field tables -/

/-- A numeric payload field as a chapter's table gives it: offset, bytes, range, and default (0 for none). -/
structure Fld where
  off : Nat
  len : Nat
  lo : Nat
  hi : Nat
  dflt : Nat := 0

/-- A field's value. -/
def Fld.val (d : Fld) (p : Bytes) : Nat := leAt p d.off d.len

/-- A field replaced in a payload. -/
def putLe (p : Bytes) (i n v : Nat) : Bytes := p.take i ++ le n v ++ p.drop (i + n)

/-- Every field that holds 0 and has a default takes it. -/
def fillDefaults (tbl : List Fld) (p : Bytes) : Bytes :=
  tbl.foldl (fun q d => if d.dflt != 0 && d.val q == 0 then putLe q d.off d.len d.dflt else q) p

/-- The fields out of range, each with its offset. -/
def fldFaults (tbl : List Fld) (p : Bytes) : List (Bool × Nat) :=
  tbl.map fun d => (outside (d.val p) d.lo d.hi, d.off)

/-- BAD_PARAM with the lowest offset among the faulty fields. -/
def firstFault (l : List (Bool × Nat)) : Option (Nat × Nat) :=
  match (l.filter (·.1)).map (·.2) with
  | [] => none
  | o :: os => some (stBadParam, os.foldl min o)

end Sys2Proof.Machine
end

