-- ==== Sys2Proof/Machine/Codec.lean ====
section
/-!
DEFINITION. The band codec (chapter 05): packing, the decoder of R108, the hardware compressor of R114 to R117, and the
general engine's jobs (R123 to R125).
-/
namespace Sys2Proof.Machine

/-! ## Packing (R104, R105) -/

/-- `packed_len`. -/
def packedLen (n bits : Nat) : Nat := ceilDivN (n * bits) 8

/-- The symbols of one byte, earliest first. -/
def byteSymbols (bits : Nat) (b : Byte) : List Nat := (List.range (8 / bits)).map fun i => b.toNat / 2 ^ (bits * i) % 2 ^ bits

/-- All symbols of packed bytes, pad included. -/
def unpackAll (bits : Nat) (b : Bytes) : List Nat := b.flatMap (byteSymbols bits)

/-- `unpack`: `n` symbols, none where a pad bit is nonzero (R105). -/
def unpack (bits n : Nat) (b : Bytes) : Option (List Nat) :=
  let l := unpackAll bits b
  if (l.drop n).all (· == 0) then some (l.take n) else none

/-- Symbols packed into bytes, padded with zero bits (R105); `fuel` is the number of symbols. -/
def packGo (bits : Nat) : Nat → List Nat → Bytes
  | 0, _ => []
  | _, [] => []
  | fuel + 1, l =>
    let k := 8 / bits
    BitVec.ofNat 8 ((l.take k).reverse.foldl (fun a x => a * 2 ^ bits + x) 0) :: packGo bits fuel (l.drop k)

/-- Symbols packed into bytes (R105). -/
def pack (bits : Nat) (l : List Nat) : Bytes := packGo bits l.length l

/-! ## Decoding (R108) -/

/-- Causes of the decode-failure table (R109). -/
def dcHeader : Nat := 1
def dcBlock : Nat := 2
def dcToken : Nat := 3
def dcPad : Nat := 4
def dcLength : Nat := 5
def dcCount : Nat := 6
def dcStore : Nat := 7
def dcLate : Nat := 8
def dcTag : Nat := 9

/-- What a decoder makes of a band: a cause, or its symbols and the token count T. -/
inductive DecRes where
  | fail (cause : Nat)
  | ok (symbols : List Nat) (tokens : Nat)
deriving DecidableEq, Repr

/-- Symbols produced so far, latest first, their number, and the token count. -/
structure DecSt where
  out : List Nat := []
  n : Nat := 0
  t : Nat := 0

/-- V: the last symbol produced, 0 at the start (R107). -/
def DecSt.v (d : DecSt) : Nat := d.out.headD 0

/-- COPY_UP of `m` symbols, symbol by symbol (R107). -/
def copyUp (w : Nat) : Nat → DecSt → DecSt
  | 0, d => d
  | m + 1, d => copyUp w m { d with out := d.out.getD (w - 1) 0 :: d.out, n := d.n + 1 }

/-- Symbols are appended. -/
def DecSt.push (d : DecSt) (l : List Nat) : DecSt := { d with out := l.reverse ++ d.out, n := d.n + l.length }

/-- Length m of a token from its code, and the payload after the length bytes (R106). -/
def tokenLen (c : Nat) (b : Bytes) : Except Nat (Nat × Bytes) :=
  if c < 60 then .ok (c + 1, b)
  else if c = 60 then (if b.length < 1 then .error dcLength else .ok (61 + byteAt b 0, b.drop 1))
  else if c = 61 then (if b.length < 2 then .error dcLength else .ok (317 + u16At b 0, b.drop 2))
  else .error dcToken

/-- Tokens of a coded block until `fin` symbols stand; `fuel` exceeds the payload's length. -/
def decodeTokens (bits w fin : Nat) : Nat → Bytes → DecSt → Except Nat DecSt
  | 0, _, _ => .error dcLength
  | fuel + 1, b, d =>
    if fin ≤ d.n then (if b = [] then .ok d else .error dcLength)
    else match b with
      | [] => .error dcLength
      | t :: b =>
        let op := t.toNat / 64
        match tokenLen (t.toNat % 64) b with
        | .error e => .error e
        | .ok (m, b) =>
          if fin < d.n + m then .error dcToken
          else match op with
            | 0 => decodeTokens bits w fin fuel b { (d.push (List.replicate m d.v)) with t := d.t + 1 }
            | 1 => match b with
              | [] => .error dcLength
              | x :: b =>
                if x.toNat / 2 ^ bits ≠ 0 then .error dcToken
                else decodeTokens bits w fin fuel b { (d.push (List.replicate m x.toNat)) with t := d.t + 1 }
            | 2 =>
              let k := packedLen m bits
              if b.length < k then .error dcLength
              else match unpack bits m (b.take k) with
                | none => .error dcPad
                | some l => decodeTokens bits w fin fuel (b.drop k) { (d.push l) with t := d.t + 1 }
            | _ => decodeTokens bits w fin fuel b { (copyUp w m d) with t := d.t + 1 }

/-- `left` blocks of a band of `total` symbols (R103, R104, R108). -/
def decodeBlocks (bits w total : Nat) : Nat → Bytes → DecSt → Except Nat DecSt
  | 0, b, d => if d.n ≠ total then .error dcCount else if b ≠ [] then .error dcLength else .ok d
  | left + 1, b, d =>
    if b.length < 8 then .error dcLength
    else
      let s := u32At b 0
      let p := leAt b 4 3
      let f := byteAt b 7
      let b := b.drop 8
      if s < 1 ∨ 65536 < s ∨ total < d.n + s ∨ f / 8 ≠ 0 ∨ bit f 2 ≠ (left == 0) then .error dcBlock
      else if b.length < p then .error dcLength
      else
        let d := { d with t := d.t + 1 }
        if bit f 0 then
          if p ≠ packedLen s bits then .error dcBlock
          else match unpack bits s (b.take p) with
            | none => .error dcPad
            | some l => decodeBlocks bits w total left (b.drop p) (d.push l)
        else if p < 1 ∨ packedLen s bits ≤ p then .error dcBlock
        else match decodeTokens bits w (d.n + s) (p + 2) (b.take p) d with
          | .error e => .error e
          | .ok d => decodeBlocks bits w total left (b.drop p) d

/-- `decode_band` (R108). -/
def decodeBand (b : Bytes) (bits w : Nat) : DecRes :=
  if b.length < 16 then .fail dcLength
  else if u16At b 0 ≠ 0x7C1B ∨ byteAt b 2 ≠ 1 ∨ byteAt b 3 ≠ bits ∨ u16At b 4 ≠ w ∨ byteAt b 6 ≠ 64 ∨ byteAt b 7 / 4 ≠ 0
      ∨ u16At b 8 < 1 ∨ 4096 < u16At b 8 ∨ !zeroAt b 10 6 then .fail dcHeader
  else match decodeBlocks bits w (64 * w) (u16At b 8) (b.drop 16) {} with
    | .error e => .fail e
    | .ok d => .ok d.out.reverse d.t

/-- Band cost in decoder clocks (R110). -/
def bandCost (w t : Nat) : Nat := max t (ceilDivN (64 * w) 16)

/-- First 16 bytes of SHA-256 over a band (R89). -/
def bandHash (b : Bytes) : Bytes := (sha256 b).take 16

/-! ## The hardware compressor (R114 to R117) -/

/-- A token's first byte and length bytes (R106). -/
def tokenHead (op m : Nat) : Bytes :=
  if m ≤ 60 then le 1 (op * 64 + (m - 1))
  else if m ≤ 316 then le 1 (op * 64 + 60) ++ le 1 (m - 61)
  else le 1 (op * 64 + 61) ++ le 2 (m - 317)

/-- Length of the common prefix of two lists, at most `k`. -/
def common : Nat → List Nat → List Nat → Nat
  | k + 1, x :: xs, y :: ys => if x = y then common k xs ys + 1 else 0
  | _, _, _ => 0

/-- Encoder state: payload so far, its tokens, the pending literal latest first, and V. -/
structure EncSt where
  bytes : Bytes := []
  tokens : Nat := 0
  lits : List Nat := []
  v : Nat

/-- `emit_literal`. -/
def emitLiteral (bits : Nat) (e : EncSt) : EncSt :=
  if e.lits = [] then e
  else { bytes := e.bytes ++ tokenHead 2 e.lits.length ++ pack bits e.lits.reverse, tokens := e.tokens + 1, v := e.lits.headD 0 }

/-- The loop of R114 over the `left` symbols of a block: `cur` is the input from here on, `up` the symbols one line
above. -/
def encodeGo (bits : Nat) : Nat → Nat → List Nat → List Nat → EncSt → EncSt
  | 0, _, _, _, e => emitLiteral bits e
  | _, 0, _, _, e => emitLiteral bits e
  | _, _, [], _, e => emitLiteral bits e
  | fuel + 1, left, x :: xs, up, e =>
    let cur := x :: xs
    let u := common left cur up
    let r := common left cur (List.replicate left x)
    if 4 ≤ u ∧ r ≤ u then
      let e := emitLiteral bits e
      encodeGo bits fuel (left - u) (cur.drop u) (up.drop u)
        { e with bytes := e.bytes ++ tokenHead 3 u, tokens := e.tokens + 1, v := cur.getD (u - 1) 0 }
    else if 3 ≤ r then
      let e := emitLiteral bits e
      encodeGo bits fuel (left - r) (cur.drop r) (up.drop r)
        { e with bytes := e.bytes ++ (if x = e.v then tokenHead 0 r else tokenHead 1 r ++ le 1 x), tokens := e.tokens + 1, v := x }
    else encodeGo bits fuel (left - 1) xs (up.drop 1) { e with lits := x :: e.lits }

/-- A finished block: SYMBOLS, whether raw, its flags without LAST, its payload, its tokens with the block's own, and
whether its coded form failed its self-verification (R117). -/
structure Block64 where
  symbols : Nat
  raw : Bool
  flush : Bool
  payload : Bytes
  tokens : Nat
  mismatch : Bool := false
deriving DecidableEq, Repr

/-- One block of `s` symbols from `cur` (R115); `bad` says that self-verification of the coded block fails. -/
def encodeBlock (bits s : Nat) (cur up : List Nat) (v : Nat) (flush bad : Bool) : Block64 :=
  let e := encodeGo bits (s + 1) s cur up { v := v }
  let k := packedLen s bits
  let small : Bool := decide (e.bytes.length < k) && decide (e.tokens ≤ ceilDivN s 16)
  if !small || bad then
    { symbols := s, raw := true, flush := flush, payload := pack bits (cur.take s), tokens := 1, mismatch := small }
  else { symbols := s, raw := false, flush := flush, payload := e.bytes, tokens := e.tokens + 1 }

/-- The blocks of a band (R114, R116): `flushes` are the flush boundaries still ahead, rising; `k` numbers the block. -/
def encodeBlocks (bits : Nat) (bad : Nat → Bool) : Nat → Nat → Nat → List Nat → List Nat → List Nat → Nat → List Block64
  | 0, _, _, _, _, _, _ => []
  | fuel + 1, k, p, cur, up, flushes, v =>
    if cur = [] then []
    else
      let next := (flushes.filter (p < ·)).headD (p + cur.length)
      let s := min (min 65536 cur.length) (next - p)
      let b := encodeBlock bits s cur up v (flushes.contains (p + s)) (bad k)
      b :: encodeBlocks bits bad fuel (k + 1) (p + s) (cur.drop s) (up.drop s) flushes ((cur.take s).getLastD 0)

/-- Bytes of a block; LAST is set on the last one. -/
def blockBytes (last : Bool) (b : Block64) : Bytes :=
  le 4 b.symbols ++ le 3 b.payload.length ++ le 1 (b2n b.raw + 2 * b2n b.flush + 4 * b2n last) ++ b.payload

/-- The blocks of a band whose symbols are all given (R114 to R116). -/
def bandBlocks (bits w : Nat) (syms flushes : List Nat) (bad : Nat → Bool) : List Block64 :=
  encodeBlocks bits bad (syms.length + 1) 0 0 syms (List.replicate w 0 ++ syms) flushes 0

/-- The coded blocks that were discarded for a mismatch: the compressor counts them (R117). -/
def codedMismatches (bl : List Block64) : Nat := (bl.filter (·.mismatch)).length

/-- The raw blocks among those that `badRaw` names: a mismatch there raises COMPRESSOR_FAULT (R117). -/
def rawMismatches (bl : List Block64) (badRaw : List Nat) : Nat :=
  (bl.zipIdx.filter fun x => x.1.raw && badRaw.contains x.2).length

/-- A band as a hardware compressor writes it, with its token count and number of raw blocks (R102, R114 to R118). -/
def compressBand (bits w flags : Nat) (syms flushes : List Nat) (bad : Nat → Bool) : Bytes × Nat × Nat :=
  let bl := bandBlocks bits w syms flushes bad
  (le 2 0x7C1B ++ le 1 1 ++ le 1 bits ++ le 2 w ++ le 1 64 ++ le 1 flags ++ le 2 bl.length ++ zeros 6
      ++ (bl.zipIdx.flatMap fun x => blockBytes (x.2 + 1 == bl.length) x.1),
    bl.foldl (fun t b => t + b.tokens) 0, (bl.filter (·.raw)).length)

/-! ## The general engine (R123 to R125) -/

/-- A result record of 32 bytes. -/
def resultRecord (status cause outLen tokens cost : Nat) (hash : Bytes) : Bytes :=
  le 1 status ++ le 1 cause ++ zeros 2 ++ le 4 outLen ++ le 4 tokens ++ le 4 cost ++ fit 16 hash

/-- A flush is requested after every `f` symbols of `n` (R116). -/
def flushPoints (f n : Nat) : List Nat := if f = 0 then [] else (List.range (n / f)).map fun i => f * (i + 1)

/-- A job header breaks R125. DESIGN CHOICE (assumption 33): FLUSH_EVERY is for COMPRESS only, so a nonzero one in a
DECOMPRESS or CHECK job is a value out of range. -/
def badJob (h : Bytes) : Bool :=
  let op := byteAt h 0
  let bits := byteAt h 1
  let w := u16At h 2
  let f := u32At h 8
  outside op 1 3 || !([1, 4, 8].contains bits) || outside w 1 31200 || !zeroAt h 16 16
    || (op == 1 && u32At h 4 != packedLen (64 * w) bits)
    || (if op = 1 then decide (65536 < f) || (f != 0 && decide (4096 < ceilDivN (64 * w) f)) else f != 0)

/-- The outcome of a job: result record, output written, whether the destination beyond that output is undefined up to
OUT_MAX (it is where STATUS is not OK), the coded blocks whose verification failed, and whether a raw block's did
(R117, R124, R125). -/
structure JobRes where
  record : Bytes
  out : Bytes := []
  undef : Bool := false
  coded : Nat := 0
  rawBad : Bool := false

/-- A job's outcome; `badCoded` and `badRaw` name the blocks whose self-verification fails (R117). DESIGN CHOICE
(assumption 33): the fields of a record that the spec gives no value read 0 (TOKENS and COST of DECODE_FAIL, every field
but STATUS of BAD_JOB), but HASH of DECODE_FAIL, which is that of the input, the bytes of the band that was read. -/
def engineJob (src : Bytes) (badCoded badRaw : List Nat) : JobRes :=
  let h := src.take 32
  let input := src.drop 32
  let op := byteAt h 0
  let bits := byteAt h 1
  let w := u16At h 2
  let room := u32At h 12
  if badJob h then { record := resultRecord 4 0 0 0 0 [], undef := true }
  else if op = 1 then
    let syms := (unpackAll bits input).take (64 * w)
    let flushes := flushPoints (u32At h 8) (64 * w)
    let r := compressBand bits w 0 syms flushes fun k => badCoded.contains k
    let bl := bandBlocks bits w syms flushes fun k => badCoded.contains k
    let rawBad : Bool := rawMismatches bl badRaw != 0
    if room < r.1.length then
      { record := resultRecord 2 0 r.1.length r.2.1 0 [], undef := true, coded := codedMismatches bl, rawBad := rawBad }
    else { record := resultRecord (if rawBad then 3 else 0) 0 r.1.length r.2.1 (bandCost w r.2.1) (bandHash r.1)
           out := r.1, undef := rawBad, coded := codedMismatches bl, rawBad := rawBad }
  else match decodeBand input bits w with
    | .fail c => { record := resultRecord 1 c 0 0 0 (bandHash input), undef := true }
    | .ok syms t =>
      let out := if op = 2 then pack bits syms else []
      if room < out.length then { record := resultRecord 2 0 out.length t 0 [], undef := true }
      else { record := resultRecord 0 0 out.length t (bandCost w t) (bandHash input), out := out }

end Sys2Proof.Machine
end

