-- ==== Sys2Proof/Machine/Pixels.lean ====
section
/-!
DEFINITION. From symbols to driver codes (chapters 06 and 07): profiles, screening, geometric correction, history
control, slot groups and digests, as functions of plain data.
-/
namespace Sys2Proof.Machine

/-- floor_mod of chapter 06. -/
def floorMod (a m : Int) : Int := a - m * floorDiv a m

/-! ## Profiles (R127, R128) -/

/-- MODE: 0 EMPTY, 1 BILEVEL, 2 CODES, 3 CONTONE8, 4 CONTONE6_TAG2. -/
def pfMode (p : Bytes) : Nat := byteAt p 0
/-- UPX. -/
def pfUpx (p : Bytes) : Nat := byteAt p 1

/-- Faulty fields of a profile, a field that MODE does not use included. -/
def profileFaults (p : Bytes) : List (Bool × Nat) :=
  [(decide (4 < byteAt p 0), 0), (!([1, 2, 4].contains (byteAt p 1)), 1), (outside (byteAt p 2) 1 15, 2),
   (decide (3 < byteAt p 3), 3), (decide (3 < byteAt p 5), 5), (byteAt p 6 != 0, 6), (byteAt p 7 != 0, 7)]

/-- The screen slots that a profile can select (R128). -/
def pfSlots (p : Bytes) : List Nat :=
  if pfMode p = 3 then [byteAt p 3 % 4]
  else if pfMode p = 4 then (List.range 4).map fun t => byteAt p 4 / 4 ^ t % 4
  else []

/-- SYMBOL_BITS that a MODE takes. -/
def pfBits (p : Bytes) : Nat := match pfMode p with
  | 1 => 1 | 2 => 4 | 3 => 8 | 4 => 8 | _ => 0

/-- A plane is compatible with a profile (R128). -/
def compatible (p : Bytes) (bits width : Nat) (screens : List Screen) : Bool :=
  pfMode p != 0 && pfBits p == bits && decide (width * pfUpx p ≤ 31200)
    && (pfSlots p).all fun k => (screens.getD k {}).state == .loaded

/-! ## Screening (R130, R131) -/

/-- The code of symbol `v` at position `u` of image line `y` (R130). -/
def screenCode (p : Bytes) (screens : List Screen) (y u v : Nat) : Nat := match pfMode p with
  | 1 => if v = 0 then 0 else byteAt p 2
  | 2 => v
  | m =>
    let c := if m = 3 then v else v / 4 * 4 + v / 64
    let k := if m = 3 then byteAt p 3 else byteAt p 4 / 4 ^ (v % 4) % 4
    let d := (screens.getD k {}).data
    let w := byteAt d 0
    let sx := (u + byteAt d 2) % w
    let sy := (y + byteAt d 3) % byteAt d 1
    (List.range 15).foldl (fun n t => if byteAt d (16 + 15 * (w * sy + sx) + t) ≤ c then n + 1 else n) 0

/-- The codes of one line. -/
def screenLine (p : Bytes) (screens : List Screen) (y w : Nat) (syms : List Nat) : List Nat :=
  (List.range (w * pfUpx p)).map fun u => screenCode p screens y u (syms.getD (u / pfUpx p) 0)

/-- The 64 lines of a band as line slots (R130, R134). -/
def bandSlots (sheet side band w : Nat) (p : Bytes) (screens : List Screen) (syms : List Nat) : List LineSlot :=
  (List.range 64).map fun l => {
    num := (64 * band + l) % 256, sheet := sheet, side := side, band := band, line := l, absent := false
    codes := screenLine p screens (64 * band + l) w ((syms.drop (l * w)).take w) }

/-- The 64 slots of an absent band (R134). -/
def absentSlots (sheet side band : Nat) : List LineSlot :=
  (List.range 64).map fun l => {
    num := (64 * band + l) % 256, sheet := sheet, side := side, band := band, line := l, absent := true, codes := [] }

/-- Slots are written over whatever they held. -/
def putSlots (new old : List LineSlot) : List LineSlot := new ++ old.filter fun x => !(new.any fun y => y.num == x.num)

/-! ## Geometric correction (R136 to R143) -/

/-- Zone width (R138). -/
def zoneWidth (wa : Nat) : Nat := ceilDivN wa 96
/-- The entry of a beam and zone (R137). -/
def ecmEntry (d : Bytes) (b z : Nat) : Nat := u32At d (4 * (96 * b + z))
/-- XOFF. -/
def ecmXoff (e : Nat) : Int := toSigned 12 e
/-- ISHIFT. -/
def ecmShift (e : Nat) : Int := toSigned 6 (e / 2 ^ 12)
/-- TRIM. -/
def ecmTrim (e : Nat) : Int := toSigned 8 (e / 2 ^ 18)
/-- BEAM_OFF. -/
def ecmOff (e : Nat) : Bool := bit e 31
/-- PHASE of a zone (R139). -/
def ecmPhase (d : Bytes) (z : Nat) : Nat := byteAt d (24576 + z)

/-- An ECM entry is out of range or sets a reserved bit (R137, R149). -/
def ecmBad (e : Nat) : Bool := decide (1024 < (ecmXoff e).natAbs) || ecmShift e == -32 || fld e 30 26 != 0

/-- What a read of the line store returns (R136). -/
inductive Src where
  | code (c : Nat)
  | absent
  | mismatch
deriving DecidableEq, Repr

/-- src() of a side (R136). -/
def srcRead (slots : List LineSlot) (d : Side) (y u : Int) : Src :=
  if y < 0 ∨ 64 * (d.bands : Int) ≤ y ∨ u < 0 ∨ ((d.width * pfUpx d.profile : Nat) : Int) ≤ u then .code 0
  else
    let l := y.toNat
    match slots.find? fun x => x.num == l % 256 with
    | none => .mismatch
    | some x =>
      if x.sheet ≠ d.sheet ∨ x.side ≠ d.side ∨ x.band ≠ l / 64 ∨ x.line ≠ l % 64 then .mismatch
      else if x.absent then .absent
      else .code (x.codes.getD u.toNat 0)

/-- What correct() makes of one position: the code, and whether a source was absent, a tag differed, the offset was
clamped, satu changed the value. -/
structure Corr where
  code : Nat := 0
  absent : Bool := false
  mismatch : Bool := false
  clamped : Bool := false
  trimmed : Bool := false
deriving DecidableEq, Repr

/-- correct() of R142 for sweep `n`, beam `b`, position `x` with the ECM bank `ecm`. -/
def correct (ecm : Bytes) (slots : List LineSlot) (d : Side) (n b x : Nat) : Corr :=
  let e := ecmEntry ecm b (x / zoneWidth d.wa)
  if bit e 31 then {}
  else
    let raw := ecmXoff e + d.placeY
    let off := clamp raw (-1024) 1024
    let y16 := 16 * ((64 * n + b : Nat) : Int) + off
    let y0 := sar y16 4
    let f := y16 - 16 * y0
    let u := (x : Int) - d.x0 - ecmShift e
    let a := srcRead slots d y0 u
    let c := if f = 0 then Src.code 0 else srcRead slots d (y0 + 1) u
    let flag : Bool := raw != off
    match a, c with
    | .code a, .code c =>
      let m := (16 - f) * a + f * c
      let v := roundHalfUp (m * (256 + ecmTrim e)) 12
      { code := (satu v 4).toNat, clamped := flag, trimmed := v != satu v 4 }
    | a, c => { absent := true, mismatch := a == .mismatch || c == .mismatch, clamped := flag }

/-- One beam's line of a sweep: its codes, blank when any source was absent (R143), and its flags. -/
def beamLine (ecm : Bytes) (slots : List LineSlot) (d : Side) (n b : Nat) : List Nat × Corr :=
  let l := (List.range d.wa).map fun x => correct ecm slots d n b x
  let any (p : Corr → Bool) : Bool := l.any p
  let flags : Corr := { absent := any (·.absent), mismatch := any (·.mismatch), clamped := any (·.clamped), trimmed := any (·.trimmed) }
  (if flags.absent then [] else l.map (·.code), flags)

/-! ## History control (R150 to R152) -/

/-- Element `x` of line `b`; beyond the lines it is 0. -/
def at2 (l : List (List Nat)) (b x : Nat) : Nat := (l.getD b []).getD x 0

/-- E_prev: the line `i` above beam `b`; `tail` holds beams 60 to 63 of the sweep before (R151). -/
def codeAbove (codes tail : List (List Nat)) (b i x : Nat) : Nat :=
  if i ≤ b then at2 codes (b - i) x else at2 tail (4 + b - i) x

/-- driver_code of R151 with a history class's payload. -/
def driverCode (cls : Bytes) (codes tail : List (List Nat)) (b x : Nat) : Nat :=
  let e := at2 codes b x
  let s := byteAt cls 0 * codeAbove codes tail b 1 x + byteAt cls 1 * codeAbove codes tail b 2 x
    + byteAt cls 2 * codeAbove codes tail b 3 x + byteAt cls 3 * codeAbove codes tail b 4 x
    + byteAt cls 4 * (if 1 ≤ x then at2 codes b (x - 1) else 0)
    + byteAt cls 5 * (if 2 ≤ x then at2 codes b (x - 2) else 0)
  let h := (List.range 15).foldl (fun n k => if u16At cls (8 + 2 * k) ≤ s then n + 1 else n) 0
  byteAt cls (40 + 16 * e + h)

/-- Byte offset of the first faulty field of a HISTORY_LOAD payload (R152, R174). -/
def historyFaults (p : Bytes) : List (Bool × Nat) :=
  ((List.range 6).map fun i => (decide (7 < byteAt p i), i)) ++ [(!zeroAt p 6 1, 6), (!zeroAt p 7 1, 7)]
    ++ ((List.range 15).map fun k => (decide (1023 < u16At p (8 + 2 * k))
        || (k != 0 && decide (u16At p (8 + 2 * k) < u16At p (6 + 2 * k))), 8 + 2 * k))
    ++ [(!zeroAt p 38 1, 38), (!zeroAt p 39 1, 39)]
    ++ (List.range 256).map fun i => (decide (63 < byteAt p (40 + i)) || (decide (i < 16) && byteAt p (40 + i) != 0), 40 + i)

/-- The 96 bytes of slot group `g` on lane `m` (R160). -/
def groupBytes (cls : Bytes) (codes tail : List (List Nat)) (g m : Nat) : Bytes :=
  le 96 ((List.range 128).foldl (fun v i => v + driverCode cls codes tail (16 * m + i / 8) (8 * g + i % 8) * 2 ^ (6 * i)) 0)

/-- The 384 bytes of slot group `g` on the four lanes (R157, R160). -/
def groupAll (cls : Bytes) (codes tail : List (List Nat)) (g : Nat) : Bytes :=
  (List.range 4).flatMap (groupBytes cls codes tail g)

/-- Slot groups of a sweep (R150). -/
def groupCount (wa : Nat) : Nat := ceilDivN wa 8

/-! ## Digests (R157, R459) -/

/-- The prefix of a fired-image digest. -/
def firePrefix (d : Side) (station : Nat) : Bytes :=
  [0x46, 0x49, 0x52, 0x45] ++ le 2 d.sheet ++ le 1 d.side ++ le 1 station ++ le 2 d.bands ++ le 2 d.wa ++ zeros 4

/-- The band digest of a sweep (R459). -/
def bandDigestOf (d : Side) (station n : Nat) (codes : List (List Nat)) : Bytes :=
  (sha384 ([0x42, 0x41, 0x4E, 0x44] ++ le 2 d.sheet ++ le 1 d.side ++ le 1 station ++ le 2 n ++ le 2 d.wa ++ zeros 4
    ++ (List.range 64).flatMap fun b => pack 4 ((List.range (8 * groupCount d.wa)).map fun x => at2 codes b x))).take 16

/-- Positions from `x` on are 0. -/
def cutLine (x : Nat) (l : List Nat) : List Nat := l.zipIdx.map fun e => if e.2 < x then e.1 else 0

/-! ## Pixel synthesiser (R191) -/

/-- ph() of R191. -/
def edgePhase (ecm : Bytes) (wa x : Nat) : Int :=
  let zw := zoneWidth wa
  let z := x / zw
  let j := x - zw * z
  if z = 95 ∨ wa ≤ (z + 1) * zw ∨ j < zw - 7 then ecmPhase ecm z
  else
    let d : Int := (ecmPhase ecm (z + 1) : Int) - ecmPhase ecm z
    ecmPhase ecm z + roundHalfUp (d * ((j : Int) - zw + 8)) 3

/-- round_div of chapter 06. -/
def roundDiv (a m : Int) : Int := floorDiv (2 * a + m) (2 * m)

/-! ## Placement maps (R147) -/

/-- The zones that an active scan width uses: NZ of R147. -/
def zonesUsed (wa : Nat) : Nat := if wa = 0 then 0 else ceilDivN wa (zoneWidth wa)

/-- PHASE[z] of a map: the mean over the beams (R147). -/
def splitPhase (dm : Nat → Nat → Int) (z : Nat) : Int :=
  floorMod (roundHalfUp ((List.range 64).foldl (fun s b => s + dm b z) 0) 6) 64

/-- d[b] of a map: the mean residual over the zones (R147). -/
def splitDelay (nz : Nat) (dm : Nat → Nat → Int) (b : Nat) : Int :=
  floorMod (roundDiv ((List.range nz).foldl (fun s z =>
    let r := dm b z - splitPhase dm z
    s + (r - 64 * roundHalfUp r 6)) 0) nz) 64

/-- ISHIFT[b][z] of a map (R147). -/
def splitShift (nz : Nat) (dm : Nat → Nat → Int) (b z : Nat) : Int :=
  clamp (roundHalfUp (dm b z - splitPhase dm z - splitDelay nz dm b) 6) (-31) 31

/-- How Renune splits a placement map D[b][z], in 1/64 px, over `nz` zones (R147). -/
def placeSplit (nz : Nat) (dm : Nat → Nat → Int) : Split where
  phase := (List.range nz).map (splitPhase dm)
  delay := (List.range 64).map (splitDelay nz dm)
  shift := (List.range 64).map fun b => (List.range nz).map (splitShift nz dm b)
  residual := (List.range 64).foldl (fun m b => (List.range nz).foldl (fun m z =>
    max m (dm b z - 64 * splitShift nz dm b z - splitPhase dm z - splitDelay nz dm b).natAbs) m) 0

end Sys2Proof.Machine
end

