-- ==== Sys2Proof/Machine/BeamLine.lean ====
section
/-!
DEFINITION. The beam link on the line (R159 to R163): control and data blocks, the sweep as a lane carries it, its CRC, and
the 64b/66b line code with its scrambler.
-/
namespace Sys2Proof.Machine

/-! ## Blocks (R159) -/

/-- A block of the link: a control block with its type and 56-bit payload, or a data block of 64 bits. -/
inductive LinkBlock where
  | control (type payload : Nat)
  | data (bits : Nat)
deriving DecidableEq, Repr

/-- The sync header, its first bit lowest: 0b01 data, 0b10 control. -/
def LinkBlock.sync : LinkBlock → Nat
  | .data _ => 1
  | .control _ _ => 2

/-- The 64 bits after the sync header: the type first, then the payload. -/
def LinkBlock.bits : LinkBlock → Nat
  | .data b => b % 2 ^ 64
  | .control t p => t % 2 ^ 8 + p % 2 ^ 56 * 2 ^ 8

/-- One bit through the self-synchronising scrambler 1 + x^39 + x^58; the state holds the last 58 bits sent, the latest in
bit 0. -/
def scrambleBit (st : Nat) (b : Bool) : Nat × Bool :=
  let o := b != (bit st 38 != bit st 57)
  ((st * 2 + b2n o) % 2 ^ 58, o)

/-- Bits through the scrambler, first bit first. -/
def scrambleGo : Nat → List Bool → Nat × List Bool
  | st, [] => (st, [])
  | st, b :: bs =>
    let r := scrambleBit st b
    let t := scrambleGo r.1 bs
    (t.1, r.2 :: t.2)

/-- The 66 bits that a block puts on the line, least significant first, and the scrambler's next state: the sync header is
not scrambled. -/
def lineBlock (st : Nat) (b : LinkBlock) : Nat × Nat :=
  let r := scrambleGo st ((List.range 64).map (bit b.bits))
  (r.1, b.sync + 4 * r.2.zipIdx.foldl (fun n x => n + b2n x.1 * 2 ^ x.2) 0)

/-! ## A sweep on a lane (R160, R161, R163) -/

/-- The bytes that lane `m` carries of slot groups, in transmission order. -/
def laneData (m : Nat) (groups : List Bytes) : Bytes := groups.flatMap fun g => sub g (96 * m) 96

/-- The 12 data blocks of a slot group on lane `m`. -/
def groupBlocks (m : Nat) (g : Bytes) : List LinkBlock := (List.range 12).map fun k => .data (u64At g (96 * m + 8 * k))

/-- Payload of SWEEP_END on lane `m`: the CRC-32 over what the lane carried, STROBED, ABORT. -/
def sweepEndPayload (m : Nat) (groups : List Bytes) (strobed g : Nat) : Nat :=
  crc32 (laneData m groups) + strobed % 2 ^ 12 * 2 ^ 32 + b2n (decide (strobed < g)) * 2 ^ 44

/-- A whole sweep on lane `m`: SWEEP_START, the groups, SWEEP_END; gaps are IDLE (R161). -/
def sweepBlocks (m start : Nat) (groups : List Bytes) (strobed g : Nat) : List LinkBlock :=
  .control 0x33 start :: groups.flatMap (groupBlocks m) ++ [.control 0x66 (sweepEndPayload m groups strobed g)]

/-- SWEEP_END goes out on the UP lanes, and after it the CMDs that waited for it (R161, R163). -/
def endOnLanes (groups : List Bytes) (strobed g : Nat) (x : Station) : Station :=
  { x with lanes := x.lanes.zipIdx.map fun l =>
      let a := if l.1.state = .up then l.1.put [(0x66, sweepEndPayload l.2 groups strobed g)] else l.1
      { a.put a.wait with wait := [] } }

/-! ## A side cut short (R157, R161, R214) -/

/-- The fired-image bytes of a side that fires nothing more: what it has fired, the sweep in progress with `strobed` groups,
zeros for every group that stays without a strobe edge (R157). -/
def cutDigest (d : Side) (cur : Option (List Bytes × Nat)) : Bytes :=
  let g := groupCount d.wa
  let now := match cur with
    | some (groups, strobed) => (groups.take strobed).flatMap id ++ zeros (384 * (g - strobed))
    | none => []
  d.digest ++ now ++ zeros (384 * g * (d.bands - d.done - if cur.isSome then 1 else 0))

end Sys2Proof.Machine
end

