-- ==== Sys2Proof/Machine/SheetCore.lean ====
section
/-!
DEFINITION. Sheets and jobs as the launch gate moves them (R200, R207, R213 to R219): state changes and their events,
causes, records, reprints, and what fault classes do to sheets. Raising a fault rests on these, so they raise none
themselves.
-/
namespace Sys2Proof.Machine

/-! ## Units -/

/-- The controller is STANDBY or UNFIT: its outputs are held low (R452, R458). -/
def State.shadow (s : State) : Bool := s.pair.role == .standby || s.pair.role == .unfit

/-- Station `i`. -/
def State.stn (s : State) (i : Nat) : Station := s.img.stations.getD i {}
/-- Station `i` is replaced by `f` of itself. -/
def State.setStn (s : State) (i : Nat) (f : Station → Station) : State :=
  { s with img := { s.img with stations := upd s.img.stations i f } }
/-- The Weaver of station `i`. -/
def State.wvr (s : State) (i : Nat) : Weaver := (s.stn i).weaver
/-- The Weaver of station `i` is replaced by `f` of itself. -/
def State.setWvr (s : State) (i : Nat) (f : Weaver → Weaver) : State :=
  s.setStn i fun x => { x with weaver := f x.weaver }
/-- A sweep is on the link: SWEEP_START has been sent and SWEEP_END has not (R161). -/
def linkBusy (x : Station) : Bool := match x.sweep with | some y => y.sent | none => false

/-- CMD blocks for a lane: none goes between SWEEP_START and SWEEP_END, so they wait while a sweep is on the link (R161). -/
def sendCmds (busy : Bool) (bs : List (Nat × Nat)) (l : Lane) : Lane := if busy then { l with wait := l.wait ++ bs } else l.put bs

/-- Lane `m` of station `i` is replaced by `f` of itself. -/
def State.setLane (s : State) (i m : Nat) (f : Lane → Lane) : State :=
  s.setStn i fun x => { x with lanes := upd x.lanes m f }
/-- Lane `m` of station `i`. -/
def State.lane (s : State) (i m : Nat) : Lane := (s.stn i).lanes.getD m {}

/-- Polygon `p`. -/
def State.poly (s : State) (p : Nat) : Polygon := s.img.polygons.getD p {}
/-- Polygon `p` is replaced by `f` of itself. -/
def State.setPoly (s : State) (p : Nat) (f : Polygon → Polygon) : State :=
  { s with img := { s.img with polygons := upd s.img.polygons p f } }

/-- The lane that carries the beam-detect beam: BD_BEAM / 16 (R173). -/
def bdLane (w : Weaver) : Nat := match w.set with | some p => byteAt p 8 / 16 | none => 0
/-- DRIVE of BD_LIGHT: min(BD_DRIVE, DRIVE_MAX) (R197). -/
def bdDrive (i : Nat) (s : State) : Nat :=
  min (match (s.wvr i).set with | some p => u16At p 10 | none => 0) (s.lane i (bdLane (s.wvr i))).driveMax

/-- BD_LIGHT of `dur` x 0.1 us is sent on the lane of the beam-detect beam (R179). -/
def bdLight (i dur : Nat) (s : State) : State :=
  let beam := match (s.wvr i).set with | some p => byteAt p 8 | none => 0
  s.setLane i (bdLane (s.wvr i)) (sendCmds (linkBusy (s.stn i))
    [(0x78, 4 + beam % 16 * 2 ^ 8 + bdDrive i s * 2 ^ 12 + dur * 2 ^ 24)])

/-- A Weaver in ACQUIRE lights its beam once its lane is UP (R173, R197), and waits unlit while a side of the station is in
progress (R185). -/
def acquireLight (i : Nat) (s : State) : State :=
  let w := s.wvr i
  if w.state = .acquire ∧ w.lit = false ∧ (s.stn i).sides.isEmpty = true ∧ (s.lane i (bdLane w)).state = .up then
    (bdLight i 255 s).setWvr i fun w => { w with lit := true }
  else s

/-- The sheet with a SHEET_ID. -/
def State.sheet (s : State) (id : Nat) : Option Sheet := s.shs.sheets.find? fun x => x.id == id
/-- That sheet is replaced by `f` of itself. -/
def State.setSheet (s : State) (id : Nat) (f : Sheet → Sheet) : State :=
  { s with shs := { s.shs with sheets := s.shs.sheets.map fun x => if x.id == id then f x else x } }
/-- The job with a number. -/
def State.job (s : State) (n : Nat) : Option Job := s.shs.jobs.find? fun x => x.num == n
/-- That job is replaced by `f` of itself. -/
def State.setJob (s : State) (n : Nat) (f : Job → Job) : State :=
  { s with shs := { s.shs with jobs := s.shs.jobs.map fun x => if x.num == n then f x else x } }

/-- SYS_CAPS.STATIONS. -/
def stationsOn (s : State) : Nat := if s.boot.berrilOk then s.boot.settings.getD 14 0 else 0
/-- The peer is a FIT STANDBY: every station enabled here is FIT in its last HEARTBEAT (R461). -/
def peerIsFit (s : State) : Bool :=
  s.pair.link && s.pair.peerHb && s.pair.peerRole == .standby
    && (List.range 5).all fun i => !bit (stationsOn s) i || bit s.pair.peerFit i
/-- The polygon of a station: P0 serves S0 and S1, P1 serves S2 and S3, P2 serves S4. -/
def polyOf (st : Nat) : Nat := st / 2
/-- The enabled stations of a polygon, in order. -/
def polyStations (p : Nat) (s : State) : List Nat := (List.range 5).filter fun i => polyOf i == p && bit (stationsOn s) i
/-- The polygons that serve an enabled station. -/
def polysOn (s : State) : List Nat := (List.range 3).filter fun p => polyStations p s != []

/-- A station's CLK_IMG subtree is gated: the station is not enabled, or its Weaver is OFF and none of its sides is
ADMITTED or later (R401); a side that has ended counts no longer. -/
def imgGated (i : Nat) (s : State) : Bool :=
  !bit (stationsOn s) i || ((s.wvr i).state == .off
    && !(s.shs.sheets.any fun x => x.state.inFlight && x.sides.any fun r => r.station == i && !r.ended))

/-- The record of a station side. -/
def Sheet.rec? (x : Sheet) (st side : Nat) : Option SideRec := x.sides.find? fun r => r.station == st && r.side == side
/-- The record of a station side is replaced by `f` of itself. -/
def Sheet.setRec (x : Sheet) (st side : Nat) (f : SideRec → SideRec) : Sheet :=
  { x with sides := x.sides.map fun r => if r.station == st && r.side == side then f r else r }
/-- The record of a station side of a sheet is replaced by `f` of itself. -/
def State.setRec (s : State) (id st side : Nat) (f : SideRec → SideRec) : State :=
  s.setSheet id fun x => x.setRec st side f

/-! ## Events and records -/

/-- A launch-gate event of a sheet: SHEET_ID, job and a cause (R200). -/
def sheetEvent (line cause : Nat) (x : Sheet) (s : State) : State :=
  s.pulse line (x.id + x.job * 2 ^ 16 + cause % 256 * 2 ^ 24)

/-- EV074: the job; a change of its state names no sheet and has no cause (R200). -/
def jobEvent (j : Job) (s : State) : State := s.pulse 74 (j.num * 2 ^ 16)

/-- The line that reports a sheet state (launch-gate event lines). -/
def stateLine : ShState → Option Nat
  | .planned | .fused => none
  | .staged => some 64 | .admitted => some 65 | .launched => some 66 | .committed => some 67 | .imaged => some 68
  | .delivered => some 69 | .spoiled => some 70 | .lost => some 71

/-- A sheet enters a state; its event pulses (R200). -/
def sheetState (id : Nat) (st : ShState) (s : State) : State := match s.sheet id with
  | none => s
  | some x =>
    let s := s.setSheet id fun x => { x with
      state := st
      tCommit := if st = .committed then s.io.time else x.tCommit
      tEnd := if st.terminal then s.io.time else x.tEnd }
    match stateLine st with
    | some l => sheetEvent l x.cause x s
    | none => s

/-- The side digest: SHA-384 over D_0 to D_4, 48 zero bytes for a station that does not image the side; 0 for a side
not imaged (R158, R219). -/
def sideDigest (x : Sheet) (side : Nat) : Bytes :=
  let l := x.sides.filter fun r => r.side == side
  if l = [] ∨ l.any (fun r => !r.ended) then zeros 48
  else sha384 ((List.range 5).flatMap fun st => match x.rec? st side with
    | some r => r.digest
    | none => zeros 48)

/-- Bytes 64 + 32p to 95 + 32p of a sheet record (R219). -/
def sideBytes (x : Sheet) (p : Nat) : Bytes := match x.rec? (p / 2) (p % 2) with
  | none => zeros 12 ++ [0xFF, 0xFF] ++ zeros 18
  | some r => le 1 r.present ++ le 1 r.cause ++ leI 2 r.placeY ++ leI 4 r.x0 ++ le 4 r.sweep0 ++ le 2 r.capset
      ++ le 2 (if r.fixed then r.bands else 0) ++ le 4 r.ecmSeq ++ le 4 r.histSeq ++ le 4 r.delaySeq ++ zeros 4

/-- FLAGS of a sheet record (R219). -/
def sheetFlags (x : Sheet) : Nat :=
  let any (k : Nat) : Bool := x.sides.any fun r => bit r.present k
  b2n x.duplex + 2 * b2n x.capture + 4 * b2n (any 2) + 8 * b2n (any 3) + 16 * b2n (any 4) + 32 * b2n x.inOutput
    + 64 * b2n x.blank + 128 * b2n (x.reprintNo != 0)

/-- The sheet record of 512 bytes (R219). -/
def sheetRecord (x : Sheet) : Bytes :=
  le 2 x.id ++ le 1 x.job ++ le 1 x.state.code ++ le 1 x.cause ++ le 1 x.causeSrc ++ le 1 (sheetFlags x)
    ++ le 1 x.reprintNo ++ le 2 x.orig ++ le 2 x.stream ++ le 4 x.page ++ le 4 x.jobSeq ++ le 4 x.speed
    ++ le 8 x.tAdmit ++ le 8 x.tCommit ++ le 8 x.tEnd ++ leI 8 x.edge16 ++ le 8 x.recordSeq
    ++ (List.range 10).flatMap (sideBytes x) ++ sideDigest x 0 ++ sideDigest x 1 ++ zeros 32

/-! ## Causes (R200, R213) -/

/-- The first cause of a station side and of a sheet; `st` is 6 for the launch gate. A cause at or after COMMITTED sets
SPOIL_PENDING (R200, R213). -/
def firstCause (id st side cause : Nat) (s : State) : State := s.setSheet id fun x =>
  let x := if st < 5 then x.setRec st side (fun r => if r.cause = 0 then { r with cause := cause } else r) else x
  { x with
    cause := if x.cause = 0 then cause else x.cause
    causeSrc := if x.cause = 0 then (if st < 5 then st else 6) else x.causeSrc
    spoil := x.spoil || (decide (5 ≤ x.state.code) && decide (x.state.code ≤ 7) && decide (cause < 0x50)) }

/-- A cause is posted to the launch gate (R155, R195, R213): after the route decision the sheet still spoils, with
IN_OUTPUT, EV077 and the fault LATE_SPOIL that `lateSpoils` raises. OVERSPEED and UNDERSPEED start SPEED_HOLD (R218). -/
def postCause (id st side cause : Nat) (s : State) : State := match s.sheet id with
  | none => s
  | some x =>
    if x.state.terminal then s
    else
      let s := firstCause id st side cause s
      let s := if cause = 0x21 ∨ cause = 0x22 then { s with shs := { s.shs with speedHold := true } } else s
      if x.route = some false ∧ cause < 0x50 ∧ x.inOutput = false then
        let s := sheetEvent 77 cause x (s.setSheet id fun x => { x with inOutput := true })
        { s with shs := { s.shs with lateDue := true } }
      else s

/-- Lines of a station: 0 sweep start, 1 bridged BD, 2 aborted sweep, 3 underrun, 4 spoil, 5 APC done. -/
def stLine (i k : Nat) : Nat := 32 + 6 * i + k

/-- A station posts a spoil cause of a side: the spoil line pulses and the cause goes to the launch gate with the work
tag (R155, R195). -/
def stationCause (i id side cause : Nat) (s : State) : State :=
  postCause id i side cause (s.pulse (stLine i 4) (id + side * 2 ^ 16 + i * 2 ^ 17 + cause * 2 ^ 24))

/-- A stage or Weaver of station `i` posts a cause for a station side; the first of a side counts it as spoiled. -/
def spoilSide (i sheet side cause : Nat) (s : State) : State :=
  let fresh : Bool := match s.sheet sheet with
    | some x => !x.state.terminal && (match x.rec? i side with | some r => r.cause == 0 | none => false)
    | none => false
  stationCause i sheet side cause (if fresh = true then s.setStn i fun x => { x with spoiled := satInc 16 x.spoiled } else s)

/-! ## Terminal sheets (R216 to R219) -/

/-- A SHEET_ID from `n` upward that no sheet carries (R202). -/
def freeId (s : State) : Nat → Nat → Option Nat
  | 0, _ => none
  | fuel + 1, n => if (s.sheet (n % 65536)).isNone then some (n % 65536) else freeId s fuel (n + 1)

/-- The reprint of a sheet that has become SPOILED or LOST (R216): PLANNED, with the place in the queue that
REPRINT_MODE gives; it keeps JOB_SEQ and the place among jobs of its original. -/
def reprint (x : Sheet) (s : State) : State := match s.job x.job with
  | none => s
  | some j =>
    let orig := if x.reprintNo = 0 then x.id else x.orig
    let n := ((j.reprints.find? fun r => r.1 == orig).map (·.2)).getD 0
    if byteAt j.set 5 = 0 ∨ byteAt j.set 6 ≤ n ∨ x.cause = 0x3F ∨ x.cause = 0x40 then s
    else match freeId s 65536 s.shs.nextId with
      | none => s
      | some id =>
        let y : Sheet := {
          id := id, job := x.job, jobSeq := x.jobSeq, stream := x.stream, page := x.page, len := x.len,
          duplex := x.duplex, addSeq := x.addSeq, reprintNo := n + 1, orig := orig }
        let waits (i : Nat) : Bool := match s.sheet i with | some z => decide (z.state.code ≤ 2) | none => false
        let ahead := j.sheets.takeWhile fun i => !waits i
        let l := if byteAt j.set 5 = 1 then ahead ++ [id] ++ j.sheets.drop ahead.length else j.sheets ++ [id]
        ({ s with shs := { s.shs with sheets := s.shs.sheets ++ [y], nextId := (id + 1) % 65536 } }).setJob x.job fun j =>
          { j with sheets := l, reprints := (orig, n + 1) :: j.reprints.filter fun r => r.1 != orig }

/-- A sheet of another job, or none, needs a page (R217). -/
def pageNeeded (st id : Nat) (s : State) : Bool :=
  s.shs.sheets.any fun x => !x.state.terminal && x.stream == st && x.page == id

/-- A page that STORE_ERROR rejected gives up its granules once no sheet needs it any longer (R95). -/
def freePages (s : State) : State :=
  let free (p : Page) : Page :=
    if p.state = .rejected ∧ p.reason = 9 ∧ pageNeeded p.stream p.id s = false then p.empty else p
  { s with itk := { s.itk with pages := s.itk.pages.map free } }

/-- The pages that the sheets of a job name, each once. -/
def jobPages (j : Job) (s : State) : List (Nat × Nat) :=
  (s.shs.sheets.filter fun x => x.job == j.num).foldl (fun l x =>
    if l.contains (x.stream, x.page) then l else l ++ [(x.stream, x.page)]) []

/-- A CLOSED job whose sheets are all terminal is ENDED; with AUTO_RELEASE Renune releases its pages that no other
job's sheet needs, each as a recorded change (R201, R217). -/
def checkEnded (n : Nat) (s : State) : State := match s.job n with
  | none => s
  | some j =>
    if j.state = .closed ∧ (s.shs.sheets.all fun x => x.job != n || x.state.terminal) = true then
      let s := jobEvent { j with state := .ended } (s.setJob n fun j => { j with state := .ended })
      if bit (byteAt j.set 7) 0 then
        (jobPages j s).foldl (fun s p =>
          if pageNeeded p.1 p.2 s || !(s.itk.pages.any fun q => q.stream == p.1 && q.id == p.2) then s
          else s.record (renuneRec s 0x0484 p.1 (le 4 p.2) .ordinary (.renune .pageRelease p.1 (le 4 p.2)))) s
      else s
    else s

/-- A sheet becomes terminal: its event, its reprint in the same step, its record on its reserved entry (R216, R219). -/
def endSheet (id : Nat) (st : ShState) (s : State) : State :=
  let s := sheetState id st s
  match s.sheet id with
  | none => s
  | some x =>
    let s := if st = .delivered then s else reprint x s
    let s := s.record { kind := .sheet, time := s.io.time, origin := 0, detail := 0, subject := 0,
                        body := sheetRecord x, draw := .sheet, act := .sheet id }
    checkEnded x.job (freePages s)

/-- The stations drop what they hold of a sheet that leaves the machine's care: its sides in progress and its sweep
(R214). -/
def dropSides (id : Nat) (s : State) : State :=
  { s with img := { s.img with stations := s.img.stations.map fun x =>
      match x.sides.head? with
      | some a => if a.sheet == id then { x with sides := x.sides.filter (fun y => y.sheet != id), sweep := none }
          else { x with sides := x.sides.filter fun y => y.sheet != id }
      | none => x } }

/-- Capture area and its granules of the sides of a sheet that have not ended are given back, and what they have captured
is discarded: the spec says nothing of a capture in progress of a sheet that becomes LOST or is diverted blank (R121; DESIGN
CHOICE, assumption 33). -/
def freeCapture (id : Nat) (s : State) : State := s.setSheet id fun x =>
  { x with sides := x.sides.map fun r => if r.ended then r else { r with granules := 0, capset := 0xFFFF } }

/-- Groups strobed of the `sent` groups of a sweep that is cut short. Group g >= 3 is sent after S_(g-3), so it is at most
three fewer; which is a matter of timing, hence free (R161, assumption 3). -/
def cutStrobed (i sent : Nat) (s : State) : Nat := sent - min sent (freeBits .measured 2 (900 + i) s)

/-- Station `i` ends what it has in progress of a sheet that is LOST: a sweep on the link ends with SWEEP_END, a side that
has begun ends with its digest, and the others are dropped (R157, R161, R214). -/
def cutStation (id : Nat) (s : State) (i : Nat) : State :=
  let x := s.stn i
  let mine (d : Side) : Bool := d.sheet == id
  let cur : Option (Sweep × Side) := match x.sweep, x.sides.head? with
    | some y, some d => if mine d then some (y, d) else none
    | _, _ => none
  let strobed := match cur with | some (y, _) => if y.sent then cutStrobed i y.groups.length s else 0 | none => 0
  let fired (d : Side) : Bytes := sha384 (firePrefix d i ++ cutDigest d (match cur with
    | some (y, c) => if c.side = d.side then some (y.groups, strobed) else none
    | none => none))
  let begun := x.sides.filter fun d =>
    mine d && (d.done != 0 || (match cur with | some (_, c) => c.side == d.side | none => false))
  let s := match cur with
    | some (y, d) => s.setStn i fun x => (if y.sent then endOnLanes y.groups strobed (groupCount d.wa) x else x)
    | none => s
  let s := s.setStn i fun x => { x with
    sides := x.sides.filter fun d => !mine d, sweep := if cur.isSome then none else x.sweep
    judged := match cur with
      | some (y, d) => if y.sent then some { sheet := id, side := d.side, causes := y.causes, sweep := x.weaver.sweep } else x.judged
      | none => x.judged }
  acquireLight i (begun.foldl (fun s d => (s.setStn i fun x => { x with sideDigest := fired d }).setRec id i d.side fun r => { r with
    ended := true, digest := fired d, present := if bit r.present 0 then r.present else r.present + 1 }) s)

/-- The stations end what they have in progress of a sheet that is LOST. -/
def cutSides (id : Nat) (s : State) : State := advanceFree ((List.range 5).foldl (cutStation id) s)

/-- A sheet becomes LOST with a cause (R209, R214). -/
def loseSheet (cause id : Nat) (s : State) : State :=
  endSheet id .lost (cutSides id (freeCapture id (firstCause id 6 0 cause s)))

/-- An ADMITTED sheet returns to STAGED and its reservations are released (R207). -/
def unadmit (id : Nat) (s : State) : State :=
  let s := s.setSheet id fun x => { x with
    slots := [0, 0, 0, 0, 0], sides := x.sides.map fun r => { r with capset := 0xFFFF, granules := 0, profile := [] } }
  sheetState id .staged { s with led := { s.led with resv := s.led.resv - 1 } }

/-- The SHEET_IDs whose sheet satisfies `p`. -/
def sheetIds (p : Sheet → Bool) (s : State) : List Nat := (s.shs.sheets.filter p).map (·.id)

/-- Every ADMITTED sheet returns to STAGED (R207). -/
def unadmitAll (s : State) : State := (sheetIds (fun x => x.state == .admitted) s).foldl (fun s id => unadmit id s) s

/-- What a fault class does to sheets (R207, R214, R437): HALT returns ADMITTED sheets to STAGED, unless the supervisor
itself has failed (R10); STOP and CUTOFF also make every sheet from LAUNCHED to FUSED LOST. -/
def classSheets (c : Cls) (supervisor : Bool) (s : State) : State := match c with
  | .note | .spoil => s
  | .halt => if supervisor then s else unadmitAll s
  | .stop => (sheetIds (fun x => x.state.running) s).foldl (fun s id => loseSheet 0x50 id s) (unadmitAll s)
  | .cutoff => (sheetIds (fun x => x.state.running) s).foldl (fun s id => loseSheet 0x51 id s) (unadmitAll s)

/-! ## Polygons lost (R195) -/

/-- The side of a station whose sweeps are due: the first in schedule order. -/
def Station.side? (x : Station) : Option Side := x.sides.head?

/-- A Weaver leaves LOCKED, or an earlier state, because its polygon's channel left CLOSED or faulted: STBs stops after
the current group and POLYGON_LOST is posted for the side in progress (R195). -/
def weaverLost (st : WState) (s : State) (i : Nat) : State :=
  let w := s.wvr i
  if w.state = .off ∨ w.state = .fault then s
  else
    let s : State := match (s.stn i).side? with
      | some d => if w.state = .spinup then s else spoilSide i d.sheet d.side 0x23 s
      | none => s
    s.setStn i fun x => { x with
      sweep := x.sweep.map fun y => { y with stop := true }
      weaver := { x.weaver with
        state := st, that := none, edges := [], count := 0, locked := 0, valid := 0, missing := 0, ident := none
        gathered := 0, idFails := 0, idBad := 0, indexSeen := false, acqFails := 0, lit := false, speedRun := 0 } }

/-- The Weavers of polygon `p` go to a state because its channel left CLOSED (SPINUP) or faulted (FAULT); on entry to
SPINUP q restarts (R184, R193, R195). -/
def polygonLost (p : Nat) (st : WState) (s : State) : State :=
  let s := ((polyStations p s).foldl (weaverLost st) s).finish .facetLearn p stFaulted 0
  s.setPoly p fun x => { x with q := if st = .spinup then 65536 else x.q, learn := none }

end Sys2Proof.Machine
end

