-- ==== Sys2Proof/Machine/Units.lean ====
section
/-!
DEFINITION. State changes of motor channels and axes, and what the internal inhibit does to them (R245, R253, R441).
Raising a fault rests on these, so they raise none themselves.
-/
namespace Sys2Proof.Machine

/-! ## Motor channels -/

/-- Channel `i`. -/
def State.motor (s : State) (i : Nat) : Motor := s.mot.chs.getD i {}
/-- Channel `i` is replaced by `f` of itself. -/
def State.setMotor (s : State) (i : Nat) (f : Motor → Motor) : State :=
  { s with mot := { s.mot with chs := upd s.mot.chs i f } }
/-- Bus monitor `n`. -/
def State.bus (s : State) (n : Nat) : Bus := s.mot.buses.getD n {}
/-- Bus monitor `n` is replaced by `f` of itself. -/
def State.setBus (s : State) (n : Nat) (f : Bus → Bus) : State :=
  { s with mot := { s.mot with buses := upd s.mot.buses n f } }

/-- The outputs of this controller are obeyed: it is not paired, or it is named by OWN (R246, R267). -/
def State.outputsOwned (s : State) : Bool := !s.pair.paired || s.pair.own

/-- TARGET of channel `i` (chapter 10). -/
def chTarget (i : Nat) : Nat := if i < 6 then i else i + 10
/-- Channel of a TARGET (chapter 10). -/
def chIdx (t : Nat) : Nat := if t < 6 then t else t - 10
/-- TARGET names a motor channel (chapter 10). -/
def chExists (t : Nat) : Bool := t < 6 || (16 ≤ t && t < 26)

/-- What a polygon channel's change of state does to its Weavers (R184, R195): leaving CLOSED for CATCH or FLOAT sends
them to SPINUP, a fault to FAULT, where a SCAN_START ends FAULTED with the motor cause; a SCAN_STOP is DONE once the
channel is OFF or FAULT (R198). -/
def weaversReact (i : Nat) (old st : MState) (s : State) : State :=
  if 3 ≤ i ∨ old = st then s
  else match st with
    | .fault => ((polygonLost i .fault s).finish .scanStart i stFaulted (0x100 + (s.motor i).fault)).finish .scanStop i stDone 0
    | .float | .catching => if old = .closed then polygonLost i .spinup (s.setMotor i fun m => { m with direct := false }) else s
    | .off => s.finish .scanStop i stDone 0
    | _ => s

/-- A channel enters a state; its event line pulses on a change (R248), and a polygon's Weavers react. -/
def State.motorState (s : State) (i : Nat) (st : MState) : State :=
  let m := s.motor i
  weaversReact i m.state st <|
  let s := s.setMotor i fun m => { m with
    state := st, inState := 0, handNs := 0, lossNs := 0, nearNs := 0, edges := [], opposite := false, caught := none
    gate := if st.floated then .low else m.gate
    vector := if st.floated then 0 else m.vector, sector := if st = .closed then m.sector else 0 }
  if m.state = st then s else s.pulse (96 + i) 0

/-- A start still waits for the channel's next period (R247). -/
def MotorCmd.isStart : MotorCmd → Bool
  | .start _ => true
  | _ => false

/-- A channel faults: its first cause is kept, of causes in the same period the lowest, its bridge floats, and a start
or stop in progress ends with FAULTED and the cause as DETAIL (R244, R247). The raise of the fault class is `motorFault`. -/
def State.motorToFault (s : State) (i cause : Nat) : State :=
  if (s.motor i).state = .fault then
    if (s.motor i).faultNew && decide (cause < (s.motor i).fault) then s.setMotor i fun m => { m with fault := cause } else s
  else
    let s := (s.setMotor i fun m => { m with
      fault := cause, faultNew := false, startNs := none, stopping := false
      wait := m.wait.filter fun c => !c.isStart }).motorState i .fault
    (s.finish .motorStart (chTarget i) stFaulted cause).finish .motorStop (chTarget i) stFaulted cause

/-! ## Axes -/

/-- Axis `i`. -/
def State.axis (s : State) (i : Nat) : Axis := s.axs.axs.getD i {}
/-- Axis `i` is replaced by `f` of itself. -/
def State.setAxis (s : State) (i : Nat) (f : Axis → Axis) : State :=
  { s with axs := { s.axs with axs := upd s.axs.axs i f } }
/-- TARGET of axis `i` (R252). -/
def axTarget (i : Nat) : Nat := if i < 12 then i else i + 4
/-- Axis of a TARGET (R252). -/
def axIdx (t : Nat) : Nat := if t < 12 then t else t - 4
/-- TARGET names an axis (R268). -/
def axExists (t : Nat) : Bool := t < 12 || (16 ≤ t && t < 24)
/-- The axis energises its windings itself: SC0 to SC11. -/
def isSc (i : Nat) : Bool := i < 12

/-- HOMED survives a cause on an SD axis alone, and there any but DRIVE_FAULT (R263). -/
def keepsHomed (i cause : Nat) : Bool := !isSc i && cause != 0x0E

/-- An axis faults: its first cause is kept, of causes in the same tick the lowest; every cause but STALL floats an SC
axis, also one that holds its current after a STALL, and the pulses of an SD axis stop; the move or homing in progress
ends with FAULTED and the cause as DETAIL, and EV116 (R263, R264, R266). The raise of the fault class is `axisFault`. -/
def State.axisToFault (s : State) (i cause : Nat) : State :=
  let a := s.axis i
  let floats : Bool := cause != 0x0C
  if a.state = .fault then
    let lower : Bool := a.faultNew && decide (cause < a.fault)
    s.setAxis i fun a => { a with
      drive := a.drive && !floats, duty := if floats then (0, 0) else a.duty
      ia := if isSc i && floats then 0 else a.ia, ib := if isSc i && floats then 0 else a.ib
      fault := if lower then cause else a.fault, homed := a.homed && (!lower || keepsHomed i cause) }
  else
    let moved : Bool := a.state == .moving || a.state == .stopping || a.state == .homing
    let s := s.setAxis i fun a => { a with
      state := .fault, fault := cause, faultNew := false, queue := [], vel := 0, accel := 0, home := none, homeHit := false
      homed := a.homed && keepsHomed i cause, edges := [], lowRun := (0, 0)
      drive := a.drive && !floats, duty := if floats then (0, 0) else a.duty
      ia := if isSc i && floats then 0 else a.ia, ib := if isSc i && floats then 0 else a.ib }
    let t := axTarget i
    let s := ((s.finish .axisMove t stFaulted cause).finish .axisStop t stFaulted cause).finish .axisHome t stFaulted cause
    let s := if moved then s.pulse 116 (t + stFaulted * 2 ^ 8) else s
    if cause = 0x0C then s.pulse 117 (t + cause * 2 ^ 8) else s.pulse 118 (t + cause * 2 ^ 8)

/-! ## Loops -/

/-- Loop `i`. -/
def State.loop (s : State) (i : Nat) : Loop := s.cle.lps.getD i {}
/-- Loop `i` is replaced by `f` of itself. -/
def State.setLoop (s : State) (i : Nat) (f : Loop → Loop) : State :=
  { s with cle := { s.cle with lps := upd s.cle.lps i f } }

/-- A loop enters a state: EV160 on a change, EV162 when it leaves REGULATING (R298, R299). -/
def State.loopState (s : State) (i : Nat) (st : LState) : State :=
  let old := (s.loop i).state
  if old = st then s
  else
    let s := (s.setLoop i fun l => { l with state := st, bandRun := 0 }).pulse 160 (i + st.code * 2 ^ 8)
    if old = .regulating then s.pulse 162 i else s

/-- OUT_SAFE of a descriptor. -/
def lSafe (p : Bytes) : Int := i32At p 48

/-- N_HV of R291 in counts of 5 ns. -/
def hvPeriod (p : Bytes) : Nat := 200000 / u16At p 94

/-- A new output of an HVPWM loop: its high time in counts, loaded at the next start of a PWM period (R291). -/
def loadHigh (p : Bytes) (now : Nat) (u : Int) (l : Loop) : Loop :=
  if byteAt p 1 = 1 then
    { l with highWas := l.high, high := (roundHalfUp (u * ((hvPeriod p : Nat) : Int)) 16).toNat, highAt := now }
  else l

/-- A start still waits for the loop's next period (R302). -/
def LoopCmd.isStart : LoopCmd → Bool
  | .start => true
  | _ => false

/-- A loop faults: u is OUT_SAFE, I is cleared, the first cause is kept, of causes in one period the lowest, EV161 pulses,
and a start or stop in progress ends with FAULTED and the cause (R299, R301). -/
def State.loopToFault (s : State) (i cause : Nat) : State :=
  if (s.loop i).state = .fault then
    if (s.loop i).faultNew && decide (cause < (s.loop i).fault) then s.setLoop i fun l => { l with fault := cause } else s
  else
    let s := s.setLoop i fun l =>
      let u := match l.set with | some p => lSafe p | none => 0
      { (match l.set with | some p => loadHigh p s.io.time u l | none => l) with
        u := u, i := 0, fault := cause, faultNew := false, startRun := none, fresh := false
        wait := l.wait.filter fun c => !c.isStart }
    let s := (s.loopState i .fault).pulse 161 (i + cause * 2 ^ 8)
    (s.finish .loopStart i stFaulted cause).finish .loopStop i stFaulted cause

/-- The loop's output is HVPWM or HTR (R299). -/
def lDrives (p : Bytes) : Bool := byteAt p 1 == 1 || byteAt p 1 == 2

/-! ## The inhibit -/

/-- Applies `f` to the state for each index of a list in turn. -/
def forEach (l : List Nat) (f : State → Nat → State) (s : State) : State := l.foldl f s

/-- Every channel and axis that is not OFF faults with INHIBIT (R245, R253), every loop with an HVPWM or HTR output
likewise (R299), HTR0 to HTR7 go low and STB0 to STB4 stop (R441). -/
def inhibitMotion (s : State) : State :=
  let s := { s with img := { s.img with stations := s.img.stations.map fun x =>
    { x with sweep := x.sweep.map fun y => { y with stop := true } } } }
  let s := forEach (List.range 16) (fun s i => if (s.motor i).state = .off then s else s.motorToFault i 1) s
  let s := forEach (List.range 20) (fun s i => if (s.axis i).state = .off then s else s.axisToFault i 1) s
  let s := forEach (List.range 64) (fun s i => match (s.loop i).set with
    | some p => if lDrives p ∧ (s.loop i).state ≠ .off then s.loopToFault i 1 else s
    | none => s) s
  { s with thm := { s.thm with zones := s.thm.zones.map fun z => { z with fire := false, fireWas := false } } }

end Sys2Proof.Machine
end

