-- ==== Sys2Proof/Machine/Faults.lean ====
section
/-!
DEFINITION. Raising a fault (R437, R438, R447 to R449), the class effects, and the internal inhibit (R440, R441).
-/
namespace Sys2Proof.Machine

/-- The fault list takes an entry; a full list gives up the oldest entry of the lowest class present, provided that
class does not exceed the new one's (R449). The Boolean says whether the entry went in. -/
def addFault (e : FaultEntry) (l : List FaultEntry) : List FaultEntry × Bool :=
  if l.length < 128 then (l ++ [e], true)
  else
    let low := l.foldl (fun m x => min m x.cls.code) 5
    if low ≤ e.cls.code then
      match l.findIdx? (fun x => x.cls.code = low) with
      | some i => (l.eraseIdx i ++ [e], true)
      | none => (l, false)
    else (l, false)

/-- A further raise of an active entry only counts (R448). -/
def countFault (line index cause : Nat) (l : List FaultEntry) : List FaultEntry :=
  l.map fun x => if x.line = line ∧ x.index = index ∧ x.cause = cause then { x with count := satInc 16 x.count } else x

/-- The controller state after a fault of a class: the state of the highest class, never lowered (R437 to R439). -/
def classState (c : Cls) (x : CState) : CState := match c, x with
  | .halt, .idle | .halt, .warm | .halt, .ready | .halt, .run | .halt, .drain => .halted
  | .stop, .idle | .stop, .warm | .stop, .ready | .stop, .run | .stop, .drain | .stop, .halted => .safe
  | .cutoff, _ => .off
  | _, x => x

/-- The units' reaction when the internal inhibit asserts (R245, R253, R299, R441). -/
def inhibitUnits (s : State) : State := inhibitMotion s

/-- The chip loses its rails: the crystal is disabled, the RPLL is off, internal reset holds (R403, R425, R440). -/
def clocksOff (s : State) : State :=
  { s with
    clk := { s.clk with
      xtalOn := false, xok := false, xokRisen := false, startCounted := false, goodWindows := 0, proven := false
      xtalPause := false, failedStarts := 0, refIrc := true, aonRef := false, rpll := .off, bypassed := 0x3F }
    saf := { s.saf with internalReset := true, powerDown := false } }

/-- EV225 for every rail whose EN is asserted as it drops (R436). -/
def railsOffEvents (s : State) : State :=
  (List.range 16).foldl (fun s n => if (s.pwr.rails.getD n {}).en then s.pulse 225 n else s) s

/-- Every EN drops together and the sequencer enters OFF; MIN_OFF is counted from here (R423, R425, R429, R437). -/
def dropRails (s : State) : State :=
  let s := railsOffEvents s
  let t := clocksOff { s with pwr := { s.pwr with
      rails := s.pwr.rails.map fun r => { r with en := false, qualified := false, pg := false },
      seq := .off, minOffRuns := true, rstoutHigh := false, grace := false, attempt := 0, fuserSkipped := false } }
  if s.pwr.seq = .off then t else t.pulse 226 0

/-- A fault of a supervisor pair itself, after which the launch gate acts alone (R10). -/
def supervisorFault (line index cause : Nat) : Bool :=
  line == 236 && (cause == 0x08 || (cause == 0x09 && decide (index < 2)))

/-- The class effect of a fault (R437): sheets, inhibit and rails. -/
def classEffect (c : Cls) (supervisor : Bool) (s : State) : State := match c with
  | .note | .spoil => s
  | .halt => classSheets .halt supervisor s
  | .stop => inhibitUnits (classSheets .stop supervisor { s with saf := { s.saf with stopLatch := true } })
  | .cutoff => dropRails (inhibitUnits (classSheets .cutoff supervisor { s with saf := { s.saf with railFault := true } }))

/-- A DECLARE frame is sent to the peer with an instant T at least 10 us ahead; the spec leaves T open beyond that, so it
is a free value (R462). -/
def sendDeclare (cause : Nat) (s : State) : State :=
  if s.pair.role = .active ∧ s.pair.link = true ∧ s.pair.declared = none then
    let t := s.io.time + 10000 + freeBits .pair 16 0 s
    advanceFree { s with pair := { s.pair.send (.declare t) with declared := some (t, cause) } }
  else s

/-- The faults with which an ACTIVE declares itself (R462). -/
def declares (line index cause : Nat) : Bool :=
  supervisorFault line index cause || (line == 236 && [0x07, 0x32, 0x33, 0x4B, 0x4C, 0x4D].contains cause)

/-- A fault is raised: its class effect, its entry in the list with EV236, and, for the first raise since its last
clear, a PROTECT record from the safety reserve (R448, R449). A further raise counts and its class effect applies. -/
def State.raise (s : State) (c : Cls) (line index cause : Nat) : State :=
  let old := s.saf.ctrl
  let s := if declares line index cause then sendDeclare 2 s else s
  let s1 := (classEffect c (supervisorFault line index cause) s).setCtrl (classState c old)
  if s.saf.faults.any fun x => x.line = line && x.index = index && x.cause = cause then
    { s1 with saf := { s1.saf with faults := countFault line index cause s1.saf.faults } }
  else
    let e : FaultEntry := { cls := c, line := line, index := index, cause := cause, time := s.io.time }
    let (l, ok) := addFault e s1.saf.faults
    let s2 := { s1 with saf := { s1.saf with
      faults := l, overflow := if ok then s1.saf.overflow else satInc 16 s1.saf.overflow,
      firstFault := if s1.saf.firstFault = 0 then s.io.time else s1.saf.firstFault } }
    let r : Rec := {
      kind := .protect, time := s.io.time, origin := 8, detail := line, subject := 0,
      body := le 1 line ++ le 1 index ++ le 1 cause ++ le 1 c.code ++ le 4 old.code ++ le 4 s1.saf.ctrl.code,
      draw := .protective, act := .fault line index cause }
    let s3 := s2.record r
    if ok then s3.pulse 236 (line + cause * 2 ^ 8 + c.code * 2 ^ 24 + index * 2 ^ 32) else s3

/-- The HALT-class fault LATE_SPOIL of a cause that came after its sheet's route decision (R213). -/
def lateSpoils (s : State) : State :=
  if s.shs.lateDue then ({ s with shs := { s.shs with lateDue := false } }).raise .halt 236 0 0x22 else s

/-- A sheet becomes LOST with MISFEED; the HALT-class fault comes first, so that a reprint is not admitted at once
(R209). -/
def misfeed (id : Nat) (s : State) : State := loseSheet 0x52 id (s.raise .halt 236 0 0x21)

end Sys2Proof.Machine
end

