-- ==== Sys2Proof/Machine/Trig.lean ====
section
/-!
DEFINITION. Cosine and arc tangent for the rotating-frame transforms of chapter 10 and the load angle of chapter 11.
The spec writes both over the real numbers and gives no number format for them: the model computes them by rotation
steps to about 2^-30 of a turn and rounds to the nearest value at the end (DEDUCED, assumption 5).
Angles are in 1/3 of 2^-32 turn, so that thirds of a turn are whole numbers.
-/
namespace Sys2Proof.Machine

/-- One turn. -/
def turn : Int := 12884901888

/-- The angle of `a` in 2^-16 turn. -/
def turn16 (a : Int) : Int := a * 196608

/-- atan(2^-k) for k from 0. -/
def atanTab : List Int :=
  [1610612736, 950800217, 502376722, 255014268, 128001993, 64063396, 32039515, 16020735, 8010490, 4005260, 2002632,
   1001316, 500658, 250329, 125165, 62582, 31291, 15646, 7823, 3911, 1956, 978, 489, 244, 122, 61, 31, 15, 8, 4, 2, 1]

/-- Rotates (x, y) by the angle `z`, within a quarter turn of 0, step `k` turning by atan(2^-k). -/
def rotate : List Int → Nat → Int → Int → Int → Int × Int
  | [], _, x, y, _ => (x, y)
  | t :: ts, k, x, y, z =>
    if 0 ≤ z then rotate ts (k + 1) (x - sar y k) (y + sar x k) (z - t)
    else rotate ts (k + 1) (x + sar y k) (y - sar x k) (z + t)

/-- 2^16 times the cosine of an angle. -/
def cosTurn (a : Int) : Int :=
  let z := a % turn
  let near (z : Int) : Int := roundHalfUp (rotate atanTab 0 667681663043 0 z).1 24
  if 4 * z ≤ turn then near z
  else if 4 * z < 3 * turn then -(near (z - turn / 2))
  else near (z - turn)

/-- 2^16 times the sine of an angle. -/
def sinTurn (a : Int) : Int := cosTurn (a - turn / 4)

/-- The angle of (x, y) for x not negative, by rotation steps toward the axis. -/
def angleOf : List Int → Nat → Int → Int → Int → Int
  | [], _, _, _, z => z
  | t :: ts, k, x, y, z =>
    if 0 ≤ y then angleOf ts (k + 1) (x + sar y k) (y - sar x k) (z + t)
    else angleOf ts (k + 1) (x - sar y k) (y + sar x k) (z - t)

/-- atan2(y, x), more than half a turn below 0 and at most half a turn; none for (0, 0), where it has no value. -/
def atan2 (y x : Int) : Option Int :=
  if x = 0 ∧ y = 0 then none
  else
    let go (x y : Int) : Int := angleOf atanTab 0 (x * 2 ^ 40) (y * 2 ^ 40) 0
    some (if 0 ≤ x then go x y else if 0 ≤ y then go (-x) (-y) + turn / 2 else go (-x) (-y) - turn / 2)

/-- The difference of two angles, between half a turn below and half a turn above 0. -/
def angleDiff (a b : Int) : Int := (a - b + turn / 2) % turn - turn / 2

end Sys2Proof.Machine
end

