-- ==== Sys2Proof/Machine/Motors.lean ====
section
/-!
DEFINITION. Motor channels and bus monitors (chapter 10): the commands of group 0x08 and the functions of the channel
and bus events.
-/
namespace Sys2Proof.Machine

/-! ## Parameter sets -/

/-- The fields that LM and SM channels share, and those in which they differ (MOTOR_SET payload). -/
def motorTable (large : Bool) : List Fld :=
  [⟨1, 1, 0, 3, 0⟩, ⟨2, 1, 1, 16, 0⟩,
   if large then ⟨4, 2, 80, 500, 200⟩ else ⟨4, 2, 20, 100, 40⟩,
   ⟨6, 2, 50, 5000, 500⟩, ⟨20, 2, 100, 60000, 0⟩, ⟨42, 2, 10, 5000, 200⟩, ⟨46, 2, 10, 60000, 500⟩,
   ⟨48, 2, 50, 20000, 1000⟩, ⟨50, 2, 100, 60000, 10000⟩,
   if large then ⟨52, 2, 8192, 61440, 32768⟩ else ⟨52, 2, 0, 0, 0⟩,
   ⟨54, 1, 1, 16, 4⟩, ⟨56, 2, 1, 60000, 2000⟩, ⟨58, 2, 1, 60000, 2000⟩,
   if large then ⟨60, 1, 1, 3, 2⟩ else ⟨60, 1, 10, 100, 20⟩,
   if large then ⟨61, 1, 1, 200, 25⟩ else ⟨61, 1, 0, 0, 0⟩,
   if large then ⟨70, 2, 0, 0, 0⟩ else ⟨70, 2, 100, 60000, 2000⟩,
   ⟨76, 4, 0, 0, 0⟩]

/-- ROLE of a parameter set: 0 AUX, 1 POLYGON, 2 BELT, 3 DRUM, 4 FUSER_ROLLER. -/
def mRole (p : Bytes) : Nat := byteAt p 0
/-- BUS of a parameter set. -/
def mBus (p : Bytes) : Nat := byteAt p 1
/-- POLE_PAIRS of a parameter set. -/
def mPoles (p : Bytes) : Nat := byteAt p 2
/-- I_MAX of a parameter set. -/
def mIMax (p : Bytes) : Nat := u16At p 20
/-- RPM_HAND of a parameter set. -/
def mHand (p : Bytes) : Nat := u16At p 48
/-- A bit of OPTIONS: 0 CATCH_ENABLE, 1 RESTART, 2 REVERSE. -/
def mOption (p : Bytes) (k : Nat) : Bool := bit (byteAt p 55) k
/-- The channel's setpoint follows the process speed: role BELT, DRUM or FUSER_ROLLER (R239). -/
def mSurface (p : Bytes) : Bool := 2 ≤ mRole p && mRole p ≤ 4

/-- The payload with its defaults (chapter 10). -/
def motorFill (i : Nat) (p : Bytes) : Bytes := fillDefaults (motorTable (i < 6)) (fit 80 p)

/-- Roles that a channel may take: LM0 to LM2 POLYGON, LM3 to LM5 the others, SM AUX. -/
def roleOk (i r : Nat) : Bool := if i < 3 then r == 1 else if i < 6 then r == 0 || (2 ≤ r && r ≤ 4) else r == 0

/-- Faulty fields of a MOTOR_SET payload for channel `i` (R249). -/
def motorFaults (i : Nat) (p : Bytes) (s : State) : List (Bool × Nat) :=
  let large : Bool := i < 6
  let mate := (s.motor (if i % 2 = 0 then i + 1 else i - 1)).set
  fldFaults (motorTable large) p ++
  [(!roleOk i (mRole p), 0),
   (!([0, 1, 3, 4].contains (byteAt p 3)), 3),
   (u16At p 6 % 5 != 0, 6),
   (outside (u16At p 22) (mIMax p + 1) 60000, 22),
   (decide (mIMax p < u16At p 40), 40), (decide (mIMax p < u16At p 44), 44),
   (byteAt p 55 % 256 != Nat.land (byteAt p 55) (if large then 5 else 6), 55),
   (large && (match mate with | some q => byteAt q 60 != byteAt p 60 | none => false), 60),
   (if large then decide (mIMax p < u16At p 62) else u16At p 62 != 0, 62),
   (outside (u16At p 68) (mHand p + 1) 60000, 68),
   (!mSurface p && u32At p 72 != 0, 72)]

/-- FAULT_CLASS, or the default of the channel's role (R244). -/
def motorClass (p : Bytes) : Cls := match byteAt p 3 with
  | 1 => .note
  | 3 => .halt
  | 4 => .stop
  | _ => if mSurface p then .stop else .halt

/-- A channel faults and raises a fault of its class; INHIBIT raises none. Until its next period a lower cause replaces
the one recorded; the inhibit that the raise itself asserts does not (R244; DEDUCED, assumption 5). -/
def State.motorFault (s : State) (i cause : Nat) : State :=
  let m := s.motor i
  if m.state = .fault then s.motorToFault i cause
  else
    let s := s.motorToFault i cause
    let s :=
      if cause = 1 then s
      else s.raise (match m.set with | some p => motorClass p | none => .halt) (96 + i) (chTarget i) cause
    s.setMotor i fun m => { m with faultNew := true }

/-! ## Bus thresholds -/

/-- V_NOM in mV. -/
def bNom (p : Bytes) : Nat := u32At p 0
/-- A threshold in mV × 100: offset 12 V_UVP, 13 V_CHOP_OFF, 14 V_REGEN_LIM, 15 V_CHOP_ON, 16 V_OVP. -/
def bThr (p : Bytes) (off : Nat) : Nat := byteAt p off * bNom p

/-- Bus fields with ranges and defaults (BUS_SET payload). -/
def busTable : List Fld :=
  [⟨0, 4, 12000, 800000, 0⟩, ⟨4, 4, 65536, 65536000, 0⟩, ⟨12, 1, 50, 95, 70⟩, ⟨13, 1, 101, 140, 112⟩,
   ⟨14, 1, 102, 145, 115⟩, ⟨15, 1, 103, 150, 120⟩, ⟨16, 1, 105, 160, 130⟩, ⟨17, 1, 5, 100, 20⟩, ⟨18, 1, 1, 100, 10⟩,
   ⟨19, 1, 0, 1, 0⟩, ⟨20, 2, 10, 60000, 500⟩, ⟨22, 2, 0, 0, 0⟩]

/-- Payload of BUS_SET with its defaults. -/
def busFill (p : Bytes) : Bytes := fillDefaults busTable (fit 24 p)

/-- Faulty fields of a BUS_SET payload: ranges, and the order of R240. -/
def busFaults (p : Bytes) : List (Bool × Nat) :=
  fldFaults busTable p ++
  [(decide (byteAt p 14 ≤ byteAt p 13), 14), (decide (byteAt p 15 ≤ byteAt p 14), 15),
   (decide (byteAt p 16 ≤ byteAt p 15), 16)]

/-- At or beyond V_OVP or V_UVP (R250, R269). -/
def Bus.outOfRange (b : Bus) : Bool := match b.set with
  | none => false
  | some p => decide (bThr p 16 ≤ b.v * 100) || decide (b.v * 100 ≤ bThr p 12)

/-- REGEN_FREE (R243). -/
def Bus.regenFree (b : Bus) : Bool := b.chopFault || b.chopHot || match b.set with
  | none => false
  | some p => bit (byteAt p 19) 0

/-- BUSn_FLAGS (chapter 10). -/
def Bus.flags (b : Bus) : Nat :=
  let isOver := match b.set with | some p => decide (bThr p 14 < b.v * 100) | none => false
  let ovp := match b.set with | some p => decide (bThr p 16 ≤ b.v * 100) | none => false
  let uvp := match b.set with | some p => b.armed && decide (b.v * 100 < bThr p 12) | none => false
  b2n b.chop + 2 * b2n isOver + 4 * b2n b.chopFault + 8 * b2n b.chopHot + 16 * b2n b.regenFree + 32 * b2n b.armed
    + 64 * b2n ovp + 128 * b2n uvp

/-- EV112 + n pulses when the flag bits of bus `n` have changed (R248). -/
def State.busEvent (s0 s : State) (n : Nat) : State :=
  if (s0.bus n).flags = (s.bus n).flags then s else s.pulse (112 + n) 0

/-- Channels of a bus. -/
def State.onBus (s : State) (n : Nat) : List Nat :=
  (List.range 16).filter fun i => match (s.motor i).set with | some p => mBus p == n | none => false

/-- Axes of a bus: SC axes only (R263). -/
def State.axesOnBus (s : State) (n : Nat) : List Nat :=
  (List.range 12).filter fun i => match (s.axis i).set with | some p => byteAt p 1 == n | none => false

/-- FAULT_CLASS of an axis, or the default of its role (R263). -/
def axisClass (p : Bytes) : Cls := match byteAt p 2 with
  | 1 => .note
  | 3 => .halt
  | 4 => .stop
  | _ => if byteAt p 0 = 1 then .stop else .halt

/-- An axis faults and raises a fault of its class; INHIBIT raises none. Until the next tick a lower cause replaces the
one recorded (R263). -/
def State.axisFault (s : State) (i cause : Nat) : State :=
  let a := s.axis i
  if a.state = .fault then s.axisToFault i cause
  else
    let s := s.axisToFault i cause
    let s :=
      if cause = 1 then s
      else s.raise (match a.set with | some p => axisClass p | none => .halt) (if cause = 0x0C then 117 else 118)
        (axTarget i) cause
    s.setAxis i fun a => { a with faultNew := true }

/-- Every bridge of a bus floats: channels and SC axes that are not OFF fault with the cause (R240, R263). -/
def State.busFault (s : State) (n cause : Nat) : State :=
  forEach (s.axesOnBus n) (fun s i => if (s.axis i).state = .off then s else s.axisFault i cause)
    (forEach (s.onBus n) (fun s i => if (s.motor i).state = .off then s else s.motorFault i cause) s)

/-! ## Setpoints and starts -/

/-- Setpoint of a channel that follows the process speed `v` in um/s (R239), in 0.01 rpm; SURF_UM 0 gives a value the
spec does not state. -/
def surfaceSetpoint (s : State) (p : Bytes) (v : Nat) : Int :=
  let d := u32At p 72
  let x : Int := if d = 0 then freeVal .measured 90 s else ((v * 6000 * 2 + d) / (2 * d) : Nat)
  if mOption p 2 then -x else x

/-- The widest circular run of conflict-free phases in a 16-bit map, as (length, first phase): of equal runs the one
whose first phase has the lower number (R487). -/
def widestRun (mask : Nat) : Nat × Nat :=
  let runLen (k : Nat) : Nat :=
    if bit mask k && (mask % 65536 == 65535 || !bit mask ((k + 15) % 16)) then
      (List.range 16).foldl (fun (a : Nat × Bool) j =>
        if a.2 && bit mask ((k + j) % 16) then (a.1 + 1, true) else (a.1, false)) (0, true) |>.1
    else 0
  (List.range 16).foldl (fun best k => if best.1 < runLen k then (runLen k, k) else best) (0, 0)

/-- The phase that training selects, none when no run of 5 is conflict-free (R487). -/
def sdmCentre (mask : Nat) : Option Nat :=
  let r := widestRun mask
  if r.1 < 5 then none else some ((r.2 + (r.1 - 1) / 2) % 16)

/-- Maps of conflict-free phases of the seven SDM_D lines, as the training observes them (R487). -/
def sdmMaps (s : State) : List Nat := (List.range 7).map fun k => freeBits .measured 16 k s

/-- A channel enters ALIGN. Its regulators start from 0 (DESIGN CHOICE: the spec presets them only at a hand-over and at
a catch), and the flux estimate of a small channel from a value that the spec does not state (assumption 5). -/
def enterAlign (i : Nat) (s : State) : State :=
  let psi : Int × Int := if i < 6 then (0, 0) else (freeVal .observer 20 s, freeVal .observer 21 s)
  advanceFree ((s.setMotor i fun m => { m with intDq := (0, 0), vDq := (0, 0), intW := 0, iqRef := 0, psi := psi }).motorState i .align)

/-- A channel starts from OFF (channel-states table, R237, R487): a large channel first trains its sampling phases. -/
def startChannel (i : Nat) (target : Int) (s : State) : State :=
  match (s.motor i).set with
  | none => s
  | some p =>
    let s := s.setMotor i fun m => { m with target := target, slew := 0, slewRem := 0, stopping := false }
    if i < 6 then
      let maps := sdmMaps s
      let s' := advanceFree s
      if (maps.map sdmCentre).contains none then s'.motorFault i 6
      else
        let s' := s'.setMotor i fun m => { m with sdmPhase := maps.map fun k => (sdmCentre k).getD 0, probe := mOption p 0 }
        if mOption p 0 then s'.motorState i .catching else enterAlign i s'
    else
      let recent := match (s.motor i).torqueAt with
        | some t => decide (s.io.time < t + u16At p 70 * 1000000)
        | none => false
      if recent then s.motorState i .float else enterAlign i s

/-- A channel is stopped: RAMP decelerates a running channel, COAST and a stop in CATCH or FLOAT float it at once
(R250). A start in progress, waiting or not, ends with FAULTED, DETAIL 0x0080 (R247). -/
def stopChannel (i mode : Nat) (s : State) : State :=
  let m := s.motor i
  let s := if m.startNs.isSome then s.finish .motorStart (chTarget i) stFaulted 0x80 else s
  let s := s.setMotor i fun m => { m with startNs := none, wait := m.wait.filter fun c => !c.isStart }
  if m.state = .off ∨ m.state = .fault then s
  else if mode = 1 ∨ m.state = .catching ∨ m.state = .float then
    ((s.setMotor i fun m => { m with stopping := false }).motorState i .off).finish .motorStop (chTarget i) stDone 0
  else s.setMotor i fun m => { m with stopping := true }

/-! ## Recorded commands wait for the next period (R247) -/

/-- A command joins those that the channel applies at its next period. -/
def State.motorWait (s : State) (i : Nat) (c : MotorCmd) : State := s.setMotor i fun m => { m with wait := m.wait ++ [c] }

/-- The state in which the commands that wait will leave the channel, for the checks of a command that follows them. -/
def Motor.soon (m : Motor) : MState :=
  if m.wait.any MotorCmd.isStart then .align
  else if m.state = .fault ∧ m.wait.contains .clear then .off
  else m.state

/-- A recorded command applies (R250). -/
def runMotorCmd (i : Nat) (s : State) : MotorCmd → State
  | .start v => if (s.motor i).state = .off then startChannel i v s else s
  | .stop mode => stopChannel i mode s
  | .speed v => s.setMotor i fun m => { m with target := v }
  | .clear => if (s.motor i).state = .fault then (s.setMotor i fun m => { m with fault := 0 }).motorState i .off else s

/-! ## Commands of group 0x08 -/

/-- IDLE, WARM, READY, RUN, DRAIN. -/
def runStates : List CState := [.idle, .warm, .ready, .run, .drain]

/-- MOTOR_GET returns the MOTOR_SET payload, zeros where the channel holds none (R249). -/
def motorGetSpec : CmdSpec where
  viewer := true
  target := fun c _ => chExists c.tgt
  size := fun _ _ => 80
  ans := fun c s => ansResult (((s.motor (chIdx c.tgt)).set).getD (zeros 80))

/-- BUS_GET returns the BUS_SET payload (R251); a bus that holds none reads with the defaults that BUS_SET states (R7). -/
def busGetSpec : CmdSpec where
  viewer := true
  target := fun c _ => c.tgt < 4
  size := fun _ _ => 24
  ans := fun c s => ansResult (((s.bus c.tgt).set).getD (busFill (zeros 24)))

/-- MOTOR_SET (R249); `weaversOff` says that the Weavers of a polygon are OFF, as LM0 to LM2 demand. -/
def motorSetSpec (weaversOff : Nat → State → Bool) : CmdSpec where
  roles := [.service]
  lenOk := fun c _ => c.len == 80
  target := fun c _ => chExists c.tgt
  pre := fun c s =>
    let i := chIdx c.tgt
    failIf (!((s.motor i).soon == .off || (s.motor i).soon == .fault) || (decide (i < 3) && !weaversOff i s))
      stDeniedState 0
  post := fun c s => firstFault (motorFaults (chIdx c.tgt) (motorFill (chIdx c.tgt) c.pl) s)
  eff := fun c s => s.setMotor (chIdx c.tgt) fun m => { m with set := some (motorFill (chIdx c.tgt) c.pl) }

/-- The setpoint with which MOTOR_START starts a channel (R239). -/
def startTarget (i : Nat) (pl : Bytes) (s : State) : Int := match (s.motor i).set with
  | some p => if mSurface p then surfaceSetpoint s p s.mot.planV else i32At pl 0
  | none => 0

/-- MOTOR_START (R250): the channel applies it at its next period (R247). -/
def motorStartSpec : CmdSpec where
  roles := [.operator, .service]
  states := inStates runStates
  lenOk := fun c _ => c.len == 4
  target := fun c _ => chExists c.tgt
  pre := fun c s =>
    let i := chIdx c.tgt
    let m := s.motor i
    failIf (m.soon != .off || decide (i < 3) || (match m.set with
      | none => true
      | some p => !(s.bus (mBus p)).armed || (mSurface p && s.mot.planV == 0))) stDeniedState 0
  post := fun c s =>
    let i := chIdx c.tgt
    match (s.motor i).set with
    | none => none
    | some p =>
      let v := i32At c.pl 0
      failIf (if mSurface p then v != 0 else if mOption p 2 then decide (0 < v) else decide (v < 0)) stBadParam 0
  eff := fun c s =>
    let i := chIdx c.tgt
    (s.setMotor i fun m => { m with startNs := some 0 }).motorWait i (.start (startTarget i c.pl s))
  faulted := fun c s => (s.motor (chIdx c.tgt)).soon == .fault
  ans := fun _ _ => ansAccepted
  abort := fun c s => (s.setMotor (chIdx c.tgt) fun m => { m with
    startNs := none, wait := m.wait.filter fun c => !c.isStart }).motorWait (chIdx c.tgt) (.stop 0)

/-- A channel that rests: in OFF or FAULT, with no start that waits (R250). -/
def motorRests (i : Nat) (s : State) : Bool := (s.motor i).soon == .off || (s.motor i).soon == .fault

/-- MOTOR_STOP (R250): ALREADY_DONE in OFF or FAULT; else the channel applies it at its next period (R247). -/
def motorStopSpec : CmdSpec where
  roles := [.operator, .service]
  lenOk := fun c _ => c.len == 1
  target := fun c _ => chExists c.tgt
  pre := fun c _ => failIf (decide (c.tgt < 3)) stDeniedState 0
  post := fun c _ => failIf (decide (1 < c.u8 0)) stBadParam 0
  eff := fun c s => if motorRests (chIdx c.tgt) s then s else s.motorWait (chIdx c.tgt) (.stop (c.u8 0))
  ans := fun c s => if motorRests (chIdx c.tgt) s then ansAlready else ansAccepted

/-- MOTOR_SPEED (R250), applied at the channel's next period (R247). -/
def motorSpeedSpec : CmdSpec where
  roles := [.operator, .service]
  states := inStates runStates
  lenOk := fun c _ => c.len == 4
  target := fun c _ => chExists c.tgt
  pre := fun c s =>
    let i := chIdx c.tgt
    failIf (decide (i < 3) || (match (s.motor i).set with | none => true | some p => mSurface p)) stDeniedState 0
  post := fun c s =>
    let m := s.motor (chIdx c.tgt)
    let v := i32At c.pl 0
    match m.set with
    | none => none
    | some p =>
      failIf ((!m.state.floated && decide (v * m.target < 0)) || decide (v.natAbs < mHand p * 100)
        || decide (u16At p 68 * 100 < v.natAbs)) stBadParam 0
  eff := fun c s => s.motorWait (chIdx c.tgt) (.speed (i32At c.pl 0))
  faulted := fun c s => (s.motor (chIdx c.tgt)).soon == .fault

/-- The cause of a channel's fault persists: nDRVFLT low, the inhibit asserted, its bus out of range (R250). -/
def motorCausePersists (i : Nat) (s : State) : Bool :=
  let m := s.motor i
  m.drvLow || s.saf.inhibit || match m.set with
    | some p => (s.bus (mBus p)).outOfRange
    | none => false

/-- MOTOR_CLEAR (R250), applied at the channel's next period (R247). -/
def motorClearSpec : CmdSpec where
  roles := [.service]
  target := fun c _ => chExists c.tgt
  pre := fun c s => failIf ((s.motor (chIdx c.tgt)).soon == .fault && motorCausePersists (chIdx c.tgt) s) stDeniedState 0
  eff := fun c s => if (s.motor (chIdx c.tgt)).soon = .fault then s.motorWait (chIdx c.tgt) .clear else s
  ans := fun c s => if (s.motor (chIdx c.tgt)).soon = .fault then ansDone else ansAlready

/-- BUS_SET (R251): an applied BUS_SET clears CHOP_FAULT and CHOP_HOT. -/
def busSetSpec : CmdSpec where
  roles := [.service]
  lenOk := fun c _ => c.len == 24
  target := fun c _ => c.tgt < 4
  pre := fun c s => failIf ((s.onBus c.tgt).any fun i => !((s.motor i).soon == .off || (s.motor i).soon == .fault))
    stDeniedState 0
  post := fun c _ => firstFault (busFaults (busFill c.pl))
  eff := fun c s =>
    State.busEvent s (s.setBus c.tgt fun b => { b with set := some (busFill c.pl), chopFault := false, chopHot := false }) c.tgt

/-! ## Channel periods -/

/-- What a large channel samples in a period: three currents in mA, three phase voltages and the bus in mV (R229). -/
structure LmIn where
  ia : Int
  ib : Int
  ic : Int
  va : Int
  vb : Int
  vc : Int
  vbus : Int

/-- T_PWM in counts of 5 ns (R227). -/
def tPwm (p : Bytes) : Nat := 2 * (1000000 / u16At p 4)

/-- OSR that SAMPLE codes (R227). -/
def osr (p : Bytes) : Nat := 16 * 2 ^ (byteAt p 60 - 1)

/-- Duty of a clean current window, wq of R228: W_S is 3 × OSR modulator clocks of 10 counts each, DEAD is in ns and
SETTLE in 10 ns. -/
def wqOf (p : Bytes) : Int :=
  ceilDiv (((3 * osr p * 10 + 2 * (u16At p 6 / 5 + byteAt p 61 * 2)) * 65536 : Nat) : Int) (tPwm p)

/-- `max3` and `min3` of R228. -/
def max3 (a b c : Int) : Int := max a (max b c)
def min3 (a b c : Int) : Int := min a (min b c)

/-- R228: compare values, modulation depth and VSAT from the voltage references. -/
def svm (p : Bytes) (va vb vc : Int) : List Nat × Nat × Bool :=
  let wq := wqOf p
  let smax := 65536 - wq
  let span := max3 va vb vc - min3 va vb vc
  let sat : Bool := smax < span
  let f (v : Int) : Int := if sat then floorDiv (v * smax) span else v
  let lo := min3 (f va) (f vb) (f vc)
  let half : Int := tPwm p / 2
  let cmp (v : Int) : Nat := (half - sar ((f v - lo + wq) * half) 16).toNat
  ([cmp va, cmp vb, cmp vc], (satu (if sat then smax else span) 16).toNat, sat)

/-- R234: the confidence of one period; `e` is e_mag in mV, `th` th_err in 2^-16 turn, `w` the speed in rpm. -/
def confStep (p : Bytes) (closed : Bool) (conf : Nat) (e th w : Int) : Nat :=
  let eExp := sar ((u32At p 16 : Nat) * (w.natAbs : Int)) 16
  let cMag := cdiv (min e eExp * 65536) (max (max e eExp) 1)
  let cPh := max 0 (65536 - 8 * (th.natAbs : Int))
  let c := if closed ∧ w.natAbs < mHand p / 2 then 0 else sar (cMag * cPh) 16
  (satu ((conf : Int) + sar (c - conf) 2) 16).toNat

/-- One electrical period at a speed in 0.01 rpm, in ns (R233, R235). -/
def elecNs (p : Bytes) (rpm100 : Nat) : Nat := 6000000000000 / max 1 (mPoles p * rpm100)

/-- |setpoint - speed| is at most 1 % of the setpoint (R250). -/
def near (m : Motor) : Bool := decide ((m.speed - m.target).natAbs * 100 ≤ m.target.natAbs)

/-- Time limit of MOTOR_START in ns: RAMP_TIMEOUT + |setpoint| / ACC + 1 s (R250). -/
def startLimit (p : Bytes) (m : Motor) : Nat :=
  u16At p 50 * 1000000 + m.target.natAbs * 10000000 / u16At p 56 + 1000000000

/-- The tests that end a MOTOR_START or MOTOR_STOP in a period of `dt` ns (R247, R250). -/
def startStopTests (i : Nat) (p : Bytes) (dt : Nat) (s : State) : State :=
  let m := s.motor i
  let s :=
    if m.stopping && decide (m.speed.natAbs * 2 ≤ mHand p * 100) then
      ((s.setMotor i fun m => { m with stopping := false }).motorState i .off).finish .motorStop (chTarget i) stDone 0
    else s
  match m.startNs with
  | none => s
  | some t =>
    let t := t + dt
    let nearT := if m.state = .closed ∧ near m then m.nearNs + dt else 0
    if 100000000 ≤ nearT then
      (s.setMotor i fun m => { m with startNs := none, nearNs := 0 }).finish .motorStart (chTarget i) stDone 0
    else if startLimit p m < t then
      (s.setMotor i fun m => { m with startNs := none, nearNs := 0 }).finish .motorStart (chTarget i) stTimeout 0
    else s.setMotor i fun m => { m with startNs := some t, nearNs := nearT }

/-- A channel in CLOSED has lost its rotor: the loss is counted; a fourth within 60 s faults with OBS_LOST, else the
channel enters CATCH or FLOAT, or faults with OBS_LOST where it has neither (R235, R237). -/
def loseRotor (i : Nat) (p : Bytes) (s : State) : State :=
  let s := s.setMotor i fun m => { m with
    losses := satInc 16 m.losses, probe := false
    lossTimes := (s.io.time :: m.lossTimes).filter fun t => decide (s.io.time < t + 60000000000) }
  if 4 ≤ (s.motor i).lossTimes.length then s.motorFault i 0x0A
  else if i < 6 ∧ mOption p 0 = true then s.motorState i .catching
  else if 6 ≤ i ∧ mOption p 1 = true then s.motorState i .float
  else s.motorFault i 0x0A

/-- Forced speed after `t` ns in RAMP, in 0.01 rpm (channel-states table). -/
def forcedSpeed (p : Bytes) (t : Nat) : Nat := u16At p 46 * 100 * t / 1000000000

/-- Forced electrical angle after `t` ns in RAMP: from 0 under ACC_RAMP, backward under REVERSE (R229, R233). -/
def forcedAngle (p : Bytes) (t : Nat) : Int :=
  let a : Int := turn * (mPoles p * u16At p 46 : Nat) * (t : Int) ^ 2 / 120000000000000000000
  (if mOption p 2 then -a else a) % turn

/-- Proportional part of a speed loop in 2^-16 mA or mN m, for an error in 0.01 rpm (R238). -/
def speedProp (p : Bytes) (e : Int) : Int := floorDiv ((u32At p 32 : Nat) * e) 100

/-- The state tests of a period of `dt` ns: the loss condition of R235, and the hand-over of R233 with `diff` the
forced less the observed angle and `iq` the q reference at hand-over in 2^-16 mA, to which the speed integrator is
preset. -/
def stateTests (i : Nat) (p : Bytes) (dt : Nat) (lost : Bool) (diff : Int) (iq : Int) (s : State) : State :=
  let m := s.motor i
  match m.state with
  | .closed =>
    if lost then
      let limit := if m.lossNs = 0 then 2 * elecNs p m.speed.natAbs else m.lossLimit
      if limit ≤ m.lossNs + dt then loseRotor i p s
      else s.setMotor i fun m => { m with lossNs := m.lossNs + dt, lossLimit := limit }
    else s.setMotor i fun m => { m with lossNs := 0 }
  | .ramp =>
    let forced := forcedSpeed p m.inState
    let ok : Bool := decide (mHand p * 100 ≤ forced) && (decide (6 ≤ i) || decide (u16At p 52 ≤ m.conf))
      && decide (diff.natAbs * 6 ≤ turn.natAbs)
    let held := if ok then m.handNs + dt else 0
    if ok && decide (4 * elecNs p forced ≤ held) then
      let w : Int := if mOption p 2 then -(forced : Int) else forced
      (s.setMotor i fun m => { m with
        forced := forced, iqRef := sar iq 16, intW := iq - speedProp p (w - m.speed), slew := w, slewRem := 0 }).motorState i .closed
    else s.setMotor i fun m => { m with forced := forced, handNs := held }
  | _ => s

/-- A period of a channel begins (R247): the outputs follow OWN (R246), causes of the former period are behind (R244),
the commands that wait apply, and a catch that has succeeded enables the bridge: CLOSED with both current references 0,
the voltage preset to the back-EMF estimate and the speed integrator to the caught speed, at which its output is 0
(R236; DEDUCED, assumption 5). -/
def beginPeriod (i : Nat) (s : State) : State :=
  let cmds := (s.motor i).wait
  let s := cmds.foldl (runMotorCmd i) (s.setMotor i fun m => { m with wait := [], faultNew := false, drives := s.outputsOwned })
  match (s.motor i).state, (s.motor i).caught with
  | .catching, some w =>
    let e := (0, freeVal .observer 22 s)
    advanceFree ((s.setMotor i fun m => { m with
      speed := w, slew := w, slewRem := 0, iqRef := 0, intW := 0, intDq := e, vDq := e }).motorState i .closed)
  | _, _ => s

/-- The d and q currents at an electrical angle, in 2^-16 mA (R229); the factor 1.5 of R243 makes the transform keep
amplitudes. -/
def park (a ia ib ic : Int) : Int × Int :=
  let t := turn / 3
  (sat32 (floorDiv (2 * (ia * cosTurn a + ib * cosTurn (a - t) + ic * cosTurn (a + t))) 3),
   sat32 (floorDiv (-2 * (ia * sinTurn a + ib * sinTurn (a - t) + ic * sinTurn (a + t))) 3))

/-- The three phase voltages of a d and q voltage, in 2^-16 V (R229). -/
def unpark (a : Int) (v : Int × Int) : Int × Int × Int :=
  let t := turn / 3
  let f (a : Int) : Int := sat32 (sar (v.1 * cosTurn a - v.2 * sinTurn a) 16)
  (f a, f (a - t), f (a + t))

/-- A PI regulator of one axis in saturating Q16.16 (R229): error in 2^-16 mA, KP_I in V/A, KI_I in V/(A ms), both
UQ16.16; its output in 2^-16 V, and its integrator after `dt` ns. -/
def piStep (p : Bytes) (e int : Int) (dt : Nat) : Int × Int :=
  (sat32 (floorDiv ((u32At p 24 : Nat) * e) 65536000 + int),
   sat32 (int + floorDiv ((u32At p 28 : Nat) * e * dt) 65536000000000))

/-- The q reference that keeps 1.5 × (v_d × i_d + v_q × i_q) at or above 0, with v_d, i_d and v_q of the previous
period (R243). -/
def qNoReturn (v : Int × Int) (id q : Int) : Int :=
  if 0 < v.2 then max q (ceilDiv (-(v.1 * id)) v.2)
  else if v.2 < 0 then min q (floorDiv (v.1 * id) (-v.2))
  else q

/-- d and q references of a large channel in mA, clamped to I_MAX in magnitude, the d axis first (R229, R243); `w` is its
speed in 0.01 rpm. -/
def largeRefs (p : Bytes) (m : Motor) (regenFree : Bool) (w : Int) : Int × Int :=
  let lim := mIMax p
  let d : Int := match m.state with
    | .align => u16At p 40
    | .closed => if regenFree && decide (m.slew.natAbs < w.natAbs) then u16At p 62 else 0
    | _ => 0
  let q : Int := match m.state with
    | .ramp => u16At p 44
    | .closed => m.iqRef
    | _ => 0
  let q := if regenFree then qNoReturn m.vDq m.id q else q
  let d := clamp d (-(lim : Int)) lim
  let room : Int := isqrt (lim ^ 2 - d.natAbs ^ 2)
  (d, clamp q (-room) room)

/-- A PWM period of a large channel (R229, R230, R234, R243): the sampled currents are kept and transformed on the
channel's angle, the current sum is tested, the regulators run and pass R228, the confidence steps and the state tests
run. The observer's angle, speed, back-EMF amplitude and angle error are free values, and so are the references while the
measured bus voltage is not above 0 (assumption 5). -/
def largePeriod (i : Nat) (x : LmIn) (s : State) : State :=
  let s := beginPeriod i s
  match (s.motor i).set with
  | none => s
  | some p =>
    let m := s.motor i
    let dt := 5 * tPwm p
    let fv (k : Nat) : Int := freeVal .observer k s
    let bad : Bool := m.state != .off && decide ((mIMax p : Int) < (10 * (x.ia + x.ib + x.ic)).natAbs)
    let active : Bool := !m.state.floated
    let est : Bool := m.state == .ramp || m.state == .closed
    let w := if m.state = .align then 0 else sat32 (fv 0)
    let observed := turn16 (fv 1) % turn
    let forced := forcedAngle p m.inState
    let angle := match m.state with
      | .ramp => forced
      | .closed => observed
      | _ => 0
    let i2 := park angle x.ia x.ib x.ic
    let refs := largeRefs p m ((s.bus (mBus p)).regenFree) w
    let d := piStep p (refs.1 * 65536 - i2.1) m.intDq.1 dt
    let q := piStep p (refs.2 * 65536 - i2.2) m.intDq.2 dt
    let v := unpark angle (d.1, q.1)
    let ref (k v : Int) : Int := if x.vbus ≤ 0 then fv k.toNat else floorDiv (v * 1000) x.vbus
    let out := svm p (ref 2 v.1) (ref 3 v.2.1) (ref 4 v.2.2)
    let s1 := s.setMotor i fun m => { m with
      iDq := if active then i2 else (0, 0)
      id := if active then sat16 (sar i2.1 16) else 0, iq := if active then sat16 (sar i2.2 16) else 0
      speed := w
      conf := if est then confStep p (m.state == .closed) m.conf (fv 5).natAbs (fv 6) (cdiv w 100) else m.conf
      cmp := if active then out.1 else m.cmp, gate := if active then .pwm else .low
      mod := if active then out.2.1 else 0, vsat := active && out.2.2
      vsatAt := if active && out.2.2 then some s.io.time else m.vsatAt
      vDq := if active then (d.1, q.1) else (0, 0)
      intDq := if active && !out.2.2 then (d.2, q.2) else m.intDq
      sumBad := if bad then m.sumBad + 1 else 0
      idRef := if active then refs.1 else 0, iqUse := if active then refs.2 else 0
      torqueAt := if active then some s.io.time else m.torqueAt
      inState := m.inState + dt, ia := sat16 x.ia, ib := sat16 x.ib }
    let s1 := advanceFree s1
    if 3 ≤ (s1.motor i).sumBad then s1.motorFault i 0x06
    else
      let diff := angleDiff forced observed
      startStopTests i p dt
        (stateTests i p dt (decide ((s1.motor i).conf < u16At p 52)) diff ((u16At p 44 : Nat) * cosTurn diff) s1)

/-- The vector nearest an angle in 2^-16 turn: Vk lies at 60 degrees × (k - 1) (R232, R233). -/
def nearestVector (angle : Nat) : Nat := (angle % 65536 * 6 + 32768) / 65536 % 6 + 1

/-- Phases whose high side a vector turns on (R232). -/
def vectorPhases : Nat → Bool × Bool × Bool
  | 1 => (true, false, false) | 2 => (true, true, false) | 3 => (false, true, false)
  | 4 => (false, true, true) | 5 => (false, false, true) | 6 => (true, false, true)
  | _ => (false, false, false)

/-- Sector of a flux, its alpha part and its beta part times the root of 3: sector k holds the angles from
60 degrees × (k - 1) - 30 degrees up to 30 degrees above (R232); none for a flux of 0, which has no angle. -/
def fluxSector (psi : Int × Int) : Option Nat :=
  let a := psi.1
  let b := psi.2
  if a = 0 ∧ b = 0 then none
  else some <|
    if 0 < a ∧ -a ≤ b ∧ b < a then 1
    else if 0 < a ∧ a ≤ b then 2
    else if a ≤ 0 ∧ -a < b then 3
    else if a < 0 ∧ a < b then 4
    else if a < 0 ∧ b ≤ a then 5
    else 6

/-- The flux estimate after a period: the vector `k` of the period on a bus of `v` mV for all but the sampling slot, less
the drop of RS over the whole period (R231). Units as `Motor.psi`; phase C carries - A - B. -/
def fluxStep (p : Bytes) (k v : Nat) (ia ib : Int) (psi : Int × Int) : Int × Int :=
  let on : Int := ((1000 * u16At p 4 - 100 * byteAt p 60 : Nat) : Int) * v * 65536
  let n (b : Bool) : Int := b2n b
  let f := vectorPhases k
  let drop : Int := ((u32At p 8 * (1000 * u16At p 4) : Nat) : Int)
  (psi.1 + on * (2 * n f.1 - n f.2.1 - n f.2.2) - drop * 3 * ia,
   psi.2 + on * 3 * (n f.2.1 - n f.2.2) - drop * 3 * (ia + 2 * ib))

/-- The flux is below `r` mWb, UQ16.16 (R232, R235). -/
def fluxBelow (psi : Int × Int) (r : Nat) : Bool := decide (3 * psi.1 ^ 2 + psi.2 ^ 2 < 3 * ((3000000000 * r : Nat) : Int) ^ 2)

/-- The flux is above `r` mWb, UQ16.16. -/
def fluxAbove (psi : Int × Int) (r : Nat) : Bool := decide (3 * ((3000000000 * r : Nat) : Int) ^ 2 < 3 * psi.1 ^ 2 + psi.2 ^ 2)

/-- Flux magnitude in uWb (SMn_DTC.FLUX). -/
def fluxMag (psi : Int × Int) : Nat := isqrtGo ((3 * psi.1 ^ 2 + psi.2 ^ 2).natAbs / 3) 100 0 / 196608000000

/-- Torque estimate in 2^-16 mN m: 1.5 × POLE_PAIRS × (psi_alpha × i_beta - psi_beta × i_alpha) (R231). -/
def torqueOf (p : Bytes) (ia ib : Int) (psi : Int × Int) : Int :=
  let x := (mPoles p : Int) * (psi.1 * (ia + 2 * ib) - psi.2 * ia)
  let t : Int := isqrtGo (3 * x.natAbs ^ 2) 110 0 / 6000000000000
  if x < 0 then -t else t

/-- Torque in 2^-16 mN m that corresponds to I_MAX at PSI_REF (R238; DEDUCED from the torque of R231, assumption 5). -/
def torqueMax (p : Bytes) : Nat := 3 * mPoles p * u32At p 28 * mIMax p / 2000

/-- The switching table of R232: flux demand, torque demand (1 up, 0 hold, -1 down), sector; 0 is 000. -/
def switchVector (fluxUp : Bool) (torque : Int) (sector : Nat) : Nat :=
  if torque = 0 then 0
  else
    let d : Nat := if fluxUp then (if 0 < torque then 1 else 5) else (if 0 < torque then 2 else 4)
    (sector - 1 + d) % 6 + 1

/-- A control period of a small channel (R231 to R233, R235, R243): currents sampled in the slot that opens it,
overcurrent tested, the estimator run over the period that ended, flux and torque compared, the vector of this period
chosen. The speed estimate is a free value, and so is the sector of a flux of 0 and the torque reference at a hand-over
(assumption 5). -/
def smallPeriod (i : Nat) (ia ib : Int) (s : State) : State :=
  let s := beginPeriod i s
  match (s.motor i).set with
  | none => s
  | some p =>
    let m := s.motor i
    let dt := 1000 * u16At p 4
    let fv (k : Nat) : Int := freeVal .observer k s
    let active : Bool := !m.state.floated
    let trip : Int := u16At p 22
    let isOver : Bool := active
      && (decide (trip < ia.natAbs) || decide (trip < ib.natAbs) || decide (trip < (-ia - ib).natAbs))
    let psi := if active then fluxStep p m.vector (s.bus (mBus p)).v ia ib m.psi else m.psi
    let r := u32At p 28
    let up : Bool := if fluxBelow psi (r - r / 32) then true else if fluxAbove psi (r + r / 32) then false else m.fluxUp
    let torque := torqueOf p ia ib psi
    let ref := if (s.bus (mBus p)).regenFree && decide (m.iqRef * m.speed < 0) then 0 else m.iqRef
    let tb : Int := u32At p 24
    let dem : Int := if tb < ref * 65536 - torque then 1 else if ref * 65536 - torque < -tb then -1 else 0
    let sector := (fluxSector psi).getD ((fv 0 % 6).toNat + 1)
    let cur := max ia.natAbs (max ib.natAbs (-ia - ib).natAbs)
    let ial := u16At p 40
    let irp := u16At p 44
    let forced := forcedAngle p m.inState
    let hyst (lim v : Nat) : Nat := if lim + lim / 8 < cur then 0 else if cur < lim - lim / 8 then v else m.vector
    let vec := match m.state with
      | .align => hyst ial 1
      | .ramp => hyst irp (nearestVector ((forced + turn / 4) % turn / 196608).toNat)
      | .closed => switchVector up dem sector
      | _ => 0
    let s1 := s.setMotor i fun m => { m with
      ia := sat16 ia, ib := sat16 ib, psi := psi, flux := (satu (fluxMag psi) 16).toNat, torque := sat16 (sar torque 16), fluxUp := up
      sector := if m.state = .closed then sector else 0, vectorWas := m.vector, vector := vec, inState := m.inState + dt
      gate := if active then .vector else .low
      speed := if m.state.floated then 0 else sat32 (fv 1)
      torqueAt := if active then some s.io.time else m.torqueAt }
    let s1 := advanceFree s1
    if isOver then s1.motorFault i 0x05
    else
      let lost : Bool := fluxBelow psi (r - r / 4) || fluxAbove psi (r + r / 4)
        || decide ((s1.motor i).speed.natAbs * 2 < mHand p * 100)
      let seen := (atan2 psi.2 psi.1).getD (fv 2)
      startStopTests i p dt (stateTests i p dt lost (angleDiff forced seen) (fv 3) s1)

/-- The deceleration of R241 in 10^-3 rpm/s: DEC, or less while the bus is above V_REGEN_LIM. -/
def decMilli (p : Bytes) (b : Bus) : Nat :=
  let dec := u16At p 58 * 1000
  match b.set with
  | none => dec
  | some q =>
    if bThr q 14 < b.v * 100 then
      if bThr q 15 ≤ b.v * 100 then 0 else dec * (bThr q 15 - b.v * 100) / (bThr q 15 - bThr q 14)
    else dec

/-- A slewing step: from `x` toward `t` by ACC upward and by the deceleration downward, in magnitude, over `dt` ns
(R238, R241). Answers the new value and the remainder not yet applied. -/
def slewStep (p : Bytes) (dec : Nat) (direct : Bool) (limited : Bool) (x t : Int) (rem dt : Nat) : Int × Nat :=
  let rising : Bool := decide (x.natAbs < t.natAbs) && decide (0 ≤ x * t)
  if direct && !(limited && !rising) then (t, 0)
  else
    let rate := if rising then u16At p 56 * 1000 else dec
    let amount := rate * dt / 10 + rem
    let stepN : Int := (amount / 1000000000 : Nat)
    let y := if x < t then min t (x + stepN) else max t (x - stepN)
    (y, if y = t then 0 else amount % 1000000000)

/-- The speed loop of a channel (R238, R239, R241): the setpoint slews, and the PI on the speed error gives the q or
torque reference, clamped to I_MAX or to the torque that corresponds to it; the integrator holds while the output is
clamped. -/
def speedLoop (i : Nat) (s : State) : State :=
  match (s.motor i).set with
  | none => s
  | some p =>
    let m := s.motor i
    if m.state ≠ .closed then s
    else
      let dt := byteAt p 54 * (if i < 6 then 5 * tPwm p else 1000 * u16At p 4)
      let b := s.bus (mBus p)
      let limited : Bool := match b.set with | some q => decide (bThr q 14 < b.v * 100) | none => false
      let goal := if m.stopping then 0 else m.target
      let r := slewStep p (decMilli p b) (m.direct && !m.stopping) limited m.slew goal m.slewRem dt
      let held : Bool := !m.stopping && decide (r.1.natAbs < mHand p * 100)
      let slew : Int := if held then (if r.1 < 0 ∨ (r.1 = 0 ∧ mOption p 2) then -((mHand p * 100 : Nat) : Int) else (mHand p * 100 : Nat)) else r.1
      let lim : Int := if i < 6 then mIMax p * 65536 else torqueMax p
      let raw := speedProp p (slew - m.speed) + m.intW
      let out := clamp raw (-lim) lim
      s.setMotor i fun m => { m with
        slew := slew, slewRem := if held then 0 else r.2, iqRef := sar out 16
        intW := if out = raw then m.intW + floorDiv ((u32At p 36 : Nat) * (slew - m.speed) * dt) 100000000000 else m.intW }

/-! ## Gate outputs (R226, R228, R231) -/

/-- xH and xL of one phase of a large channel at count `t` of its period: xH on while the counter is at or above the
compare value `c`, with `dead` counts of both low between them. -/
def pwmLeg (period dead c t : Nat) : Bool × Bool :=
  if c = 0 then (true, false)
  else
    (decide (c + dead ≤ t) && decide (t + c ≤ period),
     (decide (t < c) && decide (dead ≤ t + c)) || decide (period + dead ≤ t + c))

/-- xH and xL of one phase of a small channel at count `t` of its period: low in the sampling slot, then as its vector
says; `was` and `now` say whether the vectors of the last and of this period turn its high side on. -/
def vectorLeg (slot dead : Nat) (was now : Bool) (t : Nat) : Bool × Bool :=
  (now && decide (slot + dead ≤ t), (!was || decide (dead ≤ t)) && (!now || decide (t < slot)))

/-- The six gate outputs of channel `i` at count `t` of 5 ns of its period, phases A to C with xH and xL each (R226);
all low without OWN (R246) and while nDRVFLT is low. -/
def gateOutputs (i t : Nat) (s : State) : List (Bool × Bool) :=
  let m := s.motor i
  let off := List.replicate 3 (false, false)
  match m.set with
  | none => off
  | some p =>
    let dead := u16At p 6 / 5
    if !m.drives || !s.outputsOwned || m.drvLow then off
    else match m.gate with
      | .low => off
      | .pwm => m.cmp.map fun c => pwmLeg (tPwm p) dead c t
      | .vector =>
        let w := vectorPhases m.vectorWas
        let n := vectorPhases m.vector
        let leg (was now : Bool) : Bool × Bool := vectorLeg (20 * byteAt p 60) dead was now t
        [leg w.1 n.1, leg w.2.1 n.2.1, leg w.2.2 n.2.2]

/-! ## Channel events -/

/-- An nDRVFLT input: low for 100 ns drives the gates low and faults the channel; its return only ends the cause (R226). -/
def drvFault (i : Nat) (low : Bool) (s : State) : State :=
  let s := s.setMotor i fun m => { m with drvLow := low, vector := if low then 0 else m.vector, gate := if low then .low else m.gate }
  if low then s.motorFault i 0x02 else s

/-- A sensing or overcurrent protection of a large channel floats it with a cause (R230). -/
def protectChannel (i cause : Nat) (s : State) : State :=
  if (s.motor i).state = .off then s else s.motorFault i cause

/-- T_ALIGN elapses: RAMP, or ALIGN_FAIL when the current magnitude at T_ALIGN / 2 was below I_ALIGN / 2 (R233). -/
def alignEnd (i : Nat) (iMid : Nat) (s : State) : State :=
  match (s.motor i).state, (s.motor i).set with
  | .align, some p => if iMid * 2 < u16At p 40 then s.motorFault i 0x09 else s.motorState i .ramp
  | _, _ => s

/-- RAMP_TIMEOUT: since ALIGN without hand-over, or of a wait for quiet in CATCH (R233, R236). -/
def rampTimeout (i : Nat) (s : State) : State :=
  match (s.motor i).state with
  | .align | .ramp => s.motorFault i 0x08
  | .catching => if (s.motor i).probe || (s.motor i).opposite then s.motorFault i 0x07 else s
  | _ => s

/-- Edges in the sequence of one direction: each phase follows the one before it in the order A, B, C or C, B, A, in
rising and falling pairs 60 degrees apart. The position of an edge in the cycle of six. -/
def edgePlace (e : Nat × Bool × Nat) : Nat := (e.1 * 2 + if e.2.1 then 0 else 3) % 6

/-- The last edges run in one direction: 1 forward, -1 backward, 0 neither. -/
def edgeDir : List (Nat × Bool × Nat) → Int
  | a :: b :: rest =>
    let d := (edgePlace a + 6 - edgePlace b) % 6
    let here : Int := if d = 1 then 1 else if d = 5 then -1 else 0
    match rest with
    | [] => here
    | _ => if edgeDir (b :: rest) = here then here else 0
  | _ => 0

/-- The intervals between edges. -/
def edgeGaps : List (Nat × Bool × Nat) → List Nat
  | a :: b :: rest => (a.2.2 - b.2.2) :: edgeGaps (b :: rest)
  | _ => []

/-- Every interval agrees within 12.5 % of their mean (R236). -/
def gapsAgree (g : List Nat) : Bool :=
  let n := g.length
  let sum := g.foldl (· + ·) 0
  g.all fun x => decide ((n * x - sum + (sum - n * x)) * 8 ≤ sum)

/-- Speed in 0.01 rpm of six edges per electrical period (R236). -/
def edgeSpeed (p : Bytes) (g : List Nat) : Nat :=
  let sum := g.foldl (· + ·) 0
  6000000000000 * g.length / max 1 (6 * mPoles p * sum)

/-- A comparator edge in CATCH: the sixth edge of one direction with agreeing intervals is the catch, which enables the
bridge at the next period, or waits for quiet when it is opposite to the setpoint (R236). -/
def catchEdge (i phase : Nat) (rising : Bool) (at_ : Nat) (s : State) : State :=
  match (s.motor i).state, (s.motor i).set with
  | .catching, some p =>
    let m := s.motor i
    let es := ((phase, rising, at_) :: m.edges).take 6
    let dir := edgeDir es
    let s1 := s.setMotor i fun m => { m with edges := es }
    if es.length = 6 ∧ dir ≠ 0 ∧ gapsAgree (edgeGaps es) = true ∧ m.opposite = false ∧ m.caught = none then
      let w : Int := dir * edgeSpeed p (edgeGaps es)
      if w * m.target < 0 then s1.setMotor i fun m => { m with opposite := true }
      else s1.setMotor i fun m => { m with speed := w, caught := some w, catches := satInc 16 m.catches }
    else s1
  | _, _ => s

/-- CATCH_TIME elapses after a loss without a catch; an opposite one waits for quiet (R236). -/
def catchTimeout (i : Nat) (s : State) : State :=
  let m := s.motor i
  if m.state = .catching ∧ m.probe = false ∧ m.opposite = false ∧ m.caught = none then s.motorFault i 0x07 else s

/-- 5 ms without an edge: the rotor counts as at rest and a start probe enters ALIGN (R236). -/
def catchQuiet (i : Nat) (s : State) : State :=
  let m := s.motor i
  if m.state = .catching ∧ m.caught = none ∧ (m.probe = true ∨ m.opposite = true) then enterAlign i s else s

/-- SM_COAST ends in FLOAT (R237). -/
def coastEnd (i : Nat) (s : State) : State :=
  if (s.motor i).state = .float then enterAlign i s else s

/-- A speed estimate above SPEED_LIMIT for 10 ms (R244). -/
def speedTrip (i : Nat) (s : State) : State :=
  if (s.motor i).state = .off then s else s.motorFault i 0x0B

/-! ## Bus events -/

/-- On-time of the chopper in the last second, in ns. -/
def Bus.onTime (b : Bus) (now : Nat) : Nat :=
  b.ons.foldl (fun a x => a + (x.2 - max x.1 (now - 1000000000))) 0

/-- A sample of a bus monitor: voltage in mV, chopper current in mA (R240, R242, R243). -/
def busSample (n v ma : Nat) (s : State) : State :=
  match (s.bus n).set with
  | none => s.setBus n fun b => { b with v := v }
  | some p =>
    let b := s.bus n
    let now := s.io.time
    let imin := u16At p 20
    let ovp := if bThr p 16 ≤ v * 100 then b.ovpRun + 1 else 0
    let chop : Bool := if bThr p 15 ≤ v * 100 ∧ b.regenFree = false then true
      else if v * 100 ≤ bThr p 13 then false else b.chop && !b.regenFree
    let on : Bool := chop && !b.chop
    let short := if chop = false ∧ b.chop = false ∧ imin < ma then b.shortRun + 1 else 0
    let ons := (if b.chop then (now - 2000, now) :: b.ons else b.ons).filter fun x => decide (now < x.2 + 1000000000)
    let onT := ({ b with ons := ons }).onTime now
    let hotNow : Bool := if b.chopHot then decide (byteAt p 18 * 5000000 ≤ onT) else decide (byteAt p 18 * 10000000 < onT)
    let idle : Bool := (s.onBus n).all fun i => (s.motor i).state == .off || (s.motor i).state == .fault
    let s1 := s.setBus n fun b => { b with
      v := v, ovpRun := ovp, chop := chop && !hotNow, chopHot := hotNow, ons := ons, shortRun := short
      chopV0 := if on then v else b.chopV0
      chopSeen := if on then decide (imin ≤ ma)
        else b.chopSeen || decide (imin ≤ ma) || decide (v * 1000 + byteAt p 17 * bNom p ≤ b.chopV0 * 1000)
      onCnt := if on then satInc 16 b.onCnt else b.onCnt, lifeChop := if on then b.lifeChop + 1 else b.lifeChop
      armed := b.armed && !(decide (v * 100 < bThr p 12) && idle) }
    let s1 := if hotNow && !b.chopHot then s1.raise .note (112 + n) n 3 else s1
    let s1 := if short = 10 then s1.raise .stop (112 + n) n 2 else s1
    let s1 := if 2 ≤ ovp then s1.busFault n 0x03 else s1
    State.busEvent s s1 n

/-- An ARMED bus below V_UVP for 1 ms: every bridge on it floats (R240). -/
def busUvp (n : Nat) (s : State) : State := if (s.bus n).armed then s.busFault n 0x04 else s

/-- A bus above V_UVP for 10 ms becomes ARMED (R240). -/
def busArmed (n : Nat) (s : State) : State :=
  State.busEvent s (s.setBus n fun b => { b with armed := true }) n

/-- The end of the 200 us check after CHOPn turned on (R242). -/
def chopCheck (n : Nat) (s : State) : State :=
  if (s.bus n).chopSeen || (s.bus n).chopFault || (s.bus n).set.isNone then s
  else
    let s1 := s.setBus n fun b => { b with chopFault := true, chop := false }
    State.busEvent s (s1.raise .halt (112 + n) n 1) n

end Sys2Proof.Machine
end

