-- ==== Sys2Proof/Machine/Axes.lean ====
section
/-!
DEFINITION. Stepper axes (chapter 11): the commands of group 0x09, path moves, the profile, the PWM period with its
stall check, homing and the axis events.
-/
namespace Sys2Proof.Machine

/-! ## Microstepping -/

/-- 2^20 cos(2 pi k / 1,024), rounded, for k from 0 (R255). -/
def cosTab0 : List Nat :=
  [1048576, 1048556, 1048497, 1048398, 1048260, 1048083, 1047865, 1047609, 1047313, 1046978,
   1046603, 1046188, 1045735, 1045242, 1044709, 1044138, 1043527, 1042877, 1042187, 1041458,
   1040690, 1039883, 1039037, 1038151, 1037227, 1036263, 1035261, 1034219, 1033138, 1032019,
   1030861, 1029664, 1028428, 1027153, 1025840, 1024488, 1023098, 1021669, 1020201, 1018696,
   1017151, 1015569, 1013948, 1012289, 1010592, 1008857, 1007084, 1005273, 1003425, 1001538,
   999614, 997652, 995652, 993616, 991541, 989429, 987281, 985094, 982871, 980611,
   978314, 975980, 973609, 971202, 968758]

/-- 2^20 cos(2 pi k / 1,024), rounded, for k from 65 (R255). -/
def cosTab1 : List Nat :=
  [966278, 963761, 961208, 958618, 955993, 953332, 950634, 947901, 945133, 942328,
   939489, 936614, 933703, 930758, 927777, 924761, 921711, 918626, 915506, 912352,
   909164, 905941, 902684, 899394, 896069, 892711, 889319, 885893, 882434, 878942,
   875417, 871859, 868268, 864645, 860988, 857300, 853579, 849826, 846041, 842224,
   838376, 834495, 830584, 826641, 822667, 818662, 814627, 810560, 806463, 802336,
   798179, 793991, 789774, 785526, 781250, 776944, 772608, 768244, 763850, 759428,
   754977, 750498, 745991, 741455]

/-- 2^20 cos(2 pi k / 1,024), rounded, for k from 129 (R255). -/
def cosTab2 : List Nat :=
  [736892, 732301, 727682, 723036, 718362, 713662, 708935, 704181, 699400, 694593,
   689760, 684901, 680017, 675106, 670171, 665210, 660224, 655213, 650177, 645117,
   640033, 634924, 629792, 624636, 619456, 614254, 609028, 603779, 598507, 593213,
   587896, 582558, 577197, 571815, 566411, 560986, 555539, 550072, 544584, 539076,
   533547, 527998, 522430, 516841, 511233, 505606, 499960, 494295, 488612, 482910,
   477190, 471452, 465696, 459922, 454132, 448324, 442499, 436658, 430800, 424926,
   419036, 413131, 407209, 401273]

/-- 2^20 cos(2 pi k / 1,024), rounded, for k from 193 (R255). -/
def cosTab3 : List Nat :=
  [395321, 389354, 383373, 377377, 371367, 365343, 359306, 353255, 347190, 341113,
   335022, 328919, 322804, 316676, 310537, 304386, 298223, 292049, 285864, 279669,
   273462, 267246, 261020, 254783, 248537, 242282, 236018, 229744, 223462, 217172,
   210873, 204567, 198253, 191931, 185602, 179267, 172924, 166575, 160219, 153858,
   147491, 141118, 134740, 128357, 121969, 115576, 109179, 102778, 96374, 89965,
   83553, 77138, 70720, 64299, 57876, 51451, 45024, 38595, 32165, 25733,
   19301, 12868, 6434, 0]

/-- The quarter wave. -/
def cosTab : List Nat := cosTab0 ++ cosTab1 ++ cosTab2 ++ cosTab3

/-- 2^20 cos(2 pi mu / 1,024) (R255). -/
def cosMicro (mu : Int) : Int :=
  let k := (mu % 1024).toNat
  if k ≤ 256 then (cosTab.getD k 0 : Nat)
  else if k ≤ 512 then -(cosTab.getD (512 - k) 0 : Nat)
  else if k ≤ 768 then -(cosTab.getD (k - 512) 0 : Nat)
  else (cosTab.getD (1024 - k) 0 : Nat)

/-- Target currents of phases A and B in mA for a current I at position mu (R255). -/
def phaseTargets (i : Nat) (mu : Int) : Int × Int :=
  (roundHalfUp ((i : Int) * cosMicro mu) 20, roundHalfUp ((i : Int) * cosMicro (mu - 256)) 20)

/-! ## Parameter sets -/

/-- Numeric fields of AXIS_SET (R268). -/
def axisTable (sc : Bool) : List Fld :=
  [⟨0, 1, 0, 1, 0⟩, if sc then ⟨1, 1, 0, 3, 0⟩ else ⟨1, 1, 0, 0, 0⟩, ⟨3, 1, 0, 7, 0⟩,
   if sc then ⟨4, 2, 50, 8000, 0⟩ else ⟨4, 2, 0, 0, 0⟩,
   if sc then ⟨10, 2, 200, 800, 400⟩ else ⟨10, 2, 0, 0, 0⟩,
   ⟨24, 2, 50, 10000, 600⟩, ⟨26, 2, 20, 10000, 200⟩, ⟨28, 1, 30, 120, 80⟩, ⟨29, 1, 1, 16, 2⟩, ⟨30, 2, 10, 10000, 200⟩,
   ⟨44, 4, 100, 1000000000, 0⟩, ⟨48, 4, 1000, 4000000000, 0⟩,
   if sc then ⟨52, 1, 0, 0, 0⟩ else ⟨52, 1, 0, 8, 0⟩, ⟨53, 1, 0, 0, 0⟩,
   if sc then ⟨54, 1, 0, 0, 0⟩ else ⟨54, 1, 1, 100, 10⟩,
   if sc then ⟨56, 2, 0, 0, 0⟩ else ⟨56, 2, 10, 1000, 100⟩, ⟨58, 6, 0, 0, 0⟩]

/-- I_RUN. -/
def aRun (p : Bytes) : Nat := u16At p 4
/-- I_HOLD. -/
def aHold (p : Bytes) : Nat := u16At p 6
/-- A bit of OPTIONS: 0 REVERSE, 1 STALL_ENABLE, 2 QUIET_ONLY. -/
def aOption (p : Bytes) (k : Nat) : Bool := bit (byteAt p 3) k
/-- POS_MIN. -/
def aMin (p : Bytes) : Int := toSigned 48 (leAt p 32 6)
/-- POS_MAX. -/
def aMax (p : Bytes) : Int := toSigned 48 (leAt p 38 6)
/-- ROLE PATH. -/
def aPath (p : Bytes) : Bool := byteAt p 0 == 1

/-- AXIS_SET payload with its defaults; I_HOLD defaults to I_RUN / 2. -/
def axisFill (i : Nat) (p : Bytes) : Bytes :=
  let q := fillDefaults (axisTable (isSc i)) (fit 64 p)
  if aHold q = 0 then putLe q 6 2 (aRun q / 2) else q

/-- Another axis already uses a GPIO as its FAULT_GPIO (R268, R284). -/
def gpioTaken (i g : Nat) (s : State) : Bool :=
  (List.range 20).any fun k => k != i && !isSc k && match (s.axis k).set with
    | some q => byteAt q 55 == g
    | none => false

/-- A compare unit other than `k` drives a GPIO as its OUT_GPIO (R268, R284). -/
def gpioCompare (k g : Nat) (s : State) : Bool :=
  (List.range 16).any fun j =>
    let x := s.fb.cmp.getD j {}
    j != k && x.live && byteAt x.set 10 == g

/-- Faulty fields of an AXIS_SET payload (R268). -/
def axisFaults (i : Nat) (p : Bytes) (s : State) : List (Bool × Nat) :=
  let sc := isSc i
  let g := byteAt p 55
  fldFaults (axisTable sc) p ++
  [(!([0, 1, 3, 4].contains (byteAt p 2)), 2), (decide (aRun p < aHold p), 6),
   (if sc then outside (u16At p 8) (aRun p + 1) 10000 else u16At p 8 != 0, 8),
   (!sc && u32At p 12 != 0, 12), (!sc && u32At p 16 != 0, 16), (!sc && u32At p 20 != 0, 20),
   (decide (aMax p ≤ aMin p), 38),
   (if sc then g != 0xFF else (decide (31 < g) && g != 0xFF) || (g != 0xFF && (gpioTaken i g s || gpioCompare 16 g s)), 55)]

/-! ## Profiles (R257, R258) -/

/-- Distance from speed `u` to speed `v` under ACC and JERK is at most `l`, in usteps, compared without rounding. -/
def reaches (u v acc jerk l : Nat) : Bool :=
  let dv := max u v - min u v
  if acc * acc ≤ dv * jerk then decide ((u + v) * (dv * jerk + acc * acc) ≤ 2 * l * acc * jerk)
  else decide ((u + v) * (u + v) * dv ≤ l * l * jerk)

/-- The largest speed, at most `2^(k+1) - 1` above `v`, that satisfies a downward-closed test. -/
def largest (ok : Nat → Bool) : Nat → Nat → Nat
  | 0, v => if ok (v + 1) then v + 1 else v
  | k + 1, v => largest ok k (if ok (v + 2 ^ (k + 1)) then v + 2 ^ (k + 1) else v)

/-- Length of a segment that starts at `from0`. -/
def Seg.len (g : Seg) (from0 : Int) : Nat := (g.pos - from0).natAbs

/-- Joint speeds after each segment, backward from rest (R258). -/
def jointsBack : Int → List Seg → List Nat
  | _, [] => []
  | from0, g :: rest =>
    let later := jointsBack g.pos rest
    match rest with
    | [] => [0]
    | h :: _ =>
      if g.blend && decide (0 < (g.pos - from0) * (h.pos - g.pos)) then
        let next := later.headD 0
        largest (fun v => decide (v ≤ min g.vmax h.vmax)
          && (decide (v ≤ next) || reaches v next h.acc h.jerk (h.len g.pos))) 22 0 :: later
      else 0 :: later

/-- Joint speeds limited forward from the speed at the start (R258). -/
def jointsFwd : Nat → Int → List Seg → List Nat → List Nat
  | _, _, [], _ => []
  | u, from0, g :: rest, js =>
    let j := js.headD 0
    let v := if j ≤ u then j
      else largest (fun v => decide (v ≤ j) && (decide (v ≤ u) || reaches u v g.acc g.jerk (g.len from0))) 22 0
    v :: jointsFwd v g.pos rest (js.drop 1)

/-- The joint speeds of a whole move from rest (R258). -/
def planJoints (from0 : Int) (segs : List Seg) : List Nat := jointsFwd 0 from0 segs (jointsBack from0 segs)

/-- Peak speed of a segment between its joint speeds (R258): distances compared in 2^-16 ustep. -/
def transNs (u v acc jerk : Nat) : Nat :=
  let dv := max u v - min u v
  if acc * acc ≤ dv * jerk then dv * 1000000000 / acc + acc * 1000000000 / jerk
  else 2 * isqrt (dv * 1000000000000000000 / jerk)

/-- Distance of a transition in 2^-16 ustep. -/
def transDist (u v acc jerk : Nat) : Nat := (u + v) * transNs u v acc jerk * 65536 / 2000000000

/-- The largest peak at most VMAX whose two transitions fit the length. -/
def peakSpeed (u v : Nat) (g : Seg) (l : Nat) : Nat :=
  max (max u v) (largest (fun w => decide (w ≤ g.vmax) &&
    (decide (w ≤ max u v) || decide (transDist u w g.acc g.jerk + transDist w v g.acc g.jerk ≤ l * 65536))) 22 0)

/-- Distance in 2^-16 ustep and speed after `t` ns of a transition from `u` to `v`. -/
def transAt (u v acc jerk t : Nat) : Int × Int :=
  let tt := transNs u v acc jerk
  let sg : Int := if u ≤ v then 1 else -1
  let dv := max u v - min u v
  let tj := if acc * acc ≤ dv * jerk then acc * 1000000000 / jerk else tt / 2
  let ta := tt - 2 * tj
  let jk : Int := sg * jerk
  let cube (x : Nat) : Int := jk * ((x : Int) ^ 3) * 65536 / 6000000000000000000000000000
  let line (v0 : Int) (x : Nat) : Int := v0 * x * 65536 / 1000000000
  let vj : Int := (u : Int) + jk * ((tj : Int) ^ 2) / 2000000000000000000
  let ac : Int := jk * tj / 1000000000
  if t < tj then (line u t + cube t, (u : Int) + jk * ((t : Int) ^ 2) / 2000000000000000000)
  else if t < tj + ta then
    let x := t - tj
    (line u tj + cube tj + line vj x + ac * ((x : Int) ^ 2) * 65536 / 2000000000000000000,
     vj + ac * x / 1000000000)
  else
    let x := tt - t
    ((transDist u v acc jerk : Int) - line v x - cube x, (v : Int) - jk * ((x : Int) ^ 2) / 2000000000000000000)

/-- Duration of a segment of length `l` in ns. -/
def segNs (u w v : Nat) (g : Seg) (l : Nat) : Nat :=
  let d := transDist u w g.acc g.jerk + transDist w v g.acc g.jerk
  transNs u w g.acc g.jerk + transNs w v g.acc g.jerk + (l * 65536 - d) * 1000000000 / (65536 * max 1 w)

/-- Distance in 2^-16 ustep and speed after `t` ns of a segment. -/
def segAt (u w v : Nat) (g : Seg) (l t : Nat) : Int × Int :=
  let t1 := transNs u w g.acc g.jerk
  let tc := segNs u w v g l - t1 - transNs w v g.acc g.jerk
  if t < t1 then transAt u w g.acc g.jerk t
  else if t < t1 + tc then ((transDist u w g.acc g.jerk + w * (t - t1) * 65536 / 1000000000 : Nat), w)
  else
    let r := transAt w v g.acc g.jerk (t - t1 - tc)
    ((transDist u w g.acc g.jerk + w * tc * 65536 / 1000000000 : Nat) + r.1, r.2)

/-- Acceleration `t` ns into a transition from `u` to `v`, usteps/s^2. -/
def transAcc (u v acc jerk t : Nat) : Int :=
  let tt := transNs u v acc jerk
  let sg : Int := if u ≤ v then 1 else -1
  let dv := max u v - min u v
  let tj := if acc * acc ≤ dv * jerk then acc * 1000000000 / jerk else tt / 2
  sg * (jerk * (if t < tj then t else if t < tt - tj then tj else tt - t) / 1000000000 : Nat)

/-- Acceleration `t` ns into a segment. -/
def segAcc (u w v : Nat) (g : Seg) (l t : Nat) : Int :=
  let t1 := transNs u w g.acc g.jerk
  let tc := segNs u w v g l - t1 - transNs w v g.acc g.jerk
  if t < t1 then transAcc u w g.acc g.jerk t
  else if t < t1 + tc then 0
  else transAcc w v g.acc g.jerk (t - t1 - tc)

/-! ## The stop of R264 -/

/-- The phases, jerk and ns, that bring speed `v` and acceleration `a` along the motion to rest under STOP_ACC and
STOP_JERK (R264): a rising speed first loses its acceleration. Where a deceleration found is too steep to end at rest
under STOP_JERK, it ends with the jerk that does (DESIGN CHOICE, assumption 34). -/
def stopPhases (v : Nat) (a : Int) (acc jerk : Nat) : List (Int × Nat) :=
  let ns (x : Nat) : Nat := x * 1000000000 / max 1 jerk
  let j : Int := jerk
  let up := if 0 < a then a.natAbs else 0
  let v := v + up * up / (2 * max 1 jerk)
  let d := if a < 0 then a.natAbs else 0
  let first : List (Int × Nat) := if 0 < up then [(-j, ns up)] else []
  let rest : List (Int × Nat) :=
    if v = 0 then []
    else if 2 * jerk * v < d * d then [(((d * d / (2 * v) : Nat) : Int), 2 * v * 1000000000 / d)]
    else if acc < d then
      [(j, ns (d - acc)), (0, (2 * jerk * v - d * d) * 1000000000 / (2 * jerk * max 1 acc)), (j, ns acc)]
    else if 2 * acc * acc ≤ 2 * jerk * v + d * d then
      [(-j, ns (acc - d)), (0, (2 * jerk * v + d * d - 2 * acc * acc) * 1000000000 / (2 * jerk * max 1 acc)), (j, ns acc)]
    else
      let p := isqrt (jerk * v + d * d / 2)
      [(-j, ns (p - d)), (j, ns p)]
  first ++ rest

/-- Duration of a list of phases in ns. -/
def phasesNs (l : List (Int × Nat)) : Nat := l.foldl (fun n x => n + x.2) 0

/-- Distance in 2^-16 ustep and speed in 2^-16 ustep/s after `t` ns of phases, from a speed and an acceleration. -/
def phasesAt : List (Int × Nat) → Int → Int → Int → Nat → Int × Int
  | [], x, v, _, _ => (x, v)
  | (j, n) :: rest, x, v, a, t =>
    let k : Int := min n t
    let x1 := x + v * k / 1000000000 + a * 65536 * k ^ 2 / 2000000000000000000 + j * 65536 * k ^ 3 / 6000000000000000000000000000
    let v1 := v + a * 65536 * k / 1000000000 + j * 65536 * k ^ 2 / 2000000000000000000
    if t ≤ n then (x1, v1) else phasesAt rest x1 v1 (a + j * k / 1000000000) (t - n)

/-! ## Moves -/

/-- Segments of an AXIS_MOVE payload from a start position, REL resolved (R257). -/
def parseSegs : Nat → Bytes → Int → List Seg
  | 0, _, _ => []
  | n + 1, b, from0 =>
    let raw := toSigned 48 (leAt b 0 6)
    let fl := byteAt b 6
    let pos := if bit fl 0 then from0 + raw else raw
    { pos := pos, mark := bit fl 2, blend := bit fl 1, vmax := u32At b 8, acc := u32At b 12, jerk := u32At b 16 }
      :: parseSegs n (b.drop 24) pos

/-- Faulty fields of segments, with the offset of each (R254, R257, R260). -/
def segFaults (i : Nat) (p : Bytes) : Nat → Bytes → Nat → Int → List (Bool × Nat)
  | 0, _, _, _ => []
  | n + 1, b, off, from0 =>
    let raw := toSigned 48 (leAt b 0 6)
    let fl := byteAt b 6
    let pos := if bit fl 0 then from0 + raw else raw
    let vmax := u32At b 8
    let rate : Bool := !isSc i && (decide (2000000 * 2 ^ byteAt p 52 < vmax)
      || decide (1000000000 * 2 ^ byteAt p 52 < vmax * 20 * u16At p 56))
    [(decide (pos < aMin p) || decide (aMax p < pos) || pos == from0, off), (decide (7 < fl), off + 6),
     (byteAt b 7 != 0, off + 7), (outside vmax 1 4194304 || rate, off + 8),
     (outside (u32At b 12) 100 1000000000, off + 12), (outside (u32At b 16) 1000 4000000000, off + 16),
     (u32At b 20 != 0, off + 20)] ++ segFaults i p n (b.drop 24) (off + 24) pos

/-- The next segment of the queue begins: its start, joint speeds and peak. -/
def beginSegment (i : Nat) (vIn : Nat) (s : State) : State :=
  match (s.axis i).queue with
  | [] => s
  | g :: _ => s.setAxis i fun a =>
    let l := g.len a.pos
    let v := a.joints.headD 0
    { a with start := a.pos * 65536, segT := 0, vIn := vIn, vOut := v, vPeak := peakSpeed vIn v g l, joints := a.joints.drop 1 }

/-- A move of planned segments starts from HOLD (R259). -/
def startMove (i : Nat) (segs : List Seg) (s : State) : State :=
  beginSegment i 0 (s.setAxis i fun a => { a with
    queue := segs, joints := planJoints a.pos segs, state := .moving, running := true, frac := 0
    settled := 0, failed := 0, stepOk := false, eDq := (0, 0), stopDetail := 0, accel := 0 })

/-- An axis begins to decelerate to rest from its present speed and acceleration at STOP_ACC and STOP_JERK; its queue
empties (R264). -/
def stopAxis (i : Nat) (s : State) : State :=
  s.setAxis i fun a => { a with
    queue := [], joints := [], start := a.pos * 65536 + a.frac, segT := 0
    vIn := a.vel.natAbs, vPeak := a.vel.natAbs, vOut := 0 }

/-- The move or homing in progress is stopped with a DETAIL (R264, R265). A homing that has met its edge decelerates
already, and leaves HOMED clear. -/
def haltMove (i detail : Nat) (s : State) : State :=
  let t := axTarget i
  match (s.axis i).state with
  | .moving | .homing =>
    let s := (s.finish .axisMove t stFaulted detail).finish .axisHome t stFaulted detail
    let s := if (s.axis i).homeHit then s else stopAxis i s
    s.setAxis i fun a => { a with
      state := .stopping, home := none, homeHit := false, homed := a.homed && a.home.isNone, stopDetail := detail }
  | _ => s

/-- A state check that every change command but AXIS_SET makes: the axis holds a parameter set (R268). -/
def axisUnset (i : Nat) (s : State) : Bool := (s.axis i).set.isNone

/-- The axis's cause persists: the inhibit, a low FAULT_GPIO, its bus out of range (R269). -/
def axisCausePersists (i : Nat) (s : State) : Bool :=
  let a := s.axis i
  s.saf.inhibit || a.gpioLow || match a.set with
    | some p => isSc i && (s.bus (byteAt p 1)).outOfRange
    | none => false

/-! ## Commands of group 0x09 -/

/-- AXIS_GET: the parameter set, then position, velocity and the last load angle (R269). -/
def axisGetSpec : CmdSpec where
  viewer := true
  target := fun c _ => axExists c.tgt
  size := fun _ _ => 80
  ans := fun c s =>
    let a := s.axis (axIdx c.tgt)
    ansResult (a.set.getD (zeros 64) ++ leI 6 a.pos ++ zeros 2 ++ leI 4 a.vel ++ leI 4 a.angle)

/-- AXIS_SET (R268). -/
def axisSetSpec : CmdSpec where
  roles := [.service]
  lenOk := fun c _ => c.len == 64
  target := fun c _ => axExists c.tgt
  pre := fun c s =>
    let st := (s.axis (axIdx c.tgt)).state
    failIf (!(st == .off || st == .fault)) stDeniedState 0
  post := fun c s => firstFault (axisFaults (axIdx c.tgt) (axisFill (axIdx c.tgt) c.pl) s)
  eff := fun c s => s.setAxis (axIdx c.tgt) fun a => { a with set := some (axisFill (axIdx c.tgt) c.pl) }

/-- AXIS_ENABLE (R269). -/
def axisEnableSpec : CmdSpec where
  roles := [.operator, .service]
  states := inStates runStates
  lenOk := fun c _ => c.len == 1
  target := fun c _ => axExists c.tgt
  pre := fun c s =>
    let st := (s.axis (axIdx c.tgt)).state
    failIf (axisUnset (axIdx c.tgt) s || !(st == .off || st == .hold)) stDeniedState 0
  post := fun c _ => failIf (decide (1 < c.u8 0)) stBadParam 0
  eff := fun c s => s.setAxis (axIdx c.tgt) fun a => { a with
    state := if c.u8 0 = 1 then .hold else .off, running := c.u8 0 == 1 && a.running, vel := 0
    drive := c.u8 0 == 1, lowRun := if a.drive then a.lowRun else (0, 0), lastPos := if a.drive then a.lastPos else a.pos
    ia := if c.u8 0 = 1 then a.ia else 0, ib := if c.u8 0 = 1 then a.ib else 0 }
  faulted := fun c s => (s.axis (axIdx c.tgt)).state == .fault
  ans := fun c s => if (s.axis (axIdx c.tgt)).state = (if c.u8 0 = 1 then .hold else .off) then ansAlready else ansDone

/-- An axis takes no move: not in HOLD with an empty queue (R269). -/
def axisBusy (i : Nat) (s : State) : Bool := !((s.axis i).state == .hold && (s.axis i).queue.isEmpty)

/-- ROLE PATH, or no parameter set: AXIS_MOVE and AXIS_HOME are denied (R259, R268). -/
def hostMoveDenied (i : Nat) (s : State) : Bool := match (s.axis i).set with
  | some p => aPath p
  | none => true

/-- AXIS_MOVE (R259, R260, R269). -/
def axisMoveSpec : CmdSpec where
  roles := [.operator, .service]
  states := inStates runStates
  lenOk := fun c _ => c.len % 24 == 0 && 24 ≤ c.len && c.len ≤ 384
  target := fun c _ => axExists c.tgt
  pre := fun c s => failIf (hostMoveDenied (axIdx c.tgt) s) stDeniedState 0
  post := fun c s =>
    let i := axIdx c.tgt
    match (s.axis i).set with
    | none => none
    | some p => orElse (firstFault (segFaults i p (c.len / 24) c.pl 0 (s.axis i).pos)) (failIf (axisBusy i s) stBusy 0)
  eff := fun c s => startMove (axIdx c.tgt) (parseSegs (c.len / 24) c.pl (s.axis (axIdx c.tgt)).pos) s
  faulted := fun c s => (s.axis (axIdx c.tgt)).state == .fault
  ans := fun _ _ => ansAccepted
  abort := fun c s => haltMove (axIdx c.tgt) 0xAB s

/-- AXIS_STOP (R264, R269): ALREADY_DONE in HOLD, OFF or FAULT. -/
def axisStopSpec : CmdSpec where
  roles := [.operator, .service]
  target := fun c _ => axExists c.tgt
  pre := fun c s => failIf (axisUnset (axIdx c.tgt) s) stDeniedState 0
  eff := fun c s => haltMove (axIdx c.tgt) 0x80 s
  ans := fun c s => match (s.axis (axIdx c.tgt)).state with
    | .moving | .homing | .stopping => ansAccepted
    | _ => ansAlready

/-- SPEED of AXIS_HOME breaks the pulse-rate limit of an SD axis (R254, R269). -/
def rateBroken (i : Nat) (p : Bytes) (v : Nat) : Bool :=
  !isSc i && (decide (2000000 * 2 ^ byteAt p 52 < v) || decide (1000000000 * 2 ^ byteAt p 52 < v * 20 * u16At p 56))

/-- AXIS_HOME (R265, R269). -/
def axisHomeSpec : CmdSpec where
  roles := [.operator, .service]
  states := inStates runStates
  lenOk := fun c _ => c.len == 16
  target := fun c _ => axExists c.tgt
  pre := fun c s => failIf (hostMoveDenied (axIdx c.tgt) s) stDeniedState 0
  post := fun c s => orElse
    (firstFault [(decide (7 < c.u8 0), 0), (decide (3 < c.u8 1), 1), (c.u16 2 != 0, 2),
      (outside (c.u32 4) 1 4194304 || rateBroken (axIdx c.tgt) (((s.axis (axIdx c.tgt)).set).getD []) (c.u32 4), 4),
      (c.u16 14 != 0, 14)]) (failIf (axisBusy (axIdx c.tgt) s) stBusy 0)
  eff := fun c s =>
    let i := axIdx c.tgt
    match (s.axis i).set with
    | none => s
    | some p =>
      let neg := bit (c.u8 1) 0
      let far : Int := (s.axis i).pos + (if neg then aMin p - aMax p else aMax p - aMin p)
      let g : Seg := { pos := far, mark := false, blend := false, vmax := c.u32 4, acc := u32At p 44, jerk := u32At p 48 }
      (startMove i [g] s).setAxis i fun a => { a with
        state := .homing, homed := false, homeHit := false
        home := some (c.u8 0, neg, bit (c.u8 1) 1, c.u32 4, toSigned 48 (leAt c.pl 8 6)) }
  faulted := fun c s => (s.axis (axIdx c.tgt)).state == .fault
  ans := fun _ _ => ansAccepted
  abort := fun c s => haltMove (axIdx c.tgt) 0xAB s

/-- AXIS_CLEAR (R269). -/
def axisClearSpec : CmdSpec where
  roles := [.service]
  target := fun c _ => axExists c.tgt
  pre := fun c s => failIf (axisUnset (axIdx c.tgt) s || ((s.axis (axIdx c.tgt)).state == .fault
    && axisCausePersists (axIdx c.tgt) s)) stDeniedState 0
  eff := fun c s => if (s.axis (axIdx c.tgt)).state = .fault then
    s.setAxis (axIdx c.tgt) fun a => { a with state := .off, fault := 0, drive := false, running := false } else s
  ans := fun c s => if (s.axis (axIdx c.tgt)).state = .fault then ansDone else ansAlready

/-- A path move of pair B queues segments on a PATH axis in HOLD; it is operating data and is not recorded (R259). -/
def pathMove (i : Nat) (b : Bytes) (s : State) : State :=
  match (s.axis i).set with
  | none => s
  | some p =>
    let n := min 16 (b.length / 24)
    if aPath p && !axisBusy i s && decide (0 < n) && (firstFault (segFaults i p n b 0 (s.axis i).pos)).isNone then
      startMove i (parseSegs n b (s.axis i).pos) s
    else s

/-! ## Profile tick -/

/-- The end of the last segment: HOLD, EV116, the move's DONE (R264, R266). -/
def endMove (i : Nat) (s : State) : State :=
  let t := axTarget i
  ((s.setAxis i fun a => { a with state := .hold, queue := [], vel := 0, accel := 0, frac := 0 }).finish .axisMove t stDone 0).pulse 116 t

/-- A signed 48-bit position (R252). -/
def wrap48 (x : Int) : Int := toSigned 48 (x % 2 ^ 48).toNat

/-- The profile of an axis: position in 2^-16 ustep, speed in usteps/s and acceleration along the motion, `t` ns after its
start; a stop runs from the speed and acceleration found at its acceptance (R257, R264). -/
def profileAt (p : Bytes) (a : Axis) (t : Nat) : Int × Int × Int :=
  match a.queue with
  | g :: _ =>
    let l := g.len (a.start / 65536)
    let sg : Int := if a.start / 65536 ≤ g.pos then 1 else -1
    let r := segAt a.vIn a.vPeak a.vOut g l t
    (a.start + sg * r.1, sg * r.2, sg * segAcc a.vIn a.vPeak a.vOut g l t)
  | [] =>
    let sg : Int := if a.vel < 0 then -1 else 1
    let r := phasesAt (stopPhases a.vIn (sg * a.accel) (u32At p 44) (u32At p 48)) 0 (a.vIn * 65536) (sg * a.accel) t
    (a.start + sg * r.1, sg * max 1 (r.2 / 65536), a.accel)

/-! ## STEP pulses of an SD axis (R252, R254) -/

/-- First 5 ns grid step of a tick at which the profile `f` has reached `x`, by bits; 4,000 where it has not. -/
def gridStep (f : Nat → Int) (up : Bool) (x : Int) : Nat :=
  let before (n : Nat) : Bool := decide (n ≤ 4000) && (if up then decide (f (5 * n) < x) else decide (x < f (5 * n)))
  min 4000 ((List.range 12).foldl (fun n k => if before (n + 2 ^ (11 - k)) then n + 2 ^ (11 - k) else n) 0 + 1)

/-- Positions of the pulses between two positions of 2^-16 ustep, one per 2^STEP_DIV usteps, in the order met. -/
def pulsesBetween (unit x0 x1 : Int) : List Int :=
  if x0 ≤ x1 then
    let k := x0 / unit
    (List.range (x1 / unit - k).toNat).map fun (n : Nat) => (k + 1 + (n : Int)) * unit
  else
    let k := ceilDiv x0 unit
    (List.range (k - ceilDiv x1 unit).toNat).map fun (n : Nat) => (k - 1 - (n : Int)) * unit

/-- Rising edges of STEP at the instants in which the profile meets the pulses, none closer than 2 × STEP_W to the one
before, none sooner after a change of DIR than DIR_SETUP. -/
def placeEdges (at_ gap first : Nat) (f : Nat → Int) (up : Bool) : Option Nat → List Int → List Nat
  | _, [] => []
  | last, x :: xs =>
    let e := max (at_ + 5 * gridStep f up x) (max first (match last with | some l => l + gap | none => 0))
    e :: placeEdges at_ gap first f up (some e) xs

/-- The pulses of a tick from position `x0` to `x1` along the profile `f` (R254). -/
def stepPulses (i : Nat) (p : Bytes) (f : Nat → Int) (x0 x1 : Int) (s : State) : State :=
  if isSc i then s
  else s.setAxis i fun a =>
    let up : Bool := decide (x0 ≤ x1)
    let dir : Bool := if x0 = x1 then a.dirHigh else up != aOption p 0
    let dirAt := if dir = a.dirHigh then a.dirAt else s.io.time
    let es := placeEdges s.io.time (20 * u16At p 56) (dirAt + 100 * byteAt p 54) f up a.lastEdge
      (pulsesBetween (65536 * 2 ^ byteAt p 52 : Nat) x0 x1)
    { a with dirHigh := dir, dirAt := dirAt, edges := es, lastEdge := (es.getLast?).orElse fun _ => a.lastEdge }

/-- STEPk at an instant: high for STEP_W from each rising edge (R254); low without OWN (R267) and while the axis does not
run. -/
def stepLevel (i at_ : Nat) (s : State) : Bool := match (s.axis i).set with
  | some p => s.axs.drives && s.outputsOwned && (s.axis i).edges.any fun e => decide (e ≤ at_) && decide (at_ < e + 10 * u16At p 56)
  | none => false

/-! ## The tick -/

/-- A stop or a homing that has met its edge comes to rest: HOLD, and its events and final status (R264 to R266). -/
def restAxis (i : Nat) (homedNow : Bool) (s : State) : State :=
  let t := axTarget i
  let s := s.setAxis i fun a => { a with
    vel := 0, accel := 0, state := .hold, homed := a.homed || homedNow, home := none, homeHit := false }
  let s := s.finish .axisStop t stDone 0
  if homedNow then (s.finish .axisHome t stDone 0).pulse 120 t else s.pulse 116 (t + stFaulted * 2 ^ 8)

/-- A profile tick of one axis (R257, R258, R264, R265). -/
def axisTick (s : State) (i : Nat) : State :=
  let s := s.setAxis i fun a => { a with faultNew := false, edges := [] }
  let a := s.axis i
  match a.set with
  | none => s
  | some p =>
    if a.state = .off ∨ a.state = .hold ∨ a.state = .fault then s
    else
      let x0 := a.pos * 65536 + a.frac
      let t1 := a.segT + 20000
      let f (n : Nat) : Int := (profileAt p a (a.segT + n)).1
      match a.queue with
      | g :: rest =>
        let sg : Int := if a.start / 65536 ≤ g.pos then 1 else -1
        if segNs a.vIn a.vPeak a.vOut g (g.len (a.start / 65536)) ≤ t1 then
          let s := stepPulses i p f x0 (g.pos * 65536) s
          let s := s.setAxis i fun a => { a with
            pos := wrap48 g.pos, frac := 0, vel := sg * a.vOut, accel := 0, queue := rest, segT := t1 }
          if a.state = .homing then s.axisFault i 0x0F
          else
            let s := if g.mark then s.pulse 116 (axTarget i) else s
            if rest.isEmpty then endMove i s else beginSegment i a.vOut s
        else
          let r := profileAt p a t1
          (stepPulses i p f x0 r.1 s).setAxis i fun a => { a with
            pos := wrap48 (r.1 / 65536), frac := (r.1 % 65536).toNat, vel := r.2.1, accel := r.2.2, segT := t1 }
      | [] =>
        let l := stopPhases a.vIn ((if a.vel < 0 then -1 else 1) * a.accel) (u32At p 44) (u32At p 48)
        let done : Bool := decide (phasesNs l ≤ t1)
        let r := profileAt p a (if done then phasesNs l else t1)
        let s := (stepPulses i p f x0 r.1 s).setAxis i fun a => { a with
          pos := wrap48 (r.1 / 65536), frac := if done then 0 else (r.1 % 65536).toNat, vel := r.2.1, segT := t1 }
        if done then restAxis i a.homeHit s else s

/-- RT4 and RT5 advance every axis profile by one tick of 20 us; the outputs follow OWN (R257, R267). -/
def profileTick (s : State) : State :=
  forEach (List.range 20) axisTick { s with axs := { s.axs with tickAt := s.io.time, drives := s.outputsOwned } }

/-- Commanded position of an axis at an instant, in usteps: the profile of its present segment or stop, whose last tick
began at `tickAt` (R265). -/
def posAt (i at_ : Nat) (s : State) : Int :=
  let a := s.axis i
  match a.set with
  | some p =>
    if a.state = .moving ∨ a.state = .homing ∨ a.state = .stopping then
      (profileAt p a (a.segT + at_ - 20000 - s.axs.tickAt)).1 / 65536
    else a.pos
  | none => a.pos

/-- The homing edge of probe `k`, at an instant: the position is set so that the one latched at the edge equals HOME_POS,
and the axis decelerates to rest, in HOMING until then (R265). -/
def homeEdge (k : Nat) (rising : Bool) (at_ : Nat) (s : State) : State :=
  forEach (List.range 20) (fun s i =>
    match (s.axis i).home with
    | some (pr, _, falling, _, hp) =>
      if (s.axis i).state = .homing ∧ (s.axis i).homeHit = false ∧ pr = k ∧ falling ≠ rising then
        let shift := hp - posAt i at_ s
        stopAxis i (s.setAxis i fun a => { a with
          pos := wrap48 (a.pos + shift), lastPos := wrap48 (a.lastPos + shift), homeHit := true })
      else s
    | none => s) s

/-- An axis is homing on probe `k`. -/
def homingOn (k : Nat) (s : State) : Bool :=
  s.axs.axs.any fun a => a.state == .homing && match a.home with | some h => h.1 == k | none => false

/-- The STANDBY takes the mode of an axis of the ACTIVE, its position where its own axis rests, and its queue, which runs
from HOLD (R267). -/
def axisMirror (i : Nat) (pos : Int) (strong : Bool) (segs : Bytes) (s : State) : State :=
  let st := (s.axis i).state
  let s := s.setAxis i fun a => { a with strong := strong, modeDue := false }
  if st = .hold ∨ st = .off then
    let s := s.setAxis i fun a => { a with pos := pos, frac := 0 }
    if st = .hold ∧ 24 ≤ segs.length then startMove i (parseSegs (min 16 (segs.length / 24)) segs pos) s else s
  else s

/-! ## PWM period of an SC axis -/

/-- STALL (R262): the profile ends without deceleration, I_HOLD is held at the commanded angle, HOMED clears. -/
def declareStall (i : Nat) (s : State) : State :=
  (s.setAxis i fun a => { a with stalls := satInc 16 a.stalls, failed := 0, running := false }).axisFault i 0x0C

/-- The induced voltage of a phase in 2^-16 mV: duty × bus voltage less RS × i and LS × di/dt (chapter 11); `d` is the
duty in 2^-16, `v` the bus voltage in mV, `x0` and `x` the last and the present sample in mA. -/
def inducedMv (p : Bytes) (d v x0 x : Int) : Int :=
  d * v - (u32At p 12 : Nat) * x - floorDiv ((u32At p 16 * u16At p 10 : Nat) * (x - x0)) 10

/-- E_d and E_q of a period: the induced voltages rotated by the commanded electrical angle, in 2^-36 mV. -/
def rotateDq (mu ea eb : Int) : Int × Int :=
  (ea * cosMicro mu + eb * cosMicro (mu - 256), eb * cosMicro mu - ea * cosMicro (mu - 256))

/-- A full-step boundary lies between two positions, met from the first toward the second (R256). -/
def boundaryMet (x0 x1 : Int) : Bool := if x0 ≤ x1 then x0 / 256 != x1 / 256 else ceilDiv x0 256 != ceilDiv x1 256

/-- The mode that an axis wants: strong from V_MODE, quiet below 7/8 of it, else the one it wanted (R256). -/
def wantsStrong (p : Bytes) (v : Nat) (wanted : Bool) : Bool :=
  let vm := u16At p 24 * 256
  if aOption p 2 then false else if vm ≤ v then true else if v * 8 < vm * 7 then false else wanted

/-- The load angle at a boundary: atan2(E_d, E_q), both negated for negative motion (R262); (0, 0) has no angle, and the
value is free. -/
def loadAngle (a : Axis) (s : State) : Int :=
  let sg : Int := if a.vel < 0 then -1 else 1
  (atan2 (sg * a.eDq.1) (sg * a.eDq.2)).getD (freeVal .measured 0 s)

/-- sqrt(E_d^2 + E_q^2) is below KE × |v| / 2 (R262). The spec compares the sums of the step as they stand. -/
def emfLow (p : Bytes) (a : Axis) : Bool :=
  decide (262144 * (a.eDq.1.natAbs ^ 2 + a.eDq.2.natAbs ^ 2) < (u32At p 20 * a.vel.natAbs) ^ 2 * 1099511627776)

/-- A full-step boundary: a due mode change takes effect (R256), and a valid check is judged (R261, R262). -/
def fullStepTests (i : Nat) (p : Bytes) (s : State) : State :=
  let a := s.axis i
  let valid : Bool := a.stepOk && aOption p 1
  let ang := loadAngle a s
  let fails : Bool := valid && (decide ((byteAt p 28 : Int) * turn ≤ ang * 360) || emfLow p a)
  let settled := if a.modeDue then 0 else a.settled
  let s1 := advanceFree (s.setAxis i fun a => { a with
    strong := a.strong != a.modeDue, modeDue := false, stallValid := valid, eDq := (0, 0)
    angle := if valid then clamp (floorDiv (ang * 72000 + turn) (2 * turn)) (-18000) 18000 else a.angle
    failed := if fails then a.failed + 1 else 0, settled := settled, stepOk := decide (1024 ≤ settled) })
  let s1 := if a.modeDue then s1.pulse 119 (axTarget i) else s1
  if fails && decide (byteAt p 29 ≤ a.failed + 1) then declareStall i s1 else s1

/-- Quarters of a period for which peak chopping drives a phase toward its target: until the first of the four samples at
or beyond it (R256). -/
def chopQuarters (tgt : Int) : List Int → Nat
  | [] => 0
  | x :: xs => if (0 ≤ tgt ∧ tgt ≤ x) ∨ (tgt < 0 ∧ x ≤ tgt) then 0 else chopQuarters tgt xs + 1

/-- The duty of a phase in strong mode, 2^-16. -/
def chopDuty (tgt : Int) (samples : List Int) : Int :=
  (if tgt < 0 then -1 else 1) * (chopQuarters tgt samples * 16384 : Nat)

/-- What a phase drives at `t` ns of a PWM period of `period` ns (R253, R256): in quiet mode a pulse about the centre of
the period, in strong mode the drive from its start, then the brake state. -/
def phaseAt (strong : Bool) (period : Nat) (d : Int) (t : Nat) : Phase :=
  let on := d.natAbs * period / 65536
  let toward : Phase := if d < 0 then .neg else .pos
  if strong then (if t < on then toward else .brake)
  else if period ≤ 2 * t + on ∧ 2 * t < period + on then toward else .float

/-- The two phases of an SC axis at `t` ns of its PWM period: floated without a regulated current and without OWN
(R253, R267). -/
def scOutputs (i t : Nat) (s : State) : Phase × Phase :=
  let a := s.axis i
  match a.set with
  | some p =>
    if a.drive && s.axs.drives && s.outputsOwned then
      let period := 10000000 / max 1 (u16At p 10)
      (phaseAt a.strong period a.duty.1 t, phaseAt a.strong period a.duty.2 t)
    else (.float, .float)
  | none => (.float, .float)

/-- A PWM period of an SC axis with its two sampled currents in mA and, in strong mode, the four samples of each phase
(R255, R256, R261, R262). The duty of quiet mode is a free value: the spec gives its regulator a bandwidth and no gains
(assumption 3). -/
def stepperPeriod (i : Nat) (ia ib : Int) (quarters : List (Int × Int)) (s : State) : State :=
  let a := s.axis i
  match a.set with
  | none => s
  | some p =>
    if a.drive = false then s
    else
      let cur := if a.running then aRun p else aHold p
      let tg := phaseTargets cur a.pos
      let low (x tgt : Int) (n : Nat) : Nat := if aRun p ≤ 2 * tgt.natAbs ∧ 2 * x.natAbs < tgt.natAbs then n + 1 else 0
      let run := (low ia tg.1 a.lowRun.1, low ib tg.2 a.lowRun.2)
      let quiet (k : Nat) : Int := clamp (freeVal .measured k s) (-65536) 65536
      let d : Int × Int := if a.strong then (chopDuty tg.1 (quarters.map (·.1)), chopDuty tg.2 (quarters.map (·.2)))
        else (quiet 2, quiet 3)
      let vbus : Int := (s.bus (byteAt p 1)).v
      let e := rotateDq a.pos (inducedMv p d.1 vbus a.ia ia) (inducedMv p d.2 vbus a.ib ib)
      let vfs := a.vel.natAbs
      let duty95 : Bool := !a.strong && (decide (95 * 65536 ≤ 100 * d.1.natAbs) || decide (95 * 65536 ≤ 100 * d.2.natAbs))
      let s1 := advanceFree (s.setAxis i fun a => { a with
        ia := sat16 ia, ib := sat16 ib, lowRun := run, lastPos := a.pos, duty := d
        modeDue := wantsStrong p vfs (a.strong != a.modeDue) != a.strong, eDq := (a.eDq.1 + e.1, a.eDq.2 + e.2)
        settled := min 1024 (a.settled + (a.pos - a.lastPos).natAbs)
        stepOk := a.stepOk && decide (u16At p 26 * 256 ≤ vfs) && !duty95 })
      let trip (x : Int) : Bool := decide ((u16At p 8 : Int) < x.natAbs)
      if trip ia || trip ib || (a.strong && quarters.any fun q => trip q.1 || trip q.2) then s1.axisFault i 0x05
      else
        let s2 := if boundaryMet a.lastPos a.pos && a.state != .fault then fullStepTests i p s1 else s1
        if 64 ≤ run.1 ∨ 64 ≤ run.2 then s2.axisFault i 0x0D else s2

/-- HOLD_DELAY after an axis stops, its current drops to I_HOLD (R255). -/
def holdCurrent (i : Nat) (s : State) : State :=
  if (s.axis i).state = .hold then s.setAxis i fun a => { a with running := false } else s

/-- The FAULT_GPIO of an SD axis: low for 10 us faults it; its return ends the cause (R263). -/
def sdDriveFault (i : Nat) (low : Bool) (s : State) : State :=
  let s := s.setAxis i fun a => { a with gpioLow := low }
  if low && (s.axis i).state != .off then s.axisFault i 0x0E else s

end Sys2Proof.Machine
end

