-- ==== Sys2Proof/Machine/Feedback.lean ====
section
/-!
DEFINITION. Position and speed feedback (chapter 12): quadrature counts, index, serial reads, speed windows, probes,
compare units and the commands of group 0x0A.
-/
namespace Sys2Proof.Machine

/-! ## Units -/

/-- QE input `n`. -/
def State.qe (s : State) (n : Nat) : Qe := s.fb.qe.getD n {}
/-- QE input `n` is replaced by `f` of itself. -/
def State.setQe (s : State) (n : Nat) (f : Qe → Qe) : State := { s with fb := { s.fb with qe := upd s.fb.qe n f } }
/-- SE port `n`. -/
def State.se (s : State) (n : Nat) : Se := s.fb.se.getD n {}
/-- SE port `n` is replaced by `f` of itself. -/
def State.setSe (s : State) (n : Nat) (f : Se → Se) : State := { s with fb := { s.fb with se := upd s.fb.se n f } }
/-- Probe `k`. -/
def State.prb (s : State) (k : Nat) : Prb := s.fb.prb.getD k {}
/-- Probe `k` is replaced by `f` of itself. -/
def State.setPrb (s : State) (k : Nat) (f : Prb → Prb) : State := { s with fb := { s.fb with prb := upd s.fb.prb k f } }
/-- Compare unit `k`. -/
def State.cmpUnit (s : State) (k : Nat) : Cmp := s.fb.cmp.getD k {}
/-- Compare unit `k` is replaced by `f` of itself. -/
def State.setCmp (s : State) (k : Nat) (f : Cmp → Cmp) : State := { s with fb := { s.fb with cmp := upd s.fb.cmp k f } }

/-- Counter index of a unit number: QE 0 to 7, SE 16 to 19 as 8 to 11. -/
def ctrIdx (u : Nat) : Nat := if u < 8 then u else u - 8
/-- Unit number of a counter index. -/
def ctrUnit (x : Nat) : Nat := if x < 8 then x else x + 8
/-- A unit number names a counter. -/
def isCounter (u : Nat) : Bool := u < 8 || (16 ≤ u && u < 20)

/-- Counter `x`. -/
def State.counter (s : State) (x : Nat) : Counter := if x < 8 then (s.qe x).ctr else (s.se (x - 8)).ctr
/-- Counter `x` is replaced. -/
def State.setCounter (s : State) (x : Nat) (f : Counter → Counter) : State :=
  if x < 8 then s.setQe x fun q => { q with ctr := f q.ctr } else s.setSe (x - 8) fun q => { q with ctr := f q.ctr }
/-- CPR of counter `x` (R273). -/
def State.cpr (s : State) (x : Nat) : Nat := if x < 8 then u32At (s.qe x).set 8 else u32At (s.se (x - 8)).set 24
/-- SPD_WIN of counter `x`, 10 us (R280). -/
def State.spdWin (s : State) (x : Nat) : Nat := if x < 8 then u16At (s.qe x).set 20 else u16At (s.se (x - 8)).set 28
/-- DIR_HYST of counter `x`, the default where the unit has no such setting (R279). -/
def State.dirHyst (s : State) (x : Nat) : Nat := if x < 8 then byteAt (s.qe x).set 6 else 4

/-- A position held by a counter: modulo CPR, or signed modulo 2^48 (R273). -/
def wrapPos (cpr : Nat) (p : Int) : Int := if cpr = 0 then toSigned 48 (p % (2 : Int) ^ 48).toNat else p % (cpr : Int)
/-- Wraps of a counter in a move to the unwrapped position `p`. -/
def wraps (cpr : Nat) (p : Int) : Int := if cpr = 0 then 0 else p / (cpr : Int)

/-! ## Faults -/

/-- FAULT_CLASS of a feedback unit; 0 selects HALT (R278). -/
def fbClass (code : Nat) : Cls := match code with
  | 1 => .note
  | 4 => .stop
  | _ => .halt

/-- FAULT after a cause: the first one, of causes in one CLK_CTL cycle of 5 ns the lowest (R278). -/
def firstFbCause (old at_ now cause : Nat) : Nat :=
  if old = 0 ∨ (at_ / 5 = now / 5 ∧ cause < old) then cause else old

/-- A feedback unit faults: its first cause is kept, EV152 or EV153 pulses, and each cause raises the class once until
FB_CLEAR (R278, R286). -/
def State.fbFault (s : State) (x cause : Nat) : State :=
  let u := ctrUnit x
  let now := s.io.time
  let raised := if x < 8 then (s.qe x).raised else (s.se (x - 8)).raised
  let cls := fbClass (if x < 8 then byteAt (s.qe x).set 1 else byteAt (s.se (x - 8)).set 2)
  let line := if x < 8 then 152 else 153
  let s1 := if x < 8 then s.setQe x fun q => { q with
      fault := firstFbCause q.fault q.faultAt now cause, faultAt := if q.fault = 0 then now else q.faultAt
      raised := if raised.contains cause then raised else raised ++ [cause] }
    else s.setSe (x - 8) fun q => { q with
      fault := firstFbCause q.fault q.faultAt now cause, faultAt := if q.fault = 0 then now else q.faultAt
      raised := if raised.contains cause then raised else raised ++ [cause] }
  let s1 := s1.pulse line (u + cause * 2 ^ 8)
  if raised.contains cause then s1 else s1.raise cls line u cause

/-! ## Compare units -/

/-- `dist` of R283. -/
def cmpDist (cpr : Nat) (c p : Int) : Int :=
  if cpr = 0 then p - c
  else
    let d := (p - c) % (cpr : Int)
    if (cpr : Int) < 2 * d then d - cpr else d

/-- C of a compare unit. -/
def cmpC (p : Bytes) : Int := toSigned 48 (leAt p 4 6)

/-- A compare fires: latches TIME64 and the position, pulses EV136 + k and, where it is set, its OUT_GPIO (R283). -/
def State.fireCmp (s : State) (k : Nat) (p1 : Int) (late : Bool) : State :=
  (s.setCmp k fun c => { c with
    armed := false, late := late, fires := satInc 16 c.fires, firePos := p1, fireTime := s.io.time
    pulseAt := if byteAt c.set 10 < 32 then some s.io.time else c.pulseAt }).pulse (136 + k) 0

/-- The pulse of OUT_W on the OUT_GPIO of compare unit `k` at an instant (R283). -/
def cmpOutput (k at_ : Nat) (s : State) : Bool :=
  let c := s.cmpUnit k
  match c.pulseAt with
  | some t => decide (byteAt c.set 10 < 32) && decide (t ≤ at_) && decide (at_ < t + 100 * byteAt c.set 11)
  | none => false

/-- R283 on one unit for a counter update p0 → p1. -/
def cmpUpdate (x : Nat) (p0 p1 : Int) (s : State) (k : Nat) : State :=
  let c := s.cmpUnit k
  let mode := byteAt c.set 1 % 4
  if !c.live || mode == 0 || ctrIdx (byteAt c.set 0) != x then s
  else
    let cpr := s.cpr x
    let half : Int := if cpr = 0 then 2 ^ 47 else (cpr / 2 : Nat)
    let d0 := cmpDist cpr (cmpC c.set) p0
    let d1 := cmpDist cpr (cmpC c.set) p1
    let pos := mode % 2 == 1
    let neg := 2 ≤ mode
    let up := decide (d0 < 0) && decide (0 ≤ d1)
    let dn := decide (0 < d0) && decide (d1 ≤ 0)
    let hyst : Int := u16At c.set 2
    let fires := decide ((d1 - d0).natAbs < half.natAbs) && c.armed && ((pos && up) || (neg && dn))
    let s1 := if fires then s.fireCmp k p1 false else s
    let rearm := (pos && !neg && decide (d1 ≤ -1 - hyst)) || (neg && !pos && decide (1 + hyst ≤ d1))
      || (pos && neg && decide (1 + hyst ≤ d1.natAbs))
    if !(s1.cmpUnit k).armed && rearm then s1.setCmp k fun c => { c with armed := true } else s1

/-- An index correction fires no compare; a crossing that a forward correction skips fires with LATE (R285). -/
def cmpCorrect (x : Nat) (p0 p1 : Int) (dir : Nat) (s : State) (k : Nat) : State :=
  let c := s.cmpUnit k
  let mode := byteAt c.set 1 % 4
  if !c.live || mode == 0 || ctrIdx (byteAt c.set 0) != x || !c.armed then s
  else
    let cpr := s.cpr x
    let d0 := cmpDist cpr (cmpC c.set) p0
    let d1 := cmpDist cpr (cmpC c.set) p1
    if (dir = 1 ∧ mode % 2 = 1 ∧ d0 < 0 ∧ 0 ≤ d1) ∨ (dir = 2 ∧ 2 ≤ mode ∧ 0 < d0 ∧ d1 ≤ 0) then s.fireCmp k p1 true else s

/-! ## Counts -/

/-- The direction rule of R279 for a move of `d` counts. -/
def dirStep (hyst : Nat) (c : Counter) (d : Int) : Counter :=
  let t := c.travel + d
  let c := { c with travel := t }
  match c.dir with
  | 0 => { c with dir := if 0 < d then 1 else 2, extreme := t }
  | 1 => if d < 0 ∧ t ≤ c.extreme - hyst then { c with dir := 2, extreme := t } else { c with extreme := max c.extreme t }
  | _ => if 0 < d ∧ c.extreme + hyst ≤ t then { c with dir := 1, extreme := t } else { c with extreme := min c.extreme t }

/-- The window's net, count and reversal for a move of `d` (R280). -/
def windowStep (c : Counter) (d : Int) : Counter :=
  let sg : Int := if 0 < d then 1 else -1
  { c with net := c.net + d, counted := true, sign := sg, reversed := c.reversed || decide (c.sign * sg < 0) }

/-- A counter moves by `d` ≠ 0: position, wraps, direction, window, and then its compares (R270, R273, R279, R283). -/
def State.moveCounter (s : State) (x : Nat) (d : Int) : State :=
  if d = 0 then s
  else
    let c := s.counter x
    let cpr := s.cpr x
    let p1 := wrapPos cpr (c.pos + d)
    let s1 := s.setCounter x fun c => windowStep (dirStep (s.dirHyst x) { c with
      pos := p1, rev := c.rev + wraps cpr (c.pos + d) } d) d
    forEach (List.range 16) (cmpUpdate x c.pos p1) s1

/-- Serial ports in FALLBACK on QE `n` follow its counts, scaled, with the remainder carried (R277). -/
def followFallback (n : Nat) (d : Int) (s : State) : State :=
  forEach (List.range 4) (fun s k =>
    let e := s.se k
    if e.fallback && byteAt e.set 12 == n then
      let sum := e.bkRem + d * (u32At e.set 16 : Nat)
      (s.setSe k fun e => { e with bkRem := sum % 65536 }).moveCounter (8 + k) (sum / 65536)
    else s) s

/-- Position in the quadrature cycle of levels A and B; a leading B counts positive (R270). -/
def grayPlace (a b : Bool) : Nat := match a, b with
  | false, false => 0
  | false, true => 1
  | true, true => 2
  | true, false => 3

/-- The index is armed again once the counter has left its gate (R274). -/
def rearmIndex (n : Nat) (s : State) : State :=
  let q := s.qe n
  let cpr := u32At q.set 8
  if cpr = 0 then s
  else
    let dev := cmpDist cpr (u32At q.set 12 : Nat) q.ctr.pos
    if u32At q.set 16 < dev.natAbs then s.setQe n fun q => { q with idxArmed := true } else s

/-- Accepted levels of A and B (R270, R271): one count, or an illegal transition. A pair in disagreement accepts no
change (R272). -/
def qeCount (n : Nat) (a b : Bool) (s : State) : State :=
  let q := s.qe n
  let a := if q.wire.getD 0 false then q.a else a
  let b := if q.wire.getD 1 false then q.b else b
  if a = q.a ∧ b = q.b then s
  else
    let s1 := s.setQe n fun q => { q with a := a, b := b }
    if a ≠ q.a ∧ b ≠ q.b then
      (s1.setQe n fun q => { q with illegal := satInc 16 q.illegal, posBad := true }).fbFault n 1
    else
      let up : Bool := (grayPlace a b + 4 - grayPlace q.a q.b) % 4 == 1
      let d : Int := if up != bit (byteAt q.set 0) 0 then 1 else -1
      rearmIndex n (followFallback n d (s1.moveCounter n d))

/-- A pair of wires disagrees for WIRE_T, or agrees again (R272); pair 0 A, 1 B, 2 Z. -/
def wireChange (n pair : Nat) (dis : Bool) (s : State) : State :=
  let s1 := s.setQe n fun q => { q with wire := upd q.wire pair fun _ => dis, posBad := q.posBad || dis }
  if dis then s1.fbFault n 2 else s1

/-- A rising Z edge (R274, R285). -/
def indexEdge (n : Nat) (s : State) : State :=
  let q := s.qe n
  let cpr := u32At q.set 8
  let ab := b2n q.a + 2 * b2n q.b
  let ip : Int := u32At q.set 12
  if !bit (byteAt q.set 0) 1 || cpr == 0 || q.wire.getD 2 false || ab != byteAt q.set 3 then s
  else if !q.indexed then
    forEach (List.range 16) (cmpCorrect n q.ctr.pos ip q.ctr.dir)
      (s.setQe n fun q => { q with indexed := true, idxArmed := false, ctr := { q.ctr with pos := ip } })
  else
    let dev := cmpDist cpr ip q.ctr.pos
    if !q.idxArmed || decide (u32At q.set 16 < dev.natAbs) then s.setQe n fun q => { q with strayZ := satInc 16 q.strayZ }
    else if dev.natAbs ≤ byteAt q.set 7 then
      forEach (List.range 16) (cmpCorrect n q.ctr.pos ip q.ctr.dir)
        (s.setQe n fun q => { q with
          idxArmed := false, posBad := false, ctr := { q.ctr with pos := ip }
          idxCorr := if dev = 0 then q.idxCorr else satInc 16 q.idxCorr })
    else (s.setQe n fun q => { q with idxArmed := false }).fbFault n 3

/-! ## Serial ports -/

/-- CRC-6 step of one bit, polynomial 0x43 (R275; the initial value 0 is PRESUMED, assumption 14). -/
def crc6Bit (c : Nat) (b : Bool) : Nat :=
  let top := bit c 5 != b
  if top then Nat.xor (c * 2 % 64) 0x03 else c * 2 % 64

/-- CRC-6 of the `n` low bits of `x`, most significant first, then nE and nW (R275). -/
def crc6 (n x : Nat) (nE nW : Bool) : Nat :=
  let bits := ((List.range n).reverse.map fun k => bit x k) ++ [nE, nW]
  bits.foldl crc6Bit 0

/-- Gray to binary of `n` bits (R275). -/
def grayToBin (n x : Nat) : Nat := (List.range n).foldl (fun a k => Nat.xor a (x / 2 ^ k)) 0 % 2 ^ n

/-- One failed read with its cause (R277, R278). -/
def seFail (n cause : Nat) (s : State) : State :=
  let e := s.se n
  let run := e.failRun + 1
  let s1 := s.setSe n fun e => { e with
    failRun := run, goodRun := 0
    crcErr := if cause = 4 then satInc 16 e.crcErr else e.crcErr
    encErr := if cause = 5 then satInc 16 e.encErr else e.encErr
    timeoutErr := if cause = 6 then satInc 16 e.timeoutErr else e.timeoutErr
    plausErr := if cause = 7 then satInc 16 e.plausErr else e.plausErr }
  let s1 := s1.pulse 153 (16 + n + cause * 2 ^ 8)
  if e.fallback || e.fault != 0 then s1
  else if run ≤ byteAt e.set 9 then (s1.setSe n fun e => { e with extrap := true }).moveCounter (8 + n) e.d
  else
    let s2 := s1.fbFault (8 + n) 8
    if byteAt e.set 12 < 8 then (s2.setSe n fun e => { e with fallback := true, bkRem := 0 }).pulse 154 (16 + n)
    else s2.setSe n fun e => { e with valid := false }

/-- A read of a serial port: `none` when the line did not answer in its times, else the raw word, nE, nW, the received
CRC and the measured delay (R275, R276). -/
def seRead (n : Nat) (r : Option (Nat × Bool × Bool × Nat × Nat)) (s : State) : State :=
  let e := s.se n
  let bits := byteAt e.set 1
  let proto := byteAt e.set 0
  if proto = 0 then s
  else
    match r with
    | none => seFail n 6 s
    | some (raw, nE, nW, crc, delay) =>
      let w := if proto = 3 then grayToBin bits (raw % 2 ^ bits) else raw % 2 ^ bits
      let s0 := s.setSe n fun e => { e with delay := satN 16 delay, warn := if proto = 1 ∧ nW = false then satInc 16 e.warn else e.warn }
      if proto = 1 ∧ crc ≠ 63 - crc6 bits w nE nW then seFail n 4 s0
      else if proto = 1 ∧ nE = false then seFail n 5 s0
      else
        let d : Int := match e.last with
          | none => 0
          | some l => toSigned bits ((w + 2 ^ bits - l) % 2 ^ bits)
        if u32At e.set 20 < d.natAbs then seFail n 7 s0
        else
          let good := e.goodRun + 1
          let sd : Int := if bit (byteAt e.set 3) 0 then -d else d
          let s1 := s0.setSe n fun e => { e with
            last := some w, d := sd, failRun := 0, goodRun := good, extrap := false
            valid := e.valid || (e.fault == 0 && !e.fallback) }
          if e.fallback || e.fault != 0 then s1
          else (s1.moveCounter (8 + n) sd).setSe n fun e => { e with readAt := s.io.time, goodPos := e.ctr.pos }

/-! ## Windows -/

/-- The speed window of counter `x` ends (R279, R280). -/
def windowEnd (x : Nat) (s : State) : State :=
  s.setCounter x fun c => { c with
    lastNet := c.net, speed := cdiv (c.net * 100000) (max 1 (s.spdWin x)), dirchg := c.reversed
    settling := (c.counted && !c.lastCounted) || c.settleNext
    settleNext := c.counted && !c.lastCounted
    lastCounted := c.counted, dir := if c.counted then c.dir else 0, net := 0, counted := false, sign := 0, reversed := false }

/-! ## Probes -/

/-- Position of the SRC counter at an edge at TIME64 `at_`; an SE source gives its last good position plus d for each
SE_PERIOD elapsed since, rounded down (R281). -/
def probePos (k at_ : Nat) (s : State) : Int × Bool :=
  let src := byteAt (s.prb k).set 2
  if src < 8 then ((s.qe src).ctr.pos, false)
  else if 16 ≤ src ∧ src < 20 then
    let e := s.se (src - 16)
    (wrapPos (u32At e.set 24) (e.goodPos + (e.d * ((at_ - e.readAt : Nat) : Int)) / (u16At e.set 4 * 1000 : Nat)), true)
  else (0, false)

/-- The probe's EDGE setting takes an edge of this polarity (R281). -/
def probeTakes (k : Nat) (rising : Bool) (s : State) : Bool := match byteAt (s.prb k).set 0 with
  | 1 => rising
  | 2 => !rising
  | _ => true

/-- A latch goes into the FIFO of an unowned probe, or is passed to the owner (R282). -/
def latchProbe (k : Nat) (rising held owned : Bool) (at_ : Nat) (s : State) : State :=
  if !probeTakes k rising s then s
  else if !held && byteAt (s.prb k).set 1 != 0 then s.setPrb k fun p => { p with glitch := satInc 16 p.glitch }
  else
    let pos := probePos k at_ s
    let l : Latch := { time := at_, pos := pos.1, rising := rising, interp := pos.2 }
    let full : Bool := !owned && 8 ≤ (s.prb k).fifo.length
    let s1 := s.setPrb k fun p => { p with
      lastPos := l.pos, lastTime := at_
      fifo := if owned || full then p.fifo else p.fifo ++ [l]
      overflow := if full then satInc 16 p.overflow else p.overflow }
    let s1 := if full then s1.pulse 155 k else s1
    s1.pulse (128 + k) 0

/-- The 24 bytes of a latch (PRB_READ). -/
def latchBytes (l : Latch) : Bytes :=
  le 8 l.time ++ leI 6 l.pos ++ le 1 (b2n l.rising + 2 * b2n l.interp) ++ zeros 9

/-! ## Commands of group 0x0A -/

/-- TARGET names a feedback unit. -/
def fbExists (t : Nat) : Bool := isCounter t || (32 ≤ t && t < 40) || (48 ≤ t && t < 64)

/-- The setting payload of a unit. -/
def fbSetting (t : Nat) (s : State) : Bytes :=
  if t < 8 then (s.qe t).set else if t < 20 then (s.se (t - 16)).set else if t < 40 then (s.prb (t - 32)).set
  else (s.cmpUnit (t - 48)).set

/-- FB_GET (R287). -/
def fbGetSpec : CmdSpec where
  viewer := true
  target := fun c _ => fbExists c.tgt
  size := fun c s => (fbSetting c.tgt s).length
  ans := fun c s => ansResult (fbSetting c.tgt s)

/-- PRB_READ drains up to 8 latches of a probe without owner (R282, R287). -/
def prbReadSpec (owner : Nat → State → Nat) : CmdSpec where
  viewer := true
  target := fun c _ => 32 ≤ c.tgt && c.tgt < 40
  needsRbuf := true
  pre := fun c s => failIf (owner (c.tgt - 32) s != 0) stDeniedState 0
  size := fun c s => 24 * (s.prb (c.tgt - 32)).fifo.length
  ans := fun c s => ansResult (((s.prb (c.tgt - 32)).fifo.map latchBytes).flatten)
  eff := fun c s => s.setPrb (c.tgt - 32) fun p => { p with fifo := [] }

/-- Faulty fields of QE_SET. -/
def qeFaults (p : Bytes) : List (Bool × Nat) :=
  let cpr := u32At p 8
  fldFaults [⟨0, 1, 0, 3, 0⟩, ⟨3, 1, 0, 3, 0⟩, ⟨4, 2, 5, 1000, 0⟩, ⟨20, 2, 1, 10000, 0⟩, ⟨22, 2, 0, 0, 0⟩] p ++
  [(!([0, 1, 3, 4].contains (byteAt p 1)), 1), (cpr != 0 && outside cpr 8 2147483648, 8),
   (cpr != 0 && decide (cpr ≤ u32At p 12), 12), (cpr != 0 && outside (u32At p 16) 1 (cpr / 4), 16)]

/-- QE_SET (R287). -/
def qeSetSpec (inUse : Nat → State → Bool) : CmdSpec where
  roles := [.service]
  lenOk := fun c _ => c.len == 24
  target := fun c _ => c.tgt < 8
  pre := fun c s => failIf (inUse c.tgt s) stDeniedState 0
  post := fun c _ => firstFault (qeFaults c.pl)
  eff := fun c s => s.setQe c.tgt fun q => { q with set := fit 24 c.pl }

/-- Frame time of a serial read in ns: BiSS-C with the longest acknowledge, start, CDS, position, nE, nW and CRC; SSI
POS_BITS + 1 clocks (R275). -/
def seFrameNs (p : Bytes) : Nat :=
  10 * u16At p 6 * (if byteAt p 0 = 1 then byteAt p 8 + 2 + byteAt p 1 + 8 else byteAt p 1 + 1)

/-- Faulty fields of SE_SET. -/
def seFaults (p : Bytes) : List (Bool × Nat) :=
  let cpr := u32At p 24
  fldFaults [⟨0, 1, 1, 3, 0⟩, ⟨1, 1, 13, 32, 0⟩, ⟨3, 1, 0, 1, 0⟩, ⟨4, 2, 5, 1000, 0⟩, ⟨6, 2, 10, 1000, 0⟩,
    ⟨8, 1, 4, 255, 0⟩, ⟨9, 1, 0, 4, 0⟩, ⟨10, 2, 10, 1000, 0⟩, ⟨13, 3, 0, 0, 0⟩, ⟨28, 2, 1, 10000, 0⟩, ⟨30, 2, 0, 0, 0⟩] p ++
  [(!([0, 1, 3, 4].contains (byteAt p 2)), 2), (decide (u16At p 4 * 1000 < seFrameNs p + u16At p 10 * 100), 4),
   (decide (7 < byteAt p 12) && byteAt p 12 != 0xFF, 12), (byteAt p 12 != 0xFF && u32At p 16 == 0, 16),
   (outside (u32At p 20) 1 (2 ^ (byteAt p 1 - 1) - 1), 20), (cpr != 0 && outside cpr 8 2147483648, 24)]

/-- SE_SET (R275, R287). -/
def seSetSpec (inUse : Nat → State → Bool) : CmdSpec where
  roles := [.service]
  lenOk := fun c _ => c.len == 32
  target := fun c _ => 16 ≤ c.tgt && c.tgt < 20
  pre := fun c s => failIf (inUse c.tgt s) stDeniedState 0
  post := fun c _ => firstFault (seFaults c.pl)
  eff := fun c s => s.setSe (c.tgt - 16) fun q => { q with set := fit 32 c.pl, last := none }

/-- PRB_SET (R281, R287). -/
def prbSetSpec (inUse : Nat → State → Bool) : CmdSpec where
  roles := [.service]
  lenOk := fun c _ => c.len == 8
  target := fun c _ => 32 ≤ c.tgt && c.tgt < 40
  pre := fun c s => failIf (inUse c.tgt s) stDeniedState 0
  post := fun c _ => firstFault (fldFaults [⟨0, 1, 1, 3, 0⟩, ⟨1, 1, 0, 200, 0⟩, ⟨3, 5, 0, 0, 0⟩] c.pl ++
    [(!isCounter (c.u8 2) && c.u8 2 != 0xFF, 2)])
  eff := fun c s => s.setPrb (c.tgt - 32) fun p => { p with set := fit 8 c.pl }

/-- A GPIO is already an output of another compare unit or the fault input of an axis (R287). -/
def cmpGpioTaken (k g : Nat) (s : State) : Bool :=
  gpioTaken 20 g s || gpioCompare k g s

/-- Faulty fields of CMP_SET. -/
def cmpFaults (k : Nat) (p : Bytes) (s : State) : List (Bool × Nat) :=
  let cpr := s.cpr (ctrIdx (byteAt p 0))
  let g := byteAt p 10
  [(!isCounter (byteAt p 0), 0), (decide (7 < byteAt p 1), 1),
   (cpr != 0 && (decide (cmpC p < 0) || decide ((cpr : Int) ≤ cmpC p)), 4),
   ((decide (31 < g) && g != 0xFF) || (g != 0xFF && cmpGpioTaken k g s), 10),
   (outside (byteAt p 11) 1 100, 11), (u32At p 12 != 0, 12)]

/-- BEHIND of R284 for a written compare: the counter moves, the mode allows its direction, and the position is
already past. -/
def cmpBehind (p : Bytes) (s : State) : Bool :=
  let x := ctrIdx (byteAt p 0)
  let c := s.counter x
  let d := cmpDist (s.cpr x) (cmpC p) c.pos
  (c.dir = 1 && bit (byteAt p 1) 0 && decide (0 ≤ d)) || (c.dir = 2 && bit (byteAt p 1) 1 && decide (d ≤ 0))

/-- The compare written to unit `k` applies (R284). -/
def writeCmp (k : Nat) (p : Bytes) (s : State) : State :=
  let behind := cmpBehind p s
  let lateFire := behind && !bit (byteAt p 1) 2
  let s1 := s.setCmp k fun c => { c with set := fit 16 p, live := true, armed := !lateFire && byteAt p 1 % 4 != 0, behind := behind, late := false }
  if lateFire then s1.fireCmp k (s.counter (ctrIdx (byteAt p 0))).pos true else s1

/-- CMP_SET (R284, R287): CMP8 to CMP15 belong to Renune. -/
def cmpSetSpec : CmdSpec where
  roles := [.operator, .service]
  lenOk := fun c _ => c.len == 16
  target := fun c _ => 48 ≤ c.tgt && c.tgt < 64
  pre := fun c _ => failIf (56 ≤ c.tgt) stDeniedState 0
  post := fun c s => firstFault (cmpFaults (c.tgt - 48) c.pl s)
  eff := fun c s => writeCmp (c.tgt - 48) c.pl s
  ans := fun c s => ansResult (le 1 (b2n (cmpBehind c.pl s) + 2 * b2n (cmpBehind c.pl s && !bit (c.u8 1) 2)))

/-- POS_SET (R285, R287). -/
def posSetSpec (inUse : Nat → State → Bool) : CmdSpec where
  roles := [.service]
  lenOk := fun c _ => c.len == 8
  target := fun c _ => isCounter c.tgt
  pre := fun c s => failIf (inUse c.tgt s) stDeniedState 0
  post := fun c s =>
    let v := toSigned 48 (leAt c.pl 0 6)
    let cpr := s.cpr (ctrIdx c.tgt)
    firstFault [(cpr != 0 && (decide (v < 0) || decide ((cpr : Int) ≤ v)), 0), (c.u16 6 != 0, 6)]
  eff := fun c s =>
    let x := ctrIdx c.tgt
    let s1 := s.setCounter x fun k => { k with pos := toSigned 48 (leAt c.pl 0 6) }
    let s1 := if x < 8 then s1.setQe x fun q => { q with posBad := false }
      else s1.setSe (x - 8) fun e => { e with goodPos := toSigned 48 (leAt c.pl 0 6), readAt := s.io.time }
    forEach (List.range 16) (fun s k => if ctrIdx (byteAt (s.cmpUnit k).set 0) = x then
      s.setCmp k fun c => { c with live := false, armed := false } else s) s1

/-- FB_CLEAR (R277, R287). -/
def fbClearSpec : CmdSpec where
  roles := [.service]
  target := fun c _ => isCounter c.tgt
  pre := fun c s =>
    if c.tgt < 8 then failIf ((s.qe c.tgt).fault != 0 && (s.qe c.tgt).wire.contains true) stDeniedState 0
    else
      let e := s.se (c.tgt - 16)
      failIf (e.fallback && decide (e.goodRun < 1000)) stDeniedState 0
  eff := fun c s =>
    if c.tgt < 8 then s.setQe c.tgt fun q => { q with fault := 0, raised := [] }
    else
      let n := c.tgt - 16
      let was := (s.se n).fallback
      let s1 := s.setSe n fun e => { e with
        fault := 0, raised := [], fallback := false, extrap := false, failRun := 0
        goodPos := if was then e.ctr.pos else e.goodPos, readAt := if was then s.io.time else e.readAt
        valid := decide (0 < e.goodRun) || e.valid }
      if was then s1.pulse 154 (16 + n) else s1
  ans := fun c s =>
    let latched : Bool := if c.tgt < 8 then (s.qe c.tgt).fault != 0 else (s.se (c.tgt - 16)).fault != 0 || (s.se (c.tgt - 16)).fallback
    if latched then ansDone else ansAlready

end Sys2Proof.Machine
end

