-- ==== Sys2Proof/Machine/Intake.lean ====
section
/-!
DEFINITION. Raster intake and the band store (chapter 04): received frames, TRT packets, pages and their verification,
ACK and NACK, the PTP master, and the commands of group 0x04.
-/
namespace Sys2Proof.Machine

/-! ## Units -/

/-- Stream `n`. -/
def State.strm (s : State) (n : Nat) : Stream := s.itk.streams.getD n {}
/-- Stream `n` is replaced by `f` of itself. -/
def State.setStrm (s : State) (n : Nat) (f : Stream → Stream) : State :=
  { s with itk := { s.itk with streams := upd s.itk.streams n f } }
/-- Port `n`. -/
def State.port (s : State) (n : Nat) : Port := s.itk.ports.getD n {}
/-- Port `n` is replaced by `f` of itself. -/
def State.setPort (s : State) (n : Nat) (f : Port → Port) : State :=
  { s with itk := { s.itk with ports := upd s.itk.ports n f } }
/-- The page of a stream with a PAGE_ID. -/
def State.page (s : State) (st id : Nat) : Option Page := s.itk.pages.find? fun p => p.stream == st && p.id == id
/-- That page is replaced by `f` of itself. -/
def State.setPage (s : State) (st id : Nat) (f : Page → Page) : State :=
  { s with itk := { s.itk with pages := s.itk.pages.map fun p => if p.stream == st && p.id == id then f p else p } }
/-- That page's record leaves the store. -/
def State.dropPage (s : State) (st id : Nat) : State :=
  { s with itk := { s.itk with pages := s.itk.pages.filter fun p => !(p.stream == st && p.id == id) } }

/-- A stream enters a state; EV241 (R98). -/
def streamState (n : Nat) (st : StrState) (s : State) : State :=
  if (s.strm n).state = st then s else (s.setStrm n fun x => { x with state := st }).pulse 241 (n + st.code * 2 ^ 8)

/-- A packet of a stream is dropped and counted (R83). -/
def dropPacket (n : Nat) (s : State) : State := s.setStrm n fun x => { x with dropped := satInc 32 x.dropped }

/-! ## The band store (R92, R93) -/

/-- Granules of a length. -/
def granules (len : Nat) : Nat := ceilDivN len 4096
/-- Retired granules from number `lo` up to below `hi` (R379). The store lies at the start of DRAM and the capture area
after it. -/
def retiredIn (lo hi : Nat) (s : State) : Nat := (s.bg.retired.filter fun g => decide (lo ≤ g) && decide (g < hi)).length
/-- Granules of BAND_STORE_SIZE (R92). -/
def storeGranules (s : State) : Nat := s.boot.settings.getD 0 0 * 256
/-- The granules that pages hold. -/
def heldGranules (s : State) : List Nat := s.itk.pages.flatMap Page.grans
/-- Retired granules of the store that no page holds: they are no longer allocated (R379). -/
def retiredFree (s : State) : List Nat :=
  s.bg.retired.filter fun g => decide (g < storeGranules s) && !(heldGranules s).contains g
/-- Granules that a reservation may still take (R93, R379). -/
def freeGranules (s : State) : Nat := storeGranules s - (heldGranules s).length - (retiredFree s).length
/-- The first number from `g` upward, around the end of the store, that is not `taken`. -/
def probeFree (n : Nat) (taken : List Nat) : Nat → Nat → Nat
  | 0, g => g
  | fuel + 1, g => if taken.contains g then probeFree n taken fuel ((g + 1) % n) else g
/-- `k` granules for a reservation: which of the free ones it takes is not stated, so each is free (assumption 3). -/
def pickGranules (k : Nat) (s : State) : List Nat :=
  let taken := heldGranules s ++ retiredFree s
  (List.range k).foldl (fun l i =>
    l ++ [probeFree (storeGranules s) (taken ++ l) (taken.length + k) (freeVal .store i s % (storeGranules s : Int)).toNat]) []
/-- Granules charged to a stream. -/
def streamGranules (st : Nat) (s : State) : Nat := (s.itk.pages.filter (·.stream == st)).foldl (fun n p => n + p.granules) 0
/-- A page record is free. -/
def recordFree (s : State) : Bool := s.itk.pages.length < 8192
/-- A reservation of `g` granules fits the quota and the store. -/
def fits (st g : Nat) (s : State) : Bool :=
  decide (streamGranules st s + g ≤ (s.strm st).quota * 256) && decide (g ≤ freeGranules s)
/-- CREDIT (R93). -/
def credit (st : Nat) (s : State) : Nat :=
  if recordFree s then 4096 * min ((s.strm st).quota * 256 - streamGranules st s) (freeGranules s) else 0

/-! ## Manifests (R89) -/

/-- A plane of a manifest: STATION, SIDE, SYMBOL_BITS, BANDS, WIDTH_PX and the offset of its first band entry. -/
structure Plane where
  station : Nat
  side : Nat
  bits : Nat
  bands : Nat
  width : Nat
  entries : Nat
deriving DecidableEq, Repr

/-- Plane descriptors from index `i`, whose first band entry lies at `e`. -/
def planesGo (m : Bytes) : Nat → Nat → Nat → List Plane
  | 0, _, _ => []
  | n + 1, i, e =>
    let o := 16 + 16 * i
    let k := u16At m (o + 2)
    { station := byteAt m o % 8, side := byteAt m o / 8 % 2, bits := byteAt m (o + 1), bands := k, width := u16At m (o + 4), entries := e }
      :: planesGo m n (i + 1) (e + 24 * k)

/-- The planes of a manifest. -/
def manPlanes (m : Bytes) : List Plane := planesGo m (byteAt m 4) 0 (16 + 16 * byteAt m 4)

/-- The manifest of a page breaks R89. -/
def manifestBad (m : Bytes) (id : Nat) (s : State) : Bool :=
  let n := byteAt m 4
  let ps := manPlanes m
  let bands := ps.foldl (fun k p => k + p.bands) 0
  u32At m 0 != id || outside n 1 10 || byteAt m 5 != 1 || !zeroAt m 6 2 || u32At m 8 != m.length
    || m.length != 16 + 16 * n + 24 * bands || !zeroAt m 12 4
    || ps.zipIdx.any fun x =>
      let o := 16 + 16 * x.2
      let p := x.1
      decide (16 ≤ byteAt m o) || !bit (stationsOn s) p.station || !([1, 4, 8].contains p.bits) || outside p.bands 1 1920
        || outside p.width 1 31200 || !zeroAt m (o + 6) 10
        || (ps.take x.2).any (fun q => q.station == p.station && q.side == p.side)
        || (List.range p.bands).any fun b =>
          outside (u32At m (p.entries + 24 * b)) 1 2097152 || !zeroAt m (p.entries + 24 * b + 4) 4

/-- Offset of a band's entry in a manifest. -/
def bandEntry (m : Bytes) (station side band : Nat) : Option Nat :=
  match (manPlanes m).find? fun p => p.station == station && p.side == side with
  | some p => if band < p.bands then some (p.entries + 24 * band) else none
  | none => none

/-! ## Pages (R90, R91, R95) -/

/-- A page report waits for the next ACKs (R86). -/
def report (st id state reason : Nat) (s : State) : State :=
  s.setStrm st fun x => { x with reports := x.reports ++ [{ page := id, state := state, reason := reason }] }

/-- EV240 and the report of a page's state (R86, R98). -/
def pageEvent (st id state reason : Nat) (s : State) : State :=
  (report st id state reason s).pulse 240 (id + st * 2 ^ 32 + state * 2 ^ 40 + reason * 2 ^ 48)

/-- A page becomes REJECTED and its granules are freed (R90). What they held is gone: PLANES, the plane entries and
RECEIVED of its staging report read 0 from then on, where the manifest was known too (DESIGN CHOICE, assumption 32). -/
def rejectPage (st id reason : Nat) (s : State) : State :=
  pageEvent st id 3 reason (s.setPage st id fun p => { p.empty with state := .rejected, reason := reason })

/-- An uncorrectable DRAM error in a page: REJECTED with STORE_ERROR; the bands of a COMPLETE page stay while a sheet
needs it (R95). -/
def pageStoreError (st id : Nat) (needed : Bool) (s : State) : State := match s.page st id with
  | some p => match p.state with
    | .complete =>
      if needed then pageEvent st id 3 9 (s.setPage st id fun p => { p with state := .rejected, reason := 9 })
      else rejectPage st id 9 s
    | .receiving => rejectPage st id 9 s
    | .rejected => s
  | none => s

/-- 64-byte units of a fragment at OFFSET, by index (R90). -/
def fragUnits : Nat → Nat → Bytes → List (Nat × Bytes)
  | 0, _, _ => []
  | fuel + 1, i, b => if b = [] then [] else (i, b.take 64) :: fragUnits fuel (i + 1) (b.drop 64)

/-- Units in index order joined into bytes. -/
def joinUnits (n : Nat) (us : List (Nat × Bytes)) : Bytes :=
  (List.range n).flatMap fun i => match us.find? fun u => u.1 == i with | some u => u.2 | none => []

/-- Every unit of a length is held. -/
def unitsFull (len : Nat) (us : List (Nat × Bytes)) : Bool := us.length == ceilDivN len 64

/-- The manifest is complete: R89 is checked, then the bands already held (R90). -/
def manifestDone (st id : Nat) (s : State) : State := match s.page st id with
  | none => s
  | some p => match p.total with
    | none => s
    | some total =>
      if !unitsFull total p.manUnits then s
      else
        let m := joinUnits (ceilDivN total 64) p.manUnits
        if manifestBad m id s then rejectPage st id 1 s
        else
          let bad := p.bands.filterMap fun b => match bandEntry m b.station b.side b.band with
            | none => some 3
            | some o => if u32At m o = b.len then none else some 4
          match bad with
          | r :: _ => rejectPage st id r s
          | [] => s.setPage st id fun p => { p with manifest := some m }

/-- A MANIFEST packet applies to its page; none for NO_SPACE (R83 step 8, R90, R91, R93). A fragment that runs beyond
TOTAL_LEN rejects the page with MANIFEST_FORMAT: no reason of the table names it (DESIGN CHOICE, assumption 32). -/
def applyManifest (st id off total : Nat) (data : Bytes) (s : State) : Option State :=
  let us := fragUnits (data.length + 1) (off / 64) data
  let add (s : State) : State := match s.page st id with
    | none => s
    | some p =>
      if p.total.isSome && p.total != some total then rejectPage st id 2 s
      else if total < off + data.length then rejectPage st id 1 s
      else if us.any (fun u => match p.manUnits.find? fun v => v.1 == u.1 with | some v => v.2 != u.2 | none => false) then
        rejectPage st id 2 s
      else
        let held := us.filter fun u => p.manUnits.any fun v => v.1 == u.1
        if held.length = us.length then s.setStrm st fun x => { x with dupFrag := satInc 32 x.dupFrag }
        else if held.length ≠ 0 then rejectPage st id 5 s
        else manifestDone st id (s.setPage st id fun p => { p with total := some total, manUnits := p.manUnits ++ us })
  let gs := pickGranules (granules total) s
  match s.page st id with
  | none =>
    if recordFree s && fits st (granules total) s then
      some (add (pageEvent st id 1 0 { (advanceFree s) with itk := { s.itk with
        pages := s.itk.pages ++ [{ stream := st, id := id, manGrans := gs }] } }))
    else none
  | some p =>
    if p.state ≠ .receiving then some (report st id p.state.code 8 s)
    else if p.total.isNone then
      if fits st (granules total) s then some (add ((advanceFree s).setPage st id fun p => { p with manGrans := gs }))
      else none
    else some (add s)

/-- A DATA packet applies to its page; none for NO_SPACE (R83 step 8, R90, R93). For a COMPLETE page it counts as
DUP_FRAGMENT whatever plane and band it names, as nothing more is read of it (DESIGN CHOICE, assumption 32). -/
def applyData (st id station side band off len : Nat) (data : Bytes) (s : State) : Option State :=
  let us := fragUnits (data.length + 1) (off / 64) data
  let same (b : BandBuf) : Bool := b.station == station && b.side == side && b.band == band
  let dup (s : State) : State := s.setStrm st fun x => { x with dupFrag := satInc 32 x.dupFrag }
  let gs := pickGranules (granules len) s
  let add (s : State) : State := match s.page st id with
    | none => s
    | some p =>
      let listed := match p.manifest with
        | some m => match bandEntry m station side band with
          | none => some 3
          | some o => if u32At m o = len then none else some 4
        | none => none
      match listed with
      | some r => rejectPage st id r s
      | none =>
        match p.bands.find? same with
        | none =>
          if len < off + data.length then rejectPage st id 5 s
          else s.setPage st id fun p => { p with
            bands := p.bands ++ [{ station := station, side := side, band := band, len := len, units := us, grans := gs }] }
        | some b =>
          if b.len ≠ len then rejectPage st id 4 s
          else if len < off + data.length then rejectPage st id 5 s
          else
            let held := us.filter fun u => b.units.any fun v => v.1 == u.1
            if held.length = us.length then dup s
            else if held.length ≠ 0 then rejectPage st id 5 s
            else s.setPage st id fun p => { p with
              bands := p.bands.map fun b => if same b then { b with units := b.units ++ us } else b }
  match s.page st id with
  | none =>
    if recordFree s && fits st (granules len) s then
      some (add (pageEvent st id 1 0 { (advanceFree s) with itk := { s.itk with
        pages := s.itk.pages ++ [{ stream := st, id := id }] } }))
    else none
  | some p =>
    if p.state = .complete then some (dup s)
    else if p.state = .rejected then some s
    else if p.bands.any same then some (add s)
    else if fits st (granules len) s then some (add (advanceFree s))
    else none

/-- A listed band of a page as it is held. -/
def Page.band (p : Page) (station side band : Nat) : Option BandBuf :=
  p.bands.find? fun b => b.station == station && b.side == side && b.band == band
/-- Its bytes. -/
def BandBuf.bytes (b : BandBuf) : Bytes := joinUnits (ceilDivN b.len 64) b.units

/-- Every listed band of a page is complete (R90). -/
def pageFull (p : Page) : Bool := match p.manifest with
  | none => false
  | some m => (manPlanes m).all fun pl => (List.range pl.bands).all fun b =>
      match p.band pl.station pl.side b with
      | some x => unitsFull x.len x.units
      | none => false

/-- The verification of one band: 0, or a reject reason, with the band's cost (R90, R110). -/
def verifyBand (m : Bytes) (pl : Plane) (b : Nat) (x : BandBuf) : Nat × Nat :=
  let bytes := x.bytes
  if bandHash bytes ≠ sub m (pl.entries + 24 * b + 8) 16 then (6, 0)
  else match decodeBand bytes pl.bits pl.width with
    | .fail _ => (7, 0)
    | .ok _ t => (0, bandCost pl.width t)

/-- The verification read of a fully received page ends (R90, R95); `ecc` says that it met an uncorrectable DRAM
error. -/
def verifyPage (st id : Nat) (ecc : Bool) (s : State) : State := match s.page st id with
  | none => s
  | some p => match p.manifest with
    | none => s
    | some m =>
      if p.state ≠ .receiving ∨ !pageFull p then s
      else if ecc then rejectPage st id 9 s
      else
        let rs := (manPlanes m).map fun pl => ((List.range pl.bands).filterMap fun b => p.band pl.station pl.side b).zipIdx.map fun x =>
          (verifyBand m pl x.2 x.1, x.1.len)
        match rs.flatten.find? fun r => r.1.1 != 0 with
        | some r => rejectPage st id r.1.1 s
        | none =>
          pageEvent st id 2 0 (s.setPage st id fun p => { p with
            state := .complete
            costs := rs.map fun l => (l.foldl (fun k r => max k r.2) 0, l.foldl (fun k r => max k r.1.2) 0) })

/-! ## TRT packets (R78 to R84) -/

/-- Structure under R78 and R79: reserved bytes, lengths and types. An inbound packet of TYPE 0x8 or 0x9, with a STREAM
above 255, SEQ 0, PAGE_ID 0 or a nonzero reserved byte of its type header is MALFORMED too, which no rule names (DESIGN
CHOICE, assumption 32). -/
def trtWellFormed (p : Bytes) : Bool :=
  let ty := byteAt p 0 % 16
  let len := u16At p 6
  let off := u32At p 24
  let total := u32At p 28
  decide (48 ≤ p.length) && p.length == 32 + len + 16 && byteAt p 0 / 16 == 1 && byteAt p 1 == 0 && (ty == 1 || ty == 2)
    && decide (u16At p 2 < 256) && decide (1 ≤ u64At p 8) && decide (1 ≤ len) && decide (len ≤ 8192) && off % 64 == 0
    && (len % 64 == 0 || off + len == total) && u32At p 16 != 0
    && (if ty = 1 then decide (byteAt p 20 < 16) && byteAt p 21 == 0 && decide (1 ≤ total) && decide (total ≤ 2097152)
        else zeroAt p 20 4 && decide (total ≤ 460976))

/-- The 12-byte nonce (R80). -/
def trtNonce (outbound : Bool) (k : StreamKey) (seq : Nat) : Bytes := le 1 (b2n outbound) ++ fit 3 k.salt ++ le 8 seq

/-- The key under which a packet of an epoch and SEQ is accepted (R81). -/
def keyFor (x : Stream) (epoch seq : Nat) : Option StreamKey :=
  match x.cur with
  | some k => if k.epoch = epoch then some k else
    match x.next with
    | some n => if n.epoch = epoch then some n else none
    | none => match x.old with
      | some (o, sw) => if o.epoch = epoch ∧ seq < sw then some o else none
      | none => none
  | none => none

/-- SEQ is marked or below the window. -/
def seqMarked (x : Stream) (seq : Nat) : Bool := decide (seq < x.low) || x.marks.contains seq

/-- L advances past all contiguously marked SEQ (R82); `fuel` is the number of marks. -/
def advanceLow : Nat → Stream → Stream
  | 0, x => x
  | n + 1, x => if x.marks.contains x.low then advanceLow n { x with low := x.low + 1, marks := x.marks.filter (· != x.low) } else x

/-- A SEQ is marked (R82); the key of the former epoch is erased when L passes the switch point (R81). -/
def markSeq (seq : Nat) (x : Stream) : Stream :=
  let x := advanceLow (x.marks.length + 1) { x with
    marks := seq :: x.marks, high := max x.high seq, ackDue := true, gaps := x.gaps.filter fun g => g.seq != seq }
  { x with old := match x.old with | some (k, sw) => if sw < x.low then none else some (k, sw) | none => none }

/-! ## Per-stream credits (R21, R96) -/

/-- The streams with requests: those with queued packets. -/
def activeStreams (s : State) : List Nat := (List.range 256).filter fun n => (s.strm n).queue != []

/-- V_min_active over the streams, 0 without one (R21). -/
def minActive (s : State) : Nat := match activeStreams s with
  | [] => 0
  | n :: l => l.foldl (fun m k => min m (s.strm k).vtime) (s.strm n).vtime

/-- The stream that the crypto engine serves next: the smallest virtual time, ties to the lowest number (R21, R96). -/
def cryptoNext (s : State) : Option Nat := (activeStreams s).find? fun n => (s.strm n).vtime == minActive s

/-- A stream's virtual time after a packet of `len` payload bytes: one grant for each 64-byte burst (R16, R21, R96; the
grant's size in the crypto engine is a DESIGN CHOICE, assumption 32). -/
def chargeStream (len : Nat) (x : Stream) : Stream :=
  { x with vtime := x.vtime + ceilDivN len 64 * (65536 / max x.weight 1) }

/-- Steps 1 to 5 of the inbound-packet table for a packet from port `port` (2: the intake aperture), a source address and
a UDP port (R83, R88). -/
def trtReceive (port : Nat) (src : Bytes) (udp : Nat) (p : Bytes) (s : State) : State :=
  let bad (known : Bool) : State :=
    if port = 2 then { s with itk := { s.itk with pcieBad := satInc 32 s.itk.pcieBad } }
    else s.setPort port fun x => if known then { x with unknown := satInc 32 x.unknown } else { x with malformed := satInc 32 x.malformed }
  if !trtWellFormed p then bad false
  else
    let n := u16At p 2
    let x := s.strm n
    let matched : Bool := x.state != .closed && (x.pcie == (port == 2))
      && (port == 2 || (x.peer == src && x.peerUdp == udp && bit x.ports port))
    if !matched then bad true
    else
      let seq := u64At p 8
      if x.state = .broken ∨ (keyFor x (u16At p 4) seq).isNone ∨ seqMarked x seq ∨ x.low + 1023 < seq ∨ 64 ≤ x.queue.length then
        dropPacket n s
      else s.setStrm n fun x => { x with
        queue := x.queue ++ [(port, p)], vtime := if x.queue = [] then max x.vtime (minActive s) else x.vtime }

/-- Steps 8 and 9 for an authenticated packet and its plaintext (R83): it is marked unless it finds no space. -/
def trtApply (n : Nat) (p text : Bytes) (s : State) : State :=
  let seq := u64At p 8
  let id := u32At p 16
  let r := if byteAt p 0 % 16 = 2 then applyManifest n id (u32At p 24) (u32At p 28) text s
    else applyData n id (byteAt p 20 % 8) (byteAt p 20 / 8) (u16At p 22) (u32At p 24) (u32At p 28) text s
  match r with
  | none => dropPacket n s
  | some s => s.setStrm n (markSeq seq)

/-- Steps 6 to 9 for the oldest queued packet of a stream, which is the one that its credits let the crypto engine serve
(`cryptoNext`): its tag, the epoch switch, and its page (R81, R83). The answer
holds the authenticated packet, which the ACTIVE forwards (R97). -/
def trtDecrypt (n : Nat) (s : State) : State × Option (Bytes × Bytes) :=
  let x := s.strm n
  match x.queue with
  | [] => (s, none)
  | (port, p) :: rest =>
    let s := s.setStrm n fun x => { chargeStream (u16At p 6) x with queue := rest }
    let seq := u64At p 8
    let ep := u16At p 4
    if x.state ≠ .opened then (dropPacket n s, none)
    else match keyFor x ep seq with
      | none => (dropPacket n s, none)
      | some k => match Config.gcmOpen k.key (trtNonce false k seq) (p.take 32) (p.drop 32) with
        | none => (s.setStrm n fun x => { x with authFail := satInc 32 x.authFail }, none)
        | some text =>
          let s := s.setStrm n fun x =>
            let x := { x with lastPort := if port < 2 then port else x.lastPort }
            match x.cur, x.next with
            | some c, some nx => if nx.epoch = ep then { x with cur := some nx, next := none, old := some (c, seq) } else x
            | _, _ => x
          if seqMarked (s.strm n) seq then (dropPacket n s, some (p, text)) else (trtApply n p text s, some (p, text))

/-! ## ACK and NACK (R85, R86, R88) -/

/-- A gap: a SEQ not marked while a higher SEQ is marked (R85). -/
def isGap (x : Stream) (seq : Nat) : Bool := decide (x.low ≤ seq) && decide (seq < x.high) && !x.marks.contains seq

/-- The leading `k` bits of two addresses agree. -/
def sameNet (k : Nat) (a b : Bytes) : Bool :=
  let v (x : Bytes) : Nat := x.foldl (fun n y => n * 256 + y.toNat) 0
  v a / 2 ^ (8 * a.length - k) == v b / 2 ^ (8 * a.length - k)

/-- An address, IPv4 as ::ffff:a.b.c.d, lies on the IPv4 or IPv6 subnet of a port (R77). -/
def onSubnet (set addr : Bytes) : Bool :=
  if addr.take 12 = zeros 10 ++ [0xFF, 0xFF] then sub set 8 4 != zeros 4 && sameNet (byteAt set 12) (sub set 8 4) (sub addr 12 4)
  else sub set 16 16 != zeros 16 && sameNet (byteAt set 13) (sub set 16 16) (fit 16 addr)

/-- An ACK or NACK of a stream may leave: its peer is on the subnet of its last port (R77), and the controller is no
STANDBY or UNFIT controller of a pair (R97). -/
def mayAnswer (n : Nat) (s : State) : Bool :=
  !s.shadow && onSubnet (s.port (s.strm n).lastPort).set (s.strm n).peer

/-- An outbound packet of a type, sealed under the current key, leaves through the stream's last port (R80, R86). -/
def sendTrt (n ty : Nat) (payload : Bytes) (s : State) : State :=
  let x := s.strm n
  match x.cur with
  | none => s
  | some k =>
    let head := le 1 (16 + ty) ++ le 1 0 ++ le 2 n ++ le 2 k.epoch ++ le 2 payload.length ++ le 8 x.outSeq ++ le 8 s.io.time ++ zeros 8
    let pkt := head ++ Config.gcmSeal k.key (trtNonce true k x.outSeq) head payload
    (s.setPort x.lastPort fun p => { p with sent := pkt }).setStrm n fun x => { x with outSeq := x.outSeq + 1 }

/-- An ACK is sent while a packet was marked or a page report waits (R86). -/
def ackSend (n : Nat) (s : State) : State :=
  let x := s.strm n
  if x.state = .closed ∨ x.pcie ∨ (!x.ackDue ∧ x.reports = []) ∨ !mayAnswer n s then s
  else
    let rs := x.reports.take 8
    let payload := le 8 (x.low - 1) ++ le 8 (credit n s) ++ le 8 x.high ++ le 1 rs.length ++ zeros 7
      ++ fit 64 (rs.flatMap fun r => le 4 r.page ++ le 1 r.state ++ le 1 r.reason ++ zeros 2)
    (sendTrt n 8 payload s).setStrm n fun x => { x with ackDue := false, reports := x.reports.drop 8 }

/-- Requests made so far for a gap (R85). -/
def gapRequests (x : Stream) (q : Nat) : Nat := match x.gaps.find? fun g => g.seq == q with
  | some g => g.requests
  | none => 0

/-- The gaps in `seqs` are due and are requested in one NACK; a SEQ already requested NACK_LIMIT times breaks the stream
(R85). -/
def nackDue (n : Nat) (seqs : List Nat) (s : State) : State :=
  let x := s.strm n
  let due := seqs.filter (isGap x)
  if x.state ≠ .opened ∨ x.pcie ∨ due = [] ∨ !mayAnswer n s then s
  else
    let count (q : Nat) : Nat := gapRequests x q
    if due.any (fun q => decide (s.boot.settings.getD 6 64 ≤ count q)) then streamState n .broken s
    else
      let map := (List.range 128).map fun i => BitVec.ofNat 8 ((List.range 8).foldl (fun a k =>
        if due.contains (x.low + 8 * i + k) then a + 2 ^ k else a) 0)
      (sendTrt n 9 (le 8 x.low ++ map) s).setStrm n fun x => { x with
        gaps := (x.gaps.filter fun g => !due.contains g.seq) ++ due.map fun q => { seq := q, requests := count q + 1 } }

/-- A gap on a PCIe stream has lasted 100 ms (R88). -/
def pcieGap (n : Nat) (s : State) : State :=
  let x := s.strm n
  if x.state = .opened ∧ x.pcie ∧ x.marks ≠ [] then streamState n .broken s else s

/-! ## Ethernet frames (R76, R99) -/

/-- A big-endian 16-bit field of a frame. -/
def be16 (b : Bytes) (i : Nat) : Nat := byteAt b i * 256 + byteAt b (i + 1)

/-- The one's-complement sum of a string, as UDP and ICMPv6 use it. -/
def onesSum (b : Bytes) : Nat :=
  let t := (List.range ((b.length + 1) / 2)).foldl (fun a i => a + be16 b (2 * i)) 0
  let t := t % 65536 + t / 65536
  t % 65536 + t / 65536

/-! ### PTP (R99, R100) -/

/-- A big-endian number of `n` bytes of a frame. -/
def beN (b : Bytes) (i n : Nat) : Nat := (sub b i n).foldl (fun a x => a * 256 + x.toNat) 0

/-- A PTP time in ns: 48-bit seconds and 32-bit nanoseconds at `i`. -/
def ptpTime (m : Bytes) (i : Nat) : Nat := beN m i 6 * 1000000000 + beN m (i + 6) 4
/-- correctionField in ns, rounded down. -/
def ptpCorrection (m : Bytes) : Int := floorDiv (toSigned 64 (beN m 8 8)) 65536
/-- The time-stamp of an event message at the MAC: TIME64 with 5 ns resolution. -/
def macStamp (s : State) : Nat := s.io.time / 5 * 5

/-- The order of the standard's best master clock algorithm over the data sets of foreign masters, lower is better:
priority1, clock quality, priority2, grandmaster identity, stepsRemoved, then the sender's port identity and the receiving
port. -/
def PtpForeign.key (x : PtpForeign) : List Nat := x.dataset.map (·.toNat) ++ x.src.map (·.toNat) ++ [x.port]

/-- An Announce enters the list of foreign masters; it qualifies its sender where the one before came within four
announce intervals, the standard's foreign master time window. -/
def noteForeign (port : Nat) (m : Bytes) (s : State) : State :=
  let src := sub m 20 10
  let window (k : Int) : Int := 4 * (if 0 ≤ k then 1000000000 * 2 ^ k.toNat else 1000000000 / 2 ^ (-k).toNat)
  let old := s.itk.foreign.find? fun x => x.src == src && x.port == port
  let within : Bool := match old with
    | some x => x.qualified || decide ((s.io.time : Int) - x.at_ ≤ window (i8At m 33))
    | none => false
  let e : PtpForeign :=
    { src := src, port := port, dataset := sub m 47 16, utc := be16 m 44, at_ := s.io.time, qualified := within }
  { s with itk := { s.itk with
      foreign := s.itk.foreign.filter (fun x => !(x.src == src && x.port == port)) ++ [e] } }

/-- The best qualified foreign master. -/
def bestMaster (s : State) : Option PtpForeign := (s.itk.foreign.filter (·.qualified)).foldl (fun b x => match b with
  | none => some x
  | some y => if x.key < y.key then some x else some y) none

/-- The best qualified foreign master is the master; a new selection writes an anchor (R99, R364). -/
def selectMaster (s : State) : State := match bestMaster s with
  | none => s
  | some b =>
    let mine : Bool := match s.itk.master with | some x => x.src == b.src && x.port == b.port | none => false
    let s : State := { s with itk := { s.itk with
      master := some { dataset := b.dataset, port := b.port, src := b.src }, utcOffset := b.utc
      ptp := if mine then s.itk.ptp else {} } }
    if mine then s
    else advanceFree (s.record {
        kind := .anchor, time := s.io.time, origin := 0, detail := 0, subject := 0
        body := le 1 1 ++ zeros 3 ++ le 4 (freeBits .measured 32 0 s) ++ le 8 s.io.time ++ le 8 (freeBits .measured 64 1 s)
          ++ le 4 (freeBits .measured 32 2 s) ++ le 4 (freeBits .measured 32 3 s) ++ sub b.dataset 6 8 ++ le 2 s.itk.utcOffset
          ++ zeros 6
        draw := .ordinary })

/-- The exchange is replaced by `f` of itself. -/
def State.setPtp (s : State) (f : PtpExchange → PtpExchange) : State := { s with itk := { s.itk with ptp := f s.itk.ptp } }

/-- A big-endian string of `n` bytes. -/
def beBytes (n v : Nat) : Bytes := (le n v).reverse

/-- A Delay_Req leaves for the master once t1 of a Sync is known (R99); its departure is t3. That one follows every Sync
at once is a DESIGN CHOICE (assumption 32). -/
def sendDelayReq (s : State) : State := match s.itk.master with
  | none => s
  | some x =>
    let q := s.itk.ptp.reqSeq
    let m := [0x01, 0x02] ++ beBytes 2 44 ++ [BitVec.ofNat 8 (s.boot.settings.getD 7 0), 0] ++ zeros 14
      ++ (s.port x.port).mac.take 3 ++ [0xFF, 0xFE] ++ (s.port x.port).mac.drop 3 ++ beBytes 2 (x.port + 1) ++ beBytes 2 q
      ++ [1, 0x7F] ++ zeros 10
    (s.setPort x.port fun p => { p with sent := m }).setPtp fun e => { e with
      req := some (q, macStamp s), reqSeq := (q + 1) % 65536 }

/-- A Sync of the master arrives: t2, and t1 where it is one-step (R99). -/
def ptpSync (m : Bytes) (s : State) : State :=
  let two := bit (byteAt m 6) 1
  let s := s.setPtp fun e => { e with
    sync := some (be16 m 30, macStamp s), twoStep := two, corr := ptpCorrection m
    t1 := if two then none else some (ptpTime m 34 + ptpCorrection m) }
  if two then s else sendDelayReq s

/-- The Follow_Up of a two-step Sync arrives: t1, with the corrections of both (R99). -/
def ptpFollowUp (m : Bytes) (s : State) : State := match s.itk.ptp.sync with
  | none => s
  | some (q, _) =>
    if s.itk.ptp.twoStep = false ∨ q ≠ be16 m 30 then s
    else sendDelayReq (s.setPtp fun e => { e with
      twoStep := false, t1 := some (ptpTime m 34 + ptpCorrection m + e.corr) })

/-- The Delay_Resp to the Delay_Req in flight arrives: t4, and with it the exchange's path delay and offset by the end-to-end
delay request-response mechanism (R99). -/
def ptpDelayResp (m : Bytes) (s : State) : State := match s.itk.ptp.req, s.itk.ptp.sync, s.itk.ptp.t1, s.itk.master with
  | some (q, t3), some (_, t2), some t1, some x =>
    let mac := (s.port x.port).mac
    let me := mac.take 3 ++ [0xFF, 0xFE] ++ mac.drop 3 ++ beBytes 2 (x.port + 1)
    if q ≠ be16 m 30 ∨ sub m 44 10 ≠ me then s
    else
      let t4 : Int := ptpTime m 34 - ptpCorrection m
      let delay := floorDiv ((t2 : Int) - t1 + (t4 - t3)) 2
      s.setPtp fun e => { e with req := none, result := some (delay, (t2 : Int) - t1 - delay) }
  | _, _, _, _ => s

/-- A PTP message of the domain (R99): Announce messages select the master; Sync, Follow_Up and Delay_Resp count where
they come from it; the others, peer-delay messages among them, are ignored. -/
def ptpReceive (port : Nat) (m : Bytes) (s : State) : State :=
  let ty := byteAt m 0 % 16
  if byteAt m 4 ≠ s.boot.settings.getD 7 0 ∨ byteAt m 1 % 16 ≠ 2 ∨ m.length < 44 then s
  else if ty = 0xB then
    if m.length < 64 ∨ bit (byteAt m 6) 0 ∨ 255 ≤ be16 m 61 then s else selectMaster (noteForeign port m s)
  else match s.itk.master with
    | none => s
    | some x =>
      if x.port ≠ port ∨ x.src ≠ sub m 20 10 then s
      else if ty = 0 then ptpSync m s
      else if ty = 8 then ptpFollowUp m s
      else if ty = 9 ∧ 54 ≤ m.length then ptpDelayResp m s
      else s

/-- Renune's answer to ARP, ICMP echo or a neighbour request, 100 a second at most. -/
def netAnswer (port : Nat) (s : State) : State :=
  let sec := s.io.time / 1000000000
  s.setPort port fun p =>
    if p.answerSec ≠ sec then { p with answers := 1, answerSec := sec }
    else if p.answers < 100 then { p with answers := p.answers + 1 } else p

/-- What becomes of a frame's network payload: dropped, taken without an answer, answered, PTP, or a TRT packet with its
source. -/
inductive FrameUse where
  | drop
  | quiet
  | answer
  | ptp (m : Bytes)
  | trt (src : Bytes) (udp : Nat) (p : Bytes)
deriving DecidableEq, Repr

/-- A UDP datagram by its ports (port-properties table); `v6` and `pseudo` give the checksum's rule and pseudo-header
(R76). -/
def udpUse (set : Bytes) (v6 : Bool) (pseudo src u : Bytes) : FrameUse :=
  let len := be16 u 4
  let sum := be16 u 6
  let ok : Bool := decide (8 ≤ len) && decide (len ≤ u.length)
    && (if sum = 0 then !v6 else onesSum (pseudo ++ u.take len) == 0xFFFF)
  let port := be16 u 2
  let body := (u.take len).drop 8
  if !ok then .drop
  else if port = 319 ∨ port = 320 then .ptp body
  else if port = u16At set 6 then .trt src (be16 u 0) body
  else .drop

/-- An answer where the peer is on the port's subnet and the request is for the port (R77). -/
def answerIf (ok : Bool) : FrameUse := if ok then .answer else .quiet

/-- The neighbour-discovery group of an IPv6 address: the solicited-node group, and its MAC group. -/
def ndGroup (v6 : Bytes) : Bytes := [0xFF, 0x02] ++ zeros 9 ++ [0x01, 0xFF] ++ sub v6 13 3
/-- The PTP groups over IPv6, of every scope. -/
def ptpGroup6 (d : Bytes) : Bool := byteAt d 0 == 0xFF && byteAt d 1 / 16 == 0 && zeroAt d 2 12 && sub d 14 2 == [0x01, 0x81]

/-- The use of a frame that reached a port (R76, R77). -/
def frameUse (p : Port) (f : Bytes) : FrameUse :=
  let set := p.set
  let tagged : Bool := be16 f 12 == 0x8100
  let vid := be16 f 14 % 4096
  let o := if tagged then 18 else 14
  let ty := be16 f (o - 2)
  let ip := f.drop o
  let dst := f.take 6
  let group : Bool := dst == [0x01, 0x1B, 0x19, 0, 0, 0] || dst == [0x01, 0, 0x5E, 0, 0x01, 0x81]
    || dst == [0x33, 0x33, 0, 0, 0x01, 0x81] || dst == [0x33, 0x33, 0xFF] ++ sub set 29 3
  let bcast : Bool := dst == [0xFF, 0xFF, 0xFF, 0xFF, 0xFF, 0xFF] && ty == 0x0806
  let v4 := sub set 8 4
  let v6 := sub set 16 16
  if (if tagged then vid != u16At set 2 || vid == 0 else u16At set 2 != 0) then .drop
  else if !(dst == p.mac || group || bcast) then .drop
  else if ty = 0x0806 then
    answerIf (be16 ip 6 == 1 && v4 != zeros 4 && sub ip 24 4 == v4 && onSubnet set (zeros 10 ++ [0xFF, 0xFF] ++ sub ip 14 4))
  else if ty = 0x88F7 then .ptp ip
  else if ty = 0x0800 then
    let d := sub ip 16 4
    let src := zeros 10 ++ [0xFF, 0xFF] ++ sub ip 12 4
    let body := (ip.take (be16 ip 2)).drop 20
    if byteAt ip 0 ≠ 0x45 ∨ be16 ip 6 % 0x4000 ≠ 0 ∨ v4 = zeros 4 ∨ !(d == v4 || d == [224, 0, 1, 129]) then .drop
    else if byteAt ip 9 = 17 then udpUse set false (sub ip 12 8 ++ [0, 17] ++ sub body 4 2) src body
    else if byteAt ip 9 = 1 ∧ byteAt body 0 = 8 then answerIf (onSubnet set src)
    else .drop
  else if ty = 0x86DD then
    let d := sub ip 24 16
    let body := (ip.drop 40).take (be16 ip 4)
    let nh := byteAt ip 6
    if v6 = zeros 16 ∨ !(d == v6 || d == ndGroup v6 || ptpGroup6 d) then .drop
    else if nh = 17 then udpUse set true (sub ip 8 32 ++ [0, 0] ++ sub ip 4 2 ++ [0, 0, 0, 17]) (sub ip 8 16) body
    else if nh = 58 ∧ byteAt body 0 = 128 then answerIf (onSubnet set (sub ip 8 16))
    else if nh = 58 ∧ byteAt body 0 = 135 then answerIf (sub body 8 16 == v6 && onSubnet set (sub ip 8 16))
    else .drop
  else .drop

/-- A frame arrives at a port (R76); `active` is false in a STANDBY, which drops TRT packets (R97). -/
def ethReceive (port : Nat) (fcsOk active : Bool) (f : Bytes) (s : State) : State :=
  let dropIt := s.setPort port fun p => { p with dropped := satInc 32 p.dropped }
  if !fcsOk then dropIt
  else match frameUse (s.port port) f with
    | .drop => dropIt
    | .quiet => s
    | .answer => netAnswer port s
    | .ptp m => ptpReceive port m s
    | .trt src udp p => if active then trtReceive port src udp p s else s

/-- Loss of the PTP master: NOTE (R100). -/
def ptpLost (s : State) : State :=
  match s.itk.master with
  | none => s
  | some x => { s with itk := { s.itk with
      master := none, ptp := {}, foreign := s.itk.foreign.filter fun y => !(y.src == x.src && y.port == x.port) } }.raise
        .note 236 0 0x28

/-- A PTP anchor is due while a master is selected (R364): SEC, NS, UNCERT and RATE as Renune estimates them. -/
def ptpAnchor (sec ns uncert : Nat) (rate : Int) (s : State) : State := match s.itk.master with
  | none => s
  | some m => s.record {
      kind := .anchor, time := s.io.time, origin := 0, detail := 0, subject := 0
      body := le 1 1 ++ zeros 3 ++ le 4 (satN 32 uncert) ++ le 8 s.io.time ++ le 8 sec ++ le 4 ns ++ leI 4 rate
        ++ sub m.dataset 6 8 ++ le 2 s.itk.utcOffset ++ zeros 6
      draw := .ordinary }

/-! ## Commands of group 0x04 -/

/-- STREAM_STATUS. -/
def streamStatusSpec : CmdSpec where
  viewer := true
  target := fun c _ => c.tgt < 256
  size := fun _ _ => 40
  ans := fun c s =>
    let x := s.strm c.tgt
    let n (st : PgState) : Nat := (s.itk.pages.filter fun p => p.stream == c.tgt && p.state == st).length
    ansResult (le 1 x.state.code ++ le 1 (b2n x.pcie) ++ le 2 (match x.cur with | some k => k.epoch | none => 0) ++ le 8 (x.low - 1)
      ++ le 8 x.high ++ le 4 (streamGranules c.tgt s) ++ le 4 x.authFail ++ le 4 x.dropped ++ le 2 (n .complete) ++ le 2 (n .receiving)
      ++ zeros 4)

/-- Bytes of the staging report (R98). -/
def stagingReport (p : Page) : Bytes :=
  let planes := match p.manifest with | some m => manPlanes m | none => []
  let got := p.manUnits.foldl (fun n u => n + u.2.length) 0
    + p.bands.foldl (fun n b => n + b.units.foldl (fun n u => n + u.2.length) 0) 0
  fit 216 (le 1 p.state.code ++ le 1 p.reason ++ le 1 planes.length ++ zeros 1 ++ le 4 got
    ++ (match p.manifest with | some m => if p.state = .complete then sha384 m else zeros 48 | none => zeros 48)
    ++ (planes.zipIdx.flatMap fun x =>
      let c := p.costs.getD x.2 (0, 0)
      le 1 (x.1.station + 8 * x.1.side) ++ le 1 x.1.bits ++ le 2 x.1.bands ++ le 2 x.1.width ++ zeros 2 ++ le 4 c.1 ++ le 4 c.2))

/-- PAGE_STATUS. -/
def pageStatusSpec : CmdSpec where
  viewer := true
  lenOk := fun c _ => c.len == 4
  target := fun c _ => c.tgt < 256
  post := fun c s => failIf (s.page c.tgt (c.u32 0)).isNone stBadParam 0
  size := fun _ _ => 216
  ans := fun c s => match s.page c.tgt (c.u32 0) with
    | some p => ansResult (stagingReport p)
    | none => ansDone

/-- PORT_SET; the link retrains after the change. -/
def portSetSpec : CmdSpec where
  roles := [.service]
  states := inStates [.idle, .warm, .ready, .halted, .safe, .latched]
  lenOk := fun c _ => c.len == 32
  target := fun c _ => c.tgt < 2
  post := fun c _ => badField
    [(decide (2 < c.u8 0), 0), (decide (2 < c.u8 1) || (c.u8 0 == 2 && c.u8 1 == 2), 1), (decide (4094 < c.u16 2), 2),
     (outside (c.u16 4) 1280 9216, 4), (decide (c.u16 6 < 1024), 6), (outside (c.u8 12) 8 30, 12), (outside (c.u8 13) 16 128, 13),
     (!zeroAt c.pl 14 2, 14)]
  eff := fun c s => s.setPort c.tgt fun p => { p with set := c.pl.take 32, link := false }

/-- STREAM_OPEN (R101). AUTH_FAIL, DROPPED and DUP_FRAGMENT of the stream number go on counting: no rule restarts them
(DESIGN CHOICE, assumption 32). Its virtual time stays too (R21). -/
def streamOpenSpec : CmdSpec where
  roles := [.operator]
  form2 := true
  lenOk := fun c _ => c.len == 80
  target := fun c _ => c.tgt < 256
  pre := fun c s => failIf ((s.strm c.tgt).state != .closed) stDeniedState 0
  post := fun c s =>
    let pcie : Bool := c.u8 0 == 1
    badField
      [(decide (1 < c.u8 0), 0), (if pcie then c.u8 1 != 0 else outside (c.u8 1) 1 3, 1), (c.u8 4 == 0, 4), (!zeroAt c.pl 5 3, 5),
       (outside (c.u32 8) 1 (s.boot.settings.getD 0 0) || decide (c.u32 8 * 256 < streamGranules c.tgt s), 8),
       (pcie && !zeroAt c.pl 12 16, 12), (!zeroAt c.pl 33 15, 33)]
  eff := fun c s => streamState c.tgt .opened (s.setStrm c.tgt fun x => {
    pcie := c.u8 0 == 1, ports := c.u8 1, peerUdp := c.u16 2, weight := c.u8 4, quota := c.u32 8, peer := sub c.pl 12 16
    cur := some { epoch := c.u16 28, salt := sub c.pl 30 3, key := sub c.pl 48 32 }
    authFail := x.authFail, dropped := x.dropped, dupFrag := x.dupFrag, vtime := x.vtime })

/-- STREAM_REKEY (R81, R101). -/
def streamRekeySpec : CmdSpec where
  roles := [.operator]
  form2 := true
  lenOk := fun c _ => c.len == 40
  target := fun c _ => c.tgt < 256
  pre := fun c s => failIf ((s.strm c.tgt).state != .opened) stDeniedState 0
  post := fun c s =>
    let x := s.strm c.tgt
    let e := match x.cur with | some k => k.epoch | none => 0
    orElse (badField [(c.u16 0 != (e + 1) % 65536, 0), (!zeroAt c.pl 5 3, 5)])
      (failIf (x.next.isSome || x.old.isSome) stBusy 0)
  eff := fun c s => s.setStrm c.tgt fun x => { x with next := some { epoch := c.u16 0, salt := sub c.pl 2 3, key := sub c.pl 8 32 } }

/-- What STREAM_CLOSE leaves of a page of its stream (R94, R95): a COMPLETE page stays; a RECEIVING or REJECTED page gives
up its granules and keeps its record, but for the granules of a page that STORE_ERROR rejected and that a sheet still
needs. -/
def closePage (n : Nat) (needed : Nat → Nat → Bool) (p : Page) : Page :=
  if p.stream ≠ n ∨ p.state = .complete ∨ (p.state = .rejected ∧ p.reason = 9 ∧ needed p.stream p.id = true) then p else p.empty

/-- STREAM_CLOSE (R81, R94): both keys are erased, and the pages that are not COMPLETE give up their granules. -/
def streamCloseSpec (needed : State → Nat → Nat → Bool) : CmdSpec where
  roles := [.operator]
  target := fun c _ => c.tgt < 256
  eff := fun c s =>
    if (s.strm c.tgt).state = .closed then s
    else
      let s : State := { s with itk := { s.itk with pages := s.itk.pages.map (closePage c.tgt (needed s)) } }
      streamState c.tgt .closed (s.setStrm c.tgt fun x => { x with
        cur := none, next := none, old := none, queue := [], gaps := [], reports := [], ackDue := false })
  ans := fun c s => if (s.strm c.tgt).state = .closed then ansAlready else ansDone

/-- PAGE_RELEASE (R94, R217). -/
def pageReleaseSpec (needed : State → Nat → Nat → Bool) : CmdSpec where
  roles := [.operator]
  lenOk := fun c _ => c.len == 4
  target := fun c _ => c.tgt < 256
  pre := fun c s => match s.page c.tgt (c.u32 0) with
    | some p => failIf (needed s c.tgt (c.u32 0) || (p.state == .receiving && (s.strm c.tgt).state == .opened)) stDeniedState 0
    | none => none
  post := fun c s => failIf (s.page c.tgt (c.u32 0)).isNone stBadParam 0
  eff := fun c s => s.dropPage c.tgt (c.u32 0)

end Sys2Proof.Machine
end

