-- ==== Sys2Proof/Machine/Station.lean ====
section
/-!
DEFINITION. The station pipeline (chapters 05 to 07): decoding of bands, sweeps and their ends, sides, the beam link,
laser power control, and the commands of group 0x06.
-/
namespace Sys2Proof.Machine

/-! ## Sides -/

/-- The side in progress of a station with a SHEET_ID and SIDE is replaced by `f` of itself. -/
def State.setSide (s : State) (i sheet side : Nat) (f : Side → Side) : State :=
  s.setStn i fun x => { x with sides := x.sides.map fun d => if d.sheet == sheet && d.side == side then f d else d }

/-- A difference of two SWEEP values modulo 2^27, signed (R11). -/
def sweepDiff (a b : Nat) : Int := toSigned 27 (a + 2 ^ 27 - b % 2 ^ 27)

/-- No cause has been posted for a station side. -/
def sideClean (i sheet side : Nat) (s : State) : Bool :=
  match (s.stn i).sides.find? fun d => d.sheet == sheet && d.side == side with
  | some d => d.cause == 0
  | none => match s.sheet sheet with
    | some x => (match x.rec? i side with | some r => r.cause == 0 | none => false)
    | none => false

/-- The exposure stage posts the first cause of each station side (R155). -/
def exposeCause (i sheet side cause : Nat) (s : State) : State :=
  if sideClean i sheet side s then
    spoilSide i sheet side cause (s.setSide i sheet side fun d => { d with cause := cause })
  else s

/-- The underrun line pulses for every beam line fired blank (R155). -/
def underruns (i n : Nat) (s : State) : State :=
  (List.range n).foldl (fun s _ => (s.setStn i fun x => { x with underrun := satInc 16 x.underrun }).pulse (stLine i 3) 0) s

/-- A flag bit of PRESENT is set in the record of a station side (R219). -/
def presentBit (i sheet side k : Nat) (s : State) : State :=
  s.setRec sheet i side fun r => if bit r.present k then r else { r with present := r.present + 2 ^ k }

/-- A TAG_MISMATCH of a station is reported with its tags (R12). -/
def reportTag (i expected : Nat) (received : Option Nat) (s : State) : State :=
  s.setStn i fun x => { x with tagReport := some { expected := expected, received := received } }

/-- Work tag of a line of a band (R11). -/
def lineTag (i sheet side band line sweep : Nat) : Nat :=
  sheet + side * 2 ^ 16 + i * 2 ^ 17 + band * 2 ^ 20 + line * 2 ^ 31 + sweep % 2 ^ 27 * 2 ^ 37
/-- Work tag of a sweep (R11). -/
def workTag (i sheet side band sweep : Nat) : Nat := lineTag i sheet side band 0 sweep

/-! ## Decoding (R109 to R113) -/

/-- A band is absent: the decoder counts the failure, marks the 64 slots and passes the absence mark (R112, R134). -/
def bandAbsent (i : Nat) (d : Side) (k cause : Nat) (s : State) : State :=
  (s.setSide i d.sheet d.side fun x => { x with
      absent := x.absent ++ [(k, cause)], decoding := x.decoding.filter (· != k) }).setStn i fun x => { x with
    decCause := cause, decErr := satInc 16 x.decErr, lsAbsent := satAdd 16 x.lsAbsent 64
    slots := putSlots (absentSlots d.sheet d.side k) x.slots }

/-- The bytes of a band in the band store. -/
def fetchBand (i : Nat) (d : Side) (k : Nat) (s : State) : Option Bytes := match s.page d.stream d.page with
  | some p => (p.band i d.side k).map BandBuf.bytes
  | none => none

/-- The decoder of station `i` finishes its band (R108, R112): its lines are screened and released together, or the
absence mark passes; `ecc` is an uncorrectable DRAM error in the fetch (R95, R109). -/
def bandDone (i : Nat) (ecc : Bool) (s : State) : State :=
  match (s.stn i).sides.find? fun d => d.decoding != [] with
  | none => s
  | some d => match d.decoding with
    | [] => s
    | k :: _ =>
      if ecc then bandAbsent i d k dcStore (pageStoreError d.stream d.page (pageNeeded d.stream d.page s) s)
      else match fetchBand i d k s with
        | none => bandAbsent i d k dcTag (reportTag i (workTag i d.sheet d.side k (s.wvr i).sweep) none s)
        | some b => match decodeBand b d.bits d.width with
          | .fail c => bandAbsent i d k c s
          | .ok syms t =>
            (s.setSide i d.sheet d.side fun x => { x with
                decoding := x.decoding.drop 1, peak := max x.peak (bandCost d.width t) }).setStn i fun x => { x with
              decBands := (x.decBands + 1) % 2 ^ 32
              slots := putSlots (bandSlots d.sheet d.side k d.width d.profile x.screens syms) x.slots }

/-- Bands whose deadline, the start of sweep k - 1, has come are abandoned as LATE (R112). -/
def abandonLate (i : Nat) (d : Side) (r : Int) (s : State) : State :=
  (d.decoding.filter fun (k : Nat) => decide ((k : Int) - 1 ≤ r)).foldl (fun s k => bandAbsent i d k dcLate s) s

/-- Bands whose scheduled start has come start, or fail LATE when their deadline has come too (R111). Bands 0 and 1 start at
the first and second sweep starts after the fix; where the deadline of one comes before that, it cannot start in time. -/
def startBands (i sheet side : Nat) (r : Int) : Nat → State → State
  | 0, s => s
  | fuel + 1, s => match (s.stn i).sides.find? fun d => d.sheet == sheet && d.side == side with
    | none => s
    | some d =>
      let k := d.nextBand
      if d.bands ≤ k then s
      else if (if k < 2 then decide (k + 1 ≤ d.starts) || decide ((k : Int) - 1 ≤ r) else decide ((k : Int) - 2 ≤ r)) then
        let s := s.setSide i sheet side fun x => { x with nextBand := k + 1 }
        startBands i sheet side r fuel
          (if (k : Int) - 1 ≤ r then bandAbsent i d k dcLate s
           else s.setSide i sheet side fun x => { x with decoding := x.decoding ++ [k] })
      else s

/-- The decoder schedule of every side of the station at a sweep start (R111). -/
def decoderSweep (i : Nat) (s : State) : State := (s.stn i).sides.foldl (fun s d =>
  let r := sweepDiff (s.wvr i).sweep d.n0
  let s := s.setSide i d.sheet d.side fun x => { x with starts := x.starts + 1 }
  startBands i d.sheet d.side r (d.bands + 1) (abandonLate i d r s)) s

/-! ## Ends of sweeps and sides (R118, R157, R163) -/

/-- B(W) of R121: the worst-case capture band. -/
def captureWorst (w : Nat) : Nat := 16 + 9 * (ceilDivN (64 * w) 65536 + 1) + 32 * w

/-- The bytes of a capture set (R120). -/
def captureSet (i : Nat) (d : Side) (digest : Bytes) : Bytes :=
  let head := 64 + 8 * d.capBands.length
  let total := d.capBands.foldl (fun n b => n + b.length) head
  let index := d.capBands.foldl (fun (a : Bytes × Nat) b => (a.1 ++ le 4 a.2 ++ le 4 b.length, a.2 + b.length)) ([], head)
  le 4 total ++ le 2 d.sheet ++ le 1 d.side ++ le 1 i ++ le 2 d.bands ++ le 2 d.wa
    ++ le 1 (b2n d.capBad + 2 * b2n d.capAborted) ++ zeros 3 ++ digest ++ index.1 ++ d.capBands.flatMap id

/-- Every station side of a COMMITTED sheet has ended: IMAGED (R200). -/
def checkImaged (sheet : Nat) (s : State) : State := match s.sheet sheet with
  | some x => if x.state = .committed ∧ (x.sides.all (·.ended)) = true then sheetState sheet .imaged s else s
  | none => s

/-- A side ends after its last sweep (R121, R158, R205): its digest, its capture set, its reservations. -/
def endSide (i sheet side : Nat) (s : State) : State :=
  match (s.stn i).sides.find? fun d => d.sheet == sheet && d.side == side with
  | none => s
  | some d =>
    let dig := sha384 (firePrefix d i ++ d.digest)
    let s := s.setStn i fun x => { x with
      sideDigest := dig, peak := d.peak, lifeSides := x.lifeSides + 1, sides := x.sides.filter fun y => !(y.sheet == sheet && y.side == side)
      capBad := if d.capset.isSome && d.capBad then satInc 16 x.capBad else x.capBad }
    let s := presentBit i sheet side 0 (s.setRec sheet i side fun r => { r with ended := true, digest := dig })
    let s : State := match d.capset with
      | none => s
      | some n =>
        let b := captureSet i d dig
        let s := presentBit i sheet side 1
          { s with img := { s.img with captures := s.img.captures.filter (·.num != n) ++ [{ num := n, bytes := b }] } }
        let s := s.setRec sheet i side fun r => { r with granules := ceilDivN b.length 4096 }
        if d.capBad then presentBit i sheet side 2 s else s
    let s := s.setSheet sheet fun x =>
      if x.sides.any fun r => r.station == i && !r.ended then x else { x with slots := x.slots.set i 0 }
    acquireLight i (checkImaged sheet s)

/-- The ACTIVE sends a sweep's digest and STROBED in a REPORT frame (R459). -/
def reportSend (i sweep : Nat) (s : State) : State :=
  let x := s.stn i
  if s.pair.role = .active then { s with pair := s.pair.send (.report
    { station := i, sweep := sweep, strobed := x.lastStrobed, digest := x.bandDigest }) }
  else s

/-- A sweep of a side ends with `strobed` groups strobed (R118, R151, R157): capture, digests, history, and the side
after its last sweep. `bad` and `rawBad` name the capture blocks whose self-verification fails, `ecc` a failed capture
write (R117, R122). -/
def closeSweep (i : Nat) (d : Side) (codes : List (List Nat)) (groups : List Bytes) (strobed : Nat) (bad rawBad : List Nat)
    (ecc : Bool) (s : State) : State :=
  let g := groupCount d.wa
  let n := d.done
  let aborted : Bool := decide (strobed < g)
  let syms := (List.range 64).flatMap fun b => (List.range d.wa).map fun x => if x < 8 * strobed then at2 codes b x else 0
  let flushes := if aborted then [8 * strobed] else []
  let cap := compressBand 4 d.wa (1 + 2 * b2n aborted) syms flushes fun k => bad.contains k
  let bl := bandBlocks 4 d.wa syms flushes fun k => bad.contains k
  let rawBad : Nat := rawMismatches bl rawBad
  let taken : Bool := d.capset.isSome
  let s := s.setSide i d.sheet d.side fun x => { x with
    done := n + 1, tail := if strobed = 0 then [] else (codes.drop 60).map (cutLine (8 * strobed))
    digest := x.digest ++ (groups.take strobed).flatMap id ++ zeros (384 * (g - strobed))
    capBands := if taken then x.capBands ++ [cap.1] else x.capBands
    capBad := x.capBad || (taken && (ecc || rawBad != 0)), capAborted := x.capAborted || (taken && aborted) }
  let s := s.setStn i fun x => { x with
    sweep := none, lastStrobed := strobed, bandDigest := bandDigestOf d i n codes
    capBands := if taken then satInc 16 x.capBands else x.capBands
    capRaw := if taken then satAdd 16 x.capRaw cap.2.2 else x.capRaw
    capVerify := if taken then satAdd 16 x.capVerify (codedMismatches bl + rawBad) else x.capVerify }
  let s := if taken && rawBad != 0 then s.raise .note 236 i 0x14 else s
  let s := reportSend i ((d.n0 + n) % 2 ^ 27) s
  if n + 1 = d.bands then endSide i d.sheet d.side s else s

/-- What the capture of a sweep may meet that no row reports: coded and raw blocks whose self-verification fails, and a
failed write; the three are free (R117, R122; assumption 3). -/
def captureLuck (s : State) : List Nat × List Nat × Bool :=
  ((List.range 32).filter fun k => freeBits .codec 1 (2 * k) s == 1, (List.range 32).filter fun k => freeBits .codec 1 (2 * k + 1) s == 1,
    freeBits .codec 1 64 s == 1)

/-- A sweep of a side that strobes nothing: aborted at its sweep start, or begun before the schedule was fixed. -/
def blankSweep (i : Nat) (s : State) : State := match (s.stn i).side? with
  | some d =>
    if d.capset.isSome then
      let l := captureLuck s
      closeSweep i d [] [] 0 l.1 l.2.1 l.2.2 (advanceFree s)
    else closeSweep i d [] [] 0 [] [] false s
  | none => s

/-- Sweeps of a side that began before its schedule was fixed strobe nothing; they carry LATE, or their band's cause
(R111, R144). -/
def missedSweeps (i : Nat) (r : Int) : Nat → State → State
  | 0, s => s
  | fuel + 1, s => match (s.stn i).side? with
    | none => s
    | some d =>
      if (d.done : Int) < min r d.bands then
        let cause := ((d.absent.find? fun x => x.1 == d.done).map (·.2)).getD dcLate
        missedSweeps i r fuel (blankSweep i (exposeCause i d.sheet d.side cause s))
      else s

/-- Control block payload bits of SWEEP_START (R159). -/
def sweepStartBlock (sweep g : Nat) (dly : Int) (period : Nat) (first : Bool) : Nat :=
  sweep % 65536 + g * 2 ^ 16 + (dly % 64).toNat * 2 ^ 28 + period % 2 ^ 20 * 2 ^ 34 + b2n first * 2 ^ 54

/-- A control block is sent on the UP lanes (R159, R172). -/
def sendUp (type payload : Nat) (x : Station) : Station :=
  { x with lanes := x.lanes.map fun l => if l.state = .up then l.put [(type, payload)] else l }

/-- A sweep in progress ends: SWEEP_END on the UP lanes where SWEEP_START went out, then its status round is due (R161,
R163). `sw` is its work-tag SWEEP. -/
def finishSweep (i strobed sw : Nat) (bad rawBad : List Nat) (ecc : Bool) (s : State) : State :=
  match (s.stn i).sweep, (s.stn i).side? with
  | some y, some d =>
    let s := if y.sent then s.setStn i fun x => endOnLanes y.groups strobed (groupCount d.wa)
        { x with judged := some { sheet := d.sheet, side := d.side, causes := y.causes, sweep := sw } }
      else s
    closeSweep i d y.codes y.groups strobed bad rawBad ecc s
  | _, _ => s

/-- The lanes of a station go back to being held on IDLE, with nothing awaited on them (R458, R463). -/
def idleLanes (i : Nat) (s : State) : State :=
  let idle (l : Lane) : Lane := match l.state with
    | .up | .ident | .config => { l.put [(0x1E, 0)] with state := .locking }
    | _ => l
  s.setStn i fun x => { x with lanes := x.lanes.map idle, polls := [], judged := none }

/-- The sweep in progress at a sweep start, whose end no row has reported, is closed. -/
def closeOpen (i : Nat) (s : State) : State := match (s.stn i).sweep, (s.stn i).side? with
  | some y, some d =>
    let l := captureLuck s
    let sw := (s.wvr i).sweep + 2 ^ 27 - 1
    if d.capset.isSome then finishSweep i y.groups.length (sw % 2 ^ 27) l.1 l.2.1 l.2.2 (advanceFree s)
    else finishSweep i y.groups.length (sw % 2 ^ 27) [] [] false s
  | _, _ => s

/-- The sweep start in a controller that shadows nothing: a former ACTIVE ends what it had begun and holds its lanes on IDLE
(R460, R463). -/
def unfitSweep (i : Nat) (s : State) : State := idleLanes i ((closeOpen i s).setStn i fun x => { x with tag := workTag i 0 0 0 (s.wvr i).sweep })

/-- The sweep of the side in progress, which is aborted where the Weaver says so, after the decoder schedule (R111, R145,
R184). -/
def runSweep (i : Nat) (aborted : Bool) (s : State) : State :=
  let s := decoderSweep i (closeOpen i s)
  let sw := (s.wvr i).sweep
  match (s.stn i).side? with
  | none => s.setStn i fun x => { x with tag := workTag i 0 0 0 sw }
  | some d =>
    let r := sweepDiff sw d.n0
    let s := missedSweeps i r (d.bands + 1) s
    match (s.stn i).side? with
    | none => s.setStn i fun x => { x with tag := workTag i 0 0 0 sw }
    | some d =>
      if r = d.done then
        let s := s.setStn i fun x => { x with tag := workTag i d.sheet d.side d.done sw }
        if aborted then blankSweep i s else s.setStn i fun x => { x with sweep := some { n := d.done } }
      else s.setStn i fun x => { x with tag := workTag i 0 0 0 sw }

/-- A sweep start of station `i` as the pipeline takes it: an UNFIT controller shadows nothing (R460). -/
def pipelineSweep (i : Nat) (aborted : Bool) (s : State) : State :=
  if s.pair.role = .unfit then unfitSweep i s else runSweep i aborted s

/-! ## Firing (R150 to R164) -/

/-- The class payload that a side uses (R153). -/
def sideClass (x : Station) (d : Side) : Bytes := ((x.hist.getD d.hist {}).classes.getD (byteAt d.profile 5) [])
/-- The ECM bank that a side uses (R140). -/
def sideEcm (x : Station) (d : Side) : Bytes := (x.ecm.getD d.ecm {}).data

/-- A slot group is sent with the codes it has (R161, R164). -/
def sendGroup (i : Nat) (complete : Bool) (s : State) : State := match (s.stn i).sweep, (s.stn i).side? with
  | some y, some d =>
    let g := y.groups.length
    if y.sent = false ∨ groupCount d.wa ≤ g then s
    else
      let codes := if complete then y.codes
        else y.codes.map fun l => l.zipIdx.map fun e => if 8 * g ≤ e.2 ∧ e.2 < 8 * g + 8 then 0 else e.1
      let b := groupAll (sideClass (s.stn i) d) codes d.tail g
      let s := s.setStn i fun x => { x with
        sweep := some { y with codes := codes, groups := y.groups ++ [b] }
        groupLate := if complete then x.groupLate else satInc 16 x.groupLate }
      if complete then s else exposeCause i d.sheet d.side 0x11 s
  | _, _ => s

/-- The corrected lines of a sweep with the substitutions of R155, and what they leave: causes in order, underruns,
clamped and trim-saturated beam lines (R142, R143). The lines of a sweep whose own band is absent are corrected like any
others and fired blank with the band's cause. -/
def sweepLines (x : Station) (d : Side) (n : Nat) : List (List Nat) × List Nat × Nat × Nat × Nat :=
  let l := (List.range 64).map (beamLine (sideEcm x d) x.slots d n)
  let clamped := (l.filter (·.2.clamped)).length
  let trimmed := (l.filter (·.2.trimmed)).length
  match d.absent.find? fun a => a.1 == n with
  | some a => (List.replicate 64 [], [a.2], 64, clamped, trimmed)
  | none =>
    (l.map (·.1), (l.filter (·.2.absent)).map (fun _ => 0x10), (l.filter (·.2.absent)).length, clamped, trimmed)

/-- The first line of the store that sweep `n` may read and whose tag differs, as R12 reports it: its expected tag and the
one that stands there (R136). -/
def slotMismatch (i : Nat) (x : Station) (d : Side) (n : Nat) : Option (Nat × Option Nat) :=
  let lines := (List.range 192).filterMap fun k => if 64 * n + k < 64 ∨ 64 * d.bands ≤ 64 * n + k - 64 then none else some (64 * n + k - 64)
  let sw := x.weaver.sweep
  (lines.find? fun (y : Nat) => srcRead x.slots d (y : Int) 0 == .mismatch).map fun y =>
    (lineTag i d.sheet d.side (y / 64) (y % 64) sw,
      (x.slots.find? fun z => z.num == y % 256).map fun z => lineTag i z.sheet z.side z.band z.line sw)

/-- SWEEP_START and groups 0 to 2 leave (R161); `late` names those of the three groups whose codes are not complete.
While the inhibit holds nothing is sent (R441). -/
def sweepSend (i : Nat) (late : List Nat) (s : State) : State := match (s.stn i).sweep, (s.stn i).side? with
  | some y, some d =>
    if y.sent ∨ s.saf.inhibit then s
    else
      let w := s.wvr i
      let (lines, causes, under, clamped, trims) := sweepLines (s.stn i) d y.n
      let dly := if byteAt (((s.poly (polyOf i)).set).getD []) 1 = 0 then 0 else i8At w.facets w.facet
      let allUp : Bool := s.shadow || (s.stn i).lanes.all fun l => l.state == .up
      let block := sweepStartBlock w.sweep (groupCount d.wa) dly w.period (y.n == 0)
      let s := s.setStn i fun x => sendUp 0x33 block { x with
        sweep := some { y with sent := true, codes := lines, causes := if allUp then [] else [0x16] }
        clamp := satAdd 16 x.clamp clamped, trimSat := satAdd 16 x.trimSat trims }
      let s := match slotMismatch i (s.stn i) d y.n with
        | some r => if lines.any (· == []) then reportTag i r.1 r.2 s else s
        | none => s
      let s := causes.foldl (fun s c => exposeCause i d.sheet d.side c s) (underruns i under s)
      let s := if 0 < clamped ∧ d.clamped = false then
          presentBit i d.sheet d.side 3 ((s.setSide i d.sheet d.side fun x => { x with clamped := true }).raise .note 236 i 0x13)
        else s
      (List.range 3).foldl (fun s g => if g < groupCount d.wa then sendGroup i (!late.contains g) s else s) s
  | _, _ => s

/-- The last strobe edge of a sweep has passed: `strobed` groups were strobed where STBs stopped early (R163, R195). -/
def sweepEnd (i strobed : Nat) (bad rawBad : List Nat) (ecc : Bool) (s : State) : State :=
  match (s.stn i).sweep, (s.stn i).side? with
  | some y, some d =>
    if y.sent = false then s
    else if y.stop then finishSweep i (min strobed y.groups.length) (s.wvr i).sweep bad rawBad ecc s
    else if y.groups.length = groupCount d.wa then finishSweep i y.groups.length (s.wvr i).sweep bad rawBad ecc s
    else s
  | _, _ => s

/-! ## Schedule of a side (R140, R153, R175, R188, R210) -/

/-- A STANDBY's station becomes FIT at the first side whose schedule is fixed after the join image is applied (R461);
EV209 reports the new mask (R472). -/
def stationFit (i : Nat) (s : State) : State :=
  if s.pair.role = .standby ∧ s.pair.joined = true ∧ bit s.pair.fit i = false then
    let s : State := { s with pair := { s.pair with fit := s.pair.fit + 2 ^ i } }
    s.pulse 209 s.pair.fit
  else s

/-- A station's schedule for a side is fixed: the side takes its banks, delays and facet table. -/
def fixSide (i : Nat) (x : Sheet) (r : SideRec) (n0 : Nat) (placeY x0 : Int) (s : State) : State :=
  let st := s.stn i
  let w := s.wvr i
  let delaySeq := match st.delayNext with | some n => n.2 | none => st.delaySeq
  let d : Side := {
    sheet := x.id, side := r.side, stream := x.stream, page := x.page, n0 := n0, placeY := placeY, x0 := x0
    bands := r.bands, bits := r.bits, width := r.width, profile := r.profile, ecm := st.ecmActive, hist := st.histActive
    wa := match w.set with | some p => u16At p 16 | none => 0
    capset := if r.capset = 0xFFFF then none else some r.capset }
  let s := s.setStn i fun y => { y with
    sides := y.sides ++ [d]
    delays := match y.delayNext with | some n => n.1 | none => y.delays
    delaySeq := delaySeq, delaySend := y.delaySend || y.delayNext.isSome, delayNext := none
    weaver := { y.weaver with facets := y.weaver.facetsNext.getD y.weaver.facets, facetsNext := none } }
  let s := stationFit i s
  s.setRec x.id i r.side fun r => { r with
    fixed := true, placeY := placeY, x0 := x0, sweep0 := n0, delaySeq := delaySeq
    ecmSeq := (st.ecm.getD st.ecmActive {}).seq, histSeq := (st.hist.getD st.histActive {}).seq }

/-! ## Lanes (R166 to R173) -/

/-- The Weaver lights the beam-detect beam in these states. -/
def lights (st : WState) : Bool := st == .acquire || st == .tracking || st == .locked

/-- A POLL is sent on a lane, after the blocks `pre`: it waits behind the polls before it (R167). -/
def poll (i m kind : Nat) (round again : Bool) (pre : List (Nat × Nat)) (s : State) : State := s.setStn i fun x =>
  let p : Poll := { lane := m, kind := kind, seq := x.pollSeq, round := round, again := again }
  { x with
    polls := if again then p :: x.polls else x.polls ++ [p], pollSeq := (x.pollSeq + 1) % 256
    lanes := upd x.lanes m (sendCmds (linkBusy x) (pre ++ [(0x78, 6 + kind * 2 ^ 8 + x.pollSeq * 2 ^ 16)])) }

/-- Training of a lane starts: IDLE is sent (R172). An attempt after the first counts. -/
def startLocking (i m : Nat) (again : Bool) (s : State) : State :=
  (s.setLane i m fun l => { l.put [(0x1E, 0)] with state := .locking }).setStn i fun x => { x with
    retrains := if again then satInc 16 x.retrains else x.retrains, polls := x.polls.filter fun p => p.lane != m || p.round }

/-- A training attempt fails; the third in a row leaves the lane FAILED with the HALT-class fault LINK_DOWN (R172). -/
def attemptFailed (i m : Nat) (s : State) : State :=
  let s := s.setLane i m fun l => { l with fails := satInc 8 l.fails, bad := l.bad + 1 }
  if 3 ≤ (s.lane i m).bad then
    ((s.setLane i m fun l => { l with state := .failed }).setStn i fun x =>
      { x with polls := x.polls.filter fun p => p.lane != m }).raise .halt 236 i 0x10
  else startLocking i m true s

/-- The module supply RL8 is qualified. -/
def moduleRail (s : State) : Bool := ((s.pwr.rails.getD 8 {}).qualified)

/-- Lanes that may train leave DOWN: the station is enabled, the module rail has qualified, the lane is enabled (R172). -/
def startLanes (i : Nat) (s : State) : State :=
  if !bit (stationsOn s) i || !moduleRail s then s
  else (List.range 4).foldl (fun s m =>
    if (s.lane i m).state = .down ∧ bit (s.stn i).laneMask m = true then startLocking i m false s else s) s

/-- As `startLanes` for every station. -/
def startAllLanes (s : State) : State := (List.range 5).foldl (fun s i => startLanes i s) s

/-- DELAY_SET of the 16 beams of lane `m` (module-commands table). -/
def delaySets (m : Nat) (x : Station) : List (Nat × Nat) :=
  (List.range 16).map fun j => (0x78, 1 + j * 2 ^ 8 + byteAt x.delays (16 * m + j) * 2 ^ 12)
/-- DRIVE_SET of beam `j` of a module. -/
def driveSetBlock (j drive : Nat) : Nat × Nat := (0x78, 2 + j * 2 ^ 8 + drive * 2 ^ 12)
/-- DRIVE_SET of the 16 beams of lane `m`. -/
def driveSets (m : Nat) (x : Station) : List (Nat × Nat) :=
  (List.range 16).map fun j => driveSetBlock j (x.drive.getD (16 * m + j) 0)
/-- HELLO of a lane. -/
def helloBlock (i m : Nat) : Nat × Nat := (0x78, 5 + i * 2 ^ 8 + m * 2 ^ 11)

/-- The 16 DELAY_SET and 16 DRIVE_SET of CONFIG are sent, then POLL STATUS (lane-states table). -/
def configLane (i m : Nat) (s : State) : State :=
  poll i m 1 false false (delaySets m (s.stn i) ++ driveSets m (s.stn i)) (s.setLane i m fun l => { l with state := .config })

/-- A training phase of a lane times out (lane-states table); a STANDBY's lanes stay on IDLE (R458). -/
def laneTimeout (i m : Nat) (s : State) : State := match (s.lane i m).state with
  | .locking => if s.shadow then s else poll i m 2 false false [helloBlock i m] (s.setLane i m fun l => { l with state := .ident })
  | .ident | .config => attemptFailed i m s
  | .wake => startLocking i m true s
  | _ => s

/-- A lane is UP; a Weaver that waits for it in ACQUIRE lights its beam (R173). -/
def laneUp (i m : Nat) (s : State) : State := acquireLight i (s.setLane i m fun l => { l with state := .up, bad := 0 })

/-- A cause of the judged sweep is posted at its status round; a cause 0x12 to 0x16 makes the sweep a bad one (R155,
STs_LINKERR). -/
def judge (i cause : Nat) (s : State) : State := match (s.stn i).judged with
  | none => s
  | some j =>
    let s := if j.bad ∨ 0x16 < cause then s
      else s.setStn i fun x => { x with badSweeps := satInc 16 x.badSweeps, judged := some { j with bad := true } }
    exposeCause i j.sheet j.side cause s

/-- The status round of a sweep starts: causes known by now are posted, and modules 0 to 3 are polled in order (R155,
R168), in the blanking after the sweep (R161). A STANDBY's lanes stay on IDLE (R458). -/
def statusRound (i : Nat) (s : State) : State := match (s.stn i).judged with
  | none => s
  | some j =>
    if (s.stn i).polls.any (·.round) ∨ linkBusy (s.stn i) then s
    else
      let s := j.causes.foldl (fun s c => judge i c s) s
      if s.shadow then s.setStn i fun x => { x with judged := none }
      else (List.range 4).foldl (fun s m => poll i m 1 true false [] s) s

/-- An APC_TARGET payload is in force; LASER_WEAK may be raised anew, and a beam with T = 0 is not regulated and has DRIVE 0
(R169, R171). -/
def applyApc (p : Bytes) (x : Station) : Station :=
  let off (b : Nat) : Bool := u16At p (2 * b) == 0
  { x with
    apc := p, apcNext := none, weak := List.replicate 64 false
    drive := x.drive.zipIdx.map fun e => if off e.2 then 0 else e.1
    lanes := x.lanes.zipIdx.map fun l => if l.1.state = .up then sendCmds (linkBusy x) ((List.range 16).filterMap fun j =>
      if off (16 * l.2 + j) && x.drive.getD (16 * l.2 + j) 0 != 0 then some (driveSetBlock j 0) else none) l.1 else l.1 }

/-- A payload that has waited for the exchange in progress comes into force (R171). -/
def takeApc (i : Nat) (s : State) : State := s.setStn i fun x => match x.apcNext with
  | some p => applyApc p x
  | none => x

/-- After the last frame of a status round the exchange is evaluated in full: APC done (R168, R169). -/
def roundEnd (i : Nat) (s : State) : State :=
  let x := s.stn i
  if x.judged.isNone ∨ x.polls.any (·.round) then s
  else
    let s := takeApc i (s.setStn i fun x => { x with judged := none, apcRuns := false })
    if x.apcRuns then s.pulse (stLine i 5) 0 else s

/-- A lane that was UP is trained again (R168, lane-states table). -/
def retrain (i m : Nat) (s : State) : State := if (s.lane i m).state = .up then startLocking i m true s else s

/-- An awaited frame is absent: one re-poll, then, in a status round, BK_MISSING and retraining (R167, R168). -/
def frameAbsent (i : Nat) (s : State) : State := match (s.stn i).polls with
  | [] => s
  | p :: rest =>
    let s := s.setStn i fun x => { x with polls := rest, bkErr := satInc 16 x.bkErr }
    if p.again = false then poll i p.lane p.kind p.round true [] s
    else if p.round then roundEnd i (retrain i p.lane (judge i 0x15 s))
    else s

/-! ## Laser power control (R169 to R171) -/

/-- T[b], GAIN, STEP and TOL. -/
def apcT (x : Station) (b : Nat) : Nat := u16At x.apc (2 * b)
def apcGain (x : Station) : Nat := byteAt x.apc 128
def apcStep (x : Station) : Nat := byteAt x.apc 129
def apcTol (x : Station) : Nat := u16At x.apc 130

/-- A darkened beam spoils the sheets in flight on its station (R171). -/
def beamDark (i : Nat) (s : State) : State :=
  (s.shs.sheets.filter fun x => x.state.running && x.sides.any fun r => r.station == i && !r.ended).foldl (fun s x =>
    (x.sides.filter fun r => r.station == i && !r.ended).foldl (fun s r =>
      (exposeCause i x.id r.side 0x17 s).setSheet x.id fun y => { y with spoil := true }) s) s

/-- A photodiode reading of beam `b` is evaluated (R169, R171). -/
def apcEval (i b pd : Nat) (s : State) : State :=
  let x := s.stn i
  let t := apcT x b
  let s := s.setStn i fun x => { x with pd := x.pd.set b pd }
  if t = 0 ∨ x.dark.getD b false = true then s
  else
    let m := b / 16
    let err : Int := (t : Int) - pd
    let tol := apcTol x
    let drive := x.drive.getD b 0
    let mx := (x.lanes.getD m {}).driveMax
    let send (v : Nat) (s : State) : State :=
      (s.setLane i m (sendCmds (linkBusy (s.stn i)) [driveSetBlock (b % 16) v])).setStn i fun x => { x with
        driveSum := upd x.driveSum b (· + v), driveCount := upd x.driveCount b (· + 1) }
    if t + 4 * tol < pd then
      let s := send 0 (s.setStn i fun x => { x with drive := x.drive.set b 0, dark := x.dark.set b true })
      lateSpoils (beamDark i (s.raise .halt 236 i 0x11))
    else
      let v := (clamp (drive + clamp (roundHalfUp (apcGain x * err) 7) (-(apcStep x : Int)) (apcStep x)) 0 mx).toNat
      let s := send v (s.setStn i fun x => { x with drive := x.drive.set b v })
      if drive = mx ∧ (tol : Int) < err ∧ x.weak.getD b false = false then
        (s.setStn i fun x => { x with weak := x.weak.set b true }).raise .note 236 i 0x12
      else s

/-- The station sends APC_MEASURE to its modules in a blanking interval, or skips the exchange when it does not fit
(R169, R170, R180). No exchange takes place while a lane is in LPI (R173). -/
def apcExchange (i : Nat) (fits : Bool) (s : State) : State :=
  let s := if (s.stn i).judged.isNone then takeApc i s else s
  let x := s.stn i
  if x.sweep.isSome ∨ (x.lanes.any fun l => l.state == .lpi) then s
  else if !fits then s.setStn i fun x => { x with apcSkipped := satInc 16 x.apcSkipped }
  else s.setStn i fun x =>
    let j := x.apcK
    { x with
      apcRuns := true, apcK := (j + 1) % 16
      lanes := x.lanes.zipIdx.map fun l =>
        let b := 16 * l.2 + j
        if l.1.state = .up ∧ apcT x b ≠ 0 then l.1.put [(0x78, 3 + j * 2 ^ 8 + x.drive.getD b 0 * 2 ^ 12 + 50 * 2 ^ 24)]
        else l.1 }

/-! ## Back-channel frames (R167, R168) -/

/-- A frame answers the awaited POLL. -/
def frameValid (i : Nat) (p : Poll) (b : Bytes) : Bool :=
  b.length == 20 && byteAt b 0 == 0xA5 && byteAt b 1 == i + 8 * p.lane && byteAt b 2 == p.kind && byteAt b 3 == p.seq
    && u16At b 18 == crc16 (b.take 18)

/-- A STATUS frame of a status round (R168). -/
def roundFrame (i m : Nat) (b : Bytes) (s : State) : State :=
  let s := s.setLane i m fun l => { l with temp := i8At b 9 }
  let s := if byteAt b 4 = 3 then s else retrain i m (judge i 0x12 s)
  let s := if bit (byteAt b 5) 0 then judge i 0x13 s else s
  let s := if bit (byteAt b 5) 1 then judge i 0x14 s else s
  let s := if byteAt b 11 < 16 ∧ (s.stn i).apcRuns then apcEval i (16 * m + byteAt b 11) (u16At b 14) s else s
  roundEnd i s

/-- A STATUS frame of a lane in CONFIG or WAKE (lane-states table). -/
def trainFrame (i m : Nat) (b : Bytes) (s : State) : State :=
  let s := s.setLane i m fun l => { l with temp := i8At b 9 }
  match (s.lane i m).state with
  | .config => if byteAt b 4 = 3 ∧ bit (byteAt b 5) 4 = false then laneUp i m s else attemptFailed i m s
  | .wake => if byteAt b 4 = 3 then laneUp i m s else startLocking i m true s
  | _ => s

/-- An IDENT frame (lane-states table). -/
def identFrame (i m : Nat) (b : Bytes) (s : State) : State :=
  if (s.lane i m).state ≠ .ident then s
  else if byteAt b 8 = 1 ∧ byteAt b 9 = 16 then
    configLane i m (s.setLane i m fun l => { l with maker := u16At b 4, model := u16At b 6, driveMax := u16At b 10 })
  else attemptFailed i m s

/-- A STATUS frame of a status round names another SWEEP than that of the sweep it is asked for (R12, R168). -/
def sweepDiffers (i : Nat) (p : Poll) (b : Bytes) (s : State) : Bool := match (s.stn i).judged with
  | some j => p.round && u16At b 6 != j.sweep % 65536
  | none => false

/-- A back-channel frame arrives: a wrong address, sequence or CRC is an absent frame (R167). So is a STATUS frame of
another sweep, which is reported as TAG_MISMATCH (R12). -/
def frameRx (i : Nat) (b : Bytes) (s : State) : State := match (s.stn i).polls with
  | [] => s
  | p :: rest =>
    if !frameValid i p b then frameAbsent i s
    else if sweepDiffers i p b s then
      let j := (s.stn i).judged.getD { sheet := 0, side := 0, causes := [] }
      frameAbsent i (reportTag i (workTag i j.sheet j.side 0 j.sweep) (some (workTag i j.sheet j.side 0 (u16At b 6))) s)
    else
      let s := s.setStn i fun x => { x with polls := rest }
      if p.kind = 2 then identFrame i p.lane b s else if p.round then roundFrame i p.lane b s else trainFrame i p.lane b s

/-! ## Low-power idle (R173) and delays (R175) -/

/-- With no sweep due, LPI_ENTER is sent and the lanes' transmitters turn off; the BD lane stays UP while the Weaver
lights its beam (R173). -/
def lpiEnter (i : Nat) (s : State) : State :=
  let x := s.stn i
  if x.lpiMin = 0 ∨ x.sweep.isSome ∨ x.judged.isSome then s
  else s.setStn i fun x => { x with lanes := x.lanes.zipIdx.map fun l =>
    if l.1.state = .up ∧ ¬(l.2 = bdLane x.weaver ∧ lights x.weaver.state = true) then
      { l.1.put [(0x78, 7)] with state := .lpi } else l.1 }

/-- A lane leaves LPI: IDLE is sent and its status polled (R173). -/
def wakeLane (i m : Nat) (s : State) : State :=
  if (s.lane i m).state = .lpi then
    poll i m 1 false false [(0x1E, 0)] (s.setLane i m fun l => { l with state := .wake })
  else s

/-- WAKE_LEAD before a sweep, the lanes leave LPI (R173). -/
def laneWake (i : Nat) (s : State) : State := (List.range 4).foldl (fun s m => wakeLane i m s) s

/-- The delays that a side has taken are sent as DELAY_SET in blanking (R175). -/
def delaySend (i : Nat) (s : State) : State :=
  let x := s.stn i
  if x.delaySend = false ∨ x.sweep.isSome then s
  else s.setStn i fun x => { x with
    delaySend := false
    lanes := x.lanes.zipIdx.map fun l => if l.1.state = .up then l.1.put (delaySets l.2 x) else l.1 }

/-! ## Commands of group 0x06 -/

/-- TARGET of a change: the station in [2:0] and a unit number of `n` bits above it; enabled, no bit set beyond (R491). -/
def stnTarget (n : Nat) (c : Cmd) (s : State) : Bool :=
  decide (c.tgt % 8 < 5) && bit (stationsOn s) (c.tgt % 8) && decide (c.tgt < 2 ^ (3 + n))
/-- TARGET of a query: any station (R491). -/
def stnQuery (n : Nat) (c : Cmd) (_ : State) : Bool := decide (c.tgt % 8 < 5) && decide (c.tgt < 2 ^ (3 + n))
/-- The station of a command. -/
def Cmd.stn (c : Cmd) : Nat := c.tgt % 8
/-- The unit number above the station. -/
def Cmd.unit (c : Cmd) : Nat := c.tgt / 8

/-- A slot is in use: a side of the station ADMITTED or later, and not ended, carries a profile copy that can select it
(R132). -/
def slotInUse (i k : Nat) (s : State) : Bool := s.shs.sheets.any fun x => x.state.inFlight
  && x.sides.any fun r => r.station == i && !r.profile.isEmpty && (pfSlots r.profile).contains k

/-- First faulty cell of a SCREEN_LOAD payload, or 0xFFFF for a header field (R131, R148). -/
def screenFault (p : Bytes) : Option (Nat × Nat) :=
  let w := byteAt p 0
  let h := byteAt p 1
  if outside w 1 128 || outside h 1 128 || decide (w ≤ byteAt p 2) || decide (h ≤ byteAt p 3) || !zeroAt p 4 12 then
    some (stBadParam, 0xFFFF)
  else match (List.range (w * h)).find? fun c => (List.range 14).any fun k =>
      decide (byteAt p (16 + 15 * c + k + 1) < byteAt p (16 + 15 * c + k)) with
    | some c => some (stBadParam, c)
    | none => none

/-- A screen slot is replaced by `f` of itself. -/
def State.setScreen (s : State) (i k : Nat) (f : Screen → Screen) : State :=
  s.setStn i fun x => { x with screens := upd x.screens k f }

/-- SCREEN_LOAD (R148): LOADING from its recording until its final status, then LOADED; a load that ends FAULTED leaves
the slot EMPTY. A load into a region that took an uncorrectable error is the reload of R14; that any slot's, or any table's,
load is enough is a DESIGN CHOICE (assumption 33). -/
def screenLoadSpec : CmdSpec where
  roles := [.service]
  form1 := true
  lenOk := fun c _ => c.len == 16 + 15 * c.u8 0 * c.u8 1
  target := stnTarget 2
  pre := fun c s => failIf (slotInUse c.stn c.unit s || ((s.stn c.stn).screens.getD c.unit {}).state == .loading) stDeniedState 0
  post := fun c _ => screenFault c.pl
  eff := fun c s => (s.setScreen c.stn c.unit fun x => { x with state := .loading }).finishOne c.hamper c.f.tag.toNat stDone 0 []
  ans := fun _ _ => ansAccepted
  late := some fun c s =>
    ((s.setScreen c.stn c.unit fun _ => { state := .loaded, data := c.pl }).setStn c.stn fun x => { x with screenOut := false }, [])
  abort := fun c s => s.setScreen c.stn c.unit fun _ => {}

/-- A side in progress uses the inactive ECM bank (R140). -/
def ecmInUse (i : Nat) (s : State) : Bool := (s.stn i).sides.any fun d => d.ecm != (s.stn i).ecmActive
/-- A side in progress uses the inactive history bank (R153). -/
def histInUse (i : Nat) (s : State) : Bool := (s.stn i).sides.any fun d => d.hist != (s.stn i).histActive

/-- First faulty entry of an ECM_LOAD payload (R149). -/
def ecmFault (p : Bytes) : Option (Nat × Nat) :=
  match (List.range 6240).find? fun i => if i < 6144 then ecmBad (u32At p (4 * i)) else decide (63 < byteAt p (24576 + (i - 6144))) with
  | some i => some (stBadParam, i)
  | none => none

/-- A payload becomes the inactive ECM bank, which becomes active for the next side (R140). -/
def loadEcm (i : Nat) (p : Bytes) (seq : Nat) (s : State) : State := s.setStn i fun x =>
  let k := 1 - x.ecmActive
  { x with ecm := x.ecm.set k { data := p, seq := seq }, ecmActive := k, corrOut := false }

/-- ECM_LOAD (R149). -/
def ecmLoadSpec : CmdSpec where
  roles := [.service]
  form1 := true
  lenOk := fun c _ => c.len == 24672
  target := stnTarget 0
  post := fun c s => orElse (ecmFault c.pl) (failIf (ecmInUse c.stn s) stBusy 0)
  eff := fun c s => loadEcm c.stn c.pl s.led.head s

/-- PROFILE_SET. -/
def profileSetSpec : CmdSpec where
  roles := [.service]
  lenOk := fun c _ => c.len == 8
  target := stnTarget 4
  post := fun c _ => firstFault (profileFaults c.pl)
  eff := fun c s => s.setStn c.stn fun x => { x with profiles := x.profiles.set c.unit (fit 8 c.pl) }

/-- SCREEN_INFO. -/
def screenInfoSpec : CmdSpec where
  viewer := true
  target := stnQuery 2
  size := fun _ _ => 24
  ans := fun c s =>
    let k := (s.stn c.stn).screens.getD c.unit {}
    ansResult (le 1 k.state.code ++ fit 4 k.data ++ zeros 3
      ++ (if k.state = .loaded then (sha256 (k.data.drop 16)).take 16 else (sha256 []).take 16))

/-- ECM_READ. -/
def ecmReadSpec : CmdSpec where
  viewer := true
  target := stnQuery 1
  size := fun _ _ => 24672
  ans := fun c s => ansResult (fit 24672 ((s.stn c.stn).ecm.getD c.unit {}).data)

/-- PROFILE_GET. -/
def profileGetSpec : CmdSpec where
  viewer := true
  target := stnQuery 4
  size := fun _ _ => 8
  ans := fun c s => ansResult ((s.stn c.stn).profiles.getD c.unit [])

/-- A class becomes part of the inactive history bank, the others copied from the active bank (R153). -/
def loadHistory (i k : Nat) (p : Bytes) (seq : Nat) (s : State) : State := s.setStn i fun x =>
  let n := 1 - x.histActive
  { x with
    hist := x.hist.set n { classes := (x.hist.getD x.histActive {}).classes.set k p, seq := seq }, histActive := n
    corrOut := false }

/-- HISTORY_LOAD (R174). -/
def historyLoadSpec : CmdSpec where
  roles := [.service]
  form1 := true
  lenOk := fun c _ => c.len == 296
  target := stnTarget 2
  post := fun c s => orElse (badField (historyFaults c.pl)) (failIf (histInUse c.stn s) stBusy 0)
  eff := fun c s => loadHistory c.stn c.unit c.pl s.led.head s

/-- DELAY_LOAD (R175). -/
def delayLoadSpec : CmdSpec where
  roles := [.service]
  lenOk := fun c _ => c.len == 64
  target := stnTarget 0
  post := fun c _ => badField ((List.range 64).map fun b => (decide (63 < c.u8 b), b))
  eff := fun c s => s.setStn c.stn fun x => { x with delayNext := some (c.pl, s.led.head) }

/-- Faulty fields of an APC_TARGET payload. -/
def apcFaults (p : Bytes) : List (Bool × Nat) :=
  ((List.range 64).map fun b => (decide (4095 < u16At p (2 * b)), 2 * b))
    ++ [(byteAt p 128 == 0, 128), (byteAt p 129 == 0, 129), (outside (u16At p 130) 1 4095, 130), (!zeroAt p 132 4, 132)]

/-- An APC_TARGET payload is in force from the next exchange: at once where none is in progress, else when it has ended
(R169, R171). -/
def loadApc (i : Nat) (p : Bytes) (s : State) : State :=
  s.setStn i fun x => if x.apcRuns then { x with apcNext := some p, corrOut := false } else { applyApc p x with corrOut := false }

/-- APC_TARGET. -/
def apcTargetSpec : CmdSpec where
  roles := [.service]
  lenOk := fun c _ => c.len == 136
  target := stnTarget 0
  post := fun c _ => firstFault (apcFaults c.pl)
  eff := fun c s => loadApc c.stn (fit 136 c.pl) s

/-- LINK_SET (R172, R173). -/
def linkSetSpec : CmdSpec where
  roles := [.service]
  states := inStates [.idle, .warm, .ready, .halted, .safe, .latched]
  lenOk := fun c _ => c.len == 8
  target := stnTarget 0
  post := fun c _ => badField [(decide (15 < c.u8 0), 0), (decide (1 < c.u8 1), 1), (decide (1000 < c.u16 2), 2), (!zeroAt c.pl 4 4, 4)]
  eff := fun c s =>
    let i := c.stn
    let s := s.setStn i fun x => { x with laneMask := c.u8 0, lpiMin := c.u16 2 }
    let s := (List.range 4).foldl (fun s m =>
      if bit (c.u8 0) m = false then (s.setLane i m fun l => { l with state := .down, bad := 0 }).setStn i fun x =>
        { x with polls := x.polls.filter fun p => p.lane != m }
      else if c.u8 1 = 1 ∧ (s.lane i m).state ≠ .down then startLocking i m true (s.setLane i m fun l => { l with bad := 0 })
      else s) s
    startLanes i s

/-- LINK_STATUS. -/
def linkStatusSpec : CmdSpec where
  viewer := true
  target := stnQuery 0
  size := fun _ _ => 40
  ans := fun c s => ansResult (((s.stn c.stn).lanes.flatMap fun l =>
    le 1 l.state.code ++ le 2 l.maker ++ le 2 l.model ++ leI 1 l.temp ++ le 1 l.fails ++ [0]) ++ zeros 8)

/-- APC_READ. -/
def apcReadSpec : CmdSpec where
  viewer := true
  target := stnQuery 0
  size := fun _ _ => 512
  ans := fun c s =>
    let x := s.stn c.stn
    ansResult ((List.range 64).flatMap fun b => le 2 (x.drive.getD b 0) ++ le 2 (x.pd.getD b 0) ++ le 2 (apcT x b)
      ++ le 1 (b2n (x.weak.getD b false) + 2 * b2n (x.dark.getD b false)) ++ [0])

end Sys2Proof.Machine
end

