-- ==== Sys2Proof/Machine/Staging.lean ====
section
/-!
DEFINITION. Staging of sheets (R204), the planned speed, the belt position (R208) and the test that fixes a station's
schedule (R210).
-/
namespace Sys2Proof.Machine

/-! ## Settings of polygons and stations (R197) -/

/-- POLYGON_SET payload of a polygon, empty without one. -/
def Polygon.b (x : Polygon) : Bytes := x.set.getD []
/-- FACETS. -/
def Polygon.n (x : Polygon) : Nat := byteAt x.b 0
/-- FACET_MODE: 0 NONE, 1 INDEX, 2 SIGNATURE. -/
def Polygon.mode (x : Polygon) : Nat := byteAt x.b 1
/-- INDEX_PRB. -/
def Polygon.indexPrb (x : Polygon) : Nat := byteAt x.b 2
/-- BELT_QE. -/
def Polygon.beltQe (x : Polygon) : Nat := byteAt x.b 3
/-- L16PC, UQ16.16. -/
def Polygon.l16pc (x : Polygon) : Nat := u32At x.b 4
/-- SIG_TOL, tu. -/
def Polygon.sigTol (x : Polygon) : Nat := u16At x.b 12
/-- SIG[f], tu. -/
def Polygon.sig (x : Polygon) (f : Nat) : Int := i16At x.b (24 + 2 * f)
/-- SCAN_SET payload of a Weaver, empty without one. -/
def Weaver.b (x : Weaver) : Bytes := x.set.getD []
/-- PPF, UQ20.12. -/
def Weaver.ppf (x : Weaver) : Nat := u32At x.b 0
/-- SOS_DELAY, 1/64 px. -/
def Weaver.sos (x : Weaver) : Nat := u32At x.b 4
/-- BD_WIN, px. -/
def Weaver.win (x : Weaver) : Nat := u16At x.b 12
/-- BD_MINW, px. -/
def Weaver.minw (x : Weaver) : Nat := byteAt x.b 14
/-- WA, px. -/
def Weaver.wa (x : Weaver) : Nat := u16At x.b 16

/-- A station's DLY_ADD table, in use or waiting, holds a nonzero entry (R188). -/
def dlyUsed (w : Weaver) : Bool :=
  !zeroAt w.facets 0 12 || (match w.facetsNext with | some p => !zeroAt p 0 12 | none => false)

/-- The facets of a station are identified wherever R188 requires it. -/
def identOk (i : Nat) (s : State) : Bool :=
  let w := s.wvr i
  !dlyUsed w || (s.poly (polyOf i)).mode == 0 || w.ident.isSome

/-! ## Belt -/

/-- The unwrapped count of a quadrature input (R273). -/
def beltCount (n : Nat) (s : State) : Int :=
  let c := s.counter n
  if s.cpr n = 0 then c.pos else c.rev * (s.cpr n : Nat) + c.pos

/-- A count as a belt position in 1/16 line (R208). -/
def belt16Of (l16pc : Nat) (count : Int) : Int := roundHalfUp (count * l16pc) 16

/-- The defaults of PATH_SET: GATE_TOL 20, GAP 400, SPEED_STEP 5 (R7); the other fields have none and read 0. -/
def pathDefault : Bytes := [0, 0] ++ le 2 20 ++ le 2 400 ++ le 1 5 ++ zeros 41
/-- PATH_SET payload; without one the stated defaults hold (R7). -/
def pathB (s : State) : Bytes := s.shs.path.getD pathDefault
/-- L16PC of the belt: that of the lowest enabled polygon, with which every polygon agrees (R208). -/
def beltL16 (s : State) : Nat := match polysOn s with | p :: _ => (s.poly p).l16pc | [] => 0
/-- BELT16 now (R208). -/
def belt16 (s : State) : Int := belt16Of (beltL16 s) (beltCount (byteAt (pathB s) 1) s)

/-! ## Planned speed -/

/-- The common planned speed of every enabled polygon (R204). -/
def plannedV (s : State) : Option Nat := match polysOn s with
  | [] => none
  | p :: ps =>
    let v := (s.poly p).v
    if v ≠ 0 ∧ (ps.all fun q => (s.poly q).v == v) = true then some v else none

/-! ## Staging checks (R204) -/

/-- PROFILE[st] of a job, 0xFF NONE. -/
def jobProfile (j : Job) (st : Nat) : Nat := byteAt j.set st

/-- The sheet images the side of the station (R204). -/
def sheetUses (j : Job) (duplex : Bool) (st side : Nat) : Bool := jobProfile j st != 0xFF && (side == 0 || duplex)

/-- The station sides of a sheet in record order. -/
def sheetSides (j : Job) (duplex : Bool) : List (Nat × Nat) :=
  (List.range 10).filterMap fun p => if sheetUses j duplex (p / 2) (p % 2) then some (p / 2, p % 2) else none

/-- The plane of a station side in a page. -/
def pagePlane (p : Page) (st side : Nat) : Option Plane := match p.manifest with
  | some m => (manPlanes m).find? fun q => q.station == st && q.side == side
  | none => none

/-- LARGEST_BAND of a station side. -/
def largestBand (p : Page) (st side : Nat) : Nat := match p.manifest with
  | some m => match (manPlanes m).findIdx? fun q => q.station == st && q.side == side with
    | some k => (p.costs.getD k (0, 0)).1
    | none => 0
  | none => 0

/-- The first of several checks that fails. -/
def firstCode : List (Bool × Nat) → Option Nat
  | [] => none
  | (b, c) :: rest => if b then some c else firstCode rest

/-- The codes of the checks that fail, in their order. -/
def failCodes (l : List (Bool × Nat)) : List Nat := (l.filter (·.1)).map (·.2)

/-- The failing staging codes of a sheet, rising (R204, R461); code 0x01 is that of a page still RECEIVING, as an unknown
or REJECTED page has a code of its own. The planes of a page are known with its manifest (assumption 22), so a page without
one is not held to the checks of its planes. -/
def stageFails (x : Sheet) (j : Job) (s : State) : List Nat :=
  let v := (plannedV s).getD 0
  match s.page x.stream x.page with
  | none => failCodes [(true, 3), (decide (v = 0), 4)]
  | some p =>
    let known : Bool := p.manifest.isSome
    let planes := match p.manifest with | some m => manPlanes m | none => []
    let prof (q : Plane) : Bytes := (s.stn q.station).profiles.getD (jobProfile j q.station) []
    failCodes [
      (p.state == .receiving, 1), (p.state == .rejected, 2), (decide (v = 0), 4),
      (known && (sheetSides j x.duplex).any fun k => (pagePlane p k.1 k.2).isNone, 5),
      (planes.any fun q => !sheetUses j x.duplex q.station q.side, 6),
      (planes.any fun q => !compatible (prof q) q.bits q.width (s.stn q.station).screens, 7),
      (planes.any fun q => decide (ceilDivN (x.len * 75) 508 < q.bands), 8),
      (decide (0 < v) && p.costs.any fun c => decide (17 * 26009600000000 / (1280 * v) < c.2), 9),
      (s.pair.role == .active && peerIsFit s
        && !(s.pair.peerPages.any fun q => q.stream == x.stream && q.page == x.page), 0x21)]

/-- The lowest failing staging code of a sheet (R204). -/
def stageFail (x : Sheet) (j : Job) (s : State) : Option Nat := (stageFails x j s).head?

/-- A staging code that blocks the job (R204). -/
def stageBlocks (c : Nat) : Bool := [2, 3, 5, 6, 7, 8].contains c

/-- One sheet of a job that waits is checked; the Boolean says that the job is blocked at an earlier sheet: a check that
blocks does so, and raises EV072 once, whatever lower code is reported as the WAIT. A STAGED sheet whose check fails again
stays STAGED with the code as its WAIT (R200, R204; assumption 22). -/
def stageOne (j : Job) (a : State × Bool) (id : Nat) : State × Bool :=
  if a.2 then a
  else match a.1.sheet id with
    | none => a
    | some x =>
      if x.state ≠ .planned ∧ x.state ≠ .staged then a
      else match stageFails x j a.1 with
        | [] =>
          let s := a.1.setSheet id fun x => { x with wait := 0, blockedBy := 0 }
          (if x.state = .planned then sheetState id .staged s else s, false)
        | c :: cs => match (c :: cs).find? stageBlocks with
          | some b =>
            let s := a.1.setSheet id fun x => { x with wait := c, blockedBy := b }
            (if x.blockedBy = b then s else sheetEvent 72 b x s, true)
          | none => (a.1.setSheet id fun x => { x with wait := c, blockedBy := 0 }, false)

/-- The launch gate repeats the staging checks (R204). -/
def restage (s : State) : State :=
  s.shs.jobs.foldl (fun s j => (j.sheets.foldl (stageOne j) (s, false)).1) s

/-! ## Schedules (R210) -/

/-- The test of R210 for one side of a sheet on station `i`, at its edge or at a sweep start of the station. -/
def fixTest (i id side : Nat) (s : State) : State := match s.sheet id with
  | none => s
  | some x => match x.rec? i side, s.job x.job with
    | some r, some j => match r.p with
      | none => s
      | some p =>
        let w := s.wvr i
        let k := ceilDiv (p - 512 - w.belt16) 1024
        if r.fixed ∨ x.blank ∨ x.state.running = false ∨ w.lastStart = none ∨ 4 < k then s
        else
          fixSide i x r (((w.sweep : Int) + k) % 2 ^ 27).toNat (w.belt16 + 1024 * k - p)
            (i32At j.set 12 + floorDiv (s.shs.regX.getD i 0) 64) s
    | _, _ => s

/-- The test of R210 for every side that waits on station `i`. -/
def fixTests (i : Nat) (s : State) : State :=
  s.shs.sheets.foldl (fun s x => fixTest i x.id 1 (fixTest i x.id 0 s)) s

end Sys2Proof.Machine
end

