-- ==== Sys2Proof/Machine/Scan.lean ====
section
/-!
DEFINITION. Weavers and polygons (chapter 08): the scan plan, beam detect, sweep starts, facet identification, speed
tracking and the commands of group 0x07.
-/
namespace Sys2Proof.Machine

/-! ## The scan plan (R177) -/

/-- Number of the first condition of R177 that fails for a station at K and v; integer forms of the scan plan
conditions. -/
def planCond (y : Polygon) (w : Weaver) (k v : Nat) : Option Nat :=
  let pk : Int := w.ppf * k
  let v3 : Int := 3 * v
  let mw : Int := w.win + w.minw
  let lim : Int := max 40 (byteAt y.b 11)
  firstCode [
    (decide ((u16At y.b 8 : Int) * 2032 * y.n * 100 < 60 * k * v3 * 102), 1),
    (decide (pk * v3 * 98 < lim * 1000000 * 2032 * 4096 * 100), 2),
    (decide (120000000 * 2032 * 4096 * 100 < pk * v3 * 102), 3),
    (decide (2032 * (pk - 4096 * w.wa) * 100000000 < 3264 * v3 * pk), 4),
    (decide (((w.sos : Int) - 64 * mw) * 2032 * 4096 * 100000000 < 64 * 306 * pk * v3), 5),
    (decide (2032 * (64 * pk - 4096 * (64 * (w.wa : Int) + w.sos)) * 100000000 < 204 * 64 * v3 * pk), 6),
    (decide (800 * pk * v3 < (w.win : Int) * 2032 * 4096 * 102 * 10000000)
      || decide (((byteAt w.b 15 : Int) - 10) * 100 * pk * v3 < mw * 2032 * 4096 * 102 * 10000000), 7)]

/-- Lowest failing condition over the enabled stations of polygon `p`. -/
def planFail (p k v : Nat) (s : State) : Option Nat :=
  match (polyStations p s).filterMap fun i => planCond (s.poly p) (s.wvr i) k v with
  | [] => none
  | c :: cs => some (cs.foldl min c)

/-- The smallest K for which every condition holds, or the lowest condition that failed at K_MAX (R177). -/
def scanPlan (p v : Nat) (s : State) : Except Nat Nat :=
  let km := byteAt (s.poly p).b 10
  match (List.range km).find? fun k => (planFail p (k + 1) v s).isNone with
  | some k => .ok (k + 1)
  | none => .error ((planFail p km v s).getD 0)

/-- RPM100_NOM (R193). -/
def rpmNomOf (n k v : Nat) : Nat := (roundHalfUp (1125 * k * v * 65536 / (127 * n) : Nat) 16).toNat
/-- T_NOM = K × T_F in tu, rounded to nearest (assumption 21). -/
def tNomOf (v : Nat) : Nat := (2 * 26009600000000 + v) / (2 * v)
/-- The pixel clock of a station in kHz, rounded to nearest (assumption 21). -/
def planKhz (w : Weaver) (k v : Nat) : Nat :=
  let d := 2032 * 4096 * 1000
  (w.ppf * k * 3 * v * 2 + d) / (2 * d)

/-- The setpoint of a polygon's channel in its direction of rotation (R239). -/
def polySetpoint (p : Nat) (rpm : Int) (s : State) : Int := match (s.motor p).set with
  | some q => if mOption q 2 then -rpm else rpm
  | none => rpm

/-- Renune plans a process speed: every channel that follows it takes its setpoint as a recorded change (R239). -/
def planSpeed (v : Nat) (s : State) : State :=
  let s := { s with mot := { s.mot with planV := v } }
  (List.range 16).foldl (fun s i => match (s.motor i).set with
    | some q =>
      if mSurface q then
        let b := leI 4 (surfaceSetpoint s q v)
        s.record (renuneRec s 0x0883 (chTarget i) b .ordinary (.renune .motorSpeed (chTarget i) b))
      else s
    | none => s) s

/-! ## Weaver states -/

/-- Everything a Weaver holds of its edges is dropped and it enters a state. -/
def enterScan (i : Nat) (st : WState) (s : State) : State := s.setWvr i fun w => { w with
  state := st, that := none, edges := [], count := 0, locked := 0, valid := 0, missing := 0, ident := none, gathered := 0
  idFails := 0, idBad := 0, indexSeen := false, acqFails := 0, lit := false, speedRun := 0 }

/-- A Weaver enters ACQUIRE: the lane of its beam leaves LPI (R173). -/
def enterAcquire (i : Nat) (s : State) : State := acquireLight i (wakeLane i (bdLane (s.wvr i)) (enterScan i .acquire s))

/-- The channel of polygon `p` is CLOSED within 1 % of its setpoint: Weavers in SPINUP enter ACQUIRE (R184). -/
def spinupCheck (p : Nat) (s : State) : State :=
  let m := s.motor p
  if p < 3 ∧ m.state = .closed ∧ near m then
    (polyStations p s).foldl (fun s i => if (s.wvr i).state = .spinup then enterAcquire i s else s) s
  else s

/-- The lead station of a polygon: its lowest-numbered enabled station (R193). -/
def isLead (i : Nat) (s : State) : Bool := (polyStations (polyOf i) s).head? == some i

/-! ## Times (R176, R183) -/

/-- A difference of two time stamps modulo 2^48, signed (R176). -/
def tuDiff (a b : Nat) : Int := toSigned 48 (a + 2 ^ 48 - b % 2 ^ 48)
/-- A time stamp later by `d`. -/
def tuAdd (a : Nat) (d : Int) : Nat := (((a : Int) + d) % 2 ^ 48).toNat
/-- The facet period that the polygon channel's measured speed gives, in tu (R183). -/
def facetPeriod (p : Nat) (s : State) : Nat := 230400000000000 / max 1 ((s.motor p).speed.natAbs * max 1 (s.poly p).n)
/-- PERIOD of R190, 1/16 ps, from a T_rev. -/
def pixelPeriod (y : Polygon) (w : Weaver) (trev : Nat) : Nat :=
  (roundDiv (trev * 1250 * 4096 : Nat) (3 * max 1 y.n * max 1 w.ppf : Nat)).toNat
/-- One revolution of edges is known (R183). -/
def hasRev (y : Polygon) (w : Weaver) : Bool := decide (y.n < w.edges.length)
/-- P of R181. -/
def windowPeriod (y : Polygon) (w : Weaver) : Nat :=
  if hasRev y w then pixelPeriod y w w.trev else pixelPeriod y w (y.n * (y.tNom / max 1 y.k))
/-- An edge at `t` lies in the window around `th` (R181, R183). -/
def inWindow (i t th : Nat) (s : State) : Bool :=
  let y := s.poly (polyOf i)
  let w := s.wvr i
  let d := (tuDiff t th).natAbs
  if hasRev y w then decide (d * 1250 ≤ w.win * pixelPeriod y w w.trev * 3)
  else decide (d * 100 ≤ facetPeriod (polyOf i) s)
/-- Half the width of the window in tu. -/
def halfWindow (i : Nat) (s : State) : Nat :=
  let y := s.poly (polyOf i)
  let w := s.wvr i
  if hasRev y w then w.win * pixelPeriod y w w.trev * 3 / 1250 else facetPeriod (polyOf i) s / 100

/-- The full TDC count of a time stamp near the present TIME64 (R176). -/
def fullCount (t : Nat) (s : State) : Nat :=
  let now : Int := s.io.time * 192 / 5
  (now + tuDiff t (now % 2 ^ 48).toNat).toNat

/-! ## Facet identification (R186 to R189) -/

/-- The intervals between edges, newest first, each with the counter position at which it ends. -/
def intervals (n count : Nat) : List Nat → List (Nat × Int)
  | a :: b :: rest => ((count - 1) % n, tuDiff a b) :: intervals n (count - 1) (b :: rest)
  | _ => []

/-- The sum of the intervals that end at a position. -/
def intervalSum (l : List (Nat × Int)) (c : Nat) : Int := (l.filter fun x => x.1 == c).foldl (fun a x => a + x.2) 0

/-- cost[r] of R187 from A. -/
def facetCost (y : Polygon) (a : List Int) (r : Nat) : Int :=
  (List.range y.n).foldl (fun k c => k + ((a.getD c 0) - y.sig ((c + r) % y.n)).natAbs) 0

/-- R187: the rotation that four revolutions identify. -/
def identify (y : Polygon) (count : Nat) (edges : List Nat) : Option Nat :=
  let n := y.n
  let l := (intervals n count edges).take (4 * n)
  let total := l.foldl (fun a x => a + x.2) 0
  let a := (List.range n).map fun c => roundDiv (intervalSum l c) 4 - roundDiv total (4 * n)
  let cost := (List.range n).map (facetCost y a)
  let low := cost.foldl min (cost.headD 0)
  match cost.findIdx? (· == low) with
  | none => none
  | some b => match (cost.zipIdx.filter fun x => x.2 != b).map (·.1) with
    | [] => none
    | c :: cs =>
      if low ≤ n * y.sigTol ∧ low + n * y.sigTol ≤ cs.foldl min c then some b else none

/-- R189 in SIGNATURE mode: the last revolution's cost under the identification in force exceeds its limit. -/
def signatureBad (y : Polygon) (count : Nat) (edges : List Nat) (r : Nat) : Bool :=
  let n := y.n
  let l := (intervals n count edges).take n
  let total := l.foldl (fun a x => a + x.2) 0
  let a := (List.range n).map fun c => intervalSum l c - roundDiv total n
  decide (4 * n * (y.sigTol : Int) < facetCost y a r)

/-- A Weaver identifies its facets again (R189). -/
def identRestart (i : Nat) (s : State) : State := s.setWvr i fun w => { w with ident := none, gathered := 0, idBad := 0 }

/-- The identification is lost (R189): every station of the polygon that carries a nonzero DLY_ADD posts FACET_LOST for its
side in progress, loses its readiness and identifies again, as the Weaver that found it does. -/
def identLost (i : Nat) (s : State) : State :=
  identRestart i ((polyStations (polyOf i) s).foldl (fun s k =>
    if zeroAt (s.wvr k).facets 0 12 then s
    else identRestart k (match (s.stn k).side? with
      | some d => spoilSide k d.sheet d.side 0x24 s
      | none => s)) s)

/-- A failed attempt of R187; the sixteenth raises FACET_ID_FAIL. -/
def identFailed (i : Nat) (s : State) : State :=
  let s := s.setWvr i fun w => { w with gathered := 0, idFails := min 31 (w.idFails + 1) }
  if (s.wvr i).idFails = 16 then s.raise .note 236 (polyOf i) 0x19 else s

/-- Identification at an edge that has just been taken (R186 to R189). -/
def identStep (i : Nat) (s : State) : State :=
  let y := s.poly (polyOf i)
  let w := s.wvr i
  let n := y.n
  let pos := (w.count - 1) % n
  match y.mode with
  | 1 => match w.ident with
    | none => if w.indexSeen then s.setWvr i fun w => { w with ident := some ((n - pos) % n), indexSeen := false, idBad := 0 } else s
    | some r =>
      if (pos + r) % n = 0 then
        if w.indexSeen then s.setWvr i fun w => { w with indexSeen := false, idBad := 0 }
        else if 1 ≤ w.idBad then identLost i s
        else s.setWvr i fun w => { w with idBad := 1 }
      else s.setWvr i fun w => { w with indexSeen := false }
  | 2 =>
    let s := s.setWvr i fun w => { w with gathered := if 2 ≤ w.count then w.gathered + 1 else 0 }
    let w := s.wvr i
    match w.ident with
    | none =>
      if w.gathered < 4 * n then s
      else match identify y w.count w.edges with
        | some b => s.setWvr i fun w => { w with ident := some b, gathered := 0, idBad := 0, idFails := 0 }
        | none => identFailed i s
    | some r =>
      if w.gathered < n then s
      else
        let s := s.setWvr i fun w => { w with gathered := 0 }
        if signatureBad y w.count w.edges r then
          if 3 ≤ w.idBad then identLost i s else s.setWvr i fun w => { w with idBad := w.idBad + 1 }
        else s.setWvr i fun w => { w with idBad := 0 }
  | _ => s

/-- STB edge `x` of the sweep after S_ref, in 1/1,024 ps: the synthesiser places it within 1/64 px of here (R191). -/
def edgeOffset (i x : Nat) (s : State) : Int := match (s.stn i).side? with
  | some d => (64 * (x : Int) + edgePhase (sideEcm (s.stn i) d) d.wa x) * (s.wvr i).period
  | none => 0

/-- A pulse on INDEX_PRB of a polygon (R186). -/
def indexPulse (p : Nat) (s : State) : State :=
  (polyStations p s).foldl (fun s i => s.setWvr i fun w =>
    if w.state = .tracking ∨ w.state = .locked then { w with indexSeen := true } else w) s

/-- FACET_LEARN takes an interval of the lead station; after 256 revolutions Renune records SIG (R199). -/
def learnStep (i : Nat) (s : State) : State :=
  let p := polyOf i
  let y := s.poly p
  let w := s.wvr i
  match y.learn, w.edges with
  | some l, a :: b :: _ =>
    if !isLead i s || w.state != .locked then s
    else
      let n := y.n
      let c := ((w.count - 1) % n + w.ident.getD 0) % n
      let dt := (tuDiff a b).toNat
      let l : Learn := { left := l.left - 1, sums := upd l.sums c (· + dt), total := l.total + dt }
      if l.left ≠ 0 then s.setPoly p fun y => { y with learn := some l }
      else
        let sig := (List.range 12).flatMap fun c =>
          if c < n then leI 2 (sat16 (roundDiv (l.sums.getD c 0) 256 - roundDiv l.total (256 * n))) else zeros 2
        let b := y.b.take 24 ++ sig
        let s := s.setPoly p fun y => { y with learn := none }
        s.record (renuneRec s 0x0780 p b .ordinary (.renune .polygonSet p b))
  | _, _ => s

/-! ## Sweep starts (R184, R190, R193 to R196) -/

/-- The side whose sweeps include SWEEP `n`. -/
def sideAt (i n : Nat) (s : State) : Option Side := match (s.stn i).side? with
  | some d => if 0 ≤ sweepDiff n d.n0 ∧ sweepDiff n d.n0 < d.bands then some d else none
  | none => none

/-- side_err of the sweep just ended, and OVERSPEED or UNDERSPEED once per side (R194). -/
def trackSide (i : Nat) (d16 : Int) (s : State) : State := match sideAt i (s.wvr i).sweep s with
  | none => s
  | some d =>
    let e := d.err + d16 - 1024
    let tol : Int := byteAt (s.wvr i).b 18
    let isOver : Bool := decide (tol < e) && !d.overDone
    let under : Bool := decide (e < -tol) && !d.under
    let s := s.setSide i d.sheet d.side fun x => { x with err := e, overDone := x.overDone || isOver, under := x.under || under }
    let s := s.setWvr i fun w => { w with
      overCnt := if isOver then satInc 16 w.overCnt else w.overCnt, under := if under then satInc 16 w.under else w.under }
    let s := if isOver then spoilSide i d.sheet d.side 0x21 s else s
    if under then spoilSide i d.sheet d.side 0x22 s else s

/-- The regulation of R193 at the lead station: qb, perr, q and the polygon's setpoint. -/
def trackPolygon (i : Nat) (d16 tMeas : Int) (s : State) : State :=
  let p := polyOf i
  if !isLead i s || decide (tMeas ≤ 0) then s
  else
    let y := s.poly p
    let qb := floorDiv (d16 * y.tNom * 64) tMeas
    let perr := clamp (y.perr + d16 - 1024) (-1024) 1024
    let qt := clamp (qb + clamp perr (-64) 64) 64225 66847
    let sl := cdiv (65 * tMeas) 38400000
    let q := clamp qt (y.q - sl) (y.q + sl)
    let rpm := roundHalfUp (y.rpmNom * q) 16
    let out : Bool := decide (qb < 64225) || decide (66847 < qb)
    let run := if out then y.qbRun + 1 else 0
    let s := s.setPoly p fun y => { y with qb := qb, perr := perr, q := q, rpmSet := rpm, qbRun := min 64 run }
    let s := s.setMotor p fun m => { m with target := polySetpoint p rpm s, direct := true }
    let s := if out then s.pulse (242 + p) 0 else s
    if run = 64 then { s with shs := { s.shs with speedHold := true } } else s

/-- The Weaver's speed has stayed within 0.05 % of rpm100_set for one sweep more (R196). -/
def speedStep (i : Nat) (s : State) : State :=
  let trev := (s.wvr i).trev
  let rpm := (s.poly (polyOf i)).rpmSet
  let ok : Bool := decide (0 < trev) && decide ((6000 * 38400000000 - rpm * trev).natAbs * 2000 ≤ (rpm * trev).natAbs)
  s.setWvr i fun w => { w with speedRun := if ok then min 64 (w.speedRun + 1) else 0 }

/-- A sweep start of station `i` (R184): `tbd` is the facet's edge time, `at_` the instant, `missed` says that the
facet's edge is the second one missing in a row, `nominal` that the start falls outside LOCKED. -/
def sweepStart (i tbd at_ : Nat) (missed nominal : Bool) (s : State) : State :=
  let p := polyOf i
  let y := s.poly p
  let w := s.wvr i
  let fires : Bool := w.state == .locked && !missed && !nominal
  let per := pixelPeriod y w w.trev
  let inRange : Bool := decide (133333 ≤ per) && decide (per ≤ 400000)
  let s := if fires && inRange then s.setWvr i fun w => { w with
      period := per, sRef := tuAdd tbd (roundDiv (w.sos * per * 3 : Nat) 80000) } else s
  let aborted : Bool := !fires || !inRange
  let count := beltCount y.beltQe s
  let s : State := match w.lastStart with
    | none => s
    | some t0 =>
      let d16 := belt16Of y.l16pc (count - w.pos)
      let s := trackSide i d16 s
      if nominal then s else trackPolygon i d16 (tuDiff at_ t0) s
  let sweep := (w.sweep + 1) % 2 ^ 27
  let interval : Int := if nominal then y.tNom else (y.k * w.trev / max 1 y.n : Nat)
  let full := fullCount at_ s
  let next := [1, 2].map fun k => ((full + k * interval.toNat) * 5 / 192) % 2 ^ 64
  let s := s.setWvr i fun w => { w with
    sweep := sweep, lifeSweeps := w.lifeSweeps + 1, lastStart := some at_, pos := count, belt16 := belt16Of y.l16pc count, next := next }
  let s := if aborted && (w.state == .locked || (sideAt i sweep s).isSome) then
      (s.setWvr i fun w => { w with aborted := satInc 16 w.aborted }).pulse (stLine i 2) 0
    else s
  let s : State := match sideAt i sweep s with
    | some d => if fires then (if inRange then s else spoilSide i d.sheet d.side 0x23 s) else spoilSide i d.sheet d.side 0x20 s
    | none => s
  let s := pipelineSweep i aborted (s.pulse (stLine i 0) 0)
  let s := fixTests i s
  lateSpoils (if nominal then s else speedStep i s)

/-- A bridged sweep of a side flags its record (R182, R219). -/
def bridgedFlag (i : Nat) (s : State) : State := match sideAt i (s.wvr i).sweep s with
  | some d => presentBit i d.sheet d.side 4 s
  | none => s

/-! ## Edges (R181 to R185) -/

/-- LOCKED is entered: perr restarts at the lead, and a SCAN_START whose Weavers are all LOCKED is done (R193, R198). -/
def enterLocked (i : Nat) (s : State) : State :=
  let p := polyOf i
  let s := s.setWvr i fun w => { w with state := .locked, locked := 0, wasLocked := true, speedRun := 0 }
  let s := if isLead i s then s.setPoly p fun y => { y with perr := 0 } else s
  if (polyStations p s).all fun k => (s.wvr k).state == .locked then s.finish .scanStart p stDone 0 else s

/-- A Weaver that was LOCKED leaves it for want of edges. -/
def loseLock (i : Nat) (s : State) : State :=
  let s := if isLead i s && (s.poly (polyOf i)).learn.isSome then
      (s.setPoly (polyOf i) fun y => { y with learn := none }).finish .facetLearn (polyOf i) stFaulted 0
    else s
  enterAcquire i s

/-- An edge time is taken, accepted (`ok`) or bridged: history, lock, identification, the sweep start of a sweep facet,
the next prediction (R182 to R184). -/
def takeEdge (i t at_ : Nat) (ok : Bool) (s : State) : State :=
  let y := s.poly (polyOf i)
  let n := max 1 y.n
  let w := s.wvr i
  let edges := (t :: w.edges).take (4 * n + 1)
  let trev := match edges[n]? with | some e => (tuDiff t e).toNat | none => w.trev
  let missing := if ok then 0 else w.missing + 1
  let s := s.setWvr i fun w => { w with
    edges := edges, count := w.count + 1, trev := trev, that := none, missing := missing
    valid := if ok then (if hasRev y w then min 63 (w.valid + 1) else w.valid) else 0 }
  let s := if isLead i s && (w.count + 1) % n == 0 then s.setPoly (polyOf i) fun y => { y with lifeRevs := y.lifeRevs + 1 } else s
  if w.state = .tracking ∧ ok = false then enterAcquire i s
  else
    let s := if w.state = .tracking ∧ 32 ≤ (s.wvr i).valid then enterLocked i s else s
    let s := if missing = 1 then (s.setWvr i fun w => { w with bridged := satInc 16 w.bridged }).pulse (stLine i 1) 0 else s
    let s := learnStep i (identStep i s)
    let s : State :=
      if (s.wvr i).state = .locked then
        let k := (s.wvr i).locked
        let facet := match (s.wvr i).ident with
          | some r => (((s.wvr i).count - 1) % n + r) % n
          | none => k % n
        let s := s.setWvr i fun w => { w with locked := k + 1 }
        if k % max 1 y.k = 0 then
          let s := sweepStart i t at_ (decide (2 ≤ missing)) false (s.setWvr i fun w => { w with facet := facet })
          if missing = 1 then bridgedFlag i s else s
        else s
      else s
    if 4 ≤ missing then loseLock i s
    else if (s.wvr i).state = .tracking ∨ (s.wvr i).state = .locked then
      s.setWvr i fun w => { w with
        that := some (match edges[n]?, edges[n - 1]? with
          | some _, some e => tuAdd e trev
          | _, _ => tuAdd t (facetPeriod (polyOf i) s)) }
    else s

/-- BD_MINW x P in tu (R181). -/
def minWidth (i : Nat) (s : State) : Nat := (s.wvr i).minw * windowPeriod (s.poly (polyOf i)) (s.wvr i) * 3 / 1250

/-- An edge of BDs in the polarity BD_POL, 0 rising (R181). -/
def bdActive (i : Nat) (rising : Bool) (s : State) : Bool := rising == (byteAt (s.wvr i).b 9 == 0)

/-- An edge of BDs at `t`, after which the level stays for `hold` tu (R181, R184). Every edge in the polarity BD_POL that is
not valid is stray; the edges of the other polarity, which end each pulse, are not counted (DEDUCED, assumption 21). While
CLK_IMG is gated there is no time stamp and no count (R176, R401). -/
def bdEdge (i t : Nat) (rising : Bool) (hold : Nat) (s : State) : State :=
  let w := s.wvr i
  let stray : State := s.setWvr i fun w => { w with stray := satInc 16 w.stray }
  let t := t % 2 ^ 48
  let held : Bool := decide (minWidth i s ≤ hold)
  if imgGated i s || !bdActive i rising s then s
  else match w.state with
  | .off | .spinup | .fault => stray
  | .acquire =>
    if !held || (s.stn i).side?.isSome then stray
    else takeEdge i t t true ((enterScan i .tracking s))
  | .tracking | .locked => match w.that with
    | none => stray
    | some th =>
      if held && inWindow i t th s then
        takeEdge i t (tuAdd t (minWidth i s)) true s
      else stray

/-- A window closes with no valid edge (R182). -/
def bdWindowClose (i : Nat) (s : State) : State := match (s.wvr i).that with
  | none => s
  | some th =>
    if (s.wvr i).state = .tracking ∨ (s.wvr i).state = .locked then takeEdge i th (tuAdd th (halfWindow i s)) false s else s

/-- A sweep start outside LOCKED, T_NOM after the one before (R184). -/
def nominalStart (i : Nat) (s : State) : State :=
  let w := s.wvr i
  match w.lastStart with
  | none => s
  | some t0 =>
    if w.wasLocked = false ∨ w.state = .off ∨ w.state = .locked then s
    else
      let t := tuAdd t0 (s.poly (polyOf i)).tNom
      sweepStart i t t true true s

/-- BD_LIGHT of a facet (R179); the lane is UP whenever the beam is lit (R197). -/
def bdLightSend (i : Nat) (s : State) : State :=
  let w := s.wvr i
  if (w.state = .tracking ∨ w.state = .locked) ∧ w.that.isSome = true ∧ (s.lane i (bdLane w)).state = .up then
    bdLight i (byteAt w.b 15) s
  else s

/-- ACQUIRE ends a lighting without a valid edge: retry, or BD_ACQ_FAIL at the tenth failure (R184). Where nothing has been
lit, the Weaver waits, and nothing has failed (R185). -/
def acquireRetry (i : Nat) (s : State) : State :=
  if (s.wvr i).state ≠ .acquire then s
  else if (s.wvr i).lit = false then acquireLight i s
  else
    let f := (s.wvr i).acqFails + 1
    if f < 10 then acquireLight i (s.setWvr i fun w => { w with acqFails := f, lit := false })
    else
      lateSpoils (((enterScan i .fault s).finish .scanStart (polyOf i) stFaulted 0x0218).raise .halt 236 i 0x18)

/-! ## Readiness (R196) -/

/-- The polygon-locked token of a Weaver. -/
def weaverToken (i : Nat) (s : State) : Bool :=
  (s.wvr i).state == .locked && identOk i s && decide (64 ≤ (s.wvr i).speedRun)

/-- POLY_p is held. -/
def polyToken (p : Nat) (s : State) : Bool := (polyStations p s).all fun i => weaverToken i s

/-! ## Starting and stopping (R198) -/

/-- A side of the polygon's stations is ADMITTED or later and has not ended (R178). -/
def polyBusy (p : Nat) (s : State) : Bool := s.shs.sheets.any fun x =>
  decide (3 ≤ x.state.code) && decide (x.state.code ≤ 5) && x.sides.any fun r => polyOf r.station == p && !r.ended

/-- The Weavers of a polygon are OFF. -/
def weaversOff (p : Nat) (s : State) : Bool := (List.range 5).all fun i => polyOf i != p || (s.wvr i).state == .off

/-- The channel of a polygon starts toward, or takes, a setpoint (R184, R239). -/
def runPolygon (p : Nat) (rpm : Int) (s : State) : State :=
  let t := polySetpoint p rpm s
  let s := s.setMotor p fun m => { m with direct := false }
  if (s.motor p).state = .off then startChannel p t s
  else s.setMotor p fun m => { m with target := t, stopping := false }

/-- A polygon is planned and started, or re-planned (R178, R184, R193, R198). -/
def startPolygon (p v : Nat) (s : State) : State := match scanPlan p v s with
  | .error _ => s
  | .ok k =>
    let y := s.poly p
    let rpm := rpmNomOf y.n k v
    let s := s.setPoly p fun y => { y with
      v := v, k := k, rpmNom := rpm, tNom := tNomOf v, rpmSet := rpm, q := 65536, qb := 65536, perr := 0, qbRun := 0
      learn := none, vPrev := y.v }
    let s := (polyStations p s).foldl (fun s i =>
      (enterScan i .spinup s).setWvr i fun w => { w with sweep := 0, wasLocked := false, lastStart := none }) s
    restage (planSpeed v (runPolygon p rpm s))

/-- Other running commands of a polygon end as a SCAN_START or SCAN_STOP applies (R198); `keep` is the TAG and hamper of
the new one, whose final status is its own. -/
def endScanCommands (p hamper tag : Nat) (s : State) : State :=
  let old (f : Frame) : Bool := f.target.toNat == p && !(f.hamper.val == hamper && f.tag.toNat == tag)
  { s with io := finishAll .facetLearn old stFaulted 0 [] (finishAll .scanStop old stFaulted 0x80 []
      (finishAll .scanStart old stFaulted 0x80 [] s.io)) }

/-- The Weavers of a polygon go OFF and its channel stops as MOTOR_STOP mode 0 stops it (R198). -/
def stopPolygon (p : Nat) (s : State) : State :=
  let s := (polyStations p s).foldl (fun s i => enterScan i .off s) s
  let s := s.setPoly p fun y => { y with v := 0, k := 0, learn := none, vPrev := 0 }
  let s := s.setMotor p fun m => { m with direct := false }
  let s := if (s.motor p).state = .off ∨ (s.motor p).state = .fault then s.finish .scanStop p stDone 0
    else stopChannel p 0 s
  restage s

/-! ## Commands of group 0x07 -/

/-- TARGET names a polygon. -/
def polyTarget (c : Cmd) (_ : State) : Bool := decide (c.tgt < 3)
/-- TARGET names a station (R491: an enabled one for a change). -/
def scanStation (c : Cmd) (s : State) : Bool := decide (c.tgt < 5) && bit (stationsOn s) c.tgt

/-- Faulty fields of POLYGON_SET. -/
def polygonFaults (p : Bytes) : List (Bool × Nat) :=
  [(outside (byteAt p 0) 4 12, 0), (decide (2 < byteAt p 1), 1), (decide (7 < byteAt p 2), 2), (decide (7 < byteAt p 3), 3),
   (outside (u32At p 4) 0x1000 0x400000, 4), (outside (u16At p 8) 1000 40000, 8), (outside (byteAt p 10) 1 16, 10),
   (outside (byteAt p 11) 40 117, 11), (outside (u16At p 12) 4 4096, 12)]
    ++ ((List.range 10).map fun k => (byteAt p (14 + k) != 0, 14 + k))
    ++ ((List.range 12).map fun f => (decide (byteAt p 0 ≤ f) && u16At p (24 + 2 * f) != 0, 24 + 2 * f))

/-- POLYGON_SET (R197); the second recorded change of a FACET_LEARN ends it with this entry's LEDGER_SEQ (R199). -/
def polygonSetSpec : CmdSpec where
  roles := [.service]
  lenOk := fun c _ => c.len == 48
  target := polyTarget
  pre := fun c s => failIf (!weaversOff c.tgt s) stDeniedState 0
  post := fun c _ => firstFault (polygonFaults c.pl)
  eff := fun c s =>
    let s := s.setPoly c.tgt fun y => { y with set := some (fit 48 c.pl) }
    let old := s.io.finals.length
    let s := s.finish .facetLearn c.tgt stDone 0
    { s with io := { s.io with finals := s.io.finals.take old ++ (s.io.finals.drop old).map fun x => { x with seq := s.led.head } } }

/-- Faulty fields of SCAN_SET. -/
def scanFaults (p : Bytes) : List (Bool × Nat) :=
  [(outside (u32At p 0) (1000 * 4096) (200000 * 4096), 0), (outside (u32At p 4) 640 1024000, 4), (decide (63 < byteAt p 8), 8),
   (decide (1 < byteAt p 9), 9), (outside (u16At p 10) 1 4095, 10), (outside (u16At p 12) 2 64, 12),
   (outside (byteAt p 14) 1 64, 14), (outside (byteAt p 15) 5 255, 15), (outside (u16At p 16) 768 31200, 16),
   (outside (byteAt p 18) 1 64, 18)] ++ ((List.range 5).map fun k => (byteAt p (19 + k) != 0, 19 + k))

/-- SCAN_SET (R197). -/
def scanSetSpec : CmdSpec where
  roles := [.service]
  lenOk := fun c _ => c.len == 24
  target := scanStation
  pre := fun c s => failIf ((s.wvr c.tgt).state != .off) stDeniedState 0
  post := fun c _ => firstFault (scanFaults c.pl)
  eff := fun c s => s.setWvr c.tgt fun w => { w with set := some (fit 24 c.pl) }

/-- FACET_LOAD (R188). -/
def facetLoadSpec : CmdSpec where
  roles := [.service]
  lenOk := fun c _ => c.len == 16
  target := scanStation
  post := fun c _ => firstFault (((List.range 12).map fun f =>
      (decide (i8At c.pl f < -32) || decide (31 < i8At c.pl f), f))
    ++ (List.range 4).map fun k => (c.u8 (12 + k) != 0, 12 + k))
  eff := fun c s => (s.setWvr c.tgt fun w => { w with facetsNext := some (fit 16 c.pl) }).setStn c.tgt fun x => { x with
    corrOut := false }

/-- The settings that SCAN_START and SCAN_PLAN need (R198). -/
def scanSettings (p : Nat) (s : State) : Option (Nat × Nat) :=
  orElse (failIf (s.poly p).set.isNone stDeniedState 1)
    (failIf ((polyStations p s).any fun i => (s.wvr i).set.isNone) stDeniedState 2)

/-- The state that starting a polygon needs, DETAIL 0x0001 to 0x0004 (R198). -/
def scanStartable (c : Cmd) (s : State) : Option (Nat × Nat) :=
  orElse (scanSettings c.tgt s) (orElse (failIf (s.motor c.tgt).set.isNone stDeniedState 3)
    (failIf ((s.motor c.tgt).state == .fault || (polyStations c.tgt s).any fun i => (s.wvr i).state == .fault) stDeniedState 4))

/-- SCAN_START (R198). -/
def scanStartSpec : CmdSpec where
  roles := [.operator, .service]
  states := inStates [.idle, .warm, .ready, .run]
  lenOk := fun c _ => c.len == 4
  target := fun c s => polyTarget c s && polyStations c.tgt s != []
  pre := fun c s => orElse (scanStartable c s) (failIf (polyBusy c.tgt s) stDeniedState 5)
  post := fun c s =>
    if outside (c.u32 0) 200000 1600000 then some (stBadParam, 0)
    else match scanPlan c.tgt (c.u32 0) s with
      | .ok _ => none
      | .error d => some (stBadParam, d)
  eff := fun c s => startPolygon c.tgt (c.u32 0) (endScanCommands c.tgt c.hamper c.f.tag.toNat s)
  ans := fun _ _ => ansAccepted
  abort := fun c s =>
    let v := (s.poly c.tgt).vPrev
    if v = 0 then stopPolygon c.tgt s else startPolygon c.tgt v s

/-- SCAN_STOP (R198). -/
def scanStopSpec : CmdSpec where
  roles := [.operator, .service]
  target := polyTarget
  pre := fun c s => failIf (polyBusy c.tgt s) stDeniedState 0
  eff := fun c s => if weaversOff c.tgt s then s else stopPolygon c.tgt (endScanCommands c.tgt c.hamper c.f.tag.toNat s)
  ans := fun c s => if weaversOff c.tgt s then ansAlready else ansAccepted

/-- FACET_LEARN (R199). -/
def facetLearnSpec : CmdSpec where
  roles := [.service]
  target := polyTarget
  pre := fun c s => failIf (polyStations c.tgt s == [] || (polyStations c.tgt s).any fun i =>
    (s.wvr i).state != .locked || (s.stn i).side?.isSome) stDeniedState 0
  eff := fun c s => s.setPoly c.tgt fun y => { y with
    learn := some { left := 256 * y.n, sums := List.replicate y.n 0, total := 0 } }
  ans := fun _ _ => ansAccepted
  abort := fun c s => s.setPoly c.tgt fun y => { y with learn := none }

/-- SCAN_PLAN (R177, R198). -/
def scanPlanSpec : CmdSpec where
  viewer := true
  lenOk := fun c _ => c.len == 4
  target := polyTarget
  pre := fun c s => scanSettings c.tgt s
  post := fun c _ => failIf (outside (c.u32 0) 200000 1600000) stBadParam 0
  size := fun _ _ => 16
  ans := fun c s =>
    let p := c.tgt
    let v := c.u32 0
    match scanPlan p v s with
    | .ok k =>
      let khz (i : Nat) : Nat := if (polyStations p s).contains i then planKhz (s.wvr i) k v else 0
      ansResult (le 1 1 ++ le 1 k ++ zeros 2 ++ le 4 (rpmNomOf (s.poly p).n k v) ++ le 4 (khz (2 * p)) ++ le 4 (khz (2 * p + 1)))
    | .error d => ansResult (le 1 0 ++ le 1 d ++ zeros 14)

end Sys2Proof.Machine
end

