-- ==== Sys2Proof/Machine/Loops.lean ====
section
/-!
DEFINITION. The closed-loop control engine (chapter 13): the step of R293, the tick, loop states, and the commands of
group 0x0B.
-/
namespace Sys2Proof.Machine

/-! ## Descriptors -/

/-- A signed Q16.16 field of a descriptor. -/
def lq (p : Bytes) (off : Nat) : Int := i32At p off
/-- IN_KIND. -/
def lInKind (p : Bytes) : Nat := byteAt p 0
/-- OUT_KIND. -/
def lOutKind (p : Bytes) : Nat := byteAt p 1
/-- IN_SEL. -/
def lInSel (p : Bytes) : Nat := u16At p 2
/-- OUT_SEL. -/
def lOutSel (p : Bytes) : Nat := byteAt p 5
/-- K. -/
def lK (p : Bytes) : Nat := byteAt p 6
/-- PHASE. -/
def lPhase (p : Bytes) : Nat := u16At p 8
/-- MODEL_EN. -/
def lModel (p : Bytes) : Bool := bit (byteAt p 7) 0
/-- STATIONS. -/
def lStations (p : Bytes) : Nat := byteAt p 11
/-- RSH of the input-kinds table. -/
def lRsh (p : Bytes) : Bool := lInKind p == 4 || lInKind p == 5

/-- Descriptor with its defaults: START_TIMEOUT 100, HV_FREQ 100 for HVPWM. -/
def loopFill (p : Bytes) : Bytes :=
  let q := fit 96 p
  let q := if u16At q 92 = 0 then putLe q 92 2 100 else q
  if lOutKind q = 1 ∧ u16At q 94 = 0 then putLe q 94 2 100 else q

/-- Cycles of one step (R288). -/
def loopCost (p : Bytes) : Nat := if lModel p then 64 else 40

/-- Descriptors held, with `i` replaced by `p` (R289). -/
def descriptors (i : Nat) (p : Option Bytes) (s : State) : List Bytes :=
  (List.range 64).filterMap fun k => if k = i then p else (s.loop k).set

/-- Cost of tick `t` (R289). -/
def tickCost (ds : List Bytes) (t : Nat) : Nat :=
  (ds.filter fun p => t % 2 ^ lK p == lPhase p).foldl (fun a p => a + loopCost p) 0

/-- The worst-tick cost: ticks repeat with the longest period (R289). -/
def worstTick (ds : List Bytes) : Nat :=
  let k := ds.foldl (fun m p => max m (lK p)) 0
  (List.range (2 ^ k)).foldl (fun m t => max m (tickCost ds t)) 0

/-! ## Assignments -/

/-- An AIN input is in use by a motor channel, a bus monitor, an SC axis or a thermistor other than `th` (R225, R252,
R301, R316). -/
def ainFunction (n th : Nat) (s : State) : Bool :=
  (decide (n < 20) && (s.motor (6 + n / 2)).set.isSome)
    || (20 ≤ n && decide (n < 24) && (s.bus (n - 20)).set.isSome)
    || (24 ≤ n && decide (n < 28) && (s.bus (n - 24)).set.isSome)
    || (28 ≤ n && decide (n < 52) && (s.axis ((n - 28) / 2)).set.isSome)
    || (List.range 24).any fun j => j != th && byteAt (s.thm.ths.getD j {}).set 0 == 1 && u16At (s.thm.ths.getD j {}).set 2 == n

/-- Another loop than `i` reads an AIN input. -/
def ainLoop (n i : Nat) (s : State) : Bool :=
  (List.range 64).any fun k => k != i && match (s.loop k).set with
    | some q => lInKind q == 1 && lInSel q == n
    | none => false

/-- Another loop than `i` has this output. -/
def outTaken (kind sel i : Nat) (s : State) : Bool :=
  (List.range 64).any fun k => k != i && match (s.loop k).set with
    | some q => lOutKind q == kind && lOutSel q == sel
    | none => false

/-- Following LOOP_SP outputs from loop `j` reaches loop `i` (R292). -/
def spReaches (i : Nat) (s : State) : Nat → Nat → Bool
  | 0, _ => false
  | n + 1, j => j == i || match (s.loop j).set with
    | some q => lOutKind q == 3 && spReaches i s n (lOutSel q)
    | none => false

/-- Faulty fields of a descriptor for loop `i` (R301). -/
def loopFaults (i : Nat) (p : Bytes) (s : State) : List (Bool × Nat) :=
  let ik := lInKind p
  let ok := lOutKind p
  let sel := lInSel p
  let os := lOutSel p
  let neg (off : Nat) : Bool := decide (lq p off ≤ 0)
  [(outside ik 1 5, 0), (decide (3 < ok), 1),
   ((ik == 1 && (decide (63 < sel) || ainFunction sel 24 s || ainLoop sel i s)) || (ik == 2 && decide (1023 < sel))
     || (ik == 3 && !isCounter sel) || (ik == 4 && decide (63 < sel)) || (ik == 5 && decide (7 < sel)), 2),
   (if ik = 2 then decide (14 < byteAt p 4) else byteAt p 4 != 0, 4),
   ((ok == 0 && os != 0) || (ok == 1 && (decide (19 < os) || outTaken 1 os i s))
     || (ok == 2 && (decide (7 < os) || outTaken 2 os i s))
     || (ok == 3 && (decide (63 < os) || outTaken 3 os i s || spReaches i s 65 os)), 5),
   (decide (13 < lK p), 6), (decide (1 < byteAt p 7), 7), (decide (2 ^ lK p ≤ lPhase p), 8),
   (!([0, 1, 3, 4].contains (byteAt p 10)), 10), (decide (31 < byteAt p 11), 11),
   (ok == 1 && decide (lq p 36 < 0), 36), (decide (lq p 40 < lq p 36) || (ok == 1 && decide (65536 < lq p 40)), 40),
   (decide (lq p 44 < 0), 44), (decide (lq p 48 < lq p 36) || decide (lq p 40 < lq p 48), 48),
   (neg 52, 52), (neg 56, 56), (neg 60, 60), (u16At p 64 == 0, 64), (byteAt p 66 == 0, 66), (decide (15 < byteAt p 67), 67),
   (!lModel p && u32At p 68 != 0, 68), (if lModel p then decide (65536 < u32At p 72) else u32At p 72 != 0, 72),
   (!lModel p && u32At p 76 != 0, 76), (if lModel p then decide (65536 < u32At p 80) else u32At p 80 != 0, 80),
   (decide (lq p 88 ≤ lq p 84), 88),
   (if ok = 1 then outside (u16At p 94) 10 500 else u16At p 94 != 0, 94)]

/-! ## The step of R293 -/

/-- qmul before its saturation. -/
def qmulRaw (a b : Int) : Int := roundHalfUp (a * b) 16
/-- `qmul` of chapter 13. -/
def qmul (a b : Int) : Int := sat32 (qmulRaw a b)
/-- A `sat32` changed its argument. -/
def sat32Hit (x : Int) : Bool := decide (sat32 x ≠ x)

/-- The reference, regulator and supervision of one period for a measurement `y`: the loop after the step and its
error e. -/
def loopStep (p : Bytes) (y : Int) (l : Loop) : Loop × Int :=
  let outMax := l.outMax.getD (lq p 40)
  let outMin := lq p 36
  let rate := lq p 52
  let slew := lq p 44
  let r := clamp l.sp (sat32 (l.r - rate)) (sat32 (l.r + rate))
  let e := sat32 (r - y)
  let a1 := qmulRaw (lq p 32) r
  let a2 := qmulRaw (lq p 20) e
  let a3 := qmulRaw (lq p 24) e
  let ni := sat32 (l.i + sat32 a3)
  let s1 := sat32 a1 + sat32 a2
  let s2 := sat32 s1 + ni
  let dy := l.y - y
  let a4 := qmulRaw (lq p 28) (sat32 dy)
  let s3 := sat32 s2 + sat32 a4
  let v := sat32 s3
  let un0 := clamp v outMin outMax
  let w := clamp un0 (l.u - slew) (l.u + slew)
  let un := if slew ≠ 0 then w else un0
  let keep : Bool := decide (un = v) || (decide (un < v) && decide (e < 0)) || (decide (v < un) && decide (0 < e))
  let ud := l.dl.getD (byteAt p 67) 0
  let dl := un :: l.dl.take 15
  let b1 := qmulRaw (lq p 68) ud
  let b2 := sat32 b1 + lq p 76
  let b3 := sat32 b2 - l.m
  let b4 := qmulRaw (lq p 72) (sat32 b3)
  let b5 := l.m + sat32 b4
  let m1 := sat32 b5
  let b6 := y - m1
  let b7 := qmulRaw (lq p 80) (sat32 b6)
  let b8 := m1 + sat32 b7
  let m2 := sat32 b8
  let b9 := m2 - y
  let es := if lModel p then sat32 b9 else e
  let isOver : Bool := decide (lq p 60 < es.natAbs)
  let fe := if isOver then min (l.fe + 1) (u16At p 64) else l.fe - 1
  let arith : Bool := sat32Hit (l.r - rate) || sat32Hit (l.r + rate) || sat32Hit (r - y)
    || [a1, a2, a3, l.i + sat32 a3, s1, s2, dy, a4, s3].any sat32Hit || decide (un0 ≠ v)
    || (decide (slew ≠ 0) && decide (w ≠ un0)) || (lModel p && [b1, b2, b3, b4, b5, b6, b7, b8, b9].any sat32Hit)
  let old (k : Nat) : Bool := l.flags.getD k false
  ({ l with
     r := r, y := y, u := un, i := if keep then ni else l.i, fe := fe
     dl := if lModel p then dl else l.dl, m := if lModel p then m2 else l.m
     flags := [old 0 || arith, old 1 || decide (un0 ≠ v), old 2 || (decide (slew ≠ 0) && decide (w ≠ un0)), old 3 || !keep,
               old 4, old 5 || isOver, old 6] }, e)

/-- R296: what a start sets before the first step, from the first measurement. -/
def loopBegin (p : Bytes) (y0 : Int) (l : Loop) : Loop :=
  { l with r := y0, y := y0, m := y0, dl := List.replicate 16 l.u, fe := 0, fresh := false
           i := clamp (l.u - qmul (lq p 32) y0) (lq p 36) (l.outMax.getD (lq p 40)) }

/-- Scaled measurement of a valid raw value, and whether `sat32` changed it (R293). -/
def loopScale (p : Bytes) (raw : Int) : Int × Bool :=
  let x := (if lRsh p then roundHalfUp (raw * lq p 12) 16 else raw * lq p 12) + lq p 16
  (sat32 x, sat32Hit x)

/-- The output of loop `i` reaches what it drives (R291, R292). -/
def loopOutput (i : Nat) (p : Bytes) (s : State) : State :=
  let u := (s.loop i).u
  match lOutKind p with
  | 1 => s.setLoop i (loadHigh p s.io.time u)
  | 3 =>
    let j := lOutSel p
    let t := (s.loop j).state
    if t = .off ∨ t = .fault then s else s.setLoop j fun l => { l with sp := u }
  | _ => s

/-- HVPWM of loop `i` at TIME64 `t` of a PWM period that began at `start`: high for the time loaded at that start; low
without OWN (R300), while the inhibit is asserted (R299) and for other outputs. -/
def hvpwmLevel (i start t : Nat) (s : State) : Bool :=
  let l := s.loop i
  match l.set with
  | some p => lOutKind p == 1 && l.drives && s.outputsOwned && !s.saf.inhibit
      && decide (t < start + 5 * (if l.highAt ≤ start then l.high else l.highWas))
  | none => false

/-- A loop faults and raises a fault of its FAULT_CLASS, 0 for HALT, INHIBIT none; OUT_SAFE reaches what it drives in the
same period (R299). -/
def State.loopFault (s : State) (i cause : Nat) : State :=
  let l := s.loop i
  if l.state = .fault then s.loopToFault i cause
  else
    let s1 := s.loopToFault i cause
    let s1 := match l.set with
      | some p => if lOutKind p = 3 then loopOutput i p s1 else s1
      | none => s1
    let s1 := if cause = 1 then s1
      else s1.raise (fbClass (match l.set with | some p => byteAt p 10 | none => 0)) 161 i cause
    s1.setLoop i fun l => { l with faultNew := true }

/-- A sticky flag is set (R295). -/
def setFlag (k : Nat) (l : Loop) : Loop := { l with flags := upd l.flags k fun _ => true }

/-- The state test after a step (loop-states table, R301). -/
def loopTests (i : Nat) (p : Bytes) (e : Int) (changed : Bool) (s : State) : State :=
  let l := s.loop i
  let inBand : Bool := decide ((e.natAbs : Int) ≤ lq p 56)
  let s := match l.state with
    | .ramp => if l.r = l.sp then s.loopState i .settle else s
    | .settle =>
      if changed && l.r != l.sp then s.loopState i .ramp
      else if inBand then
        if 8 ≤ l.bandRun + 1 then (s.loopState i .regulating).finish .loopStart i stDone 0
        else s.setLoop i fun l => { l with bandRun := l.bandRun + 1 }
      else s.setLoop i fun l => { l with bandRun := 0 }
    | .regulating =>
      if changed && l.r != l.sp then s.loopState i .ramp
      else if inBand then s.setLoop i fun l => { l with bandRun := 0 }
      else if 4 ≤ l.bandRun + 1 then s.loopState i .settle
      else s.setLoop i fun l => { l with bandRun := l.bandRun + 1 }
    | _ => s
  match (s.loop i).startRun with
  | none => s
  | some n =>
    if (s.loop i).state = .regulating then s.setLoop i fun l => { l with startRun := none }
    else if u16At p 92 * 10000000 ≤ (n + 1) * 2 ^ lK p * 12500 then
      (s.setLoop i fun l => { l with startRun := none }).finish .loopStart i stTimeout 0
    else s.setLoop i fun l => { l with startRun := some (n + 1) }

/-- A due period of loop `i` with its raw value, none where it is invalid (R293, R294, R296, R297). -/
def loopPeriod (i : Nat) (raw : Option Int) (s : State) : State :=
  let s := s.setLoop i fun l => { l with skipRun := 0, drives := s.outputsOwned }
  let l := s.loop i
  match l.set with
  | none => s
  | some p =>
    match l.state with
    | .off | .fault => s
    | .stopping =>
      let slew := lq p 44
      let safe := lSafe p
      let u := if slew = 0 then safe else clamp safe (l.u - slew) (l.u + slew)
      let s := loopOutput i p (s.setLoop i fun l => { l with u := u })
      if u = safe then (s.loopState i .off).finish .loopStop i stDone 0 else s
    | _ =>
      let valid := raw.filter fun x => decide (lq p 84 ≤ x) && decide (x ≤ lq p 88)
      match valid with
      | none =>
        let bad := l.bad + 1
        let s := s.setLoop i fun l => setFlag 4 { l with bad := bad }
        if byteAt p 66 ≤ bad then s.loopFault i 2
        else if l.fresh then s
        else
          let changed : Bool := decide (l.sp ≠ l.spUsed)
          let x := loopStep p l.y (s.loop i)
          let s := s.setLoop i fun l => { x.1 with bad := bad, spUsed := l.sp }
          if u16At p 64 ≤ x.1.fe then s.loopFault i 3 else loopTests i p x.2 changed (loopOutput i p s)
      | some rv =>
        let y := loopScale p rv
        let l1 := if l.fresh then loopBegin p y.1 l else l
        let changed : Bool := decide (l.sp ≠ l.spUsed)
        let x := loopStep p y.1 l1
        let l2 := if y.2 then setFlag 0 x.1 else x.1
        let s := s.setLoop i fun _ => { l2 with bad := 0, spUsed := l.sp }
        if u16At p 64 ≤ l2.fe then s.loopFault i 3 else loopTests i p x.2 changed (loopOutput i p s)

/-- A due step that did not complete in its tick (R290). -/
def loopSkip (i : Nat) (s : State) : State :=
  let run := (s.loop i).skipRun + 1
  let s := s.setLoop i fun l => setFlag 6 { l with skipRun := run, skips := satInc 16 l.skips }
  if 2 ≤ run then s.loopFault i 4 else s

/-- The node with an address. -/
def State.node (s : State) (addr : Nat) : Option RimNode := s.rim.nodes.find? fun n => n.addr == addr

/-- The 16-bit value at a byte of a node's fast-cycle data, of its slow data without a fast slot. -/
def RimNode.value (n : RimNode) (b : Nat) : Nat := u16At (if n.fast < 128 then n.inFast else n.inSlow) b

/-- The raw value of a loop's input (input-kinds table, R294): a RIM value that was not refreshed since the loop's
previous period is invalid. -/
def loopRaw (seen : Nat) (ain : List (BitVec 16)) (p : Bytes) (s : State) : Option Int :=
  let sel := lInSel p
  match lInKind p with
  | 1 => some ((ain.getD sel 0).toNat : Int)
  | 2 => match s.node sel with
    | some n => if n.refresh = seen then none else some (toSigned 16 (n.value (byteAt p 4)))
    | none => none
  | 3 =>
    let c := s.counter (ctrIdx sel)
    let faulted : Bool := if sel < 8 then (s.qe sel).fault != 0 else (s.se (sel - 16)).fault != 0
    if faulted || c.dirchg then none else some c.speed
  | 4 => if (s.loop sel).state = .fault then none else some (s.loop sel).u
  | _ => some (roundHalfUp (s.thm.zones.getD sel {}).tm 16)

/-- Temperatures, offset removed, of the valid thermistors of zone `z` (R307). -/
def validTemps (z : Nat) (s : State) : List Int :=
  (s.thm.ths.filter fun t => t.status == 1 && byteAt t.set 1 == z && byteAt t.set 0 != 0).map (·.temp)

/-- Ts of R305 from the valid temperatures. -/
def sensorMean (l : List Int) : Int := floorDiv (2 * l.foldl (· + ·) 0 + l.length) (2 * l.length)

/-- T_AMB in Q16.16 (R305). -/
def zAmb (p : Bytes) : Int := floorDiv (i16At p 40 * 65536) 10

/-- Tm is set to Ts, or to T_AMB when no thermistor is valid (R305). -/
def seedZone (z : Nat) (s : State) : State :=
  let l := validTemps z s
  { s with thm := { s.thm with zones := upd s.thm.zones z fun x => { x with
      tm := if l = [] then (match x.set with | some p => zAmb p * 65536 | none => 0) else sensorMean l * 65536 } } }

/-- A loop stops: mode 1 at once, mode 0 through STOPPING (R297, R301). -/
def stopLoop (i mode : Nat) (s : State) : State :=
  let st := (s.loop i).state
  let s := if (s.loop i).wait.any LoopCmd.isStart then
      (s.setLoop i fun l => { l with wait := l.wait.filter fun c => !c.isStart }).finish .loopStart i stFaulted 0x80
    else s
  if st = .off ∨ st = .fault then s
  else
    let s := if (s.loop i).startRun.isSome then s.finish .loopStart i stFaulted 0x80 else s
    let s := s.setLoop i fun l => { l with startRun := none, fresh := false }
    if mode = 1 then
      match (s.loop i).set with
      | some p => (loopOutput i p ((s.setLoop i fun l => { l with u := lSafe p }).loopState i .off)).finish .loopStop i stDone 0
      | none => s
    else s.loopState i .stopping

/-! ## Recorded commands wait for the next period (R302) -/

/-- A command joins those that the loop applies at its next period. -/
def State.loopWait (s : State) (i : Nat) (c : LoopCmd) : State := s.setLoop i fun l => { l with wait := l.wait ++ [c] }

/-- The state in which the commands that wait will leave the loop, for the checks of a command that follows them. -/
def Loop.soon (l : Loop) : LState :=
  if l.wait.any LoopCmd.isStart then .ramp
  else if l.state = .fault ∧ l.wait.contains .clear then .off
  else l.state

/-- LOOP_START applies: RAMP from OUT_SAFE, the first measurement still due (R296, R301); a heater zone's model is seeded
(R305). Under an inhibit that has come since, an HVPWM or HTR loop faults instead (R299). -/
def startLoop (i : Nat) (s : State) : State :=
  match (s.loop i).set with
  | none => s
  | some p =>
    if (s.loop i).state ≠ .off then s
    else if lDrives p && s.saf.inhibit then s.loopFault i 1
    else
      let s := (s.setLoop i fun l => { l with
        fresh := true, startRun := some 0, bad := 0, skipRun := 0, spUsed := l.sp, u := lSafe p }).loopState i .ramp
      if lOutKind p = 2 then seedZone (lOutSel p) s else s

/-- A recorded command applies (R301). -/
def runLoopCmd (i : Nat) (s : State) : LoopCmd → State
  | .start => startLoop i s
  | .stop mode => stopLoop i mode s
  | .sp v => s.setLoop i fun l => { l with sp := v }
  | .clear =>
    let s := s.setLoop i fun l => { l with flags := List.replicate 7 false }
    if (s.loop i).state = .fault then (s.setLoop i fun l => { l with fault := 0, bad := 0, fe := 0 }).loopState i .off
    else s

/-- A period of loop `i` begins in the present tick (R288). -/
def loopPhase (i : Nat) (s : State) : Bool := match (s.loop i).set with
  | some p => s.cle.tick % 2 ^ lK p == lPhase p
  | none => false

/-- Loop `i` is due in the present tick (R288). -/
def loopDue (i : Nat) (s : State) : Bool := loopPhase i s && (s.loop i).state != .off && (s.loop i).state != .fault

/-- The commands that wait apply at the start of a period (R302), and causes of the former one are behind (R299). -/
def beginLoop (i : Nat) (s : State) : State :=
  if loopPhase i s then
    (s.loop i).wait.foldl (runLoopCmd i) (s.setLoop i fun l => { l with wait := [], faultNew := false })
  else s

/-- CLE_LOAD.PEAK: the measured length of a tick joins the running second of 80,000 ticks; the waits in it are a free
value (assumption 3). -/
def measureTick (cost : Nat) (s : State) : State :=
  let n := max s.cle.peakRun (satN 16 (cost + freeBits .measured 12 90001 s))
  { s with cle := { s.cle with
    peak := if s.cle.secTicks = 79999 then n else s.cle.peak
    peakRun := if s.cle.secTicks = 79999 then 0 else n, secTicks := (s.cle.secTicks + 1) % 80000 } }

/-- A tick of the engine: the due loops in ascending order, those in `late` skipped (R288, R290). -/
def loopTick (ain : List (BitVec 16)) (late : List Nat) (s : State) : State :=
  let s0 := forEach (List.range 64) (fun s i => beginLoop i s) s
  let s1 := forEach (List.range 64) (fun s i =>
    if loopDue i s then
      if late.contains i then loopSkip i s
      else match (s.loop i).set with
        | some p =>
          let raw := loopRaw (s.loop i).rimSeen ain p s
          let seen := match s.node (lInSel p) with | some n => n.refresh | none => 0
          loopPeriod i raw (if lInKind p = 2 then s.setLoop i fun l => { l with rimSeen := seen } else s)
        | none => s
    else s) s0
  let ran := (List.range 64).filter fun i => loopDue i s0 && !late.contains i
  let cost := ran.foldl (fun a i => a + match (s.loop i).set with | some p => loopCost p | none => 0) 0
  controlTraffic (measureTick cost { s1 with cle := { s1.cle with
      tick := (s.cle.tick + 1) % 8192, ovr := if late.any (fun i => loopDue i s0) then satInc 32 s1.cle.ovr else s1.cle.ovr } })

/-! ## Commands of group 0x0B -/

/-- LOOP_GET (R301). -/
def loopGetSpec : CmdSpec where
  viewer := true
  target := fun c _ => c.tgt < 64
  size := fun _ _ => 96
  ans := fun c s => ansResult ((s.loop c.tgt).set.getD (zeros 96))

/-- LOOP_LOAD (R301). -/
def loopLoadSpec : CmdSpec where
  viewer := true
  ans := fun _ s =>
    let ds := descriptors 64 none s
    ansResult (le 2 (worstTick ds) ++ le 1 ds.length ++ zeros 1)

/-- LOOP_SET (R289, R301). -/
def loopSetSpec : CmdSpec where
  roles := [.service]
  lenOk := fun c _ => c.len == 96
  target := fun c _ => c.tgt < 64
  pre := fun c s => failIf (!((s.loop c.tgt).soon == .off || (s.loop c.tgt).soon == .fault)) stDeniedState 0
  post := fun c s =>
    let p := loopFill c.pl
    orElse (firstFault (loopFaults c.tgt p s))
      (failIf (decide (2200 < worstTick (descriptors c.tgt (some p) s))) stBadParam 0xFFFE)
  eff := fun c s => loopOutput c.tgt (loopFill c.pl) (s.setLoop c.tgt fun l => { l with
    set := some (loopFill c.pl), u := lSafe (loopFill c.pl), outMax := none })

/-- The loop is the target of a LOOP_SP output (R292). -/
def spTarget (i : Nat) (s : State) : Bool := outTaken 3 i 64 s

/-- LOOP_SP (R301), applied at the loop's next period (R302); a loop without a descriptor has none and stores it at once. -/
def loopSpSpec : CmdSpec where
  roles := [.operator, .service]
  states := inStates runStates
  lenOk := fun c _ => c.len == 4
  target := fun c _ => c.tgt < 64
  pre := fun c s => failIf (spTarget c.tgt s) stDeniedState 0
  eff := fun c s => if (s.loop c.tgt).set.isSome then s.loopWait c.tgt (.sp (i32At c.pl 0))
    else s.setLoop c.tgt fun l => { l with sp := i32At c.pl 0 }
  faulted := fun c s => (s.loop c.tgt).soon == .fault

/-- LOOP_START (R296, R301), applied at the loop's next period (R302). -/
def loopStartSpec : CmdSpec where
  roles := [.operator, .service]
  states := inStates runStates
  target := fun c _ => c.tgt < 64
  pre := fun c s => failIf ((s.loop c.tgt).soon != .off || (match (s.loop c.tgt).set with
    | none => true
    | some p => lDrives p && s.saf.inhibit)) stDeniedState 0
  eff := fun c s => s.loopWait c.tgt .start
  faulted := fun c s => (s.loop c.tgt).soon == .fault
  ans := fun _ _ => ansAccepted
  abort := fun c s =>
    let s := s.setLoop c.tgt fun l => { l with startRun := none, wait := l.wait.filter fun c => !c.isStart }
    if (s.loop c.tgt).state = .off ∨ (s.loop c.tgt).state = .fault then s else s.loopWait c.tgt (.stop 0)

/-- A loop that rests: in OFF or FAULT, with no start that waits. -/
def loopRests (i : Nat) (s : State) : Bool := (s.loop i).soon == .off || (s.loop i).soon == .fault

/-- LOOP_STOP (R301), applied at the loop's next period (R302). -/
def loopStopSpec : CmdSpec where
  roles := [.operator, .service]
  lenOk := fun c _ => c.len == 1
  target := fun c _ => c.tgt < 64
  post := fun c _ => failIf (decide (1 < c.u8 0)) stBadParam 0
  eff := fun c s => if loopRests c.tgt s then s else s.loopWait c.tgt (.stop (c.u8 0))
  ans := fun c s => if loopRests c.tgt s then ansAlready else ansAccepted

/-- LOOP_CLEAR (R301): the sticky flags clear, and FAULT becomes OFF, at the loop's next period (R302). -/
def loopClearSpec : CmdSpec where
  roles := [.service]
  target := fun c _ => c.tgt < 64
  pre := fun c s => failIf ((s.loop c.tgt).soon == .fault && (s.loop c.tgt).fault == 1 && s.saf.inhibit) stDeniedState 0
  eff := fun c s => if (s.loop c.tgt).set.isSome then s.loopWait c.tgt .clear else runLoopCmd c.tgt s .clear

end Sys2Proof.Machine
end

