-- ==== Sys2Proof/Machine/Thermal.lean ====
section
/-!
DEFINITION. Fuser and die thermal management (chapter 14): heater firing, the zone model, thermistors, throttling, the
always-on latch, the die sensors, and the commands of group 0x0C.
-/
namespace Sys2Proof.Machine

/-! ## Zones and their settings -/

/-- Zone `z`. -/
def State.zone (s : State) (z : Nat) : Zone := s.thm.zones.getD z {}
/-- Zone `z` is replaced by `f` of itself. -/
def State.setZone (s : State) (z : Nat) (f : Zone → Zone) : State :=
  { s with thm := { s.thm with zones := upd s.thm.zones z f } }
/-- Thermistor `j`. -/
def State.th (s : State) (j : Nat) : Th := s.thm.ths.getD j {}
/-- Thermistor `j` is replaced by `f` of itself. -/
def State.setTh (s : State) (j : Nat) (f : Th → Th) : State := { s with thm := { s.thm with ths := upd s.thm.ths j f } }

/-- ZONE_SET payload of a zone, zeros before the first ZONE_SET. -/
def Zone.pay (z : Zone) : Bytes := z.set.getD (zeros 64)
/-- P_RATED, 0.1 W. -/
def zRated (p : Bytes) : Nat := u16At p 4
/-- P_MAX, 0.1 W. -/
def zMax (p : Bytes) : Nat := u16At p 6
/-- T_OP_LO, T_OP_HI, T_THR, T_SHUT by index, 0.1 °C. -/
def zThr (p : Bytes) (i : Nat) : Nat := u16At p (12 + 2 * i)

/-- A Q16.16 temperature is at or above a limit in 0.1 °C. -/
def atLeast16 (t lim : Int) : Bool := decide (lim * 65536 ≤ t * 10)
/-- Tm, in 2^-32 °C, is at or above a limit in 0.1 °C. -/
def atLeast32 (t lim : Int) : Bool := decide (lim * 4294967296 ≤ t * 10)

/-- Class of a zone fault cause (zone fault-cause table). -/
def zoneClass (cause : Nat) : Cls := if cause = 4 ∨ cause = 7 then .cutoff else .halt

/-- A zone fault: the first cause is kept, the lowest code within one model step wins, and OVERTEMP replaces any
cause; EV176 pulses, HTRz goes low, and the class is raised (R312). -/
def State.zoneFault (s : State) (z cause : Nat) : State :=
  let f (x : Zone) : Zone := { x with
    fault := if x.fault = 0 ∨ cause = 7 ∨ (x.faultNew ∧ x.fault ≠ 7 ∧ cause < x.fault) then cause else x.fault
    faultNew := decide (x.fault = 0) || x.faultNew, fire := false, fireWas := false }
  ((s.setZone z f).pulse 176 (z + cause * 2 ^ 8)).raise (zoneClass cause) 176 z cause

/-! ## Heater firing (R303) -/

/-- The loop whose HTR output names a zone. -/
def feedingLoop (z : Nat) (s : State) : Option Nat :=
  (List.range 64).find? fun i => match (s.loop i).set with
    | some p => lOutKind p == 2 && lOutSel p == z
    | none => false

/-- A loop state in which its output is a power request (R303). -/
def LState.feeds : LState → Bool
  | .ramp | .settle | .regulating => true
  | _ => false

/-- P_req of a zone, 0.1 W (R303). -/
def powerRequest (z : Nat) (s : State) : Int := match feedingLoop z s with
  | some i => if (s.loop i).state.feeds then sar ((s.loop i).u * 10) 16 else 0
  | none => 0

/-- P_LIM is written as the effective OUT_MAX of the feeding loop (R303). -/
def writeOutMax (z : Nat) (s : State) : State := match feedingLoop z s with
  | some i => s.setLoop i fun l => { l with
      outMax := if (s.zone z).enabled then some (floorDiv ((s.zone z).pLim * 65536) 10) else none }
  | none => s

/-- A zero crossing for one zone (R303); HTRz stays low in a fault, under the inhibit and while the latch holds. -/
def zoneCross (z : Nat) (s : State) : State :=
  let x := s.zone z
  let rated := zRated x.pay
  let cmd := (clamp (powerRequest z s) 0 (min x.pLim rated)).toNat
  let acc := x.acc + cmd
  let fire : Bool := decide (rated ≤ acc)
  let on : Bool := fire && x.fault == 0 && !s.saf.inhibit && s.thm.latch.isNone
  s.setZone z fun x => { x with
    zcLost := false, acc := if fire then acc - rated else acc, fireWas := x.fire, crossAt := s.io.time
    lifeOn := if x.fire then x.lifeOn + (s.io.time - x.crossAt) else x.lifeOn
    fire := on, lifeSwitch := if on == x.fire then x.lifeSwitch else x.lifeSwitch + 1 }

/-- ZC_DELAY in ns (R303). -/
def zcDelayNs (p : Bytes) : Nat := 1000 * u16At p 2

/-- Level of HTRz: the value of fire from ZC_DELAY after the crossing until ZC_DELAY after the next one, low in a fault, under
the inhibit, while the latch holds, and in a controller whose outputs are not its own (R303, R312, R458). -/
def htrOut (z : Nat) (s : State) : Bool :=
  let x := s.zone z
  let on : Bool := if s.io.time < x.crossAt + zcDelayNs x.pay then x.fireWas else x.fire
  on && x.enabled && x.fault == 0 && !s.saf.inhibit && s.thm.latch.isNone && s.outputsOwned

/-- An edge of ZC input `zc`: every enabled zone that selects it crosses (R303). -/
def zeroCross (zc : Nat) (s : State) : State :=
  forEach (List.range 8) (fun s z =>
    if (s.zone z).enabled && (fld (byteAt (s.zone z).pay 0) 1 1 == zc) then zoneCross z s else s) s

/-- A power value of a zone's node arrives (R304). -/
def zonePower (z v : Nat) (s : State) : State :=
  s.setZone z fun x => { x with pSum := x.pSum + v, pCnt := x.pCnt + 1, powerLost := false }

/-! ## The always-on latch (R311, R315) -/

/-- The latch trips: HTR0 to HTR7 low, the fuser relay rail off, the record in MRAM; the first trip holds. -/
def tripLatch (cause src sensor : Nat) (temp : Int) (s : State) : State :=
  let slot := s.boot.settings.getD 13 10
  let s := if (s.pwr.rails.getD slot {}).en then s.pulse 225 slot else s
  { s with
    thm := { s.thm with
      zones := s.thm.zones.map fun x => { x with fire := false, fireWas := false }
      latch := match s.thm.latch with
        | some l => some l
        | none => some { cause := cause, src := src, sensor := sensor, temp := temp, time := s.io.time } }
    pwr := { s.pwr with rails := upd s.pwr.rails slot fun r => { r with en := false, qualified := false, pg := false } } }

/-- OVERTEMP of a zone (R311): `sensor` is the thermistor, 0xFF the model. -/
def overtemp (z sensor : Nat) (temp : Int) (s : State) : State := (tripLatch 7 z sensor temp s).zoneFault z 7

/-! ## The model (R305) -/

/-- `tmul` of chapter 14. -/
def tmul (a k : Int) : Int := roundHalfUp (a * k) 32

/-- Prediction and correction of one step: Tp before and after the sensors, and Tm. -/
def modelTm (p : Bytes) (tm : Int) (power : Nat) (load : Bool) (ts : Option Int) : Int × Int :=
  let q (i : Nat) : Int := (u32At p i : Int)
  let da := clamp (tm - zAmb p * 65536) (-(576 * 4294967296)) (576 * 4294967296)
  let tp := tm + power * q 24 - tmul da (q 28) - (if load then tmul da (q 32) else 0)
  let tp2 := match ts with
    | some t => tp + tmul (clamp (t * 65536 - tp) (-(64 * 4294967296)) (64 * 4294967296)) (q 36)
    | none => tp
  (tp, clamp tp2 (-(64 * 4294967296)) (511 * 4294967296))

/-- Every temperature of the zone, model or sensor, satisfies `f` on the model and `g` on the sensors. -/
def anyTemp (z : Nat) (lim : Int) (s : State) : Bool :=
  atLeast32 (s.zone z).tm lim
    || s.thm.ths.any fun t => byteAt t.set 0 != 0 && byteAt t.set 1 == z && (t.status == 1 || t.status == 2) && atLeast16 t.temp lim

/-- T_THR less a number of FAST_MARGINs, 0.1 °C. -/
def fastLimit (p : Bytes) (n : Nat) : Int := (zThr p 2 : Int) - 10 * n * byteAt p 20

/-- FAST is set when a temperature reaches T_THR - FAST_MARGIN (R306). -/
def fastCheck (z : Nat) (s : State) : State :=
  if !(s.zone z).fast && anyTemp z (fastLimit (s.zone z).pay 1) s then
    (s.setZone z fun x => { x with fast := true }).pulse 179 (z + 2 ^ 8)
  else s

/-- One step of an enabled zone's model (R304, R305, R311). -/
def modelStep (z : Nat) (load : Bool) (s : State) : State :=
  let x := s.zone z
  if !x.enabled then s
  else
    let power := if x.pCnt = 0 then x.p else x.pSum / x.pCnt
    let temps := validTemps z s
    let ts := if temps = [] then none else some (sensorMean temps)
    let m := modelTm (Zone.pay x) x.tm power load ts
    let hot := atLeast32 m.2 (zThr (Zone.pay x) 3)
    let s := writeOutMax z (s.setZone z fun x => { x with
      tm := m.2, tp := m.1, ts := ts.getD x.ts, p := power, pSum := 0, pCnt := 0, stalled := false, faultNew := false
      shutRun := if hot then min 2 (x.shutRun + 1) else 0 })
    let s := fastCheck z s
    if hot && (s.zone z).shutRun == 2 && (s.zone z).fault != 7 then overtemp z 0xFF (roundHalfUp m.2 16) s else s

/-! ## Thermistors (R306, R307) -/

/-- Conversion of R306 by a curve of 33 temperatures. -/
def curveTemp (c : List Int) (raw : Nat) : Int :=
  let i := min (raw / 2048) 31
  c.getD i 0 + roundHalfUp ((c.getD (i + 1) 0 - c.getD i 0) * ((raw : Int) - 2048 * i)) 11

/-- OFS of a thermistor in Q16.16. -/
def thOfs (p : Bytes) : Int := floorDiv (i16At p 6 * 65536) 10

/-- Insertion of a number into a rising list. -/
def insertInt (x : Int) : List Int → List Int
  | [] => [x]
  | y :: ys => if x ≤ y then x :: y :: ys else y :: insertInt x ys
/-- A list in rising order. -/
def sortInt (l : List Int) : List Int := l.foldl (fun a x => insertInt x a) []
/-- Twice the median; an even count takes the mean of the two middle values (assumption 20). -/
def median2 (l : List Int) : Int :=
  let s := sortInt l
  if l.length % 2 = 1 then 2 * s.getD (l.length / 2) 0 else s.getD (l.length / 2 - 1) 0 + s.getD (l.length / 2) 0

/-- Indexes of the valid thermistors of zones `lo` to `hi`. -/
def validOf (lo hi : Nat) (s : State) : List Nat :=
  (List.range 24).filter fun j => (s.th j).status == 1 && lo ≤ byteAt (s.th j).set 1 && byteAt (s.th j).set 1 ≤ hi

/-- |a - b| of two Q16.16 temperatures exceeds a tolerance in 0.1 °C. -/
def beyond (a b : Int) (tol : Nat) : Bool := decide ((tol : Int) * 65536 < ((a - b).natAbs : Int) * 10)

/-- The sensor differs from Tp by more than TOL_MODEL, with the direction: 1 above, -1 below, 0 within. -/
def modelSide (p : Bytes) (tp t : Int) : Int :=
  let d := t * 65536 - tp
  if (u16At p 44 : Int) * 4294967296 < (d.natAbs : Int) * 10 then (if d < 0 then -1 else 1) else 0

/-- A temperature `t` of thermistor `j` disagrees (R307). -/
def disagrees (j : Nat) (t : Int) (s : State) : Bool :=
  let z := byteAt (s.th j).set 1
  let p := Zone.pay (s.zone z)
  let others := ((validOf (z - 1) (z + 1) s).filter (· != j)).map fun k => (s.th k).temp
  modelSide p (s.zone z).tp t != 0
    && (decide (others.length < 2) || decide ((u16At p 46 : Int) * 131072 < ((2 * t - median2 others).natAbs : Int) * 10))

/-- Every valid thermistor of the zone differs from Tp on one side and they agree among themselves (R307). -/
def zoneDiverges (z : Nat) (s : State) : Bool :=
  let p := Zone.pay (s.zone z)
  let l := (validOf z z s).map fun k => (s.th k).temp
  let side := match l with
    | [] => 0
    | t :: _ => modelSide p (s.zone z).tp t
  side != 0 && l.all (fun t => modelSide p (s.zone z).tp t == side)
    && l.all fun a => l.all fun b => !beyond a b (u16At p 46)

/-- A thermistor's status changes: EV178 and a record of origin 0x08 (R307). -/
def thStatus (j st : Nat) (s : State) : State :=
  let old := (s.th j).status
  if old = st then s
  else
    let s := s.setTh j fun t => { t with status := st, dis := 0, goodRun := 0 }
    if old = 0 then s else (s.pulse 178 (j + st * 2 ^ 8)).protect 178 j st old st

/-- Classification of an electrically good sample of temperature `t` in an enabled zone (R307). -/
def classify (j : Nat) (t : Int) (s : State) : State :=
  let z := byteAt (s.th j).set 1
  let n := byteAt (Zone.pay (s.zone z)) 48
  let bad := disagrees j t s
  if (s.th j).status = 1 then
    if zoneDiverges z s then
      let run := (s.zone z).divRun + 1
      if n ≤ run then
        ((seedZone z s).setZone z fun x => { x with divRun := 0 }).zoneFault z 6
      else s.setZone z fun x => { x with divRun := run }
    else
      let s := s.setZone z fun x => { x with divRun := 0 }
      if bad then
        let d := satInc 8 (s.th j).dis
        let s := s.setTh j fun t => { t with dis := d }
        if n ≤ d then thStatus j 2 s else s
      else s.setTh j fun t => { t with dis := 0 }
  else if bad then s.setTh j fun t => { t with goodRun := 0 }
  else if 100 ≤ (s.th j).goodRun + 1 then thStatus j 1 s
  else s.setTh j fun t => { t with goodRun := t.goodRun + 1 }

/-- A sample of thermistor `j`, `rawIn` from its AIN input or else its node's
published value (R306, R307, R311). A curve that was never loaded leaves the
temperature open. -/
def thermistorSample (j : Nat) (rawIn : Nat) (s : State) : State :=
  let p := (s.th j).set
  if byteAt p 0 = 0 then s
  else
    let z := byteAt p 1
    let raw := if byteAt p 0 = 2 then (toSigned 16 (match s.node (u16At p 2) with
        | some n => n.value (byteAt p 4)
        | none => 0) + 32768).toNat
      else rawIn
    let curve := s.thm.curves.getD (byteAt p 5) []
    let t := if curve = [] then freeVal .thermal 0 s else curveTemp curve raw
    let s := if curve = [] then advanceFree s else s
    let x := s.zone z
    let hot : Bool := x.set.isSome && (s.th j).status != 3 && atLeast16 t (zThr (Zone.pay x) 3)
    let s := s.setTh j fun h => { h with
      temp := t - thOfs p, shutRun := if hot then min 2 (h.shutRun + 1) else 0 }
    let s := if hot && (s.th j).shutRun == 2 then overtemp z j t s else s
    let good : Bool := decide (u16At p 8 ≤ raw) && decide (raw ≤ u16At p 10)
    let s :=
      if !good then thStatus j 3 (s.setTh j fun h => { h with goodRun := 0 })
      else
        let s := if (s.th j).status = 0 then thStatus j 1 s else s
        if x.enabled then classify j (t - thOfs p) s
        else if (s.th j).status = 3 then
          (if 100 ≤ (s.th j).goodRun + 1 then thStatus j 1 s else s.setTh j fun h => { h with goodRun := h.goodRun + 1 })
        else s
    if x.enabled then fastCheck z s else s

/-- FAST ends after 1 s below T_THR - 2 x FAST_MARGIN (R306). -/
def fastEnd (z : Nat) (s : State) : State :=
  if (s.zone z).fast && !anyTemp z (fastLimit (s.zone z).pay 2) s then s.setZone z fun x => { x with fast := false } else s

/-! ## Supervision (R304, R308) -/

/-- No node value for 20 ms. -/
def powerLost (z : Nat) (s : State) : State :=
  if (s.zone z).enabled then (s.setZone z fun x => { x with powerLost := true }).zoneFault z 1 else s
/-- No edge on the zone's ZC input for 15 ms. -/
def zcLost (z : Nat) (s : State) : State :=
  if (s.zone z).enabled then (s.setZone z fun x => { x with zcLost := true }).zoneFault z 2 else s
/-- Fired in half the half-cycles of 2 s or more with too little measured power. -/
def heaterOpen (z : Nat) (s : State) : State := if (s.zone z).enabled then s.zoneFault z 3 else s
/-- Not fired for 200 ms while P exceeds P_RATED / 16. -/
def relayStuck (z : Nat) (s : State) : State :=
  if (s.zone z).enabled && !(s.zone z).fire && decide (zRated (Zone.pay (s.zone z)) < 16 * (s.zone z).p) then s.zoneFault z 4
  else s
/-- The model was not updated for 10 ms: HTR0 to HTR7 go low in hardware. -/
def modelStall (z : Nat) (s : State) : State :=
  if (s.zone z).enabled then
    let s : State := { s with thm := { s.thm with zones := s.thm.zones.map fun x => { x with fire := false, fireWas := false } } }
    (s.setZone z fun x => { x with stalled := true }).zoneFault z 8
  else s
/-- The zone has been MODEL_ONLY for MODEL_ONLY_MAX (R308). -/
def modelOnlyTimeout (z : Nat) (s : State) : State :=
  if (s.zone z).enabled && (validOf z z s).isEmpty then s.zoneFault z 5 else s

/-! ## Throttling and the token (R309, R310) -/

/-- THR_DWELL ends (R309). -/
def throttle (z : Nat) (s : State) : State :=
  let x := s.zone z
  let p := Zone.pay x
  let pm := zMax p
  let step := pm * byteAt p 11 / 100
  let lim :=
    if anyTemp z (zThr p 2) s then x.pLim - step
    else if !anyTemp z ((zThr p 2 : Int) - 10 * byteAt p 21) s then min pm (x.pLim + step)
    else x.pLim
  if !x.enabled || lim == x.pLim then s
  else
    let edge : Bool := x.pLim == pm || lim == pm
    let s := writeOutMax z (s.setZone z fun x => { x with
      pLim := lim, steps := if edge then x.steps else satInc 16 x.steps })
    let s := s.pulse 177 (z + b2n (decide (lim < pm)) * 2 ^ 8)
    if edge then s.protect 177 z 0 x.pLim lim else s

/-- ZNz_STATE.STATE. -/
def zoneStateCode (z : Nat) (s : State) : Nat :=
  let x := s.zone z
  if s.thm.latch.isSome then 4
  else if x.fault ≠ 0 then 3
  else if !x.enabled then 0
  else if (validOf z z s).isEmpty then 2 else 1

/-- The zone meets R310. -/
def zoneMeets (z : Nat) (s : State) : Bool :=
  let x := s.zone z
  let p := Zone.pay x
  let st := zoneStateCode z s
  let t := roundHalfUp x.tm 16
  (st == 1 || (st == 2 && byteAt p 1 == 0))
    && (match feedingLoop z s with | some i => (s.loop i).state.feeds | none => false)
    && decide (byteAt p 1 ≤ (validOf z z s).length)
    && atLeast16 t (zThr p 0) && decide (t * 10 ≤ (zThr p 1 : Int) * 65536)
    && x.pLim == zMax p

/-- The FUSER readiness token (R310); withheld while the fuser relay rail was skipped (R430). -/
def fuserToken (s : State) : Bool :=
  !s.pwr.fuserSkipped && (List.range 8).all fun z => !(s.zone z).enabled || zoneMeets z s

/-! ## The die (R313 to R315) -/

/-- T_die, the largest of the four sensors. -/
def tDie (s : State) : Int := s.thm.die.foldl max (s.thm.die.getD 0 0)

/-- A read of DS0 to DS3, 0.25 °C. -/
def dieRead (d : List Int) (s : State) : State :=
  let s := { s with thm := { s.thm with
    die := d, dieRun := (List.range 4).map fun i => if 500 ≤ d.getD i 0 then min 2 (s.thm.dieRun.getD i 0 + 1) else 0 } }
  let dev (i : Nat) : Bool :=
    let m := (sortInt (d.eraseIdx i)).getD 1 0
    decide (40 < (d.getD i 0 - m).natAbs)
  let s := forEach (List.range 4) (fun s i =>
    let was := s.thm.dieDev.getD i false
    let s := { s with thm := { s.thm with dieDev := upd s.thm.dieDev i fun _ => dev i } }
    if dev i && !was then
      { s with thm := { s.thm with dieFault := if s.thm.dieFault = 0 then 0x10 else s.thm.dieFault } }.raise .note 180 i 0x10
    else s) s
  forEach (List.range 4) (fun s i =>
    if s.thm.dieRun.getD i 0 = 2 ∧ s.thm.latch = none then
      (tripLatch 0x12 i (freeBits .thermal 8 0 s) (d.getD i 0 * 16384) (advanceFree s)).raise .cutoff 180 i 0x12
    else s) s

/-- V_PERM falls or rises by DIE_STEP (R314). -/
def dieThrottle (s : State) : State :=
  let thr : Int := byteAt s.thm.dieSet 0
  let step := 16000 * byteAt s.thm.dieSet 1
  let v := s.thm.vPerm
  let v' := if thr * 4 ≤ tDie s then max 200000 (v - step) else if tDie s < (thr - 5) * 4 then min 1600000 (v + step) else v
  if v' = v then s else ({ s with thm := { s.thm with vPerm := v' } }.pulse 180 0).protect 180 0 0 v v'

/-- T_die above 110 °C for 1 s (R315). -/
def dieHot (s : State) : State :=
  if 440 < tDie s then
    { s with thm := { s.thm with dieFault := if s.thm.dieFault = 0 then 0x11 else s.thm.dieFault } }.raise .halt 180 0 0x11
  else s

/-! ## Commands of group 0x0C -/

/-- Payload fields of ZONE_SET with defaults and ranges. -/
def zoneFields : List Fld :=
  [⟨1, 1, 0, 3, 1⟩, ⟨2, 2, 0, 2000, 200⟩, ⟨4, 2, 100, 65535, 0⟩, ⟨8, 2, 0, 1023, 0⟩, ⟨10, 1, 0, 14, 0⟩, ⟨11, 1, 1, 50, 12⟩,
   ⟨20, 1, 1, 50, 10⟩, ⟨21, 1, 1, 30, 5⟩, ⟨22, 2, 50, 10000, 500⟩, ⟨24, 4, 0, 1048576, 0⟩, ⟨28, 4, 0, 1048576, 0⟩,
   ⟨32, 4, 0, 1048576, 0⟩, ⟨36, 4, 0, 16777216, 0⟩, ⟨42, 2, 1, 600, 60⟩, ⟨44, 2, 10, 500, 80⟩, ⟨46, 2, 10, 500, 50⟩,
   ⟨48, 1, 1, 50, 5⟩, ⟨49, 2, 5, 100, 20⟩, ⟨51, 1, 1, 20, 2⟩]

/-- Payload fields of DIE_SET. -/
def dieFields : List Fld := [⟨0, 1, 80, 108, 100⟩, ⟨1, 1, 5, 25, 10⟩, ⟨2, 1, 1, 60, 10⟩, ⟨3, 1, 0, 0, 0⟩, ⟨4, 2, 10, 600, 60⟩,
  ⟨6, 2, 0, 0, 0⟩]

/-- Faulty fields of a ZONE_SET payload whose defaults are taken (R316). -/
def zoneFaults (p : Bytes) : List (Bool × Nat) :=
  fldFaults zoneFields p ++
    [(decide (3 < byteAt p 0), 0), (outside (zMax p) 1 (zRated p), 6), (byteAt p 10 % 2 != 0, 10),
     (decide (zThr p 1 ≤ zThr p 0), 14), (decide (zThr p 2 ≤ zThr p 1), 16),
     (decide (zThr p 3 ≤ zThr p 2) || decide (2600 < zThr p 3), 18), (!zeroAt p 52 12, 52)]

/-- ZONE_SET (R316): enabling seeds Tm and starts P_LIM at P_MAX (R305, R309). -/
def zoneSetSpec : CmdSpec where
  roles := [.service]
  lenOk := fun c _ => c.len == 64
  target := fun c _ => c.tgt < 8
  pre := fun c s => failIf ((s.zone c.tgt).enabled && bit (c.u8 0) 0) stDeniedState 0
  post := fun c _ => firstFault (zoneFaults (fillDefaults zoneFields c.pl))
  eff := fun c s =>
    let p := fillDefaults zoneFields c.pl
    let on := bit (c.u8 0) 0
    let s := s.setZone c.tgt fun x => { x with
      set := some p, enabled := on, fire := false, fireWas := false, acc := 0, pLim := zMax p, pSum := 0, pCnt := 0, shutRun := 0, divRun := 0
      fast := false, powerLost := false, zcLost := false, stalled := false }
    let s := if on then seedZone c.tgt s else s
    let s := if on then s.setZone c.tgt fun x => { x with tp := x.tm } else s
    writeOutMax c.tgt s

/-- TH_SET (R316). -/
def thSetSpec : CmdSpec where
  roles := [.service]
  lenOk := fun c _ => c.len == 16
  target := fun c _ => c.tgt < 24
  pre := fun c s =>
    let old := (s.th c.tgt).set
    failIf ((byteAt old 0 != 0 && (s.zone (byteAt old 1)).enabled) || (c.u8 0 != 0 && (s.zone (c.u8 1)).enabled)) stDeniedState 0
  post := fun c s =>
    let src := c.u8 0
    let n := c.u16 2
    badField
      [(decide (2 < src), 0), (decide (7 < c.u8 1), 1),
       ((src == 1 && (decide (63 < n) || ainFunction n c.tgt s || ainLoop n 64 s)) || (src == 2 && decide (1023 < n)), 2),
       (decide (14 < c.u8 4), 4), (decide (3 < c.u8 5), 5), (decide (c.u16 10 < c.u16 8), 10), (!zeroAt c.pl 12 4, 12)]
  eff := fun c s => s.setTh c.tgt fun _ => { set := c.pl }

/-- Offset of the first temperature of a curve that breaks its strict order, none where it holds (R306). -/
def curveBreak (l : List Int) : Option Nat :=
  let up : Bool := decide (l.getD 0 0 < l.getD 1 0)
  (List.range 32).find? fun i =>
    if up then decide (l.getD (i + 1) 0 ≤ l.getD i 0) else decide (l.getD i 0 ≤ l.getD (i + 1) 0)

/-- C[0..32] of a CURVE_LOAD payload. -/
def curveOf (p : Bytes) : List Int := (List.range 33).map fun i => i32At p (4 * i)

/-- CURVE_LOAD (R316). -/
def curveLoadSpec : CmdSpec where
  roles := [.service]
  lenOk := fun c _ => c.len == 132
  target := fun c _ => c.tgt < 4
  pre := fun c s => failIf (s.thm.ths.any fun t =>
    byteAt t.set 0 != 0 && byteAt t.set 5 == c.tgt && (s.zone (byteAt t.set 1)).enabled) stDeniedState 0
  post := fun c _ => (curveBreak (curveOf c.pl)).map fun i => (stBadParam, 4 * (i + 1))
  eff := fun c s => { s with thm := { s.thm with curves := upd s.thm.curves c.tgt fun _ => curveOf c.pl } }

/-- DIE_SET. -/
def dieSetSpec : CmdSpec where
  roles := [.service]
  lenOk := fun c _ => c.len == 8
  post := fun c _ => firstFault (fldFaults dieFields (fillDefaults dieFields c.pl))
  eff := fun c s => { s with thm := { s.thm with dieSet := fillDefaults dieFields c.pl } }

/-- The payload that THERMAL_GET returns for a zone: before its first ZONE_SET the stated defaults (R7). -/
def zoneStored (z : Zone) : Bytes := z.set.getD (fillDefaults zoneFields (zeros 64))

/-- THERMAL_GET. -/
def thermalGetSpec : CmdSpec where
  viewer := true
  target := fun c _ => c.tgt < 8 || c.tgt == 16 || (32 ≤ c.tgt && c.tgt < 56)
  size := fun c _ => if c.tgt < 8 then 64 else if c.tgt = 16 then 8 else 16
  ans := fun c s => ansResult (if c.tgt < 8 then zoneStored (s.zone c.tgt) else if c.tgt = 16 then s.thm.dieSet else (s.th (c.tgt - 32)).set)

/-- The recorded cause of a zone persists (R312). -/
def zoneCauseHolds (z : Nat) (s : State) : Bool :=
  let x := s.zone z
  match x.fault with
  | 1 => x.powerLost
  | 2 => x.zcLost
  | 4 => decide (zRated (Zone.pay x) < 16 * x.p)
  | 5 => (validOf z z s).isEmpty
  | 7 => true
  | 8 => x.stalled
  | _ => false

/-- A cause of the die persists. -/
def dieCauseHolds (s : State) : Bool := (s.thm.dieFault == 0x10 && s.thm.dieDev.any id) || (s.thm.dieFault == 0x11 && decide (440 < tDie s))

/-- THERMAL_CLEAR (R312, R316). -/
def thermalClearSpec : CmdSpec where
  roles := [.service]
  target := fun c _ => c.tgt < 8 || c.tgt == 16
  pre := fun c s => failIf (s.thm.latch.isSome || (if c.tgt = 16 then dieCauseHolds s else zoneCauseHolds c.tgt s)) stDeniedState 0
  eff := fun c s =>
    if c.tgt = 16 then { s with thm := { s.thm with dieFault := 0 } } else s.setZone c.tgt fun x => { x with fault := 0, faultNew := false }
  ans := fun c s =>
    if (if c.tgt = 16 then s.thm.dieFault else (s.zone c.tgt).fault) = 0 then ansAlready else ansDone

end Sys2Proof.Machine
end

