-- ==== Sys2Proof/Machine/Gate.lean ====
section
/-!
DEFINITION. The launch gate (chapter 09): admission, launch, the commit point, what follows it, token withdrawal and
SPEED_HOLD.
-/
namespace Sys2Proof.Machine

/-! ## Conversions of R205 -/

/-- 0.1 mm to 1/16 line, rounded up. -/
def len16 (x : Nat) : Nat := ceilDivN (x * 38400) 254
/-- GTOL16. -/
def gtol16 (s : State) : Nat := len16 (u16At (pathB s) 2)
/-- GAP16. -/
def gap16 (s : State) : Nat := len16 (u16At (pathB s) 4)
/-- SPEED_STEP, %. -/
def speedStepOf (s : State) : Nat := byteAt (pathB s) 6
/-- FEED16. -/
def feed16 (s : State) : Nat := u32At (pathB s) 8
/-- DIVERT16. -/
def divert16 (s : State) : Nat := u32At (pathB s) 12
/-- DIST16_s. -/
def dist16 (st : Nat) (s : State) : Nat := u32At (pathB s) (16 + 4 * st)
/-- DUPLEX16. -/
def duplex16 (s : State) : Nat := u32At (pathB s) 36

/-! ## Tokens (R196, R205, R298, R310) -/

/-- The stations that a sheet images. -/
def Sheet.stations (x : Sheet) : List Nat := (List.range 5).filter fun i => x.sides.any fun r => r.station == i

/-- STATION_s: every enabled lane UP, facets identified, the station in service (R14, R172, R188); a STANDBY holds its
lanes on IDLE and computes sheet states alike (R458). -/
def stationToken (i : Nat) (s : State) : Bool :=
  let x := s.stn i
  (s.shadow || (List.range 4).all (fun m => !bit x.laneMask m || (s.lane i m).state == .up)) && identOk i s && !x.outOfService

/-- The HV token for a set of stations (R298). -/
def hvToken (stations : List Nat) (s : State) : Bool := s.cle.lps.all fun l => match l.set with
  | some p => !(stations.any fun i => bit (lStations p) i) || l.state == .regulating
  | none => true

/-- Code of the first token that a sheet on these stations lacks (R205), its own ledger unit being reserved. -/
def tokenFail (stations : List Nat) (s : State) : Option Nat := firstCode [
  (stations.any fun i => !polyToken (polyOf i) s, 0x18), (stations.any fun i => !stationToken i s, 0x19),
  (!hvToken stations s, 0x1A), (!fuserToken s, 0x1B), (!ledgerToken s, 0x1C)]

/-! ## Intervals (R205) -/

/-- A belt interval of a resource: 0 the path, 1 + s the line store of station s. -/
structure Ival where
  res : Nat
  lo : Int
  hi : Int

/-- Two intervals of one resource overlap. -/
def Ival.meets (a b : Ival) : Bool := a.res == b.res && decide (a.lo ≤ b.hi) && decide (b.lo ≤ a.hi)

/-- The path slots and line-store spans of a sheet at G, the spans of sides that have ended left out. -/
def sheetIvals (x : Sheet) (g : Int) (s : State) : List Ival :=
  let d : Int := duplex16 s
  let t : Int := gtol16 s
  let path (o : Int) : Ival := ⟨0, g + o - t, g + o + len16 x.len + gap16 s⟩
  [path 0] ++ (if x.duplex then [path d] else []) ++ (x.sides.filter (!·.ended)).map fun r =>
    let pe : Int := g + (if r.side = 1 then d else 0) + dist16 r.station s + s.shs.regY.getD r.station 0
    ⟨1 + r.station, pe - 5632 - t, pe + 1024 * r.bands + 1024 + t⟩

/-- The intervals held by sheets in flight; a path slot is released as the belt passes it. -/
def heldIvals (s : State) : List Ival :=
  ((s.shs.sheets.filter (·.state.inFlight)).flatMap fun x => sheetIvals x x.gate s).filter fun v =>
    v.res != 0 || decide (belt16 s ≤ v.hi)

/-- An interval list overlaps itself. -/
def selfMeets : List Ival → Bool
  | [] => false
  | a :: l => l.any a.meets || selfMeets l

/-- G: the smallest value that is at least the belt position plus FEED16 plus 1,024 and keeps every interval disjoint. -/
def chooseG (x : Sheet) (s : State) : Int :=
  let low := belt16 s + feed16 s + 1024
  let mine := sheetIvals x 0 s
  let held := heldIvals s
  let cands := low :: (mine.flatMap fun a => held.filterMap fun b =>
    if a.res = b.res ∧ low ≤ b.hi - a.lo + 1 then some (b.hi - a.lo + 1) else none)
  let ok := cands.filter fun g => (sheetIvals x g s).all fun a => !held.any a.meets
  ok.foldl min (ok.headD low)

/-! ## Admission (R203, R205) -/

/-- Real-time slots of R20 and R121 for a band of `bytes` at v. -/
def rtSlots (bytes v : Nat) : Nat := ceilDivN (bytes * 23622 * v) 640000000000000

/-- Granules of the capture area (R119). -/
def captureArea (s : State) : Nat :=
  let lo := s.boot.settings.getD 0 0 * 256
  let n := min (s.boot.settings.getD 1 0) (s.itk.dramMiB - s.boot.settings.getD 0 0 - 1024) * 256
  n - retiredIn lo (lo + n) s

/-- Granules of the capture area in use. -/
def captureUsed (s : State) : Nat := s.shs.sheets.foldl (fun n x => x.sides.foldl (fun n r => n + r.granules) n) 0

/-- Free capture set numbers. -/
def captureSets (s : State) : List Nat :=
  let used := s.shs.sheets.flatMap fun x => x.sides.map (·.capset)
  (List.range 256).filter fun n => !used.contains n

/-- CAPTURE_EVERY of its job names a sheet, and the capture area is not empty (R119). -/
def captured (x : Sheet) (j : Job) (s : State) : Bool :=
  let n := u16At j.set 8
  n != 0 && x.jobSeq % n == 0 && captureArea s != 0

/-- PATH_SET and the polygons' settings do not let a sheet in (R208, R273; a duplex sheet needs a duplex path): every
polygon that is set names the belt encoder of PATH_SET, whose CPR is 0, and every polygon of an enabled station is set. -/
def pathConfig (x : Sheet) (s : State) : Bool :=
  s.shs.path.isNone || (x.duplex && duplex16 s == 0) || s.cpr (byteAt (pathB s) 1) != 0
    || ((polysOn s).any fun p => (s.poly p).set.isNone)
    || (List.range 3).any fun p => (s.poly p).set.isSome
      && ((s.poly p).beltQe != byteAt (pathB s) 1 || s.cpr (s.poly p).beltQe != 0)

/-- The record of a station side as admission makes it (R129, R205). -/
def admitSide (j : Job) (p : Page) (s : State) (k : Nat × Nat) : SideRec :=
  let pl := pagePlane p k.1 k.2
  { station := k.1, side := k.2, bands := (pl.map (·.bands)).getD 0, bits := (pl.map (·.bits)).getD 0
    width := (pl.map (·.width)).getD 0, profile := (s.stn k.1).profiles.getD (jobProfile j k.1) [] }

/-- One ledger unit more is reserved for a sheet record (R205). -/
def reserveUnit (s : State) : State := { s with led := { s.led with resv := s.led.resv + 1 } }

/-- A STAGED sheet with its reservations, or the code of the first that it does not get (R205). Reservations and tokens are
held at the same instant, so the LEDGER token is that of the space left beside the sheet's own unit. -/
def admitTry (x : Sheet) (j : Job) (s : State) : Except Nat Sheet := match s.page x.stream x.page with
  | none => .error 3
  | some p =>
    let ks := sheetSides j x.duplex
    let cap := captured x j s
    let recs := ks.map (admitSide j p s)
    let v := (plannedV s).getD 0
    let sets := captureSets s
    let recs := if cap then recs.zipIdx.map fun r => { r.1 with
        capset := sets.getD r.2 0xFFFF, granules := r.1.bands * ceilDivN (captureWorst (s.wvr r.1.station).wa) 4096 }
      else recs
    let y := { x with sides := recs, capture := cap }
    let slots := (List.range 5).map fun i =>
      match (ks.filter fun k => k.1 == i).map fun k => largestBand p k.1 k.2 with
      | [] => 0
      | b :: bs => rtSlots (bs.foldl max b) v + (if cap then rtSlots (captureWorst (s.wvr i).wa) v else 0)
    let held := s.shs.sheets.foldl (fun n z => if z.state.inFlight then n + z.slots.foldl (· + ·) 0 else n) 0
    let mine := sheetIvals y 0 s
    let g := chooseG y s
    match firstCode [
      (s.boot.life == .returned || (s.boot.life == .field && s.boot.debugOpen), 0x1F),
      (pathConfig x s, 0x1D), (s.shs.speedHold, 0x1E), (s.saf.ctrl == .latched, 0x20),
      (decide (32 ≤ (s.shs.sheets.filter (·.state.inFlight)).length), 0x10),
      (selfMeets (mine.filter (·.res == 0)), 0x11), (selfMeets (mine.filter (·.res != 0)), 0x12),
      (decide (s.boot.settings.getD 11 0 < held + slots.foldl (· + ·) 0), 0x13),
      (cap && (decide (sets.length < recs.length)
        || decide (captureArea s < captureUsed s + recs.foldl (fun n r => n + r.granules) 0)), 0x14),
      (!ledgerToken s, 0x15)] with
    | some c => .error c
    | none => match tokenFail y.stations (reserveUnit s) with
      | some c => .error c
      | none => .ok { y with gate := g, slots := slots, speed := v, tAdmit := s.io.time }

/-- The oldest non-admitted sheet of each job that is not HELD, in the order of their SHEET_ADDs (R203). -/
def candidates (s : State) : List Sheet :=
  let l := s.shs.jobs.filterMap fun j =>
    if j.held then none
    else (j.sheets.filterMap s.sheet).find? fun x => decide (x.state.code ≤ 2)
  (l.mergeSort fun a b => decide (a.addSeq ≤ b.addSeq)).filter fun x => x.state == .staged

/-- One candidate is tried; the Boolean says that a sheet has been admitted. -/
def admitOne (a : State × Bool) (x : Sheet) : State × Bool :=
  let s := a.1
  if a.2 then a
  else match s.job x.job with
    | none => a
    | some j => match stageFail x j s with
      | some c => (s.setSheet x.id fun x => { x with wait := c }, false)
      | none => match admitTry x j s with
        | .error c => (s.setSheet x.id fun x => { x with wait := c }, false)
        | .ok y =>
          let s := s.setSheet x.id fun _ => { y with wait := 0 }
          (sheetState x.id .admitted (reserveUnit s), true)

/-- An admission attempt: staging is checked, then in RUN the first admissible candidate is admitted, but not during OFF_GRACE (R428); in LATCHED the
candidates report 0x20 (R203 to R205). -/
def admission (s : State) : State :=
  let s := restage s
  match s.saf.ctrl with
  | .run => if s.pwr.grace then s else ((candidates s).foldl admitOne (s, false)).1
  | .latched => (candidates s).foldl (fun s x => s.setSheet x.id fun x => { x with wait := 0x20 }) s
  | _ => s

/-! ## Launch and commit (R208 to R211) -/

/-- The feeder starts an ADMITTED sheet at G - FEED16 (R208). -/
def launch (id : Nat) (s : State) : State := match s.sheet id with
  | some x => if x.state = .admitted ∧ x.gate - feed16 s ≤ belt16 s then sheetState id .launched s else s
  | none => s

/-- The station sides of a side of a sheet receive P_s, and their schedules are tested at the edge (R210). -/
def sideEdge (id side : Nat) (b16 : Int) (s : State) : State := match s.sheet id with
  | none => s
  | some x =>
    let s := s.setSheet id fun x => { x with sides := x.sides.map fun r =>
      if r.side = side then { r with p := some (b16 + dist16 r.station s + s.shs.regY.getD r.station 0) } else r }
    (x.sides.filter (·.side == side)).foldl (fun s r => fixTest r.station id side s) s

/-- The front window of a LAUNCHED sheet holds a position. -/
def frontOpen (b16 : Int) (s : State) (x : Sheet) : Bool :=
  x.state == .launched && !x.frontEdge && decide ((b16 - x.gate).natAbs ≤ gtol16 s)

/-- A duplex sheet from COMMITTED to FUSED whose back edge is still unmatched (R209). -/
def backDue (x : Sheet) : Bool := x.duplex && !x.backEdge && decide (5 ≤ x.state.code) && decide (x.state.code ≤ 7)

/-- The back window of such a sheet holds a position (R209). -/
def backOpen (b16 : Int) (s : State) (x : Sheet) : Bool :=
  backDue x && decide ((b16 - x.gate - duplex16 s).natAbs ≤ gtol16 s)

/-- An active edge of REG_PRB at belt position `b16` (R209, R210, R212). -/
def regEdge (b16 : Int) (s : State) : State :=
  match s.shs.sheets.find? fun x => frontOpen b16 s x || backOpen b16 s x with
  | none => s.raise .stop 236 0 0x20
  | some x =>
    if frontOpen b16 s x then
      let s := s.setSheet x.id fun x => { x with frontEdge := true, edge16 := b16 }
      if x.blank then s else sideEdge x.id 0 b16 (sheetState x.id .committed s)
    else
      sideEdge x.id 1 b16 (s.setSheet x.id fun x => { x with backEdge := true })

/-- A front or back window closes without an edge: MISFEED (R209). -/
def windowMissed (id : Nat) (back : Bool) (s : State) : State := match s.sheet id with
  | none => s
  | some x =>
    let open_ : Bool := if back then backDue x else x.state == .launched && !x.frontEdge
    if open_ && decide (x.gate + (if back then duplex16 s else 0) + gtol16 s < belt16 s) then misfeed id s else s

/-! ## After commit (R200, R213) -/

/-- The route of a sheet is decided as its leading edge reaches G + DIVERT16: spoil when SPOIL_PENDING or BLANK (R213). -/
def routeDecision (id : Nat) (s : State) : State := match s.sheet id with
  | some x =>
    if x.state.running ∧ x.route = none ∧ x.gate + divert16 s ≤ belt16 s then
      s.setSheet id fun x => { x with route := some (x.spoil || x.blank) }
    else s
  | none => s

/-- The trailing edge leaves the fuser after the last pass (R200). -/
def sheetFused (id : Nat) (s : State) : State := match s.sheet id with
  | some x => if x.state = .imaged then sheetState id .fused s else s
  | none => s

/-- The trailing edge passes the output sensor (R200, R213): DELIVERED, or SPOILED on the spoil route, after a late cause
and for a blank sheet. -/
def sheetOutput (id : Nat) (s : State) : State := match s.sheet id with
  | some x => match x.route with
    | none => s
    | some spoil =>
      if x.state = .fused then endSheet id (if spoil || x.spoil then .spoiled else .delivered) s
      else if x.state = .launched ∧ x.blank = true then endSheet id .spoiled (freeCapture id (dropSides id s))
      else s
  | none => s

/-! ## Token withdrawal (R207) -/

/-- What the tokens that are not held do to one sheet (R207); EV073 pulses for each sheet affected. -/
def tokenReact (s : State) (id : Nat) : State := match s.sheet id with
  | none => s
  | some x =>
    let lost (c : Nat) (s : State) : State := sheetEvent 73 c x s
    match x.state with
    | .admitted => if (tokenFail x.stations s).isSome then lost x.cause (unadmit id s) else s
    | .launched =>
      if (tokenFail x.stations s).isSome ∧ x.blank = false then
        lost 0x41 (firstCause id 6 0 0x41 (s.setSheet id fun x => { x with blank := true }))
      else s
    | .committed | .imaged | .fused =>
      let s := if x.state ≠ .fused ∧ x.hvLost = false ∧ hvToken x.stations s = false then
          postCause id 6 0 0x30 (lost 0x30 (s.setSheet id fun x => { x with hvLost := true }))
        else s
      if x.fuserLost = false ∧ fuserToken s = false then
        postCause id 6 0 0x31 (lost 0x31 (s.setSheet id fun x => { x with fuserLost := true }))
      else s
    | _ => s

/-- A readiness token has been withdrawn. -/
def tokenWithdrawn (s : State) : State := lateSpoils ((sheetIds (fun x => x.state.inFlight) s).foldl tokenReact s)

/-! ## SPEED_HOLD (R218) -/

/-- MINV in um/s: the largest MIN_SPEED of jobs with non-terminal sheets; the lowest speed where there is none. -/
def minV (s : State) : Nat := s.shs.jobs.foldl (fun m j =>
  if s.shs.sheets.any fun x => x.job == j.num && !x.state.terminal then max m (u16At j.set 10 * 1000) else m) 200000

/-- The next lower speed v' (R218). -/
def lowerV (v : Nat) (s : State) : Nat := max (minV s) (v * (100 - speedStepOf s) / 100 / 1000 * 1000)

/-- In SPEED_HOLD, once no sheet is LAUNCHED to IMAGED, Renune plans the lower speed or raises SPEED_FLOOR (R218). A sheet
that is still ADMITTED does not hold it up: its POLY token falls with the change of speed (R178, R207). -/
def speedLower (s : State) : State :=
  if s.shs.speedHold = false ∨ (s.shs.sheets.any fun x => decide (4 ≤ x.state.code) && decide (x.state.code ≤ 6)) = true then s
  else match plannedV s with
    | none => s
    | some v =>
      let s := { s with shs := { s.shs with speedHold := false } }
      if v ≤ minV s then s.raise .halt 236 0 0x23
      else
        let b := le 4 (lowerV v s)
        let s := (polysOn s).foldl (fun s p => s.record (renuneRec s 0x0783 p b .ordinary (.renune .scanStart p b))) s
        s.pulse 75 0

end Sys2Proof.Machine
end

