-- ==== Sys2Proof/Machine/Jobs.lean ====
section
/-!
DEFINITION. Jobs and the commands of group 0x05 (chapter 09).
-/
namespace Sys2Proof.Machine

/-- TARGET names a job that exists. -/
def jobTarget (c : Cmd) (s : State) : Bool := (s.job c.tgt).isSome
/-- TARGET names a sheet of an unreleased job. -/
def sheetTarget (c : Cmd) (s : State) : Bool := (s.sheet c.tgt).isSome
/-- The sheets of a job. -/
def jobSheets (n : Nat) (s : State) : List Sheet := s.shs.sheets.filter fun x => x.job == n

/-- Sheets not terminal. -/
def liveSheets (s : State) : Nat := (s.shs.sheets.filter fun x => !x.state.terminal).length

/-! ## Queries -/

/-- LAUNCH_STATUS (R224). -/
def launchStatusSpec : CmdSpec where
  viewer := true
  size := fun _ _ => 32
  ans := fun _ s =>
    let on := (List.range 5).filter fun i => bit (stationsOn s) i
    let tokens := b2n ((polysOn s).all fun p => polyToken p s) + 2 * b2n (on.all fun i => stationToken i s)
      + 4 * b2n (hvToken on s) + 8 * b2n (fuserToken s) + 16 * b2n (ledgerToken s)
    let slots := s.shs.sheets.foldl (fun n z => if z.state.inFlight then n + z.slots.foldl (· + ·) 0 else n) 0
    ansResult (le 4 ((plannedV s).getD 0) ++ le 1 tokens ++ le 1 (s.shs.sheets.filter (·.state.inFlight)).length
      ++ le 2 (4096 - liveSheets s) ++ le 2 slots ++ le 2 (min 65535 (ledgerSpare s)) ++ le 1 (b2n s.shs.speedHold) ++ zeros 19)

/-- JOB_STATUS (R224). -/
def jobStatusSpec : CmdSpec where
  viewer := true
  target := jobTarget
  size := fun _ _ => 16
  ans := fun c s => match s.job c.tgt with
    | none => ansDone
    | some j =>
      let l := jobSheets c.tgt s
      let wait := (((j.sheets.filterMap s.sheet).find? fun x => decide (x.state.code ≤ 2)).map (·.wait)).getD 0
      ansResult (le 1 j.state.code ++ le 1 (b2n j.held) ++ le 1 wait ++ [0]
        ++ le 4 (l.filter fun x => decide (x.state.code ≤ 2)).length
        ++ le 4 (l.filter fun x => x.state == .delivered).length
        ++ le 4 (l.filter fun x => x.state == .spoiled || x.state == .lost).length)

/-- SHEET_GET (R219). -/
def sheetGetSpec : CmdSpec where
  viewer := true
  needsRbuf := true
  target := sheetTarget
  size := fun _ _ => 512
  ans := fun c s => match s.sheet c.tgt with
    | none => ansDone
    | some x => ansResult (sheetRecord x)

/-! ## Jobs (R201) -/

/-- The lowest job number that no job has. -/
def freeJob (s : State) : Option Nat := (List.range 256).find? fun n => (s.job n).isNone

/-- Faulty fields of JOB_OPEN. DESIGN CHOICE (assumption 22): chapter 09 does not say that a field with a default takes it
when 0, so a MIN_SPEED of 0 is out of range. -/
def jobFaults (p : Bytes) : List (Bool × Nat) :=
  ((List.range 5).map fun i => (decide (15 < byteAt p i) && byteAt p i != 0xFF, i))
    ++ [(decide (2 < byteAt p 5), 5), (decide (15 < byteAt p 6), 6), (decide (1 < byteAt p 7), 7),
        (outside (u16At p 10) 200 1600, 10), (decide (i32At p 12 < -15600) || decide (15600 < i32At p 12), 12)]

/-- JOB_OPEN (R201). -/
def jobOpenSpec : CmdSpec where
  roles := [.operator]
  lenOk := fun c _ => c.len == 16
  post := fun c s => orElse (firstFault (jobFaults c.pl)) (failIf (freeJob s).isNone stBusy 0)
  size := fun _ _ => 1
  eff := fun c s => match freeJob s with
    | none => s
    | some n =>
      let j : Job := { num := n, set := fit 16 c.pl }
      jobEvent j { s with shs := { s.shs with jobs := s.shs.jobs ++ [j] } }
  ans := fun _ s => ansResult (le 1 ((freeJob s).getD 0))

/-- Faulty fields of a SHEET_ADD payload, entry by entry. -/
def addFaults (p : Bytes) : List (Bool × Nat) := (List.range (p.length / 16)).flatMap fun k =>
  let o := 16 * k
  [(decide (255 < u16At p o), o), (u32At p (o + 2) == 0, o + 2), (outside (u16At p (o + 6)) 1400 13000, o + 6),
   (decide (1 < byteAt p (o + 8)), o + 8), (byteAt p (o + 9) == 0, o + 9)]
    ++ (List.range 6).map fun i => (byteAt p (o + 10 + i) != 0, o + 10 + i)

/-- Sheets that a SHEET_ADD payload adds. -/
def addCount (p : Bytes) : Nat := (List.range (p.length / 16)).foldl (fun n k => n + byteAt p (16 * k + 9)) 0

/-- `n` sheets more would leave fewer than 32 free places, or one of the next `n` SHEET_IDs is not free (R201, R202). -/
def noPlace (n : Nat) (s : State) : Bool := decide (4096 - 32 < liveSheets s + n)
  || (List.range n).any fun k => (s.sheet ((s.shs.nextId + k) % 65536)).isSome

/-- One sheet more at the end of a job (R202, R203). -/
def addSheet (n : Nat) (e : Bytes) (s : State) : State := match s.job n with
  | none => s
  | some j =>
    let id := s.shs.nextId
    let x : Sheet := {
      id := id, job := n, jobSeq := j.added, stream := u16At e 0, page := u32At e 2, len := u16At e 6
      duplex := byteAt e 8 == 1, addSeq := s.led.head }
    ({ s with shs := { s.shs with sheets := s.shs.sheets ++ [x], nextId := (id + 1) % 65536 } }).setJob n fun j =>
      { j with sheets := j.sheets ++ [id], added := j.added + 1 }

/-- Every copy of an entry is a sheet. -/
def addCopies (n : Nat) (e : Bytes) : Nat → State → State
  | 0, s => s
  | k + 1, s => addCopies n e k (addSheet n e s)

/-- SHEET_ADD (R201 to R203, R224). -/
def sheetAddSpec : CmdSpec where
  roles := [.operator]
  lenOk := fun c _ => c.len % 16 == 0 && decide (16 ≤ c.len) && decide (c.len ≤ 1024)
  target := jobTarget
  pre := fun c s => failIf (match s.job c.tgt with | some j => j.state != .opened | none => false) stDeniedState 0
  post := fun c s =>
    let n := addCount c.pl
    orElse (firstFault (addFaults c.pl)) (failIf (noPlace n s) stBusy 0)
  size := fun _ _ => 4
  eff := fun c s =>
    let s := (List.range (c.len / 16)).foldl (fun s k => addCopies c.tgt (sub c.pl (16 * k) 16) (c.u8 (16 * k + 9)) s) s
    restage s
  ans := fun c s => ansResult (le 2 s.shs.nextId ++ le 2 (addCount c.pl))

/-- A job accepts no more sheets. -/
def closeJob (n : Nat) (s : State) : State := match s.job n with
  | some j => if j.state = .opened then jobEvent { j with state := .closed } (s.setJob n fun j => { j with state := .closed }) else s
  | none => s

/-- JOB_CLOSE (R201): ALREADY_DONE for a job that is not OPEN. -/
def jobCloseSpec : CmdSpec where
  roles := [.operator]
  target := jobTarget
  eff := fun c s => checkEnded c.tgt (closeJob c.tgt s)
  ans := fun c s => match s.job c.tgt with
    | some j => if j.state = .opened then ansDone else ansAlready
    | none => ansAlready

/-- JOB_HOLD (R201, R203). -/
def jobHoldSpec : CmdSpec where
  roles := [.operator]
  lenOk := fun c _ => c.len == 1
  target := jobTarget
  post := fun c _ => failIf (decide (1 < c.u8 0)) stBadParam 0
  eff := fun c s => s.setJob c.tgt fun j => { j with held := c.u8 0 == 1 }

/-! ## Abort (R215) -/

/-- A sheet is withdrawn from the queue: its reservations are released and its SHEET_ID is free (R215). -/
def withdraw (id : Nat) (s : State) : State := match s.sheet id with
  | none => s
  | some x =>
    let s := if x.state = .admitted then { s with led := { s.led with resv := s.led.resv - 1 } } else s
    freePages { s with shs := { s.shs with
        sheets := s.shs.sheets.filter fun y => y.id != id
        jobs := s.shs.jobs.map fun j => { j with sheets := j.sheets.filter (· != id) } } }

/-- A LAUNCHED sheet is aborted: BLANK is set and it ends with cause 0x40 BLANK_ABORT, in place of the cause 0x41 of a sheet
that a token has made blank before (R215 names the cause of the state; DEDUCED, assumption 22). -/
def blankAbort (x : Sheet) : Sheet := { x with blank := true, cause := 0x40, causeSrc := 6 }

/-- The effect of R215 on a sheet in its present state. -/
def abortSheet (id : Nat) (s : State) : State := match s.sheet id with
  | none => s
  | some x => match x.state with
    | .planned | .staged | .admitted => withdraw id s
    | .launched => s.setSheet id blankAbort
    | .committed | .imaged | .fused => postCause id 6 0 0x32 s
    | _ => s

/-- The status of R215. -/
def abortStatus (x : Sheet) : Nat :=
  if x.state.terminal then stAlreadyDone else if x.state.code ≤ 4 then stDone else stCommitted

/-- SHEET_ABORT (R215). -/
def sheetAbortSpec : CmdSpec where
  roles := [.operator]
  target := sheetTarget
  eff := fun c s =>
    let n := (s.sheet c.tgt).map (·.job)
    let s := lateSpoils (abortSheet c.tgt s)
    match n with | some n => checkEnded n s | none => s
  ans := fun c s => match s.sheet c.tgt with
    | some x => { status := abortStatus x }
    | none => ansAlready

/-- JOB_ABORT closes the job and aborts every sheet of it at one instant (R215). -/
def jobAbortSpec : CmdSpec where
  roles := [.operator]
  target := jobTarget
  eff := fun c s =>
    let ids := sheetIds (fun x => x.job == c.tgt && !x.state.terminal) s
    checkEnded c.tgt (lateSpoils (ids.foldl (fun s id => abortSheet id s) (closeJob c.tgt s)))
  ans := fun c s =>
    let l := (jobSheets c.tgt s).filter fun x => !x.state.terminal
    let isOpen : Bool := match s.job c.tgt with | some j => j.state == .opened | none => false
    if l.any fun x => decide (5 ≤ x.state.code) then { status := stCommitted }
    else if isOpen || !l.isEmpty then ansDone
    else ansAlready

/-- JOB_RELEASE frees the records and capture sets of an ENDED job (R224). -/
def jobReleaseSpec : CmdSpec where
  roles := [.operator, .auditor]
  target := jobTarget
  pre := fun c s => failIf (match s.job c.tgt with | some j => j.state != .ended | none => false) stDeniedState 0
  eff := fun c s =>
    let sets := (jobSheets c.tgt s).flatMap fun x => x.sides.map (·.capset)
    { s with
      shs := { s.shs with
        jobs := s.shs.jobs.filter fun j => j.num != c.tgt, sheets := s.shs.sheets.filter fun x => x.job != c.tgt }
      img := { s.img with captures := s.img.captures.filter fun x => !sets.contains x.num } }

/-! ## PATH_SET, LAUNCH_CONTROL, REG_SET -/

/-- DIST16_0 + REG_Y16_0 lies from 2,600 to 3,500 (R211). -/
def distOk (dist : Nat) (regY : Int) : Bool := decide (2600 ≤ (dist : Int) + regY) && decide ((dist : Int) + regY ≤ 3500)

/-- Faulty fields of PATH_SET. DESIGN CHOICE (assumption 22): chapter 09 does not say that a field with a default takes it
when 0, so a GATE_TOL, GAP or SPEED_STEP of 0 is out of range. -/
def pathFaults (p : Bytes) (s : State) : List (Bool × Nat) :=
  [(decide (7 < byteAt p 0), 0), (decide (7 < byteAt p 1), 1), (outside (u16At p 2) 5 200, 2), (outside (u16At p 4) 100 2000, 4),
   (outside (byteAt p 6) 1 20, 6), (byteAt p 7 != 0, 7), (outside (u32At p 8) 1024 (2 ^ 30), 8),
   (outside (u32At p 12) 1024 (2 ^ 30), 12), (!distOk (u32At p 16) (s.shs.regY.getD 0 0), 16)]
    ++ ((List.range 4).map fun k => (outside (u32At p (20 + 4 * k)) (u32At p 16) (2 ^ 30), 20 + 4 * k))
    ++ [(decide (2 ^ 30 < u32At p 36), 36)] ++ (List.range 8).map fun k => (byteAt p (40 + k) != 0, 40 + k)

/-- IDLE, WARM and READY. -/
def quietStates : List CState := [.idle, .warm, .ready]

/-- PATH_SET (R205, R211, R224). -/
def pathSetSpec : CmdSpec where
  roles := [.service]
  states := inStates quietStates
  lenOk := fun c _ => c.len == 48
  pre := fun _ s => failIf (s.shs.sheets.any (·.state.inFlight)) stDeniedState 0
  post := fun c s => firstFault (pathFaults c.pl s)
  eff := fun c s => { s with shs := { s.shs with path := some (fit 48 c.pl) } }

/-- The controller enters DRAIN: every ADMITTED sheet returns to STAGED (R207). -/
def startDrain (s : State) : State := unadmitAll (s.setCtrl .drain)

/-- LAUNCH_CONTROL (R224, R431): 1 moves READY to RUN, 2 moves RUN to DRAIN. -/
def launchControlSpec : CmdSpec where
  roles := [.operator]
  states := inStates [.ready, .run, .drain]
  lenOk := fun c _ => c.len == 1
  pre := fun c s => failIf ((c.u8 0 == 1 && s.saf.ctrl != .ready) || (c.u8 0 == 2 && s.saf.ctrl != .run)) stDeniedState 0
  post := fun c _ => failIf (outside (c.u8 0) 1 2) stBadParam 0
  eff := fun c s => if c.u8 0 = 1 then s.setCtrl .run else startDrain s

/-- REG_Y16 of a REG_SET payload. -/
def regYOf (p : Bytes) : Int := i16At p 0
/-- REG_X64 of a REG_SET payload. -/
def regXOf (p : Bytes) : Int := i32At p 4

/-- A REG_SET payload of station `st` breaks a range (R211, R223). -/
def regFaults (st : Nat) (p : Bytes) (s : State) : List (Bool × Nat) :=
  [(decide (regYOf p < -8192) || decide (8191 < regYOf p)
      || (st == 0 && s.shs.path.isSome && !distOk (dist16 0 s) (regYOf p)), 0),
   (byteAt p 2 != 0, 2), (byteAt p 3 != 0, 3), (decide (regXOf p < -998400) || decide (998400 < regXOf p), 4)]

/-- REG_SET (R223). -/
def regSetSpec : CmdSpec where
  roles := [.service]
  states := inStates quietStates
  lenOk := fun c _ => c.len == 8
  target := scanStation
  post := fun c s => firstFault (regFaults c.tgt c.pl s)
  eff := fun c s => { s with shs := { s.shs with
    regY := s.shs.regY.set c.tgt (regYOf c.pl), regX := s.shs.regX.set c.tgt (regXOf c.pl) } }

/-! ## Calibration (R220 to R223) -/

/-- The sum of a list. -/
def sumI (l : List Int) : Int := l.foldl (· + ·) 0

/-- NS of a CAL_RUN. -/
def calNs (p : Bytes) : Nat := byteAt p 2
/-- XS[k]. -/
def calXs (p : Bytes) (k : Nat) : Int := u32At p (12 + 4 * k)

/-- dXOFF[z] of R221. -/
def calXoff (p : Bytes) (wa : Nat) (e : List Int) (z : Nat) : Int :=
  let ns := calNs p
  let mean := roundDiv (sumI (e.take ns)) ns
  let r (k : Nat) : Int := e.getD k 0 - mean
  let zw := zoneWidth wa
  let xc : Int := zw * z + zw / 2
  let x := calXs p
  let num : Int :=
    if ns = 2 then r 0 * (x 1 - xc) + r 1 * (xc - x 0)
    else r 0 * (xc - x 1) * (xc - x 2) * (x 1 - x 2) - r 1 * (xc - x 0) * (xc - x 2) * (x 0 - x 2)
      + r 2 * (xc - x 0) * (xc - x 1) * (x 0 - x 1)
  let den : Int := if ns = 2 then x 1 - x 0 else (x 0 - x 1) * (x 0 - x 2) * (x 1 - x 2)
  if den < 0 then roundDiv (-num) (-den) else roundDiv num den

/-- An ECM entry from its fields, and whether one had to be clamped to the range of R137. -/
def ecmPack (xoff shift trim : Int) (off : Bool) : Nat × Bool :=
  let a := clamp xoff (-1024) 1024
  let b := clamp shift (-31) 31
  let c := clamp trim (-128) 127
  ((a % 4096).toNat + (b % 64).toNat * 2 ^ 12 + (c % 256).toNat * 2 ^ 18 + b2n off * 2 ^ 31, a != xoff || b != shift || c != trim)

/-- An ECM_LOAD payload with changed entries: dXOFF, the ISHIFT step of a zone and the TRIM change by zone, and new
phases; the Boolean says that a value was clamped. -/
def ecmChange (d : Bytes) (dx dt : Nat → Int) (dphase : Nat) : Bytes × Bool :=
  let ph (z : Nat) : Nat := ecmPhase d z + dphase
  let ents := (List.range 64).flatMap fun b => (List.range 96).map fun z =>
    let e := ecmEntry d b z
    ecmPack (ecmXoff e + dx z) (ecmShift e + if 64 ≤ ph z then 1 else 0) (ecmTrim e + dt z) (ecmOff e)
  ((ents.flatMap fun e => le 4 e.1) ++ (List.range 96).flatMap fun z => le 1 (ph z % 64), ents.any (·.2))

/-- Density at xc times a denominator, interpolated linearly between sensors and constant beyond them (R222). -/
def rhoAt (p : Bytes) (rho : List Nat) (xc : Int) : Int × Int :=
  let x := calXs p
  let v (k : Nat) : Int := rho.getD k 0
  let seg (a b : Nat) : Int × Int := (v a * (x b - xc) + v b * (xc - x a), x b - x a)
  let last := calNs p - 1
  if xc ≤ x 0 then (v 0, 1) else if x last ≤ xc then (v last, 1)
  else if calNs p = 2 ∨ xc ≤ x 1 then seg 0 1 else seg 1 2

/-- TRIM change of zone z (R222); a mean density of 0 has no stated result (assumption 3). -/
def calTrim (p : Bytes) (wa : Nat) (rho : List Nat) (s : State) (z : Nat) : Int :=
  let ns := calNs p
  let total : Int := ((rho.take ns).foldl (· + ·) 0 : Nat)
  let zw := zoneWidth wa
  let v := rhoAt p rho (zw * z + zw / 2)
  if total = 0 then freeVal .calibration z s
  else clamp (roundDiv (256 * (total * v.2 - ns * v.1)) (total * v.2)) (-128) 127

/-- A new APC_TARGET payload: every T scaled by the targets over the densities (R222); a density sum of 0 has no stated
result (assumption 3). -/
def calApc (apc : Bytes) (target sum : Nat) (s : State) : Bytes :=
  ((List.range 64).flatMap fun b =>
    let t := u16At apc (2 * b)
    le 2 (if sum = 0 then freeBits .calibration 12 (100 + b) s
      else min 4095 (roundDiv (t * target : Nat) (sum : Nat)).toNat)) ++ apc.drop 128

/-- The marks that the sensor node of position k has seen, by the node address in CAL_RUN (R220). -/
def marksOf (p : Bytes) (m : Measured) (k : Nat) : Option StakeMarks := m.marks.find? fun x => x.node == u16At p (4 + 2 * k)

/-- BELT16 at an instant, linear between the latched belt positions around it (R220). -/
def beltBetween (l16 : Nat) (t : Nat) : List (Nat × Int) → Option Int
  | a :: b :: l =>
    if a.1 ≤ t ∧ t ≤ b.1 ∧ a.1 < b.1 then
      let y := belt16Of l16 a.2
      some (y + roundDiv ((belt16Of l16 b.2 - y) * (t - a.1 : Nat)) (b.1 - a.1 : Nat))
    else beltBetween l16 t (b :: l)
  | _ => none

/-- e[s][k] of R220: the bar against nominal in 1/16 line, relative to the bar of S0, for S0 relative to the sheet's edge. The
nominal place belongs to the pattern, which is not stated; it is free, and so is what no latched position brackets or no
node has seen (assumption 23). -/
def calE (p : Bytes) (m : Measured) (s : State) (i k : Nat) : Int :=
  let place (t : StakeMarks → Nat) : Option Int := match marksOf p m k with
    | some x => beltBetween (beltL16 s) (t x) m.latches
    | none => none
  let bar (i : Nat) : Option Int := place fun x => x.bar.getD i 0
  match bar i, (if i = 0 then place (·.edge) else bar 0) with
  | some a, some b => a - b - freeVal .calibration (20000 + i) s
  | _, _ => freeVal .calibration (20010 + 3 * i + k) s

/-- u[s][k] of R220: half of the chevron's measured separation minus the nominal one, 1/64 px; a half rounds up. The
nominal separation is free, as in `calE`. -/
def calU (p : Bytes) (m : Measured) (s : State) (i k : Nat) : Int := match marksOf p m k with
  | some x => roundHalfUp (x.sep.getD i 0 - freeVal .calibration (20030 + i) s) 1
  | none => freeVal .calibration (20040 + 3 * i + k) s

/-- e[s] and u[s] at the NS sensors. -/
def calEs (p : Bytes) (m : Measured) (s : State) (i : Nat) : List Int := (List.range (calNs p)).map (calE p m s i)
def calUs (p : Bytes) (m : Measured) (s : State) (i : Nat) : List Int := (List.range (calNs p)).map (calU p m s i)

/-- ρ[c][k] at the NS sensors. -/
def calRho (p : Bytes) (m : Measured) (i c : Nat) : List Nat := (List.range (calNs p)).map fun k =>
  match marksOf p m k with | some x => (x.rho.getD i []).getD c 0 | none => 0

/-- The placement map of a station's active bank and delays, moved by `du` (R146, R147). -/
def placeMap (x : Station) (du : Int) (b z : Nat) : Int :=
  let d := (x.ecm.getD x.ecmActive {}).data
  64 * ecmShift (ecmEntry d b z) + ecmPhase d z + byteAt x.delays b + du

/-- Kind 1: registration (R221), with the split of R147 of the map that the proposal stands for. -/
def calRegister (p : Bytes) (m : Measured) (s : State) : Proposal :=
  let ns := calNs p
  let on (i : Nat) : Bool := bit (stationsOn s) i
  let du (i : Nat) : Int := if i = 0 then 0 else roundDiv (sumI (calUs p m s i)) ns
  let dy (i : Nat) : Int := roundDiv (sumI (calEs p m s i)) ns
  let ecm := (List.range 5).map fun i =>
    let x := s.stn i
    ecmChange (x.ecm.getD x.ecmActive {}).data (calXoff p x.weaver.wa (calEs p m s i)) (fun _ => 0)
      (floorMod (du i) 64).toNat
  { kind := 1
    splits := (List.range 5).map fun i =>
      if on i then placeSplit (zonesUsed (s.wvr i).wa) (placeMap (s.stn i) (floorMod (du i) 64)) else {}
    regs := (List.range 5).map fun i =>
      if on i then (s.shs.regY.getD i 0 + dy i, s.shs.regX.getD i 0 + du i) else (s.shs.regY.getD i 0, s.shs.regX.getD i 0)
    ecms := ecm.zipIdx.map fun e => if on e.2 then e.1.1 else []
    apcs := List.replicate 5 []
    clamped := ecm.zipIdx.any fun e => on e.2 && e.1.2 }

/-- Kind 2: density (R222). -/
def calDensity (p : Bytes) (m : Measured) (s : State) : Proposal :=
  let ns := calNs p
  let on (i : Nat) : Bool := bit (stationsOn s) i
  let sumT := ns * (m.target.take 4).foldl (· + ·) 0
  let sum (i : Nat) : Nat := (List.range 4).foldl (fun n c => n + (calRho p m i c).foldl (· + ·) 0) 0
  let ecm := (List.range 5).map fun i =>
    let x := s.stn i
    ecmChange (x.ecm.getD x.ecmActive {}).data (fun _ => 0) (calTrim p x.weaver.wa (calRho p m i 1) s) 0
  { kind := 2
    regs := (List.range 5).map fun i => (s.shs.regY.getD i 0, s.shs.regX.getD i 0)
    ecms := ecm.zipIdx.map fun e => if on e.2 then e.1.1 else []
    apcs := (List.range 5).map fun i => if on i then calApc (s.stn i).apc sumT (sum i) s else []
    clamped := ecm.zipIdx.any fun e => on e.2 && e.1.2 }

/-- The calibration sheets have been read: the proposal is held and EV076 pulses with the calibration job (R200, R221 to
R223). -/
def calReady (m : Measured) (s : State) : State := match s.shs.calRun with
  | none => s
  | some p =>
    let y := if byteAt p 0 = 1 then calRegister p m s else calDensity p m s
    let s := advanceFree { s with shs := { s.shs with calRun := none, proposal := some y } }
    (s.pulse 76 (s.shs.calJob * 2 ^ 16)).finish .calRun 0 stDone 0

/-- Faulty fields of CAL_RUN. -/
def calFaults (p : Bytes) : List (Bool × Nat) :=
  [(outside (byteAt p 0) 1 2, 0), (outside (byteAt p 1) 1 8, 1), (outside (byteAt p 2) 2 3, 2), (byteAt p 3 != 0, 3)]
    ++ ((List.range (calNs p)).map fun k => (decide (1023 < u16At p (4 + 2 * k)), 4 + 2 * k))
    ++ ((List.range (calNs p)).map fun k => (decide (31199 < calXs p k) || (k != 0 && decide (calXs p k ≤ calXs p (k - 1))), 12 + 4 * k))

/-- The stream number under which the pages of calibration patterns are held: none of ST000 to ST255 (assumption 23). -/
def calStream : Nat := 256

/-- The plane of a calibration pattern on a station: bands, width and the bytes of each band. Length, width and symbols are
not stated, so they are free within what R128 and R204 let through (assumption 23). -/
structure CalPlane where
  station : Nat
  bits : Nat
  width : Nat
  bands : List (Bytes × Nat)

/-- The pattern of station `i` with `bands` bands, in the SYMBOL_BITS and within the width that its profile 0 takes. -/
def calPlane (bands : Nat) (s : State) (i : Nat) : CalPlane :=
  let p := (s.stn i).profiles.getD 0 []
  let bits := max 1 (pfBits p)
  let width := 1 + freeBits .calibration 15 (202 + i) s % (31200 / max 1 (pfUpx p))
  { station := i, bits := bits, width := width
    bands := (List.range bands).map fun b =>
      let syms := (List.range (64 * width)).map fun k => freeBits .calibration bits (30000 + 2000000 * (64 * i + b) + k) s
      let r := compressBand bits width 0 syms [] fun _ => false
      (r.1, bandCost width r.2.1) }

/-- The manifest of the calibration page (R89). -/
def calManifest (id : Nat) (l : List CalPlane) : Bytes :=
  let n := l.foldl (fun n p => n + p.bands.length) 0
  le 4 id ++ le 1 l.length ++ le 1 1 ++ zeros 2 ++ le 4 (16 + 16 * l.length + 24 * n) ++ zeros 4
    ++ (l.flatMap fun p => le 1 p.station ++ le 1 p.bits ++ le 2 p.bands.length ++ le 2 p.width ++ zeros 10)
    ++ l.flatMap fun p => p.bands.flatMap fun b => le 4 b.1.length ++ zeros 4 ++ bandHash b.1

/-- The page that holds the calibration patterns in the band store: its granules are taken from the free ones (R92, R220). -/
def calPage (id : Nat) (l : List CalPlane) (s : State) : Page :=
  let man := calManifest id l
  let all := l.flatMap fun p => p.bands.zipIdx.map fun b => (p.station, b.2, b.1.1)
  let need := all.foldl (fun n b => n + granules b.2.2.length) 0
  let gs := pickGranules (granules man.length + need) s
  let bufs := all.foldl (fun (a : List BandBuf × Nat) b =>
    let k := granules b.2.2.length
    (a.1 ++ [{ station := b.1, side := 0, band := b.2.1, len := b.2.2.length
               units := (List.range (ceilDivN b.2.2.length 64)).map fun u => (u, sub b.2.2 (64 * u) 64)
               grans := (gs.drop a.2).take k }], a.2 + k)) ([], granules man.length)
  { stream := calStream, id := id, state := .complete, manifest := some man, total := some man.length
    costs := l.map fun p => (p.bands.foldl (fun n b => max n b.1.length) 0, p.bands.foldl (fun n b => max n b.2) 0)
    bands := bufs.1, manGrans := gs.take (granules man.length) }

/-- Renune opens a job with the calibration sheets, whose page it generates into the band store (R220). -/
def calOpen (n : Nat) (s : State) : State := match freeJob s with
  | none => s
  | some jn =>
    let len := 1400 + freeBits .calibration 13 200 s
    let on := (List.range 5).filter fun i => bit (stationsOn s) i
    let id := s.shs.nextId + 1
    let page := calPage id (on.map (calPlane (1 + freeBits .calibration 6 201 s) s)) s
    let set := (List.range 5).map (fun i => if on.contains i then 0 else 0xFF) ++ [0, 0, 1, 0, 0, 200, 0, 0, 0, 0, 0]
    let j : Job := { num := jn, set := set, state := .closed, cal := true }
    let s := { s with itk := { s.itk with pages := s.itk.pages ++ [page] }
                      shs := { s.shs with jobs := s.shs.jobs ++ [j], calJob := jn } }
    let e := le 2 calStream ++ le 4 id ++ le 2 len ++ zeros 8
    let s := addCopies jn e n s
    let s : State := { s with shs := { s.shs with sheets := s.shs.sheets.map fun x =>
      if x.job == jn then { x with cause := 0x3F, causeSrc := 6, spoil := true } else x } }
    restage (jobEvent j (advanceFree s))

/-- CAL_RUN (R220, R224). The sheets of its job take places and SHEET_IDs as those of a SHEET_ADD do, so it fails with BUSY
where R201 and R202 would make that fail (assumption 23). -/
def calRunSpec : CmdSpec where
  roles := [.service]
  states := inStates [.ready]
  lenOk := fun c _ => c.len == 24
  post := fun c s => orElse (firstFault (calFaults c.pl)) (failIf ((freeJob s).isNone || noPlace (c.u8 1) s) stBusy 0)
  eff := fun c s =>
    let s := { s with io := finishAll .calRun (fun f => !(f.hamper.val == c.hamper && f.tag == c.f.tag)) stFaulted 0x80 [] s.io }
    calOpen (c.u8 1) { s with shs := { s.shs with calRun := some (fit 24 c.pl), proposal := none } }
  ans := fun _ _ => ansAccepted
  abort := fun _ s => { s with shs := { s.shs with calRun := none } }

/-- The recorded changes of a proposal in order: opcode, TARGET, payload and the command (R223). -/
def calChanges (y : Proposal) (s : State) : List (Nat × Op × Nat × Bytes) :=
  let on := (List.range 5).filter fun i => bit (stationsOn s) i
  on.flatMap fun i =>
    (if y.kind = 1 then
      let r := y.regs.getD i (0, 0)
      [(0x1482, Op.regSet, i, leI 2 r.1 ++ zeros 2 ++ leI 4 r.2)] else [])
    ++ [(0x0681, Op.ecmLoad, i, y.ecms.getD i [])]
    ++ (if y.kind = 2 then [(0x0685, Op.apcTarget, i, y.apcs.getD i [])] else [])

/-- The SEQs of the next `k` entries after `n`, leaving out those of checkpoints (R365). -/
def nextSeqs : Nat → Nat → List Nat
  | 0, _ => []
  | k + 1, n => let m := if (n + 1) % 1024 = 0 then n + 2 else n + 1; m :: nextSeqs k m

/-- CAL_APPLY (R211, R223): the changes are chained next after its own entry, and the result lists their SEQs. -/
def calApplySpec : CmdSpec where
  roles := [.service]
  states := inStates quietStates
  post := fun _ s => match s.shs.proposal with
    | none => none
    | some y => failIf (y.kind == 1 && bit (stationsOn s) 0
        && (firstFault (regFaults 0 (leI 2 (y.regs.getD 0 (0, 0)).1 ++ zeros 2 ++ leI 4 (y.regs.getD 0 (0, 0)).2) s)).isSome)
        stBadParam 0
  size := fun _ s => match s.shs.proposal with | some y => 8 * (calChanges y s).length | none => 0
  eff := fun _ s => match s.shs.proposal with
    | none => s
    | some y =>
      let l := calChanges y s
      let s := { s with shs := { s.shs with proposal := none } }
      l.reverse.foldl (fun s x => s.recordNext (renuneRec s x.1 x.2.2.1 x.2.2.2 .ordinary (.renune x.2.1 x.2.2.1 x.2.2.2))) s
  ans := fun _ s => match s.shs.proposal with
    | none => ansAlready
    | some y => ansResult ((nextSeqs (calChanges y s).length s.led.head).flatMap (le 8))

/-- CAL_RESULT returns the proposal held (R223): its layout is not stated, so length and bytes are free (assumption 3). -/
def calResultSpec : CmdSpec where
  viewer := true
  size := fun _ s => if s.shs.proposal.isSome then freeBits .calibration 12 0 s else 0
  ans := fun _ s => if s.shs.proposal.isSome then ansResult (freeBytes .calibration (freeBits .calibration 12 0 s) 1 s) else ansResult []

end Sys2Proof.Machine
end

