-- ==== Sys2Proof/Machine/Dma.lean ====
section
/-!
DEFINITION. The DMA rings (chapter 16): fetching, execution and return of descriptors, doorbells, STOP, errors, and the
general engine's CODEC jobs (R123).
-/
namespace Sys2Proof.Machine

/-- Ring `n`. -/
def State.dring (s : State) (n : Nat) : DmaRing := s.dma.rings.getD n {}
/-- Ring `n` is replaced by `f` of itself. -/
def State.setDring (s : State) (n : Nat) (f : DmaRing → DmaRing) : State :=
  { s with dma := { s.dma with rings := upd s.dma.rings n f } }

/-! ## Descriptors (R346 to R348) -/

/-- Address of the descriptor with ring index `i` (R346). -/
def descAddr (x : DmaRing) (i : Nat) : Nat := x.base + 32 * i
/-- LEN. -/
def descLen (d : Bytes) : Nat := u32At d 16
/-- OP. -/
def descOp (d : Bytes) : Nat := byteAt d 20
/-- The SRC space is CTRL. -/
def descSrcCtrl (d : Bytes) : Bool := byteAt d 21 % 4 == 1
/-- The DST space is CTRL. -/
def descDstCtrl (d : Bytes) : Bool := byteAt d 21 / 4 % 4 == 1

/-- Base of the intake aperture. -/
def intakeBase : Nat := 0xF000000000
/-- Base of the capture aperture. -/
def captureBase : Nat := 0x20000000000

/-- A range of `n` bytes lies within a region. -/
def within (a n base size : Nat) : Bool := decide (base ≤ a) && decide (a + n ≤ base + size)

/-- Set number of an address in the capture aperture. -/
def capNumber (a : Nat) : Nat := (a - captureBase) / 0x100000000

/-- A source range of the CTRL space is a range of one capture set (R347). -/
def srcRegion (a n : Nat) : Bool :=
  decide (captureBase ≤ a) && decide (capNumber a < 256)
    && within a n (captureBase + capNumber a * 0x100000000) 0x100000000

/-- Bytes of the capture aperture; beyond SET_LEN they read 0 (R120). -/
def captureRead (a n : Nat) (s : State) : Bytes :=
  match s.img.captures.find? fun c => c.num == capNumber a with
  | some c => sub c.bytes ((a - captureBase) % 0x100000000) n
  | none => zeros n

/-- A reserved bit, an unknown OP or a rule of R348 (ERR DESC); the job header is `h`. -/
def descBad (d h : Bytes) : Bool :=
  let n := descLen d
  let sp := byteAt d 21
  decide (2 ≤ byteAt d 22) || byteAt d 23 != 0 || !zeroAt d 28 3 || decide (2 ≤ byteAt d 31) || decide (16 ≤ sp)
    || decide (2 ≤ sp % 4) || decide (2 ≤ sp / 4 % 4)
    || match descOp d with
      | 0 => outside n 1 16777216
      | 1 => outside n 1 16777216 || sp % 4 != 0
      | 2 => n != 0 || sp != 0 || u64At d 0 != 0 || u64At d 8 != 0
      | 3 => sp != 0 || n != 32 + u32At h 4
      | _ => true

/-- The first CTRL address outside the regions, or whose transfer crosses a region's end (ERR ADDR, R347). -/
def descAddrBad (d : Bytes) : Option Nat :=
  if descSrcCtrl d && !srcRegion (u64At d 0) (descLen d) then some (u64At d 0)
  else if descDstCtrl d && !within (u64At d 8) (descLen d) intakeBase 16384 then some (u64At d 8)
  else none

/-- ERR code of a data request's error (R355). -/
def dmaErrCode : DmaErr → Nat
  | .hostErr => 5 | .timeout => 6 | .poison => 7 | .dramEcc => 8

/-- The bytes that a FILL writes (R348). -/
def fillBytes (pat : Bytes) (n : Nat) : Bytes := (List.range n).map fun i => pat.getD (i % 8) 0

/-! ## Halting (R354 to R356) -/

/-- The ring halts at ring index `i`; descriptors from there on keep OWN. -/
def haltRing (n i err addr : Nat) (s : State) : State :=
  s.setDring n fun x => { x with
    fetched := [], ci := i, run := false, halted := true, err := err, errAddr := addr, wake := false, idle := false
    stopErr := 0 }

/-- The ring halts with an error; EV008 + n pulses (R355). -/
def haltError (n i err addr : Nat) (s : State) : State := (haltRing n i err addr s).pulse (8 + n) 0

/-- RUN falls once every fetched descriptor has been returned and the ring has stopped fetching (R350). -/
def settleRing (n : Nat) (s : State) : State :=
  s.setDring n fun x => if x.idle && x.fetched.isEmpty then { x with run := false, idle := false, wake := false } else x

/-! ## Execution (R348, R351, R353) -/

/-- Bytes go to DST: host memory, or one packet for intake (R88); a STANDBY takes no TRT traffic (R97). -/
def dmaWrite (d b : Bytes) (s : State) : State :=
  let a := u64At d 8
  if descDstCtrl d then
    if s.shadow then s
    else if a = intakeBase then trtReceive 2 [] 0 b s
    else { s with itk := { s.itk with pcieBad := satInc 32 s.itk.pcieBad } }
  else { s with io := { s.io with host := memWriteBytes s.io.host a b } }

/-- The oldest fetched descriptor starts, or halts the ring before it starts (R348, R351, R355). -/
def startDesc (n : Nat) (s : State) : State :=
  let x := s.dring n
  match x.fetched with
  | [] => s
  | e :: _ =>
    let d := e.bytes
    let at0 := descAddr x e.index
    let mark (codec : Bool) (s : State) : State := s.setDring n fun x => { x with
      fetched := upd x.fetched 0 fun e => { e with started := true, codec := codec } }
    let data : Bytes := match e.read with | .data b => fit (descLen d) b | .fail _ _ => []
    let failed : Bool := match e.read with | .data _ => false | .fail _ _ => true
    if e.started then s
    else if d = [] then haltError n e.index 4 at0 s
    else if descOp d = 3 && failed && !(descBad d (le 8 ((descLen d - 32) * 2 ^ 32))) then match e.read with
      | .fail r a => haltError n e.index (dmaErrCode r) a.toNat s
      | .data _ => s
    else if descBad d data then haltError n e.index 2 at0 s
    else match descAddrBad d with
      | some a => haltError n e.index 3 a s
      | none => match descOp d with
        | 0 =>
          if failed then match e.read with
            | .fail r a => haltError n e.index (dmaErrCode r) a.toNat s
            | .data _ => s
          else dmaWrite d (if descSrcCtrl d then captureRead (u64At d 0) (descLen d) s else data) (mark false s)
        | 1 => dmaWrite d (fillBytes (d.take 8) (descLen d)) (mark false s)
        | 2 => mark false s
        | _ => { (mark true s) with dma := { (mark true s).dma with jobs := s.dma.jobs ++ [n] } }

/-- A descriptor read ends (R350): `d` is what it returns, none for a failed read (ERR FETCH). -/
def descFetch (n : Nat) (d : Option Bytes) (r : DmaRead) (s : State) : State :=
  let x := s.dring n
  if !x.run || x.idle || x.stopErr != 0 || decide (32 ≤ x.fetched.length) then s
  else
    let add (b : Bytes) (last : Bool) : State :=
      let s' := s.setDring n fun x => { x with
        fetched := x.fetched ++ [{ index := x.ci, bytes := b, read := r }]
        ci := if last then x.ci else (x.ci + 1) % 2 ^ x.log2n
        idle := last }
      if x.fetched.isEmpty then startDesc n s' else s'
    match d with
    | none => add [] true
    | some b =>
      let b := fit 32 b
      if byteAt b 31 % 2 = 1 then add b false
      else if x.wake then s.setDring n fun x => { x with wake := false }
      else settleRing n (s.setDring n fun x => { x with idle := true })

/-- The boundary after a descriptor: a waiting STOP halts the ring, else the next descriptor starts (R351, R354). -/
def ringBoundary (n : Nat) (s : State) : State :=
  let x := s.dring n
  if x.stopErr ≠ 0 then haltRing n (match x.fetched with | e :: _ => e.index | [] => x.ci) x.stopErr x.errAddr s
  else settleRing n (startDesc n s)

/-- The writes of the oldest descriptor are acknowledged (R352), or its completion read ends in a timeout (R355). -/
def descComplete (n : Nat) (ok : Bool) (s : State) : State :=
  let x := s.dring n
  match x.fetched with
  | [] => s
  | e :: es =>
    if !e.started || e.codec then s
    else if !ok then haltError n e.index 6 (u64At e.bytes 8) s
    else
      let s : State := { s with io := { s.io with host := memWrite s.io.host (descAddr x e.index + 31) 0 } }
      let s := s.setDring n fun x => { x with fetched := es, done := (x.done + 1) % 2 ^ 32 }
      let s := if byteAt e.bytes 22 % 2 = 1 then s.pulse n 0 else s
      ringBoundary n s

/-- The general engine completes its oldest job (R123, R124); `badCoded` and `badRaw` name the blocks whose
self-verification fails (R117). -/
def generalJob (badCoded badRaw : List Nat) (s : State) : State :=
  match s.dma.jobs with
  | [] => s
  | n :: js =>
    let s0 : State := { s with dma := { s.dma with jobs := js } }
    match (s.dring n).fetched with
    | [] => s0
    | e :: _ =>
      if !e.codec then s0
      else
        let data : Bytes := match e.read with | .data b => fit (descLen e.bytes) b | .fail _ _ => []
        let r := engineJob data badCoded badRaw
        let out := r.record ++ r.out ++ (if r.undef then freeBytes .codec (u32At data 12 - r.out.length) r.out.length s else [])
        let s1 := (dmaWrite e.bytes out s0).setDring n fun x => { x with
          fetched := upd x.fetched 0 fun e => { e with codec := false } }
        let s1 : State := { s1 with dma := { s1.dma with verify := satAdd 16 s1.dma.verify r.coded } }
        advanceFree (if r.rawBad then s1.raise .note 236 5 0x14 else s1)

/-! ## Doorbells (R73, R350, R354, R356) -/

/-- A doorbell RING takes effect (R73, R350, R356). -/
def ringDoorbell (n : Nat) (s : State) : State :=
  let x := s.dring n
  if !x.enable then s.setDring n fun x => { x with cfgErr := true }
  else if x.run then s.setDring n fun x => if x.idle then { x with idle := false } else { x with wake := true }
  else s.setDring n fun x => { x with run := true, halted := false, err := 0, idle := false, wake := false }

/-- A held setup write of ring `n` waits for its entry (R66, R73). -/
def ringWriteHeld (n : Nat) (s : State) : Bool :=
  s.reg.dma.held.any fun w => match w.reg with | .ring r _ => r.val == n | _ => false

/-- A write of DnDB.RING: it takes effect after every setup write of its ring that is still held (R73). -/
def doorbellWrite (n : Nat) (s : State) : State :=
  if ringWriteHeld n s then s.setDring n fun x => { x with doorHeld := true } else ringDoorbell n s

/-- STOP or a host-interface reset halts a ring at its next descriptor boundary (R354, R356). -/
def stopRing (err n : Nat) (s : State) : State :=
  let x := s.dring n
  if !x.run then s.setDring n fun x => { x with halted := true, err := err }
  else match x.fetched with
    | e :: _ =>
      if e.started then s.setDring n fun x => { x with fetched := x.fetched.take 1, ci := (e.index + 1) % 2 ^ x.log2n, stopErr := err }
      else haltRing n e.index err x.errAddr s
    | [] => haltRing n x.ci err x.errAddr s

/-- A write of DnDB.STOP waits as RING does (R73). -/
def stopWrite (n : Nat) (s : State) : State :=
  if ringWriteHeld n s then s.setDring n fun x => { x with stopHeld := true } else stopRing 1 n s

/-- The doorbells that waited for the last held setup write of ring `n` take effect, RING before STOP (R73). -/
def releaseDoorbells (n : Nat) (s : State) : State :=
  let x := s.dring n
  let s := if x.doorHeld then ringDoorbell n (s.setDring n fun x => { x with doorHeld := false }) else s
  if x.stopHeld then stopRing 1 n (s.setDring n fun x => { x with stopHeld := false }) else s

end Sys2Proof.Machine
end

