-- ==== Sys2Proof/Machine/Registers.lean ====
section
/-!
DEFINITION. Writes to BAR0 (chapter 03): hamper doorbells and consumer indices, PENDING bits, the guarded blocks and
their held writes, the snapshot windows, the protective writes, and the host-interface reset (R30).
-/
namespace Sys2Proof.Machine

/-! ## Hampers (R31, R32, R34, R51, R72) -/

/-- HnSTAT.READY: Renune serves the hampers (R31, R45). -/
def State.ready (s : State) : Bool := s.saf.ctrl.serving && !s.saf.internalReset

/-- Hamper `n` is replaced by `f` of itself. -/
def State.setHamper (s : State) (n : Nat) (f : Hamper → Hamper) : State := { s with io := s.io.setHamper n f }

/-- A write of HnDB (R31, R32). -/
def doorbell (n v : Nat) (s : State) : State :=
  if !s.ready then s
  else
    let pi := v % 128
    s.setHamper n fun h => if 64 < (pi + 128 - h.ci) % 128 then { h with dberr := true } else { h with pi := pi }

/-- A write of HnRSP_CONS (R72): released slots let waiting responses post (R34). -/
def responseConsumer (n v : Nat) (s : State) : State :=
  if !s.ready then s
  else
    let ci := v % 128
    let h := s.io.hamper n
    if (h.rspPi + 128 - h.rspCons) % 128 < (ci + 128 - h.rspCons) % 128 then s.setHamper n fun h => { h with dberr := true }
    else { s with io := drainResponses 64 n (s.io.setHamper n fun h => { h with rspCons := ci }) }

/-- The LOST entry that comes before every other once space has returned (R51). -/
def putLost (n : Nat) (io : Io) : Io :=
  let r := (io.hamper n).ring
  if r.lost = 0 ∨ r.full = true ∨ r.enabled = false then io
  else
    let io := writeEntry n 4 0 0 0 0 (min 255 r.lost) io.time 0 0 io
    pulse (24 + n) 0 (io.setHamper n fun h => { h with ring := { h.ring with lost := 0 } })

/-- A write of HnEVR_CONS (R72): released entries let a LOST entry and waiting COMPLETIONs post (R51). -/
def eventConsumer (n v : Nat) (s : State) : State :=
  if !s.ready then s
  else
    let ci := v % 8192
    let r := (s.io.hamper n).ring
    let m := 2 * r.size
    if m ≤ ci ∨ (r.pi + m - r.ci) % m < (ci + m - r.ci) % m then s.setHamper n fun h => { h with dberr := true }
    else { s with io := drainCompletions 64 n (putLost n
      (s.io.setHamper n fun h => { h with ring := { h.ring with ci := ci } })) }

/-- A write to EV_PENDi; `hit` marks the lines whose event comes in the same cycle (R61). -/
def pendClear (i mask hit : Nat) (s : State) : State :=
  let clear (l : List Line) (k : Nat) : List Line :=
    if bit mask k then upd l (32 * i + k) fun x => { x with pending := bit hit k, count := b2n (bit hit k) } else l
  { s with io := { s.io with lines := (List.range 32).foldl clear s.io.lines } }

/-! ## Guarded blocks (R62 to R68, R73) -/

/-- The guard of a block. -/
def State.guard (s : State) : Block → Guard
  | .dma => s.reg.dma
  | .svc => s.reg.svc

/-- The guard of a block is replaced by `f` of itself. -/
def State.setGuard (s : State) (b : Block) (f : Guard → Guard) : State := match b with
  | .dma => { s with reg := { s.reg with dma := f s.reg.dma } }
  | .svc => { s with reg := { s.reg with svc := f s.reg.svc } }

/-- The other guarded block. -/
def otherBlock : Block → Block
  | .dma => .svc
  | .svc => .dma

/-- A write to an UNLOCK register (R62). -/
def unlockWrite (b : Block) (v : Nat) (s : State) : State :=
  (s.setGuard (otherBlock b) fun g => { g with isOpen := false }).setGuard b fun g =>
    if g.isOpen then { g with isOpen := false }
    else if v % 65536 = 0x7E1A then { g with isOpen := true }
    else { g with keyErr := true }

/-- A write to a KSTAT register. -/
def kstatWrite (b : Block) (v : Nat) (s : State) : State :=
  s.setGuard b fun g => { g with keyErr := g.keyErr && !bit v 8, notRec := g.notRec && !bit v 9 }

/-- The block of a guarded register. -/
def Guarded.block : Guarded → Block
  | .ring _ _ => .dma
  | .svcCmd => .svc
  | .svcInh => .svc

/-- BAR0 offset of a guarded register. -/
def Guarded.addr : Guarded → Nat
  | .ring r .baseLo => 0x20000 + 0x40 * r.val
  | .ring r .baseHi => 0x20004 + 0x40 * r.val
  | .ring r .cfg => 0x20008 + 0x40 * r.val
  | .svcCmd => 0x34010
  | .svcInh => 0x34014

/-- DnCFG as it reads. -/
def cfgWord (x : DmaRing) : Nat := x.log2n + 256 * x.weight + 65536 * b2n x.enable

/-- What a guarded register reads. -/
def Guarded.read (g : Guarded) (s : State) : Nat := match g with
  | .ring r .baseLo => (s.dring r.val).base % 2 ^ 32
  | .ring r .baseHi => (s.dring r.val).base / 2 ^ 32
  | .ring r .cfg => cfgWord (s.dring r.val)
  | .svcCmd => 0
  | .svcInh => b2n s.saf.inhForce

/-- A written value after masking. -/
def Guarded.mask (g : Guarded) (v : Nat) : Nat := match g with
  | .ring _ .baseLo => v / 4096 * 4096
  | .ring _ .baseHi => v
  | .ring _ .cfg => v % 16 + fld v 15 8 * 256 + fld v 16 16 * 65536
  | .svcCmd => v % 4
  | .svcInh => v % 2

/-- Origin code and DETAIL of a writer (R358). -/
def writerOrigin : Writer → Nat × Nat
  | .host r => (2, r.toNat)
  | .renune t => (3, t.toNat)
  | .peer => (4, 0)
  | .debug => (5, 0)
  | .bootRom => (6, 0)
  | .rambler j => (7, j.toNat)
  | .protection l => (8, l.toNat)
  | .node a => (9, a.toNat)

/-- The REGISTER or REFUSED record of a write to a guarded register (R359, R362); `reason` is 0 for a REGISTER. -/
def guardRec (kind : Kind) (g : Guarded) (v reason : Nat) (w : Writer) (draw : Draw) (act : Act) (s : State) : Rec where
  kind := kind
  time := s.io.time
  origin := (writerOrigin w).1
  detail := (writerOrigin w).2
  subject := 0
  body := le 4 g.addr ++ le 4 (g.read s) ++ le 4 (g.mask v) ++ le 4 reason
  draw := draw
  act := act

/-- Places of the capture queue that BAR0 writes occupy (R68). -/
def capturePlaces (s : State) : Nat := (s.led.queue.filter fun r => r.kind == .register || r.kind == .refused).length

/-- A refused write is recorded (R63, R73): 1 LOCKED, 2 CFGERR, 3 NOTREC. Its capture takes a place as every other
non-protective one does; without one it sets NOTREC and leaves no record (R68). -/
def refuseWrite (g : Guarded) (v reason : Nat) (w : Writer) (s : State) : State :=
  if 24 ≤ capturePlaces s then s.setGuard g.block fun x => { x with notRec := true }
  else s.record (guardRec .refused g v reason w .ordinary .none s)

/-- A protective write's record follows its effect; without a place it is counted (R67, R68). -/
def recordProtective (g : Guarded) (v : Nat) (w : Writer) (before s : State) : State :=
  if capturePlaces before < 32 then s.record (guardRec .register g v 0 w .protective (.seqLo g.block) before)
  else { s with reg := { s.reg with
    lostWrites := satInc 16 s.reg.lostWrites
    lostFirst := if s.reg.lostWrites = 0 then s.io.time else s.reg.lostFirst
    lostLast := s.io.time } }

/-- A setup write that R73 or the register's table refuses with CFGERR. -/
def setupBad (g : Guarded) (v : Nat) (s : State) : Bool := match g with
  | .ring r .cfg => (s.dring r.val).run || outside (v % 16) 5 12 || fld v 15 8 == 0
  | .ring r _ => (s.dring r.val).run
  | _ => false

/-- A guarded register takes a value; a setup write clears CI, HALTED and ERR (R356), INH_FORCE only its own cause
(R74). -/
def Guarded.apply (g : Guarded) (v : Nat) (s : State) : State := match g with
  | .ring r k => s.setDring r.val fun x =>
      let x := { x with ci := 0, halted := false, err := 0 }
      match k with
      | .baseLo => { x with base := x.base / 2 ^ 32 * 2 ^ 32 + v }
      | .baseHi => { x with base := x.base % 2 ^ 32 + v * 2 ^ 32 }
      | .cfg => { x with log2n := v % 16, weight := fld v 15 8, enable := bit v 16 }
  | .svcCmd => s
  | .svcInh => { s with saf := { s.saf with inhForce := v == 1 } }

/-- An unlocked write that waits for its entry, takes effect at once (the boot ROM, R66), or is discarded (R66, R68). -/
def holdWrite (g : Guarded) (v : Nat) (w : Writer) (s : State) : State :=
  let b := g.block
  let discard : State := refuseWrite g v 3 w (s.setGuard b fun x => { x with notRec := true })
  let r := guardRec .register g v 0 w .ordinary
  if w = .bootRom then
    if s.led.bootWrites < 16 then
      g.apply (g.mask v) { s with led := { s.led with
        bootCaptures := s.led.bootCaptures ++ [r (.seqLo b) s], bootWrites := s.led.bootWrites + 1 } }
    else discard
  else if !s.saf.ctrl.serving || decide (24 ≤ capturePlaces s) then discard
  else (s.setGuard b fun x => { x with
      held := x.held ++ [{ reg := g, value := g.mask v, origin := (writerOrigin w).1, detail := (writerOrigin w).2 }] }).record
    (r (.heldWrite b (writerOrigin w).1) s)

/-- The check that every RWK write meets first: a locked block refuses it (R63), an open one locks again (R62). -/
def guardWrite (g : Guarded) (v : Nat) (w : Writer) (go : State → State) (s : State) : State :=
  let b := g.block
  if !(s.guard b).isOpen then refuseWrite g v 1 w (s.setGuard b fun x => { x with keyErr := true })
  else go (s.setGuard b fun x => { x with isOpen := false })

/-- A write to a DMA setup register (R66, R73). -/
def setupWrite (r : Fin 8) (k : DmaReg) (v : Nat) (w : Writer) (s : State) : State :=
  guardWrite (.ring r k) v w (fun s =>
    if setupBad (.ring r k) v s then refuseWrite (.ring r k) v 2 w (s.setDring r.val fun x => { x with cfgErr := true })
    else holdWrite (.ring r k) v w s) s

/-- A write to SVC_CMD (R67, R74): STOP_REQ wins over HALT_REQ; a write of 0 is recorded without an effect. -/
def svcCmdWrite (v : Nat) (w : Writer) (s : State) : State :=
  guardWrite .svcCmd v w (fun s =>
    if bit v 1 then recordProtective .svcCmd v w s (s.raise .stop 236 0 6)
    else if bit v 0 then recordProtective .svcCmd v w s (s.raise .halt 236 0 5)
    else holdWrite .svcCmd v w s) s

/-- The units react to the inhibit, and the controller enters SAFE from IDLE to HALTED (R438, R441). -/
def enterSafe (s : State) : State := (inhibitUnits s).setCtrl (classState .stop s.saf.ctrl)

/-- INH_FORCE goes from 0 to 1; clears that arrived earlier and still wait no longer clear it. -/
def forceInhibit (s : State) : State :=
  let s := s.setGuard .svc fun x => { x with held := x.held.map fun h => if h.reg = .svcInh then { h with value := 1 } else h }
  enterSafe { s with saf := { s.saf with inhForce := true } }

/-- A write to SVC_INH (R67, R74). -/
def svcInhWrite (v : Nat) (w : Writer) (s : State) : State :=
  guardWrite .svcInh v w (fun s =>
    if bit v 0 && !s.saf.inhForce then recordProtective .svcInh v w s (forceInhibit s)
    else holdWrite .svcInh v w s) s

/-- The oldest held write of a block whose entry has been decided applies, or is discarded with NOTREC (R66); a doorbell
that waited for it then takes effect (R73). -/
def applyHeld (b : Block) (s : State) : State :=
  match (s.guard b).held with
  | [] => s
  | h :: hs => match h.seq with
    | none => s
    | some n =>
      let s := s.setGuard b fun x => { x with held := hs }
      let s := if n = 0 then s.setGuard b fun x => { x with notRec := true }
        else h.reg.apply h.value (s.setGuard b fun x => { x with seqLo := n % 65536 })
      match h.reg with
      | .ring r _ => if ringWriteHeld r.val s then s else releaseDoorbells r.val s
      | _ => s

/-! ## Snapshot windows (R69) -/

/-- Data words of a value of `n` bits. -/
def words (n v : Nat) : List Nat := (List.range n).map fun k => v / 2 ^ (32 * k) % 2 ^ 32

/-- Data words of a string of bytes. -/
def byteWords (n : Nat) (b : Bytes) : List Nat := (List.range n).map fun k => u32At b (4 * k)

/-- The value that a snapshot select names (snapshot select codes). -/
def snapValue (sel : Nat) (s : State) : Option (List Nat) :=
  if sel = 0x0001 then some (words 2 s.io.time)
  else if 0x0100 ≤ sel ∧ sel ≤ 0x0107 then some (words 2 ((s.qe (sel - 0x0100)).ctr.pos % (2 : Int) ^ 48).toNat)
  else if 0x0110 ≤ sel ∧ sel ≤ 0x0113 then some (words 2 ((s.se (sel - 0x0110)).ctr.pos % (2 : Int) ^ 48).toNat)
  else if 0x0120 ≤ sel ∧ sel ≤ 0x012B then some (words 2 ((s.axis (sel - 0x0120)).pos % (2 : Int) ^ 64).toNat)
  else if 0x0200 ≤ sel ∧ sel ≤ 0x0204 then some (byteWords 12 (s.stn (sel - 0x0200)).sideDigest)
  else if 0x0210 ≤ sel ∧ sel ≤ 0x0214 then some (byteWords 4 (s.stn (sel - 0x0210)).bandDigest)
  else if sel = 0x0300 then some (words 2 s.led.head)
  else none

/-- Snapshot window `w` is replaced by `f` of itself. -/
def State.setSnap (s : State) (w : Nat) (f : Snap → Snap) : State :=
  { s with reg := { s.reg with snaps := upd s.reg.snaps w f } }

/-- A write of SWw_SEL captures, or sets SELERR (R69). -/
def snapSelect (w v : Nat) (s : State) : State :=
  let sel := v % 65536
  match snapValue sel s with
  | none => s.setSnap w fun x => { x with sel := sel, selErr := true }
  | some l => s.setSnap w fun x => { x with
      sel := sel, valid := true, overrun := x.overrun || x.valid, len := l.length, time := s.io.time
      data := l ++ List.replicate (12 - l.length) 0 }

/-- Reading data word LEN - 1 clears VALID (R59, R69). -/
def snapRead (w : Nat) (s : State) : State := s.setSnap w fun x => { x with valid := false }

/-- A write to SWw_STAT. -/
def snapStatWrite (w v : Nat) (s : State) : State :=
  s.setSnap w fun x => { x with overrun := x.overrun && !bit v 1, selErr := x.selErr && !bit v 2 }

/-! ## Register writes by type (R57, R58, R60) -/

/-- A write without all byte enables is ignored and counted (R57). -/
def partialWrite (s : State) : State := { s with reg := { s.reg with partialCnt := satInc 16 s.reg.partialCnt } }

/-- A write to a RWM register (R60). -/
def rwmWrite (old v : Nat) : Nat := Nat.xor (Nat.land old (65535 - v / 65536)) (Nat.land v (v / 65536))

/-- A write to a register of a DMA ring. -/
def ringRegWrite (r : Fin 8) (o v : Nat) (w : Writer) (s : State) : State := match o with
  | 0x00 => setupWrite r .baseLo v w s
  | 0x04 => setupWrite r .baseHi v w s
  | 0x08 => setupWrite r .cfg v w s
  | 0x0C =>
    let s := if bit v 0 then doorbellWrite r.val s else s
    if bit v 1 then stopWrite r.val s else s
  | 0x10 => s.setDring r.val fun x => { x with cfgErr := x.cfgErr && !bit v 24 }
  | _ => s

/-- A write to a register of the doorbell block of hamper `n`. -/
def hamperRegWrite (n o v : Nat) (s : State) : State := match o with
  | 0x0 => doorbell n v s
  | 0x4 => s.setHamper n fun h => { h with dberr := h.dberr && !bit v 17 }
  | 0x8 => responseConsumer n v s
  | _ => eventConsumer n v s

/-- An aligned 32-bit write to a register (R58, R60, R71). -/
def regWrite (o v : Nat) (w : Writer) (s : State) : State :=
  if 0x30 ≤ o ∧ o < 0x40 then
    { s with reg := { s.reg with scratch := upd s.reg.scratch ((o - 0x30) / 4) fun x => rwmWrite x v } }
  else if 0x1000 ≤ o ∧ o < 0x1080 then hamperRegWrite ((o - 0x1000) / 16) (o % 16) v s
  else if 0x20000 ≤ o ∧ o < 0x20200 then ringRegWrite (Fin.ofNat 8 ((o - 0x20000) / 0x40)) (o % 0x40) v w s
  else if o = 0x20FF0 then unlockWrite .dma v s
  else if o = 0x20FF4 then kstatWrite .dma v s
  else if 0x24000 ≤ o ∧ o < 0x24020 then pendClear ((o - 0x24000) / 4) v 0 s
  else if 0x30000 ≤ o ∧ o < 0x30200 then
    if o % 0x80 = 0 then snapSelect ((o - 0x30000) / 0x80) v s
    else if o % 0x80 = 4 then snapStatWrite ((o - 0x30000) / 0x80) v s
    else s
  else if o = 0x34000 then unlockWrite .svc v s
  else if o = 0x34004 then kstatWrite .svc v s
  else if o = 0x34010 then svcCmdWrite v w s
  else if o = 0x34014 then svcInhWrite v w s
  else s

/-- The bytes that a doubleword write with byte enables `be` stores: byte `k` where bit `k` is 1 (R57). -/
def memWriteEnabled (m : Mem) (x be : Nat) : Bytes → Mem
  | [] => m
  | v :: vs => memWriteEnabled (if be % 2 = 1 then memWrite m x v else m) (x + 1) (be / 2) vs

/-- A doubleword write to BAR0 with its byte enables (R57, R58, R60): the hamper windows are memory and take any byte
enables; a register takes only an aligned write with all four; an unaligned write reaches two doublewords in part. A
longer request is one such write after another in ascending order. -/
def barWrite (o v be : Nat) (w : Writer) (s : State) : State :=
  if 0x10000 ≤ o ∧ o < 0x20000 then
    { s with io := { s.io with windows := memWriteEnabled s.io.windows (o - 0x10000) be (le 4 v) } }
  else if o % 4 ≠ 0 then partialWrite (partialWrite s)
  else if be % 16 ≠ 15 then partialWrite s
  else regWrite o v w s

/-! ## Session ends and the host-interface reset (R30, R47) -/

/-- The session in a slot ends; its end is recorded on the reserve with the opcode of SESSION_CLOSE (R47). -/
def endSession (slot : Nat) (s : State) : State :=
  match s.io.sessions.getD slot none with
  | none => s
  | some x =>
    ({ s with io := { s.io with sessions := upd s.io.sessions slot fun _ => none } }).record {
      kind := .command, time := s.io.time, origin := 3, detail := Config.renuneTask.toNat, subject := 0x0281
      body := le 2 0 ++ [0xFF, 0] ++ le 4 x.id ++ le 4 0 ++ le 2 0 ++ formBytes 0 []
      draw := .reserve }

/-- A hamper after reset: commands past recording go on unreported, every other is discarded (R30). The challenge goes,
but for a SESSION_OPEN past recording, which applies as if no reset had occurred; the refusal counters are Renune's and
stay, which R30 and R40 leave open (DESIGN CHOICE, assumption 7). -/
def resetHamper (h : Hamper) : Hamper :=
  { flights := (h.flights.filter fun x => x.change && (x.stage == .recording || x.stage == .running)).map fun x =>
      { x with gone := x.gone + 1 }
    nonce := if h.flights.any fun x => x.op == .sessionOpen && x.stage == .recording then h.nonce else none
    refusals := h.refusals }

/-- FLR or nPERST resets the host interface and not the engine (R30, R54, R64, R69, R72, R356). -/
def hostReset (s : State) : State :=
  let s := (List.range 16).foldl (fun s k => endSession k s) s
  let s := (List.range 8).foldl (fun s n => stopRing 9 n s) s
  let keep (x : Final) : Bool := (s.io.hamper x.hamper).flights.any fun y =>
    y.f.tag.toNat == x.tag && y.gone == x.gone && y.change && y.stage == .running
  { s with
    io := { s.io with
      hampers := s.io.hampers.map resetHamper
      lines := defaultLines
      finals := (s.io.finals.filter keep).map fun x => { x with gone := x.gone + 1 } }
    reg := { s.reg with
      dma := { s.reg.dma with isOpen := false }
      svc := { s.reg.svc with isOpen := false }
      snaps := List.replicate 4 {} } }

end Sys2Proof.Machine
end

