-- ==== Sys2Proof/Machine/Rim.lean ====
section
/-!
DEFINITION. The Rim ring (chapter 15): enumeration, cycle frames and their merge, breaks, mailboxes, the Blanket, and
the commands of group 0x0D.
-/
namespace Sys2Proof.Machine

/-! ## Nodes -/

/-- The node at position `p` is replaced by `f` of itself. -/
def State.setNode (s : State) (p : Nat) (f : RimNode → RimNode) : State :=
  { s with rim := { s.rim with nodes := upd s.rim.nodes p f } }

/-- Position of the node with an address. -/
def nodePos (addr : Nat) (s : State) : Option Nat := s.rim.nodes.findIdx? fun n => n.addr == addr

/-- A node enters a state; EV193 (R343). -/
def nodeState (p : Nat) (st : NState) (s : State) : State := match s.rim.nodes[p]? with
  | none => s
  | some n =>
    if n.state = st then s else (s.setNode p fun n => { n with state := st }).pulse 193 (n.addr + st.code * 2 ^ 16)

/-- RIM_BREAK.POS: k, 0 while no break is present. -/
def breakPos (s : State) : Nat := if s.rim.broken then (s.rim.servedA + 1023) % 1024 else 0

/-- EV192: ring state and break position (R343). -/
def rimEvent (s : State) : State := s.pulse 192 (s.rim.state.code + breakPos s * 2 ^ 8)

/-- A ring cause is raised; the first is kept in RIM_STATE.FAULT. -/
def rimRaise (c : Cls) (cause : Nat) (s : State) : State :=
  { s with rim := { s.rim with fault := if s.rim.fault = 0 then cause else s.rim.fault } }.raise c 192 0 cause

/-- A HALT-class ring cause: the ring enters FAULT, and RIM_ENUM ends with FAULTED and the cause (ring-states table,
R344). -/
def rimFault (cause : Nat) (s : State) : State :=
  ((rimEvent { s with rim := { s.rim with state := .fault } }).finish .rimEnum 0 stFaulted cause |> rimRaise .halt cause)

/-- A message to the node at position `p` is queued with the next MSG tag. -/
def sendMsg (p : Nat) (why : RimWhy) (bytes : Bytes) (s : State) : State :=
  let t := s.rim.nextTag
  let s := s.setNode p fun n => { n with msgs := n.msgs ++ [{ why := why, tag := t, bytes := bytes }] }
  { s with rim := { s.rim with nextTag := (t + 1) % 256 } }

/-- Bytes of a message header (R336). -/
def msgHead (op status len arg : Nat) : Bytes := le 1 op ++ le 1 status ++ le 2 len ++ le 4 arg

/-- WDOG_N of the topology in use (R330). -/
def wdogN (s : State) : Nat := match s.rim.topo with | some c => byteAt c 4 | none => 6
/-- NODE_LOST_N of the topology in use (R333). -/
def nodeLostN (s : State) : Nat := match s.rim.topo with | some c => byteAt c 3 | none => 8

/-- ROLE_SET is queued (R329). -/
def sendRole (p : Nat) (s : State) : State := match s.rim.nodes[p]? with
  | none => s
  | some n => sendMsg p .roleSet (msgHead 0x83 0 4 0 ++ le 2 n.addr ++ le 1 n.fast ++ le 1 (wdogN s))
      (s.setNode p fun n => { n with roleOk := false, timeSent := false, timeAns := false, timeOk := false })

/-- TIME_SET is queued: D_A = round_div(L - DELTA, 2), D_B = L - D_A (R325). -/
def sendTime (p : Nat) (s : State) : State := match s.rim.nodes[p]? with
  | none => s
  | some n =>
    let l : Int := s.rim.loopNs
    let da := floorDiv (l - n.delta + 1) 2
    sendMsg p .timeSet (msgHead 0x84 0 8 0 ++ leI 4 da ++ leI 4 (l - da)) (s.setNode p fun n => { n with timeSent := true })

/-! ## Enumeration (R326 to R329) -/

/-- The ring enters ENUM with the waiting configuration. -/
def rimEnter (s : State) : State :=
  rimEvent { s with rim := { s.rim with
    state := .enum, broken := false, fault := 0, nodes := [], servedA := 0, enumLast := none, enumFrames := 0, flying := []
    topo := match s.rim.config with | some c => some c | none => s.rim.topo, config := none } }

/-- The node of position `p` under the topology, or with ADDR = position without one (R328). -/
def enumNode (s : State) (p : Nat) (ident : Bytes) : RimNode :=
  match s.rim.topo with
  | some c =>
    if p < u16At c 0 then
      { addr := u16At c (16 + 16 * p), fast := byteAt c (18 + 16 * p), cls := byteAt c (19 + 16 * p), ident := ident }
    else { addr := p, fast := 255, cls := 0, ident := ident }
  | none => { addr := p, fast := 255, cls := 0, ident := ident }

/-- A node's ident contradicts a nonzero entry field, or the node count NODES, under STRICT (R328). -/
def enumMismatch (s : State) (e : EnumCopy) : Bool := match s.rim.topo with
  | none => false
  | some c => bit (byteAt c 2) 0 && (u16At c 0 != e.nodes || (List.range e.nodes).any fun p =>
      let id := e.idents.getD p []
      let differs (off n idOff : Nat) : Bool :=
        leAt c (off + 16 * p) n != 0 && leAt c (off + 16 * p) n != leAt id idOff n
      differs 20 2 0 || differs 22 2 2 || differs 24 8 8)

/-- Two consecutive enumeration frames agree: N, L and the nodes are taken, and CONFIG begins (R326 to R329). -/
def enumDone (e : EnumCopy) (s : State) : State :=
  let s := { s with rim := { s.rim with loopNs := e.loopNs } }
  let ns := (List.range e.nodes).map fun p => enumNode s p (fit 24 (e.idents.getD p []))
  let s := ({ s with rim := { s.rim with nodes := ns, servedA := e.nodes } }).pulse 196 0
  let s := forEach (List.range e.nodes) (fun s p => match s.rim.nodes[p]? with
    | some n => s.pulse 193 (n.addr + 2 ^ 16)
    | none => s) s
  if 41500 < e.loopNs then rimFault 5 s
  else if enumMismatch s e then rimFault 4 s
  else
    let s := rimEvent { s with rim := { s.rim with state := .config } }
    let s := forEach (List.range e.nodes) (fun s p => sendRole p s) s
    if e.nodes = 0 then (rimEvent { s with rim := { s.rim with state := .run } }).finish .rimEnum 0 stDone 0 else s

/-- An enumeration frame returns (R327). -/
def enumFrame (e : EnumCopy) (s : State) : State :=
  if s.rim.state ≠ .enum ∨ 16 ≤ s.rim.enumFrames then s
  else
    let agree : Bool := match s.rim.enumLast with
      | some x => x.nodes == e.nodes && x.idents == e.idents
      | none => false
    if agree then enumDone e s
    else { s with rim := { s.rim with enumLast := some e, enumFrames := s.rim.enumFrames + 1 } }

/-- 100 ms after an attempt without two agreeing frames (R327). -/
def enumRetry (s : State) : State :=
  if s.rim.state = .enum then { s with rim := { s.rim with enumLast := none, enumFrames := 0 } } else s

/-- A port gains or loses block lock; both locked in DOWN begin ENUM (ring-states table). -/
def portLock (b locked : Bool) (s : State) : State :=
  let s : State := { s with rim := if b then { s.rim with lockB := locked } else { s.rim with lockA := locked } }
  if s.rim.state = .down ∧ s.rim.lockA ∧ s.rim.lockB then rimEnter s else s

/-- 10 ms have elapsed in DOWN (ring-states table). -/
def downTimeout (s : State) : State := if s.rim.state = .down then rimEnter s else s

/-! ## The cycle frame (R320 to R324, R335) -/

/-- The head message still has a fragment to send. -/
def RimNode.downWork (n : RimNode) : Bool := match n.msgs with
  | m :: _ => m.next < m.frags
  | [] => false
/-- Work is pending for a mailbox grant (R335). -/
def RimNode.work (n : RimNode) : Bool := n.downWork || n.mbxPend

/-- Position of the node that R21 grants next: the smallest virtual time, ties to the lowest position. -/
def pickNode (ns : List RimNode) : Option Nat :=
  let go : Option (Nat × Nat) → (RimNode × Nat) → Option (Nat × Nat) := fun best x =>
    if x.1.work && !(x.1.state == .enumerated && x.1.msgs.isEmpty) then
      match best with
      | some (_, v) => if x.1.vtime < v then some (x.2, x.1.vtime) else best
      | none => some (x.2, x.1.vtime)
    else best
  (ns.zipIdx.foldl go none).map (·.1)

/-- One mailbox grant (R21, R335). -/
def grantOne (s : State) : State × Option RimGrant := match pickNode s.rim.nodes with
  | none => (s, none)
  | some p => match s.rim.nodes[p]? with
    | none => (s, none)
    | some n =>
      let s := s.setNode p fun n => { n with vtime := n.vtime + 65536 / 16 }
      match n.msgs with
      | m :: ms =>
        if m.next < m.frags then
          (s.setNode p fun n => { n with msgs := { m with next := m.next + 1 } :: ms },
            some { addr := n.addr, up := false, tag := m.tag, frag := m.next })
        else (s, some { addr := n.addr, up := true })
      | [] => (s, some { addr := n.addr, up := true })

/-- `k` mailbox grants of a frame. -/
def grantAll : Nat → State → State × List RimGrant
  | 0, s => (s, [])
  | k + 1, s => match grantOne s with
    | (s, none) => (s, [])
    | (s, some g) => let r := grantAll k s; (r.1, g :: r.2)

/-- No credit is banked while idle: a node that goes from idle to requesting takes the least active virtual time
(R21). -/
def refreshActive (s : State) : State :=
  let vs := (s.rim.nodes.filter fun n => n.active && n.work).map (·.vtime)
  let vmin := match vs with | [] => 0 | v :: r => r.foldl min v
  { s with rim := { s.rim with nodes := s.rim.nodes.map fun n =>
      { n with vtime := if n.work && !n.active then max n.vtime vmin else n.vtime, active := n.work } } }

/-- An H block: bytes 0 to 5, then the CRC over them and the data blocks (R321). -/
def slotHead (h data : Bytes) : Bytes := fit 6 h ++ le 2 (crc16 (fit 6 h ++ data))

/-- H of a cyclic slot (R321): `type` 1 FAST, 2 SLOW, 0 empty. -/
def cyclicHead (type addr c : Nat) (valid : Bool) (data : Bytes) : Bytes :=
  slotHead (le 2 addr ++ le 1 type ++ le 1 c ++ le 1 (b2n valid) ++ [0]) data

/-- An empty slot of a kind (R321). -/
def emptyHead (k : RimSlotKind) (c : Nat) : Bytes := match k with
  | .fast => cyclicHead 0 0 c false (zeros 16)
  | .slow => cyclicHead 0 0 c false (zeros 8)
  | .mailbox => zeros 8

/-- A cyclic slot to a node. The spec does not say what outputs a stake node is sent, so their bytes and OUT_VALID are free
(assumption 3). -/
def cyclicOut (k : RimSlotKind) (i addr c : Nat) (s : State) : RimOut :=
  let n := if k = .fast then 16 else 8
  let data := freeBytes .measured n (40000 + 32 * addr + n) s
  { kind := k, index := i, data := data
    head := cyclicHead (if k = .fast then 1 else 2) addr c (freeBits .measured 1 (80000 + 2 * addr + n / 16) s == 1) data }

/-- A mailbox slot of a grant: DOWN with a fragment of the node's message, UP without data (R321, R335). The fields that R321
gives DOWN alone are 0 in UP (assumption 17). -/
def mailOut (i : Nat) (g : RimGrant) (s : State) : RimOut :=
  if g.up then { kind := .mailbox, index := i, head := le 2 g.addr ++ le 1 4 ++ zeros 5, data := zeros 64 }
  else
    let m := (s.rim.nodes.find? fun n => n.addr == g.addr).bind (·.msgs.head?)
    let b := match m with | some m => (m.bytes.drop (64 * g.frag)).take 64 | none => []
    let last : Bool := match m with | some m => decide (m.frags ≤ g.frag + 1) | none => false
    let data := fit 64 b
    { kind := .mailbox, index := i, data := data
      head := slotHead (le 2 g.addr ++ le 1 3 ++ le 1 g.tag ++ le 1 (g.frag % 16 + 128 * b2n last) ++ le 1 b.length) data }

/-- The slots of frame `c` that are not empty (R320, R321, R335). -/
def frameSlots (c : Nat) (gs : List RimGrant) (s : State) : List RimOut :=
  ((s.rim.nodes.filter fun n => decide (n.fast < 128)).map fun n => cyclicOut .fast n.fast n.addr c s)
    ++ ((s.rim.nodes.filter fun n => n.addr / 52 == c % 20).map fun n => cyclicOut .slow (n.addr % 52) n.addr c s)
    ++ gs.zipIdx.map fun g => mailOut g.2 g.1 s

/-- When the copies of a frame start, in ps relative to S_c: both at S_c, and after a takeover A c and 25 ns earlier and B as
much later, c being the delay of the RB-to-RB cable (R320, R464). -/
def copyStarts (s : State) : Int × Int :=
  if s.rim.swapped then (-(s.pair.rbDelay : Int) - 25000, (s.pair.rbDelay : Int) + 25000) else (0, 0)

/-- A fast cycle starts: a frame leaves both ports (R320). Cycle frames run from CONFIG on. A controller whose outputs are
not its own sends none; it reads the slots of the frame that passes (R334, R458). -/
def fastCycle (s : State) : State :=
  let c := (s.rim.cycle + 1) % 2 ^ 32
  if s.rim.state = .down ∨ s.rim.state = .enum then s
  else if s.outputsOwned then
    let (s, gs) := grantAll 8 (refreshActive s)
    controlTraffic { s with rim := { s.rim with
      cycle := c, flying := s.rim.flying ++ [{
        cycle := c, grants := gs, slots := frameSlots c gs s, swapped := s.rim.swapped, starts := copyStarts s }] } }
  else { s with rim := { s.rim with cycle := c, flying := s.rim.flying ++ [{ cycle := c, grants := [] }] } }

/-- The slot of a kind and index in a copy. -/
def copySlot (k : RimSlotKind) (i : Nat) (c : Option RimCopy) : Option RimSlot :=
  c.bind fun c => c.slots.find? fun x => x.kind == k && x.index == i

/-- T was written in cycle `c` (R322). -/
def slotWritten (c : Nat) (x : RimSlot) : Bool := bit (byteAt x.trailer 0) 0 && byteAt x.trailer 1 == c % 256
/-- T's CRC over the data and T bytes 0 to 5 is good (R321). -/
def slotCrc (x : RimSlot) : Bool := u16At x.trailer 6 == crc16 (x.data ++ fit 6 x.trailer)
/-- A slot is valid (R322). -/
def slotValid (c : Nat) (x : RimSlot) : Bool := slotWritten c x && slotCrc x

/-- The merge of one slot's copies: the slot taken, whether both were valid and differed, and the copies with a bad
CRC (R322, R324). -/
def mergeSlot (c : Nat) (k : RimSlotKind) (i : Nat) (a b : Option RimCopy) : Option RimSlot × Bool × Nat :=
  let xa := copySlot k i a
  let xb := copySlot k i b
  let bad (x : Option RimSlot) : Nat := match x with | some x => b2n (slotWritten c x && !slotCrc x) | none => 0
  let va := xa.filter (slotValid c)
  let vb := xb.filter (slotValid c)
  ((match va with | some x => some x | none => vb), va.isSome && vb.isSome && va != vb, bad xa + bad xb)

/-- Codes of a node's FAULT_CLASS; 0 selects HALT (R328). -/
def nodeCls (n : RimNode) : Cls := fbClass n.cls

/-- Class of a Blanket report of class `c` from a node: SAFETY raises at least STOP (R341). -/
def reportCls (n : RimNode) (c : Nat) : Cls := if c = 15 then (if (nodeCls n).code < 4 then .stop else nodeCls n) else nodeCls n

/-- A new report of class `c` from position `p`: the window, the report counter, EV197 for a window's first report, and
the fault class in the same frame where it exceeds what the window has raised (R339, R341). -/
def blanketReport (p c : Nat) (s : State) : State := match s.rim.nodes[p]? with
  | none => s
  | some n =>
    let w := s.rim.windows.getD (c - 1) none
    let cls := reportCls n c
    let old := match w with | some w => w.raised | none => 0
    let w' : BlWindow := match w with
      | some w => { count := w.count + 1, lo := min w.lo p, hi := max w.hi p, raised := max w.raised cls.code }
      | none => { count := 1, lo := p, hi := p, raised := cls.code }
    let s := { s with rim := { s.rim with
      windows := upd s.rim.windows (c - 1) fun _ => some w', reports := upd s.rim.reports (c - 1) (satInc 32) } }
    let s := if w.isNone then s.pulse 197 c else s
    if old < cls.code then rimRaise cls (if c = 16 then 3 else 7) s else s

/-- A node becomes LOST: a class 16 report, and a fresh ROLE_SET (R333). -/
def nodeLost (p : Nat) (s : State) : State := match s.rim.nodes[p]? with
  | none => s
  | some n =>
    if n.state = .lost then s
    else sendRole p (blanketReport p 16 (nodeState p .lost (s.setNode p fun n => { n with msgs := n.msgs.filter fun m => m.why != .roleSet && m.why != .timeSet })))

/-- A valid cyclic slot of a node: status bits, inputs, DELTA, and the steps of R329. -/
def cyclicSlot (p : Nat) (x : RimSlot) (s : State) : State :=
  let st := byteAt x.trailer 0
  let s := s.setNode p fun n => { n with
    safe := bit st 1, mbxPend := bit st 2, timeOk := bit st 3, delta := i16At x.trailer 2, invalidRun := 0
    inFast := if x.kind = .fast then fit 16 x.data else n.inFast
    inSlow := if x.kind = .slow then fit 8 x.data else n.inSlow
    refresh := if x.kind = .fast ∨ 128 ≤ n.fast then n.refresh + 1 else n.refresh }
  match s.rim.nodes[p]? with
  | none => s
  | some n =>
    let s := if n.roleOk && !n.timeSent then sendTime p s else s
    if n.timeAns && n.timeOk && n.state != .operational then nodeState p .operational s else s

/-- The cyclic slots of the node at position `p` in cycle `c` (R320, R324, R333). -/
def mergeNode (c : Nat) (a b : Option RimCopy) (s : State) (p : Nat) : State := match s.rim.nodes[p]? with
  | none => s
  | some n =>
    if !n.roleOk then s
    else
      let fast := if n.fast < 128 then [(RimSlotKind.fast, n.fast)] else []
      let slow := if c % 20 = n.addr / 52 then [(RimSlotKind.slow, n.addr % 52)] else []
      let due := fast ++ slow
      let ms := due.map fun d => mergeSlot c d.1 d.2 a b
      let s := { s with rim := { s.rim with
        mismatch := satAdd 16 s.rim.mismatch (ms.filter (·.2.1)).length
        crcErr := satAdd 16 s.rim.crcErr (ms.foldl (fun k m => k + m.2.2) 0) } }
      let s := ms.foldl (fun s m => match m.1 with | some x => cyclicSlot p x s | none => s) s
      if due.isEmpty || ms.any (·.1.isSome) then s
      else
        let run := satInc 8 n.invalidRun
        let s := s.setNode p fun n => { n with invalidRun := run }
        if n.state = .operational ∧ nodeLostN s ≤ run then nodeLost p s else s

/-- The alert nibble of position `p` in the copy that serves it (R338). -/
def alertOf (a b : Option RimCopy) (p : Nat) : Option Nat :=
  let get (c : Option RimCopy) : Option Nat := c.map fun c => c.alerts.getD p 0 % 16
  match get a, get b with
  | some x, some y => some (if x = 0 then y else x)
  | some x, none => some x
  | none, y => y

/-- The alert nibble of one position: a change to a class is a new report (R339). -/
def mergeAlert (a b : Option RimCopy) (s : State) (p : Nat) : State := match s.rim.nodes[p]?, alertOf a b p with
  | some n, some c =>
    if !n.roleOk || n.alert == c then s
    else
      let s := s.setNode p fun n => { n with alert := c }
      if c = 0 then s else blanketReport p c s
  | _, _ => s

/-- Nodes that the A copy and the B copy reach, none where neither copy came back (R332): a copy that did not wrap
reaches every node. -/
def reach (n : Nat) (a b : Option RimCopy) : Option (Nat × Nat) :=
  let one (c : Option RimCopy) : Nat := match c with | some c => if c.wrapped then c.hops / 2 else n | none => 0
  if a.isNone && b.isNone then none else some (one a, one b)

/-- HOPS of a wrapped copy is twice a number of nodes (R332). -/
def evenHops (c : Option RimCopy) : Bool := match c with | some c => !c.wrapped || c.hops % 2 == 0 | none => true

/-- Breaks as the returned copies show them (R332). -/
def mergeBreak (a b : Option RimCopy) (s : State) : State :=
  let n := s.rim.nodes.length
  match reach n a b with
  | none => s
  | some (ra, rb) =>
    let whole : Bool := (match a with | some c => !c.wrapped | none => false) || (match b with | some c => !c.wrapped | none => false)
    if whole then
      if s.rim.broken then rimEvent { s with rim := { s.rim with broken := false, servedA := n } } else s
    else if ra + rb = n ∧ evenHops a = true ∧ evenHops b = true then
      if s.rim.broken ∧ s.rim.servedA = ra then s
      else rimRaise .note 1 (rimEvent { s with rim := { s.rim with
        broken := true, servedA := ra, breaks := satInc 16 s.rim.breaks } })
    else if s.rim.state = .fault then s
    else forEach ((List.range n).filter fun p => ra ≤ p && p < n - rb) (fun s p => nodeLost p s) (rimFault 2 s)

/-- A returned copy with the data blocks that the CRC of a mailbox T covers: D0 to D7 in UP, none in DOWN (R321). -/
def mailCopy (up : Bool) (c : Option RimCopy) : Option RimCopy :=
  c.map fun c => { c with slots := c.slots.map fun x => if up || x.kind != .mailbox then x else { x with data := [] } }

/-- One mailbox grant of the frame as the nodes answered it (R335). -/
def mergeGrant (c : Nat) (a b : Option RimCopy) (s : State) (x : RimGrant × Nat) : State :=
  match nodePos x.1.addr s with
  | none => s
  | some p =>
    let sl := (mergeSlot c .mailbox x.2 (mailCopy x.1.up a) (mailCopy x.1.up b)).1
    let t := match sl with | some y => y.trailer | none => []
    if x.1.up then
      match sl with
      | none => s
      | some y => s.setNode p fun n =>
        let tag := byteAt t 2
        let frag := byteAt t 3 % 16
        let last := bit (byteAt t 3) 7
        let old := if n.inTag = tag then n.inFrags.filter fun z => z.1 != frag else []
        let fr := old ++ [(frag, y.data.take (byteAt t 4))]
        let full := if last then frag + 1 else 0
        if full != 0 && (List.range full).all (fun i => fr.any fun z => z.1 == i) then
          { n with inTag := tag, inFrags := []
                   inbox := n.inbox ++ [(tag, (List.range full).flatMap fun i =>
                     match fr.find? fun z => z.1 == i with | some z => z.2 | none => [])] }
        else { n with inTag := tag, inFrags := fr }
    else
      let ack : Bool := sl.isSome && bit (byteAt t 0) 4 && byteAt t 2 == x.1.tag && byteAt t 3 % 16 == x.1.frag
      s.setNode p fun n => { n with msgs := match n.msgs with
        | m :: ms =>
          if m.tag != x.1.tag then m :: ms
          else if !ack then { m with next := m.acked } :: ms
          else if m.acked = x.1.frag then
            (if m.why = .answer ∧ m.frags = m.acked + 1 then ms else { m with acked := m.acked + 1, next := max m.next (m.acked + 1) } :: ms)
          else m :: ms
        | [] => [] }

/-- Every node is OPERATIONAL in CONFIG: the ring enters RUN and RIM_ENUM ends with DONE (ring-states table, R344). -/
def rimRunCheck (s : State) : State :=
  if s.rim.state = .config ∧ s.rim.nodes.all (fun n => n.state == .operational) then
    (rimEvent { s with rim := { s.rim with state := .run } }).finish .rimEnum 0 stDone 0
  else s

/-- The merged inputs reach the zones that take their power from a node (R304, R324). -/
def publishPower (s0 s : State) : State :=
  forEach (List.range 8) (fun s z =>
    let p := Zone.pay (s.zone z)
    match s0.node (u16At p 8), s.node (u16At p 8) with
    | some o, some n => if (s.zone z).set.isSome && o.refresh != n.refresh then zonePower z (n.value (byteAt p 10)) s else s
    | _, _ => s) s

/-- The two returned copies of the oldest frame on its way are merged and published (R324). -/
def rimMerge (a b : Option RimCopy) (s : State) : State := match s.rim.flying with
  | [] => s
  | f :: fs =>
    let s0 := s
    let s := mergeBreak a b { s with rim := { s.rim with flying := fs } }
    let n := s.rim.nodes.length
    let s := forEach (List.range n) (mergeNode f.cycle a b) s
    let s := forEach (List.range n) (mergeAlert a b) s
    let s := f.grants.zipIdx.foldl (mergeGrant f.cycle a b) s
    rimRunCheck (publishPower s0 s)

/-! ## The Blanket (R339 to R342) -/

/-- Root of R340 for reporters from `lo` to `hi`: the nearest upstream position whose nibble is not `c`, for class 16 the
nearest that is OPERATIONAL. -/
def blanketRoot (c lo hi : Nat) (s : State) : Nat :=
  let ok (p : Nat) : Bool := match s.rim.nodes[p]? with
    | some n => if c = 16 then n.state == .operational else n.alert != c
    | none => false
  let byA : Bool := !s.rim.broken || decide (lo < s.rim.servedA)
  let found := if byA then (List.range lo).reverse.find? ok
    else ((List.range s.rim.nodes.length).filter fun p => hi < p).find? ok
  found.getD 0xFFFF

/-- The window of class `c` closes: it emits one event, or merges into the undrained one (R339, R342). -/
def blanketClose (c : Nat) (drained : Bool) (s : State) : State := match s.rim.windows.getD (c - 1) none with
  | none => s
  | some w =>
    let s := { s with rim := { s.rim with windows := upd s.rim.windows (c - 1) fun _ => none } }
    match (if drained then none else s.rim.undrained.getD (c - 1) none) with
    | some e =>
      let lo := min e.lo w.lo
      let hi := max e.hi w.hi
      { s with rim := { s.rim with
        undrained := upd s.rim.undrained (c - 1) fun _ =>
          some { count := satAdd 16 e.count w.count, lo := lo, hi := hi, root := blanketRoot c lo hi s }
        merged := satInc 16 s.rim.merged } }
    | none =>
      ({ s with rim := { s.rim with
        undrained := upd s.rim.undrained (c - 1) fun _ =>
          some { count := satN 16 w.count, lo := w.lo, hi := w.hi, root := blanketRoot c w.lo w.hi s }
        events := satInc 16 s.rim.events } }).pulse 194 (c + satN 16 w.count * 2 ^ 8)

/-! ## Mailbox messages (R336, R337) -/

/-- The head message of a node ends. -/
def dropHead (p : Nat) (s : State) : State := s.setNode p fun n => { n with msgs := n.msgs.drop 1 }

/-- A response to the head message of a node, with its whole bytes (R329, R336, R344). -/
def mailAnswer (p : Nat) (m : RimMsg) (bytes : Bytes) (s : State) : State :=
  let st := byteAt bytes 1
  let s := dropHead p s
  match m.why with
  | .roleSet => if st = 0 then s.setNode p fun n => { n with roleOk := true } else s
  | .timeSet =>
    if st = 0 then
      let s := s.setNode p fun n => { n with timeAns := true }
      match s.rim.nodes[p]? with
      | some n => if n.timeOk then rimRunCheck (nodeState p .operational s) else nodeState p .configured s
      | none => s
    else s
  | .command _ h t => if st = 0 then s.finishOne h t stDone 0 bytes else s.finishOne h t stFaulted st bytes
  | .answer => s

/-- The oldest complete message of the node with an address is acted on (R335 to R337, R343). -/
def mailReceive (addr : Nat) (s : State) : State := match nodePos addr s with
  | none => s
  | some p => match s.rim.nodes[p]? with
    | none => s
    | some n => match n.inbox with
      | [] => s
      | (tag, bytes) :: rest =>
        let s := s.setNode p fun n => { n with inbox := rest }
        let op := byteAt bytes 0
        if op = 0x40 then s.pulse 195 addr
        else if op = 0x41 then
          s.record { kind := .node, time := s.io.time, origin := 9, detail := addr, subject := 0,
                     body := le 2 addr ++ zeros 2 ++ sub bytes 4 4 ++ sub bytes 8 16, draw := .ordinary, act := .node addr tag }
        else match n.msgs with
          | m :: _ => if m.tag = tag ∧ op = byteAt m.bytes 0 then mailAnswer p m bytes s else s
          | [] => s

/-- The answer to a CONFIG_CHANGED once its entry is in MRAM, or cannot be written (R337). -/
def nodeAnswer (addr tag : Nat) (ok : Bool) (s : State) : State := match nodePos addr s with
  | none => s
  | some p => s.setNode p fun n => { n with
      msgs := n.msgs ++ [{ why := .answer, tag := tag, bytes := msgHead 0x41 (if ok then 0 else 3) 0 0 }] }

/-- A node has been silent for 10 ms after a request: one retry with a new tag, then MBX_TIMEOUT (R336, R344). -/
def mbxTimeout (addr : Nat) (s : State) : State := match nodePos addr s with
  | none => s
  | some p => match s.rim.nodes[p]? with
    | none => s
    | some n => match n.msgs with
      | [] => s
      | m :: ms =>
        if m.why = .answer ∨ m.next < m.frags then s
        else if !m.retried then
          let t := s.rim.nextTag
          let s := s.setNode p fun n => { n with msgs := { m with tag := t, next := 0, acked := 0, retried := true } :: ms }
          { s with rim := { s.rim with nextTag := (t + 1) % 256 } }
        else
          let s := dropHead p s
          let s := match m.why with | .command _ h t => s.finishOne h t stFaulted 0xFF [] | _ => s
          rimRaise .note 6 s

/-! ## Commands of group 0x0D -/

/-- RIM_STATE. -/
def rimWord (s : State) : Nat := s.rim.state.code + b2n s.rim.broken * 8 + s.rim.fault * 2 ^ 8
/-- Ring mirror words 0x004 to 0x01C (R344). -/
def rimWords (s : State) : Bytes :=
  let r := s.rim
  le 4 (rimWord s) ++ le 4 (r.nodes.length % 2048 + (r.nodes.filter fun n => n.state == .operational).length * 2 ^ 16)
    ++ le 4 (breakPos s + r.breaks * 2 ^ 16) ++ le 4 r.loopNs ++ le 4 r.cycle ++ le 4 (r.crcErr + r.mismatch * 2 ^ 16)
    ++ le 4 (r.events + r.merged * 2 ^ 16)

/-- The node status word (0x8_1000); 0 for an address without a node. -/
def nodeWord (addr : Nat) (s : State) : Nat := match nodePos addr s with
  | none => 0
  | some p => match s.rim.nodes[p]? with
    | none => 0
    | some n => n.state.code + b2n n.safe * 8 + b2n (s.rim.broken && decide (s.rim.servedA ≤ p)) * 16 + b2n n.timeOk * 32
        + n.alert * 2 ^ 8 + p * 2 ^ 16

/-- RIM_STATUS (R344). -/
def rimStatusSpec : CmdSpec where
  viewer := true
  size := fun _ _ => 28
  ans := fun _ s => ansResult (rimWords s)

/-- NODE_GET (R344). -/
def nodeGetSpec : CmdSpec where
  viewer := true
  target := fun c _ => c.tgt < 1024
  size := fun _ _ => 32
  ans := fun c s => match s.node c.tgt with
    | some n => ansResult (le 4 (nodeWord c.tgt s) ++ fit 24 n.ident ++ leI 4 n.delta)
    | none => ansResult (zeros 32)

/-- The node is OPERATIONAL. -/
def nodeUp (addr : Nat) (s : State) : Bool := match s.node addr with
  | some n => n.state == .operational
  | none => false

/-- NODE_READ and NODE_WRITE: the message's header and data (R336, R344). -/
def nodeMsgSpec (write : Bool) : CmdSpec where
  roles := [.service]
  lenOk := fun c _ => if write then 8 ≤ c.len && c.len ≤ 1024 else c.len == 8
  target := fun c _ => c.tgt < 1024
  pre := fun c s => failIf (!nodeUp c.tgt s) stDeniedState 0
  post := fun c _ => badField
    [(c.u8 0 != (if write then 0x82 else 0x02), 0), (c.u8 1 != 0, 1), (c.u16 2 + 8 != c.len, 2),
     (if write then c.u16 6 != 0 else decide (1016 < c.u16 6), 6)]
  size := fun c _ => if write then 0 else 8 + c.u16 6
  eff := fun c s => match nodePos c.tgt s with
    | some p => sendMsg p (.command write c.hamper c.f.tag.toNat) (c.pl.take c.len) s
    | none => s
  faulted := fun c s => !nodeUp c.tgt s
  ans := fun _ _ => ansAccepted
  abort := fun c s => { s with rim := { s.rim with nodes := s.rim.nodes.map fun n =>
    { n with msgs := n.msgs.filter fun m => m.why != .command write c.hamper c.f.tag.toNat } } }
  canAbort := fun c s => !(s.rim.nodes.any fun n => n.msgs.any fun m =>
    m.why == .command write c.hamper c.f.tag.toNat && write && decide (m.frags ≤ m.acked))

/-- RIM_CONFIG's entry `p` repeats an earlier ADDR or FAST_SLOT, or leaves its range. -/
def topoFault (c : Bytes) (p : Nat) : List (Bool × Nat) :=
  let o := 16 + 16 * p
  let dup (off n : Nat) : Bool := (List.range p).any fun q => leAt c (off + 16 * q) n == leAt c (off + 16 * p) n
  [(decide (1023 < u16At c o) || dup 16 2, o),
   (byteAt c (o + 2) != 255 && (decide (127 < byteAt c (o + 2)) || dup 18 1), o + 2),
   (!([0, 1, 3, 4].contains (byteAt c (o + 3))), o + 3)]

/-- RIM_CONFIG payload with its defaults. -/
def rimFill (c : Bytes) : Bytes := fillDefaults [⟨3, 1, 2, 255, 8⟩, ⟨4, 1, 3, 255, 6⟩] c

/-- Faulty fields of a RIM_CONFIG payload. -/
def rimFaults (c : Bytes) : List (Bool × Nat) :=
  [(outside (u16At c 0) 1 1024, 0), (decide (1 < byteAt c 2), 2), (decide (byteAt c 3 < 2), 3), (decide (byteAt c 4 < 3), 4),
   (!zeroAt c 5 11, 5)] ++ (List.range (u16At c 0)).flatMap (topoFault c)

/-- A loop with a RIM input is running, or a zone, whose power comes from a node, is enabled (R344). -/
def rimInUse (s : State) : Bool :=
  ((List.range 64).any fun i => (s.loop i).state != .off && (s.loop i).state != .fault && match (s.loop i).set with
    | some p => lInKind p == 2
    | none => false)
    || s.thm.zones.any (·.enabled)

/-- RIM_CONFIG (R328, R344); `sheets` says that a sheet is ADMITTED or later. -/
def rimConfigSpec (sheets : State → Bool) : CmdSpec where
  roles := [.service]
  states := inStates [.idle, .warm, .ready]
  lenOk := fun c _ => c.len == 16 + 16 * c.u16 0
  pre := fun _ s => failIf (sheets s || rimInUse s) stDeniedState 0
  post := fun c _ => firstFault (rimFaults (rimFill c.pl))
  eff := fun c s => { s with rim := { s.rim with config := some (rimFill c.pl) } }

/-- RIM_ENUM (R327, R344). -/
def rimEnumSpec (sheets : State → Bool) : CmdSpec where
  roles := [.service]
  states := inStates [.idle, .warm, .ready]
  pre := fun _ s => failIf (sheets s || rimInUse s) stDeniedState 0
  eff := fun _ s => rimEnter s
  ans := fun _ _ => ansAccepted

end Sys2Proof.Machine
end

