-- ==== Sys2Proof/Machine/Reset.lean ====
section
/-!
DEFINITION. What each reset clears and keeps (R433): the always-on domain, MRAM, OTP and the flash stay, TIME64 and all
other logic return to their reset values.
-/
namespace Sys2Proof.Machine

/-- The records that a reset leaves to the next boot: sheet records of CUTOFF losses and every record on the reserve or
of a protective action (R214, R369, assumption 6). -/
def keptRecords (l : List Rec) : List Rec := (l.filter fun r => r.draw != .ordinary).map fun r => match r.act with
  | .outcome _ _ _ _ => { r with act := .none }
  | _ => r

/-- The ledger keeps what MRAM and the NOR area hold; its Renune settings return to their defaults (R362, R433). -/
def keptLedger (l : Ledger) : Ledger :=
  let q := keptRecords l.queue
  { l with
    queue := q, resv := (q.filter fun r => r.draw == .sheet).length, low := false, full := false, spillErr := false
    bootCaptures := [], bootWrites := 0, mirrored := none, anchorInterval := 600, lowMark := 5, untag := 0 }

/-- A controller reset with a source code (R433); the machine is then in BOOT with internal reset held. A crystal that
was given up is started again (R406). -/
def controllerReset (src : Nat) (s : State) : State :=
  let z : State := {}
  let given : Bool := decide (3 ≤ s.clk.failedStarts) && s.pwr.seq != .off
  { pending := s.pending
    free := s.free
    io := { z.io with host := s.io.host, msix := s.io.msix }
    reg := { z.reg with step := s.reg.step, fwVer := s.reg.fwVer, serial := s.reg.serial }
    led := keptLedger s.led
    saf := { z.saf with
      ctrl := .boot, ilk := s.saf.ilk, railFault := s.saf.railFault, powerDown := s.saf.powerDown
      nmrstLow := s.saf.nmrstLow, trips := s.saf.trips, firstFault := s.saf.firstFault, internalReset := true }
    clk := { s.clk with
      rpll := .off, relockFails := 0, refMode := s.clk.refModeSet, timeUncertain := false, bypassed := 0x3F
      lastDomain := 0, lastLost := 0, switches := 0, unlocks := 0, xtalLost := 0, band := 0, vco := 0
      xtalOn := s.clk.xtalOn || given, failedStarts := if given then 0 else s.clk.failedStarts
      cko := s.clk.cko.map fun c => { vdd := c.vdd } }
    pwr := { s.pwr with resetSrc := src, rstoutHigh := false, resetDue := none }
    boot := { z.boot with
      life := s.boot.life, vk := s.boot.vk, ok := s.boot.ok, otpKeys := s.boot.otpKeys
      recs := s.boot.recs.map fun r => { r with booted := 0 }
      flash := s.boot.flash, trialTime := s.boot.trialTime, failCause := s.boot.failCause, laidArea := s.boot.laidArea }
    thm := { z.thm with latch := s.thm.latch }
    itk := { z.itk with dramMiB := s.itk.dramMiB, ports := s.itk.ports.map fun p => { mac := p.mac } }
    mot := { z.mot with chs := s.mot.chs.map fun m => { drvLow := m.drvLow } }
    axs := { z.axs with axs := s.axs.axs.map fun a => { gpioLow := a.gpioLow } }
    fb := { z.fb with qe := s.fb.qe.map fun q => { a := q.a, b := q.b } }
    pair := { z.pair with
      peerSerial := s.pair.peerSerial, stored := s.pair.stored, paired := s.pair.stored
      role := if s.pair.stored then .standby else .single }
    bg := { z.bg with
      retired := s.bg.retired, erases := s.bg.erases, sectors := s.bg.sectors, life := s.bg.life } }

end Sys2Proof.Machine
end

