-- ==== Sys2Proof/Machine/Power.lean ====
section
/-!
DEFINITION. The power sequencer (chapter 21): requests, phases, rails, power-down, resets, READY, and the commands of
group 0x0E.
-/
namespace Sys2Proof.Machine

/-! ## Rails and phases (R419, R420) -/

/-- Rail slot `n`. -/
def State.rail (s : State) (n : Nat) : Rail := s.pwr.rails.getD n {}
/-- Rail slot `n` is replaced by `f` of itself. -/
def State.setRail (s : State) (n : Nat) (f : Rail → Rail) : State :=
  { s with pwr := { s.pwr with rails := upd s.pwr.rails n f } }

/-- The chip rails in their fixed order (rail-slots table). -/
def chipRails : List Nat := [3, 0, 1, 2, 4, 5, 6]
/-- A chip rail. -/
def isChip (n : Nat) : Bool := decide (n < 7)
/-- The engine rails by rising ORDER of the present engine phase. -/
def engineRails (s : State) : List Nat :=
  (List.range 10).flatMap fun o => (List.range 16).filter fun n => !isChip n && o != 0 && (s.rail n).used.order == o
/-- FUSER_RAIL is skipped while the always-on thermal latch holds (R430). -/
def fuserSkip (n : Nat) (s : State) : Bool := s.thm.latch.isSome && n == s.boot.settings.getD 13 10
/-- The rails that the phase in progress switches on. -/
def phaseRails (s : State) : List Nat :=
  if s.pwr.seq = .engineUp then (engineRails s).filter fun n => !fuserSkip n s else chipRails
/-- The first rail of the phase that has not qualified. -/
def nextRail (s : State) : Option Nat := (phaseRails s).find? fun n => !(s.rail n).qualified
/-- A phase is powering up: neither in a power-down nor in the wait before a retry. -/
def phaseUp (s : State) : Bool :=
  (s.pwr.seq == .chipUp || s.pwr.seq == .engineUp) && !s.saf.powerDown && !s.pwr.minOffRuns
/-- The chip phase is complete. -/
def chipOn (s : State) : Bool := match s.pwr.seq with
  | .chipOn | .engineUp | .engineOn | .engineDown => true
  | _ => false

/-- The sequencer enters a state; EV226 (R436). -/
def seqState (q : Seq) (s : State) : State :=
  if s.pwr.seq = q then s else ({ s with pwr := { s.pwr with seq := q } }).pulse 226 q.code

/-- EN of a rail drops; EV225. A chip rail takes nRSTOUT low and internal reset back (R434). -/
def dropRail (n : Nat) (s : State) : State :=
  let s := (s.setRail n fun r => { r with en := false, qualified := false, pg := false }).pulse 225 n
  if isChip n then { s with pwr := { s.pwr with rstoutHigh := false }, saf := { s.saf with internalReset := true } } else s

/-! ## Phases (R422, R430) -/

/-- A phase completes: ENGINE_POWER 1 is DONE and the controller is WARM; the chip phase lets the RPLL lock and, after
OFF, is a reset (R430, R433). While BOOT and MEASURE wait for space the controller stays in IDLE (R392). -/
def phaseDone (s : State) : State :=
  if s.pwr.seq = Seq.engineUp then
    let s : State := { s with io := finishAll .enginePower (fun f => byteAt f.inl 0 = 1) stDone 0 [] s.io }
    let s := seqState .engineOn s
    if s.saf.ctrl = .idle ∧ bootWaits s = false then s.moveState .warm else s
  else
    let src := if s.pwr.upSinceVaon then 2 else 1
    let s := controllerReset src (seqState .chipOn s)
    { s with pwr := { s.pwr with upSinceVaon := true } }

/-- The phase in progress goes on: complete once its last rail has qualified. -/
def phaseStep (s : State) : State := if phaseUp s && (nextRail s).isNone then phaseDone s else s

/-- A phase starts from its first rail (R419, R420, R422, R440). -/
def startPhase (engine : Bool) (attempt : Nat) (s : State) : State :=
  let s : State := { s with
    pwr := { s.pwr with
      attempt := attempt
      lifeUps := if engine || attempt != 0 then s.pwr.lifeUps else s.pwr.lifeUps + 1
      rails := if engine then s.pwr.rails.map fun r => { r with used := { r.used with order := r.stored.order } } else s.pwr.rails
      fuserSkipped := engine && s.thm.latch.isSome }
    saf := { s.saf with railFault := s.saf.railFault && engine } }
  phaseStep (seqState (if engine then .engineUp else .chipUp) s)

/-- ON_DELAY ends and the next rail of the phase is enabled with its stored parameters (R420, R422). -/
def railEnable (n : Nat) (s : State) : State :=
  if phaseUp s ∧ nextRail s = some n ∧ (s.rail n).en = false then
    (s.setRail n fun r => { r with
      used := { r.stored with order := r.used.order }, en := true, pg := false, qualified := false }).pulse 225 (n + 0x100)
  else s

/-- A rail has had a good PG for QUAL, or has no PG (R421). -/
def railQualified (n : Nat) (s : State) : State :=
  let r := s.rail n
  if phaseUp s ∧ r.en = true ∧ r.qualified = false ∧ (r.pg || !r.used.pgUsed) = true then
    phaseStep ((s.setRail n fun r => { r with qualified := true }).pulse 225 (n + 0x200))
  else s

/-- The first rail fault after the last BOOT entry goes to MRAM; later ones count (R424). -/
def railRecord (rail cause phase attempt : Nat) (s : State) : State :=
  let p := { s.pwr with causeRail := true }
  { s with pwr := match p.record with
    | some _ => { p with laterFaults := p.laterFaults + 1 }
    | none => { p with record := some {
        rail := rail, cause := cause, phase := phase, attempt := attempt
        time := if s.saf.internalReset then 0 else s.io.time, aonUs := satN 32 (s.pwr.aonNs / 1000) } } }

/-! ## Power-down (R425, R426, R430) -/

/-- The rails that a power-down still has to switch off, highest first (R425). -/
def downRails (s : State) : List Nat :=
  let eng := (engineRails s).reverse ++ ((List.range 16).filter fun n => !isChip n && (s.rail n).used.order == 0)
  let l := match s.pwr.downFor with
    | .off => eng ++ chipRails.reverse
    | .engineOff | .engineLockout | .engineUp => eng
    | .retry => if s.pwr.seq = Seq.engineUp then eng else chipRails.reverse
    | .chipLockout => chipRails.reverse
  l.filter fun n => (s.rail n).en

/-- Every rail is off: the crystal is disabled and MIN_OFF is counted (R403, R425). -/
def enterOff (s : State) : State :=
  let s := clocksOff { s with pwr := { s.pwr with minOffRuns := true, rstoutHigh := false, grace := false, attempt := 0 } }
  (seqState .off s).setCtrl .off

/-- What a power-down ends in (R422, R425, R430, R435). -/
def downEnd (s : State) : State :=
  let s : State := { s with saf := { s.saf with powerDown := false } }
  match s.pwr.downFor with
  | .off => enterOff s
  | .retry => { s with pwr := { s.pwr with minOffRuns := true } }
  | .chipLockout => enterOff (seqState .lockout s)
  | .engineOff =>
    seqState .chipOn { s with io := finishAll .enginePower (fun f => byteAt f.inl 0 = 0) stDone 0 [] s.io }
  | .engineLockout =>
    let n := s.pwr.failRail
    let s := seqState .chipOn { s with io := finishAll .enginePower (fun f => byteAt f.inl 0 = 1) stFaulted n [] s.io }
    s.raise .halt 236 n 0x50
  | .engineUp => startPhase true 0 (seqState .chipOn s)

/-- The next rail of a power-down drops (R425); after the last one the power-down ends. -/
def downStep (s : State) : State :=
  if !s.saf.powerDown then s
  else
    let s := match downRails s with
      | n :: _ =>
        let s := dropRail n s
        if s.pwr.downFor = .off ∧ s.pwr.seq = .engineDown ∧ (downRails s).all isChip = true then seqState .chipDown s else s
      | [] => s
    if downRails s = [] then downEnd s else s

/-- A power-down begins: the inhibit first, then EN of the highest rail (R425). -/
def startDown (d : DownFor) (s : State) : State :=
  downStep (inhibitUnits { s with
    pwr := { s.pwr with downFor := d, grace := false, minOffRuns := false }, saf := { s.saf with powerDown := true } })

/-- An orderly power-down of both phases (R425, R426): the state is CHIP_DOWN once no engine rail is left. -/
def downAll (s : State) : State :=
  let eng := (List.range 16).any fun n => !isChip n && (s.rail n).en
  startDown .off (seqState (if eng then .engineDown else .chipDown) s)

/-- An attempt of a phase fails at a rail (R422, R424). -/
def railAttemptFailed (n : Nat) (s : State) : State :=
  let engine : Bool := s.pwr.seq == .engineUp
  let s := railRecord n 1 (b2n engine) s.pwr.attempt (s.pulse 225 (n + 0x300))
  let s : State := { s with pwr := { s.pwr with failRail := n } }
  startDown (if s.pwr.attempt < s.pwr.retries then .retry else if engine then .engineLockout else .chipLockout) s

/-- TIMEOUT ends before the rail has qualified (R422). -/
def railTimeout (n : Nat) (s : State) : State :=
  let r := s.rail n
  if phaseUp s ∧ r.en = true ∧ r.qualified = false ∧ r.used.pgUsed = true then railAttemptFailed n s else s

/-- Loss of PG on a rail of a completed phase: every EN drops, a CUTOFF-class fault (R423). -/
def runningFault (n : Nat) (s : State) : State :=
  let s := railRecord n 2 (b2n (!isChip n)) s.pwr.attempt s
  ({ s with pwr := { s.pwr with runningCnt := satInc 16 s.pwr.runningCnt } }).raise .cutoff 236 n 0x51

/-- A PG input becomes good or is lost after DEGLITCH (R421 to R423); that of a rail that is off or has no PG is
ignored. -/
def pgChange (n : Nat) (good : Bool) (s : State) : State :=
  let r := s.rail n
  if !r.en || !r.used.pgUsed || s.pwr.seq == .off then s
  else
    let s' := s.setRail n fun r => { r with pg := good }
    if good then s'
    else if s.saf.ctrl = .clockHold then runningFault n s'
    else if (isChip n && chipOn s) || (!isChip n && s.pwr.seq == .engineOn) then runningFault n s'
    else if phaseUp s ∧ r.qualified = true then railAttemptFailed n s'
    else s'

/-- An on request starts the crystal (R403, R427). -/
def startCrystal (s : State) : State :=
  let s := seqState .xtalStart { s with clk := { s.clk with
    xtalOn := true, xtalMode := s.clk.xtalModeSet, failedStarts := 0, xtalPause := false, proven := false, goodWindows := 0
    startCounted := false } }
  advanceFree ((s.setCtrl .powerUp).pulse 233 (freeBits .clock 8 0 s))

/-! ## Requests (R426 to R429) -/

/-- DETAIL of EV224 for an on request (R436). -/
def OnSource.code : OnSource → Nat
  | .nwake => 2 | .button => 1 | .cycle => 3 | .autoOn => 0

/-- A full power-down is in progress. -/
def goingDown (s : State) : Bool := s.pwr.seq == .chipDown || (s.pwr.seq == .engineDown && s.pwr.downFor == .off && s.saf.powerDown)

/-- An on request (R427, R429). -/
def onRequest (o : OnSource) (s : State) : State :=
  if s.pwr.forceHeld then s
  else
    let s := s.pulse 224 o.code
    if s.pwr.seq = .off ∧ s.pwr.minOffRuns = false then startCrystal s
    else if (s.pwr.seq == .off || goingDown s) && s.pwr.latched.isNone then { s with pwr := { s.pwr with latched := some o } }
    else s

/-- MIN_OFF ends: a failed phase starts again, or a latched request is honoured while its source still asserts it (R422,
R427, R429). -/
def minOffEnd (s : State) : State :=
  if !s.pwr.minOffRuns then s
  else
    let s : State := { s with pwr := { s.pwr with minOffRuns := false, forceHeld := s.pwr.forceHeld && s.pwr.button } }
    match s.pwr.seq with
    | .chipUp | .engineUp =>
      let engine : Bool := s.pwr.seq == .engineUp
      let a := s.pwr.attempt + 1
      startPhase engine a (({ s with pwr := { s.pwr with retryCnt := satInc 16 s.pwr.retryCnt } }).pulse 227 (b2n engine + a * 256))
    | .off => match s.pwr.latched with
      | none => s
      | some o =>
        let s : State := { s with pwr := { s.pwr with latched := none } }
        if o = .nwake ∧ s.pwr.nwakeLow = false then s else startCrystal s
    | _ => s

/-- No sheet is LAUNCHED to FUSED. -/
def noneRunning (s : State) : Bool := s.shs.sheets.all fun x => !x.state.running

/-- No sheet is ADMITTED or later and not terminal. -/
def noneInFlight (s : State) : Bool := s.shs.sheets.all fun x => !x.state.inFlight

/-- DRAIN as LAUNCH_CONTROL 2 brings it, recorded with origin 0x03 (R363, R428). -/
def drainForOff (s : State) : State :=
  if s.saf.ctrl = .run then (startDrain s).record (renuneRec s 0x0588 0 [2] .ordinary .none) else s

/-- An off request (R426, R428); `src` is the source of EV224. -/
def offRequest (src : Nat) (s : State) : State :=
  let s := s.pulse 224 src
  let s : State := { s with pwr := { s.pwr with latched := match s.pwr.latched with | some .nwake => some .nwake | _ => none } }
  match s.pwr.seq with
  | .xtalStart => enterOff s
  | .chipUp | .engineUp => downAll s
  | .chipOn | .engineOn | .engineDown =>
    if s.pwr.grace || goingDown s then s else drainForOff { s with pwr := { s.pwr with grace := true } }
  | _ => s

/-- Once drained after an off request, Renune asks for power-down (R428). -/
def drainPowerDown (s : State) : State := if s.pwr.grace && noneRunning s then downAll s else s

/-- OFF_GRACE expires first (R428). -/
def graceExpiry (s : State) : State := if s.pwr.grace then downAll (s.raise .stop 236 0 0x52) else s

/-- FORCE_OFF drops every EN (R408, R429). -/
def forceOff (s : State) : State :=
  let s : State := { s with pwr := { s.pwr with causeForce := true, forceHeld := true, latched := none } }
  s.raise .cutoff 236 0 0x53

/-- nWAKE after its deglitch (R428): a falling edge is an on request. -/
def nwakeEdge (low : Bool) (s : State) : State :=
  let s' : State := { s with pwr := { s.pwr with nwakeLow := low } }
  if low && !s.pwr.nwakeLow then onRequest .nwake s' else s'

/-- nPBTN has been low for 50 ms (R428). -/
def buttonPress (s : State) : State :=
  let off : Bool := s.pwr.seq == .off
  let s : State := { s with pwr := { s.pwr with button := true, pressInOff := off } }
  if off then onRequest .button s else s

/-- nPBTN is released (R428, R429). -/
def buttonRelease (s : State) : State :=
  let was := s.pwr
  let s : State := { s with pwr := { s.pwr with button := false, pressInOff := false, forceHeld := s.pwr.forceHeld && s.pwr.minOffRuns } }
  if was.button && !was.pressInOff && !was.forceHeld then offRequest 1 s else s

/-- A press reaches LONG_PRESS (R429). -/
def longPressed (s : State) : State := if s.pwr.button && !s.pwr.forceHeld then forceOff s else s

/-! ## Resets and the controller state (R430 to R434) -/

/-- nMRST has been low for 1 us (R432). -/
def mrstLow (s : State) : State :=
  let s := if chipOn s && s.saf.ctrl != .clockHold then controllerReset 3 (inhibitUnits s) else s
  { s with
    saf := { s.saf with nmrstLow := true, internalReset := true }
    pwr := { s.pwr with nmrstLow := true, rstoutHigh := false } }

/-- nMRST has been high for 1 us (R432). -/
def mrstHigh (s : State) : State :=
  { s with saf := { s.saf with nmrstLow := false }, pwr := { s.pwr with nmrstLow := false } }

/-- RSTOUT_DELAY after the trust core left reset (R434). -/
def rstoutRelease (s : State) : State :=
  if chipOn s && !s.saf.internalReset && s.saf.ctrl != .clockHold then { s with pwr := { s.pwr with rstoutHigh := true } } else s

/-- The sequencer has read the rail parameters and drives each EN to its inactive level (R479). -/
def enRelease (s : State) : State := { s with pwr := { s.pwr with rails := s.pwr.rails.map fun r => { r with driven := true } } }

/-- VAON arrives: the always-on domain and all logic are reset, MRAM, OTP and flash stay (R433 source 1); AUTO_ON makes
it an on request (R428). -/
def vaonArrival (s : State) : State :=
  let z : State := {}
  let k := controllerReset 1 s
  let p : Power := { z.pwr with
    rails := s.pwr.rails.map fun r => { stored := r.stored, used := r.stored }
    retries := s.pwr.retries, autoOn := s.pwr.autoOn, minOff := s.pwr.minOff, longPress := s.pwr.longPress
    offGrace := s.pwr.offGrace, rstoutDelay := s.pwr.rstoutDelay, record := s.pwr.record, laterFaults := s.pwr.laterFaults
    nwakeLow := s.pwr.nwakeLow, nmrstLow := s.pwr.nmrstLow }
  let ilk : List Ilk := s.saf.ilk.map fun x => { x with latch := x.active, highSince := 0 }
  let t : State := { k with
    pwr := p
    clk := { z.clk with cko := s.clk.cko.map fun c => { vdd := c.vdd } }
    saf := { z.saf with ilk := ilk, nmrstLow := s.saf.nmrstLow, firstFault := s.saf.firstFault }
    thm := {} }
  if p.autoOn then onRequest .autoOn t else t

/-- VAON is removed: LATCHED and every state of the controller end, and the always-on latch is released (R311). -/
def vaonLoss (s : State) : State :=
  let z : State := {}
  let k := controllerReset 1 s
  { k with
    pwr := { z.pwr with
      rails := s.pwr.rails.map fun r => { stored := r.stored, used := r.stored }
      retries := s.pwr.retries, autoOn := s.pwr.autoOn, minOff := s.pwr.minOff, longPress := s.pwr.longPress
      offGrace := s.pwr.offGrace, rstoutDelay := s.pwr.rstoutDelay, record := s.pwr.record, laterFaults := s.pwr.laterFaults
      nwakeLow := s.pwr.nwakeLow, nmrstLow := s.pwr.nmrstLow }
    clk := { z.clk with cko := s.clk.cko.map fun c => { vdd := c.vdd } }
    saf := { z.saf with ilk := s.saf.ilk, nmrstLow := s.saf.nmrstLow, firstFault := s.saf.firstFault }
    thm := {} }

/-- The conditions of READY (R431). -/
def readyHolds (s : State) : Bool :=
  s.pwr.seq == .engineOn && s.saf.faults.all (fun x => decide (x.cls.code < 3)) && !s.saf.ilk.any (·.latch)
    && !s.saf.stopLatch && !s.saf.inhTestFail && s.boot.berrilOk
    && ((s.rim.topo.isNone && s.rim.config.isNone) || s.rim.state == .run)

/-- All READY conditions hold in WARM (R431). -/
def readyEntry (s : State) : State := if s.saf.ctrl == .warm && readyHolds s then s.moveState .ready else s
/-- A READY condition has ended (R431). -/
def readyExit (s : State) : State := if s.saf.ctrl == .ready && !readyHolds s then s.moveState .warm else s
/-- In DRAIN no sheet is LAUNCHED to FUSED any more (R431). -/
def drainComplete (s : State) : State := if s.saf.ctrl == .drain && noneRunning s then s.moveState .ready else s

/-! ## Commands of group 0x0E (R435) -/

/-- Fields of RAIL_SET that hold numbers. -/
def railTable : List Fld := [
  { off := 2, len := 2, lo := 0, hi := 10000, dflt := 10 }, { off := 4, len := 2, lo := 1, hi := 1000, dflt := 20 },
  { off := 6, len := 2, lo := 1, hi := 5000, dflt := 50 }, { off := 8, len := 2, lo := 1, hi := 1000, dflt := 8 },
  { off := 10, len := 2, lo := 0, hi := 10000, dflt := 10 }]

/-- A RAIL_SET payload with its defaults: OPTIONS 0 is PG_USED. -/
def railFill (p : Bytes) : Bytes := fillDefaults ({ off := 1, len := 1, lo := 0, hi := 3, dflt := 1 } :: railTable) (fit 16 p)

/-- Faulty fields of RAIL_SET for slot `n`. -/
def railFaults (n : Nat) (p : Bytes) (s : State) : List (Bool × Nat) :=
  let o := byteAt p 0
  [(if isChip n then o != 0 else decide (9 < o) || (o != 0 && (List.range 16).any fun k =>
      k != n && !isChip k && (s.rail k).stored.order == o), 0),
   (decide (3 < byteAt p 1) || (isChip n && byteAt p 1 % 2 == 0), 1)] ++ fldFaults railTable p ++ [(!zeroAt p 12 4, 12)]

/-- The parameters of a payload. -/
def railOf (p : Bytes) : RailSet :=
  { order := byteAt p 0, pgUsed := bit (byteAt p 1) 0, enLow := bit (byteAt p 1) 1, onDelay := u16At p 2, qual := u16At p 4
    timeout := u16At p 6, deglitch := u16At p 8, offDelay := u16At p 10 }

/-- The payload of parameters. -/
def railBytes (r : RailSet) : Bytes :=
  le 1 r.order ++ le 1 (b2n r.pgUsed + 2 * b2n r.enLow) ++ le 2 r.onDelay ++ le 2 r.qual ++ le 2 r.timeout ++ le 2 r.deglitch
    ++ le 2 r.offDelay ++ zeros 4

/-- RAIL_SET. -/
def railSetSpec : CmdSpec where
  roles := [.service]
  lenOk := fun c _ => c.len == 16
  target := fun c _ => c.tgt < 16
  post := fun c s => firstFault (railFaults c.tgt (railFill c.pl) s)
  eff := fun c s => s.setRail c.tgt fun r => { r with stored := railOf (railFill c.pl) }

/-- RAIL_GET. -/
def railGetSpec : CmdSpec where
  viewer := true
  target := fun c _ => c.tgt < 16
  size := fun _ _ => 16
  ans := fun c s => ansResult (railBytes (s.rail c.tgt).stored)

/-- POWER_SET. -/
def powerSetSpec : CmdSpec where
  roles := [.service]
  lenOk := fun c _ => c.len == 16
  post := fun c _ => firstFault [(decide (10 < c.u8 0), 0), (decide (1 < c.u8 1), 1), (outside (c.u16 2) 100 10000, 2),
    (outside (c.u16 4) 20 100, 4), (decide (600 < c.u16 6), 6), (decide (1000 < c.u16 8), 8), (!zeroAt c.pl 10 6, 10)]
  eff := fun c s => { s with pwr := { s.pwr with
    retries := c.u8 0, autoOn := c.u8 1 == 1, minOff := c.u16 2, longPress := c.u16 4, offGrace := c.u16 6, rstoutDelay := c.u16 8 } }

/-- A zone is stopped as a ZONE_SET with ENABLE 0 stops it: it fires no more and its set is otherwise kept. -/
def stopZone (z : Nat) (s : State) : State :=
  if (s.zone z).enabled then
    writeOutMax z (s.setZone z fun x => { x with
      set := x.set.map fun p => putLe p 0 1 (byteAt p 0 / 2 * 2), enabled := false, fire := false, fireWas := false })
  else s

/-- Renune stops every motor channel, axis, loop and heater zone before the engine rails drop (R430). -/
def stopEngineUnits (s : State) : State :=
  let s := (List.range 16).foldl (fun s i => stopChannel i 1 s) s
  let s := (List.range 20).foldl (fun s i => haltMove i 0x80 s) s
  let s := (List.range 64).foldl (fun s i => stopLoop i 1 s) s
  (List.range 8).foldl (fun s z => stopZone z s) s

/-- The engine rails are taken down (R430, R435). -/
def engineDown (d : DownFor) (s : State) : State :=
  let s := if s.saf.ctrl = .warm ∨ s.saf.ctrl = .ready then s.moveState .idle else s
  startDown d (seqState .engineDown (stopEngineUnits s))

/-- The engine phase already stands where ENGINE_POWER asks. -/
def engineThere (v : Nat) (s : State) : Bool := if v = 1 then s.pwr.seq == .engineOn else s.pwr.seq == .chipOn

/-- ENGINE_POWER (R430, R435). -/
def enginePowerSpec : CmdSpec where
  roles := [.operator, .service]
  states := inStates [.idle, .warm, .ready]
  lenOk := fun c _ => c.len == 1
  pre := fun c s =>
    let v := c.u8 0
    failIf (!engineThere v s && ((v == 1 && s.pwr.seq != .engineUp && (s.pwr.seq != .chipOn || s.saf.ctrl != .idle))
      || (v == 0 && !noneInFlight s))) stDeniedState 0
  post := fun c _ => failIf (decide (1 < c.u8 0)) stBadParam 0
  eff := fun c s =>
    if engineThere (c.u8 0) s then s
    else if c.u8 0 = 1 then (if s.pwr.seq = .chipOn then startPhase true 0 s else s)
    else if s.pwr.seq = .engineUp then
      engineDown .engineOff { s with io := finishAll .enginePower (fun f => byteAt f.inl 0 = 1) stFaulted 0x80 [] s.io }
    else if s.pwr.seq = .engineOn then engineDown .engineOff s
    else s
  ans := fun c s => if engineThere (c.u8 0) s then ansAlready else ansAccepted
  abort := fun c s =>
    if c.u8 0 = 1 then (if s.pwr.seq = .engineUp then engineDown .engineOff s else s)
    else if s.pwr.seq = .engineDown then { s with pwr := { s.pwr with downFor := .engineUp } } else s

/-- POWER_CONTROL (R435): 1 OFF, 2 CYCLE, 3 RESET, which follows the response. -/
def powerControlSpec : CmdSpec where
  roles := [.service]
  lenOk := fun c _ => c.len == 1
  pre := fun c s => failIf (c.u8 0 == 3 && !noneInFlight s) stDeniedState 0
  post := fun c _ => failIf (outside (c.u8 0) 1 3) stBadParam 0
  eff := fun c s =>
    if c.u8 0 = 3 then { s with pwr := { s.pwr with resetDue := some 5 } }
    else
      let s := offRequest 3 s
      if c.u8 0 = 2 then
        let s := s.pulse 224 OnSource.cycle.code
        { s with pwr := { s.pwr with latched := some (s.pwr.latched.getD .cycle) } }
      else s

/-- Bits of a list of flags, bit 0 first. -/
def bitsOf (l : List Bool) : Nat := l.foldr (fun b n => b2n b + 2 * n) 0

/-- Words 0x04 to 0x18 of the power mirror (R436). -/
def powerWords (s : State) : List Nat :=
  let p := s.pwr
  let first : Nat := match p.record with
    | some r => r.rail + (r.cause + 128 * r.phase) * 2 ^ 8 + r.attempt * 2 ^ 16
    | none => 0xFF
  [p.seq.code + 16 * b2n p.latched.isSome + 32 * b2n p.button + 64 * b2n p.fuserSkipped + p.attempt * 2 ^ 8 + p.resetSrc * 2 ^ 16,
   bitsOf (p.rails.map (·.en)) + bitsOf (p.rails.map (·.pg)) * 2 ^ 16,
   bitsOf (p.rails.map (·.qualified)), first, (match p.record with | some r => r.aonUs | none => 0),
   p.retryCnt + p.runningCnt * 2 ^ 16]

/-- POWER_STATUS. -/
def powerStatusSpec : CmdSpec where
  viewer := true
  target := fun _ _ => true
  size := fun _ _ => 24
  ans := fun _ s => ansResult ((powerWords s).flatMap (le 4))

end Sys2Proof.Machine
end

