-- ==== Sys2Proof/Machine/Clock.lean ====
section
/-!
DEFINITION. The clocks (chapter 20): the oscillators and the crystal monitor, CLOCK_HOLD, the root PLL, domain
switches, clock outputs, and the commands of group 0x0F.
-/
namespace Sys2Proof.Machine

/-- The clock state is replaced by `f` of itself. -/
def State.setClk (s : State) (f : Clocks → Clocks) : State := { s with clk := f s.clk }

/-- EV233: the crystal changes state; the spec gives its DETAIL no codes, so it is a free value (R418). -/
def crystalEvent (s : State) : State := advanceFree (s.pulse 233 (freeBits .clock 8 0 s))

/-- EV232: the RPLL enters a state (R418). -/
def rpllState (r : Rpll) (s : State) : State :=
  (s.setClk fun c => { c with rpll := r }).pulse 232 (r.code + s.clk.band * 256)

/-! ## Switching a domain (R412, R413) -/

/-- A domain changes its source: `d` is its row in the table of R400, `lost` the cycles lost (0xFF unknown), `period` the
new clock's period in ns. CLK_CTL (5) adds the lost time to TIME64, which runs only outside internal reset. -/
def domainSwitch (d lost period : Nat) (s : State) : State :=
  let s := (s.setClk fun c => { c with lastDomain := d, lastLost := lost, switches := satInc 16 c.switches }).pulse 234 (d + lost * 256)
  if d = 5 ∧ lost ≠ 0xFF ∧ s.saf.internalReset = false then { s with io := { s.io with time := (s.io.time + lost * period) % 2 ^ 64 } } else s

/-- Every domain of the RPLL switches (R410, R411, R414). -/
def domainsSwitch (period : Nat) (s : State) : State := forEach (List.range 6) (fun s d => domainSwitch d 16 period s) s

/-- The RPLL enters BYPASS (R411). -/
def rpllBypass (s : State) : State :=
  let s := rpllState .bypass s
  let s := s.setClk fun c => { c with bypassed := 0x3F, timeUncertain := c.timeUncertain || c.refIrc }
  domainsSwitch 20 s

/-- No stop acknowledge within 64 reference cycles: the domain is gated asynchronously (R412, R413). -/
def switchAckTimeout (d : Nat) (s : State) : State :=
  if !chipOn s ∧ d < 6 then s
  else
    let s := domainSwitch d 0xFF 0 s
    let s := s.setClk fun c => { c with oldclkDead := true, timeUncertain := c.timeUncertain || d == 5 }
    let s : State := { s with pwr := { s.pwr with resetDue := some 4 } }
    s.raise .stop 236 d 0x4D

/-- 100 ms after such a switch without Renune the controller is reset (R412). -/
def oldclkTimeout (s : State) : State := if s.pwr.resetDue = some 4 then controllerReset 4 s else s

/-! ## The root PLL (R409 to R411) -/

/-- The band search of R410 over the counts by band. -/
def bandLoop (cnt : Nat → Nat) : Nat → Nat → Nat → Nat
  | 0, lo, _ => lo
  | k + 1, lo, hi =>
    if lo < hi then
      let mid := (lo + hi) / 2
      if cnt mid < 1536 then bandLoop cnt k (mid + 1) hi else bandLoop cnt k lo mid
    else lo

/-- The band of R410, none for a search that fails. -/
def bandSearch (cnt : Nat → Nat) : Option Nat :=
  if 153600 + 7680 < cnt 0 * 100 ∨ cnt 63 * 100 < 153600 - 7680 then none
  else
    let b := bandLoop cnt 6 0 63
    some (if 0 < b ∧ (1536 : Int) - cnt (b - 1) ≤ (cnt b : Int) - 1536 then b - 1 else b)

/-- Lock: the dividers are released and the domains switch to the RPLL (R410). The CLK_REF lanes may train again
(R406). -/
def rpllLocked (b vco : Nat) (s : State) : State :=
  let s := rpllState .locked (s.setClk fun c => { c with band := b, vco := vco, relockFails := 0, bypassed := 0 })
  startAllLanes (domainsSwitch 5 s)

/-- A failed lock; the eighth in a row is RPLL_FAIL (R411). -/
def lockFailed (s : State) : State :=
  let s := s.setClk fun c => { c with relockFails := c.relockFails + 1 }
  if 8 ≤ s.clk.relockFails then (rpllState .failed s).raise .stop 236 0 0x4C else s

/-- The RPLL may try to lock: it is supplied, and CLK_REF is the crystal. -/
def rpllMay (s : State) : Bool :=
  chipOn s && !s.saf.nmrstLow && s.saf.ctrl != .clockHold && !s.clk.refIrc && (s.clk.rpll == .off || s.clk.rpll == .bypass)

/-- A lock attempt with the counts that the bands give and the outcome of its qualification (R410). -/
def lockAttempt (counts : List Nat) (qualified : Bool) (s : State) : State :=
  let cnt (b : Nat) : Nat := counts.getD b 0
  match bandSearch cnt with
  | some b => if qualified then rpllLocked b (cnt b % 2048) s else lockFailed s
  | none => lockFailed s

/-- The RPLL qualifies lock after an enable or in a relock (R410). -/
def rpllLock (counts : List Nat) (s : State) : State := if rpllMay s then lockAttempt counts true s else s

/-- The relock attempt of every 1 ms in BYPASS (R411). -/
def relockAttempt (counts : List Nat) (qualified : Bool) (s : State) : State :=
  if rpllMay s && s.clk.rpll == .bypass then lockAttempt counts qualified s else s

/-- A phase error above 1 ns in four consecutive cycles (R411). -/
def rpllLoss (s : State) : State :=
  if s.clk.rpll = .locked then
    (rpllBypass (s.setClk fun c => { c with unlocks := satInc 16 c.unlocks })).raise .stop 236 0 0x4B
  else s

/-! ## The crystal and the IRC (R402 to R408) -/

/-- CLK_REF goes to the IRC or to the crystal. TIME64 running on a bypass clock that is the IRC is uncertain (R413). -/
def refSwitch (irc : Bool) (s : State) : State :=
  domainSwitch 6 16 20 (s.setClk fun c => { c with
    refIrc := irc, timeUncertain := c.timeUncertain || (irc && bit c.bypassed 5 && !s.saf.internalReset) })

/-- The pair state is replaced by `f` of itself. -/
def State.setPair (s : State) (f : Pair → Pair) : State := { s with pair := f s.pair }

/-- The pair link goes down (R467, R472). -/
def linkDown (s : State) : State := if s.pair.link then (s.setPair fun p => { p with link := false }).pulse 211 0 else s

/-- Lanes whose clock is CLK_REF are treated as down (R406). -/
def lanesDown (s : State) : State :=
  let s : State := { s with
    itk := { s.itk with ports := s.itk.ports.map fun p => { p with link := false } }
    img := { s.img with stations := s.img.stations.map fun x =>
      { x with polls := [], lanes := x.lanes.map fun l => if l.state = .failed then l else { l with state := .down } } } }
  linkDown (portLock true false (portLock false false s))

/-- XTAL_LOST (R406). -/
def xtalLost (s : State) : State :=
  let s := crystalEvent (s.setClk fun c => { c with
    proven := false, goodWindows := 0, startCounted := false, failedStarts := 0, xtalLost := satInc 16 c.xtalLost })
  let s := refSwitch true s
  let s := if s.clk.rpll = .locked then rpllBypass s else s
  (lanesDown s).raise .stop 236 0 0x49

/-- CLOCK_HOLD begins (R408): internal reset holds, EN0 to EN15 keep their levels. -/
def clockHold (s : State) : State :=
  let s := controllerReset 6 (inhibitUnits s)
  { s with
    saf := { s.saf with ctrl := .clockHold }
    pwr := { s.pwr with causeHold := true }
    clk := { s.clk with holdRetries := 0, proven := false, refIrc := true, startCounted := false, goodWindows := 0, failedStarts := 0 } }

/-- The amplitude detector rises or falls (R403, R404, R406, R408). -/
def xokChange (up : Bool) (s : State) : State :=
  if !s.clk.xtalOn then s
  else if up then crystalEvent (s.setClk fun c => { c with xok := true, xokRisen := true })
  else
    let was := s.clk
    let s := s.setClk fun c => { c with xok := false, startCounted := false, goodWindows := 0 }
    if was.xokRisen && !was.ircRunning && s.saf.ctrl != .clockHold then clockHold s
    else if was.proven then xtalLost s
    else crystalEvent s

/-- The start counter has counted 131,072 crystal cycles (R404). -/
def monitorArm (s : State) : State :=
  if s.clk.xtalOn && s.clk.xok then s.setClk fun c => { c with startCounted := true } else s

/-- CLOCK_HOLD ends: the controller boots with the rails as they are (R408). -/
def holdExit (s : State) : State :=
  let s : State := { s with saf := { s.saf with ctrl := if chipOn s then .boot else .powerUp } }
  if s.pwr.seq = .xtalStart then startPhase false 0 s else s

/-- The crystal is PROVEN (R405, R406, R408). -/
def xtalProven (s : State) : State :=
  let s := crystalEvent (s.setClk fun c => { c with proven := true, failedStarts := 0 })
  let s := refSwitch false s
  if s.saf.ctrl = .clockHold then (if s.clk.ircRunning then holdExit s else s)
  else if s.pwr.seq = .xtalStart then startPhase false 0 s
  else s

/-- A monitor window of 256 IRC cycles ends with a count of crystal cycles (R404 to R406). -/
def xtalWindow (cycles : Nat) (s : State) : State :=
  let c := s.clk
  if !c.xtalOn || !c.startCounted || !c.ircRunning then s
  else if outside cycles 248 264 then
    if c.proven then xtalLost s else s.setClk fun c => { c with goodWindows := 0 }
  else if c.proven then s
  else if 3 ≤ c.goodWindows then xtalProven (s.setClk fun c => { c with goodWindows := 4 })
  else s.setClk fun c => { c with goodWindows := c.goodWindows + 1 }

/-- The third failed start ends a power-up request (R405, R408) or is XTAL_FAIL (R406). -/
def xtalGivenUp (s : State) : State :=
  if s.pwr.seq = .xtalStart then enterOff (railRecord 0xFE 3 0 2 s)
  else if s.saf.ctrl = .clockHold then (dropRails (railRecord 0xFE 3 0 2 s)).setCtrl .off
  else s.raise .stop 236 0 0x4A

/-- XTAL_START_MAX has passed since the enable (R405). -/
def xtalStartTimeout (s : State) : State :=
  if !s.clk.xtalOn || s.clk.proven then s
  else
    let s := crystalEvent (s.setClk fun c => { c with
      xtalOn := false, xok := false, xokRisen := false, startCounted := false, goodWindows := 0
      failedStarts := min 3 (c.failedStarts + 1), xtalPause := decide (c.failedStarts < 2) })
    if 3 ≤ s.clk.failedStarts then xtalGivenUp s else s

/-- After 1 ms the oscillator starts again (R405) with the stored XTAL_MODE (R417). -/
def xtalRestart (s : State) : State :=
  if s.clk.xtalPause then crystalEvent (s.setClk fun c => { c with xtalOn := true, xtalPause := false, xtalMode := c.xtalModeSet })
  else s

/-- The IRC completes its start count (R402, R407, R408). -/
def ircStarted (s : State) : State :=
  if s.clk.ircRunning then s
  else
    let s := s.setClk fun c => { c with ircRunning := true }
    let s := if s.clk.aonRef then domainSwitch 7 16 1000 (s.setClk fun c => { c with aonRef := false }) else s
    if s.saf.ctrl = .clockHold ∧ s.clk.proven = true then holdExit s else s

/-- The IRC stalls and starts again (R402, R407, R408). -/
def ircStall (s : State) : State :=
  let s := s.setClk fun c => { c with ircRunning := false, ircRestarts := satInc 16 c.ircRestarts, goodWindows := 0 }
  if s.saf.ctrl = .clockHold then s.setClk fun c => { c with holdRetries := satInc 8 c.holdRetries }
  else if s.clk.proven && !s.clk.aonRef then
    (domainSwitch 7 16 1000 (s.setClk fun c => { c with aonRef := true })).raise .note 236 0 0x48
  else if s.clk.proven then s.raise .note 236 0 0x48
  else s

/-! ## The passing of time (R70) -/

/-- The period of CLK_CTL in ns: 5 from the RPLL, 20 on the bypass clock (R70). -/
def ctlPeriod (s : State) : Nat := if bit s.clk.bypassed 5 then 20 else 5

/-- One CLK_CTL cycle passes while no command waits (assumption 1): the always-on time goes on, and TIME64 counts unless
the internal reset is held or the clock is held (R70, R408). -/
def tick (s : State) : State :=
  let t : State := { s with pwr := { s.pwr with aonNs := s.pwr.aonNs + ctlPeriod s } }
  if s.saf.internalReset ∨ s.saf.ctrl = .clockHold then t
  else { t with io := { t.io with time := (t.io.time + ctlPeriod s) % 2 ^ 64 } }

/-! ## Commands of group 0x0F (R415 to R417) -/

/-- Words 0x04 to 0x1C of the clock mirror (R418). -/
def clockWords (s : State) : List Nat :=
  let c := s.clk
  let fmt := ((List.range 4).map fun n => let k := c.cko.getD n {}; (k.format + 8 * k.source) * 2 ^ (4 * n)).foldl (· + ·) 0
  let div := ((List.range 4).map fun n => (c.cko.getD n {}).div * 2 ^ (8 * n)).foldl (· + ·) 0
  [c.rpll.code + 8 * c.refMode + 32 * c.xtalMode + c.band * 2 ^ 8 + bitsOf [c.xok, c.proven, c.refIrc, c.aonRef, c.timeUncertain, c.oldclkDead] * 2 ^ 16,
   c.lastDomain + c.lastLost * 2 ^ 8 + c.switches * 2 ^ 16, c.unlocks + c.xtalLost * 2 ^ 16,
   c.ircRestarts + c.holdRetries * 2 ^ 16, c.vco, fmt, div]

/-- CLOCK_STATUS. -/
def clockStatusSpec : CmdSpec where
  viewer := true
  size := fun _ _ => 28
  ans := fun _ s => ansResult ((clockWords s).flatMap (le 4))

/-- CLOCK_SET: the values are stored in the always-on domain. -/
def clockSetSpec : CmdSpec where
  roles := [.service]
  lenOk := fun c _ => c.len == 8
  post := fun c _ => firstFault [(decide (2 < c.u8 0), 0), (decide (1 < c.u8 1), 1),
    (c.u16 2 != 0 && outside (c.u16 2) 5 100, 2), (!zeroAt c.pl 4 4, 4)]
  eff := fun c s => s.setClk fun k => { k with
    refModeSet := c.u8 0, xtalModeSet := c.u8 1, startMax := if c.u16 2 = 0 then k.startMax else c.u16 2 }

/-- Highest frequency of a format in MHz (R415). -/
def ckoLimit : Nat → Nat
  | 1 => 125 | 2 => 100 | 3 => 600 | _ => 300

/-- Faulty fields of CLOCK_OUT_SET for output `n` (R415, R417). -/
def ckoFaults (n : Nat) (p : Bytes) (s : State) : List (Bool × Nat) :=
  let f := byteAt p 0
  let d := byteAt p 2
  let vdd := (s.clk.cko.getD n {}).vdd
  [(decide (4 < f) || (f == 1 && vdd != 18) || (f == 2 && vdd != 33), 0), (decide (1 < byteAt p 1), 1),
   (if byteAt p 1 = 0 then d != 0
    else outside d 4 240 || d % 2 == 1 || (f != 0 && decide (ckoLimit f * d < 2400)), 2), (byteAt p 3 != 0, 3)]

/-- What drives CKOn. -/
inductive CkoDrive where
  /-- Both balls at high impedance. -/
  | highZ
  /-- Stopped low after a whole cycle. -/
  | low
  /-- Running at `num / den` MHz. -/
  | clock (num den : Nat)
deriving DecidableEq, Repr

/-- Output `n` (R415, R416): OFF while internal reset is held and in CLOCK_HOLD; XTAL stops with the crystal and never
carries the IRC; RPLL stops while the RPLL is not locked. -/
def ckoDrive (n : Nat) (s : State) : CkoDrive :=
  let k := s.clk.cko.getD n {}
  if k.format = 0 || s.saf.internalReset || s.saf.ctrl == .clockHold then .highZ
  else if k.source = 0 then (if s.clk.xtalOn && s.clk.xok then .clock 50 1 else .low)
  else if s.clk.rpll = .locked then .clock 2400 k.div
  else .low

/-- CLOCK_OUT_SET. -/
def clockOutSetSpec : CmdSpec where
  roles := [.service]
  lenOk := fun c _ => c.len == 4
  target := fun c _ => c.tgt < 4
  post := fun c s => firstFault (ckoFaults c.tgt c.pl s)
  eff := fun c s => s.setClk fun k => { k with cko := upd k.cko c.tgt fun o =>
    { o with format := c.u8 0, source := c.u8 1, div := c.u8 2 } }

end Sys2Proof.Machine
end

