-- ==== Sys2Proof/Machine/PairOps.lean ====
section
/-!
DEFINITION. The redundant pair (chapter 23): roles, the link and its frames, fitness, takeover, and the commands of
group 0x11.
-/
namespace Sys2Proof.Machine

/-! ## Roles (R452, R455, R472) -/

/-- OWN may be high: the role is ACTIVE and the controller runs (R455). -/
def ownMay (s : State) : Bool := s.pair.role == .active && !s.saf.internalReset && s.saf.ctrl != .clockHold

/-- The controller takes a role; EV208. -/
def takeRole (r : PRole) (s : State) : State :=
  let old := s.pair.role
  let s := s.setPair fun p => { p with role := r, roleTaken := true }
  let s := s.setPair fun p => { p with own := ownMay s, joined := p.joined || (p.link && r == .standby) }
  if old = r then s else s.pulse 208 r.code

/-- A STANDBY becomes UNFIT with a cause of the pair fault-cause table (R457, R460). -/
def becomeUnfit (cause : Nat) (s : State) : State :=
  if s.pair.role ≠ .standby then s
  else
    let s := s.setPair fun p => { p with fit := 0, joined := false, cause := cause, declared := none }
    ((takeRole .unfit s).pulse 209 0).raise .note 208 0 cause

/-- Groups strobed in the sweep in progress of station `i`. STBs are no rows, so how many of the groups sent have been strobed
is open (assumption 26). -/
def strobedNow (i : Nat) (s : State) : Nat := match (s.stn i).sweep with
  | some y => min y.groups.length (freeBits .pair 12 (100 + i) s)
  | none => 0

/-- Code of the highest class among the faults held, 0 without one. -/
def highestClass (s : State) : Nat := s.saf.faults.foldl (fun n x => max n x.cls.code) 0

/-- OWN rises or stays while PAIR_HB_OUT is toggled, and a HEARTBEAT leaves (R454, R455). -/
def heartbeatSend (s : State) : State :=
  if s.pair.paired then
    advanceFree (s.setPair fun p =>
      { p.send (.heartbeat p.role.code (highestClass s) s.io.time ((List.range 5).map fun i => strobedNow i s)) with own := ownMay s })
  else s

/-- The ACTIVE has not toggled its own PAIR_HB_OUT for 1 us (R455). -/
def ownDrop (s : State) : State := s.setPair fun p => { p with own := false }

/-- No peer heartbeat within 1 s of IDLE (R452). -/
def roleTimeout (s : State) : State :=
  if s.pair.paired && !s.pair.roleTaken && s.saf.ctrl.serving && !s.pair.peerHb then
    (takeRole .active s).raise .note 208 0 1
  else s

/-! ## Takeover (R462 to R466) -/

/-- This STANDBY is FIT (R461). -/
def isFit (s : State) : Bool :=
  s.pair.role == .standby && s.pair.joined && (List.range 5).all fun i => !bit (stationsOn s) i || bit s.pair.fit i

/-- A FIT STANDBY in no fault of class HALT or higher (R462). -/
def mayTakeOver (s : State) : Bool := isFit s && s.saf.faults.all fun x => decide (x.cls.code < 3)

/-- The TAKEOVER record (R466). -/
def takeoverRec (cause t : Nat) (role : PRole) (s : State) : Rec :=
  let first (i : Nat) : Nat :=
    let w := s.wvr i
    if w.state = .tracking ∨ w.state = .locked then (w.sweep + 1) % 2 ^ 27 else 0xFFFFFFFF
  { kind := .takeover, time := s.io.time, origin := 0, detail := 0, subject := 0
    body := le 1 cause ++ le 1 role.code ++ le 1 s.pair.peerClass ++ zeros 5 ++ le 8 t ++ fit 16 s.pair.peerSerial
      ++ le 8 s.pair.peerSeq ++ (List.range 5).flatMap (fun i => le 4 (first i)) ++ zeros 4
    draw := .reserve }

/-- The side in progress of station `i` at a takeover: bit 5 of PRESENT, and, when the former ACTIVE is dead, the cut
sweep with cause 0x33 (R463). -/
def takeoverSide (dead : Bool) (s : State) (i : Nat) : State :=
  let x := s.stn i
  match x.side? with
  | none => s
  | some d =>
    if d.starts = 0 then s
    else
      let s := presentBit i d.sheet d.side 5 s
      if dead && x.sweep.isSome then
        (spoilSide i d.sheet d.side 0x33 s).setStn i fun x => { x with
          sweep := x.sweep.map fun y => { y with groups := y.groups.take (s.pair.peerGroups.getD i 0), stop := true } }
      else s

/-- Intake continues each stream's outbound SEQ 2^32 further and announces its addresses at both ports (R465). -/
def takeoverIntake (s : State) : State :=
  advanceFree { s with itk := { s.itk with
    streams := s.itk.streams.map fun x => if x.state = .closed then x else { x with outSeq := x.outSeq + 2 ^ 32 }
    ports := s.itk.ports.map fun p => if p.link then { p with sent := freeBytes .net 32 0 s } else p } }

/-- The lanes that a STANDBY holds block-locked on IDLE are UP from the takeover on, so that the next sweep start finds them
(R458, R463; assumption 26). -/
def takeoverLanes (s : State) (i : Nat) : State :=
  (List.range 4).foldl (fun s m => if (s.lane i m).state = .locking then laneUp i m s else s) s

/-- A station without a sweep in progress puts its lanes back on IDLE when its controller has handed over (R458, R463). -/
def handOverLanes (s : State) (i : Nat) : State := if (s.stn i).sweep.isSome then s else idleLanes i s

/-- The STANDBY becomes ACTIVE at T (R462 to R465): on the Rim the directions change their ports. -/
def takeOver (cause t : Nat) (s : State) : State :=
  let dead : Bool := cause == 1
  let s := s.setPair fun p => { p with takeovers := satInc 16 p.takeovers, declared := none, fit := 0, joined := false, reports := [] }
  let s := (takeRole .active s).pulse 210 cause
  let s := s.record (takeoverRec cause t .active s)
  let s := takeoverIntake (forEach (List.range 5) (takeoverSide dead) s)
  let s := forEach (List.range 5) takeoverLanes { s with rim := { s.rim with swapped := true } }
  if dead then s.raise .note 208 0 3 else s

/-- A living former ACTIVE drops OWN and becomes UNFIT (R462). -/
def handOver (cause t : Nat) (s : State) : State :=
  let s := s.setPair fun p => { p with takeovers := satInc 16 p.takeovers, declared := none }
  let s := (takeRole .unfit s).pulse 210 cause
  forEach (List.range 5) handOverLanes ((s.record (takeoverRec cause t .unfit s)).finishAny .pairHandover stDone 0)

/-- The declared instant T comes (R462). -/
def takeoverInstant (s : State) : State := match s.pair.declared with
  | none => s
  | some (t, cause) =>
    if s.pair.role = .standby ∧ mayTakeOver s = true then takeOver cause t s
    else if s.pair.role = .active ∧ peerIsFit s = true then handOver cause t s
    else (s.setPair fun p => { p with declared := none }).finishAny .pairHandover stFaulted 2

/-- PAIR_HB_IN shows no edge, or no HEARTBEAT arrives (R456, R462). -/
def heartbeatLoss (noEdge noFrame : Bool) (s : State) : State :=
  if !s.pair.paired then s
  else if noEdge && noFrame then
    let s := s.setPair fun p => { p with peerHb := false, peerFit := 0 }
    if mayTakeOver s then takeOver 1 s.io.time s else s
  else if (noEdge || noFrame) && s.pair.role == .standby then s.raise .note 208 0 1
  else s

/-! ## Link and frames (R454, R457, R467) -/

/-- The link is up and keyed with the paired peer; OFS is measured by a STANDBY, held checkpoints are sent, and the join
image is applied (R454, R457, R461, R467). -/
def linkUp (serial : Bytes) (ofs : Int) (rb : Nat) (s : State) : State :=
  if !s.pair.paired || s.pair.link || serial != s.pair.peerSerial then s
  else
    let standby : Bool := s.pair.role == .standby
    let held (p : Pair) : Pair := p.unsent.foldl (fun p c => p.send (.ckpt c.1 c.2.1 c.2.2)) { p with link := true }
    (s.setPair fun p => { held p with
      unsent := [], joined := p.joined || (standby && p.roleTaken)
      ofs := if standby then 5 * floorDiv (2 * ofs + 5) 10 else p.ofs
      rbDelay := if standby then rb else p.rbDelay }).pulse 211 1

/-- The repeated measurement of OFS (R457). -/
def offsetCheck (ofs : Int) (s : State) : State :=
  if s.pair.role = .standby ∧ s.pair.link = true ∧ 5 < (ofs - s.pair.ofs).natAbs then becomeUnfit 7 s else s

/-- A frame of the link: one whose tag fails is dropped and counted (R454). -/
def linkFrame (ok : Bool) (f : State → State) (s : State) : State :=
  if !s.pair.link then s
  else if ok then f s
  else s.setPair fun p => { p with auth := satInc 16 p.auth }

/-- A page's staging report differs from the ACTIVE's in MANIFEST_DIGEST or PEAK_COST (R460). -/
def stagingDiffers (s : State) : Bool := s.pair.peerPages.any fun q => match s.page q.stream q.page with
  | some p => p.state == .complete && (q.digest != (match p.manifest with | some m => sha384 m | none => zeros 48) || q.peaks != p.costs.map (·.2))
  | none => false

/-- The STANDBY compares the staging reports it holds (R460). -/
def stagingCheck (s : State) : State := if s.pair.role = .standby ∧ stagingDiffers s = true then becomeUnfit 6 s else s

/-- A paired controller takes its role from what the peer's HEARTBEAT reports (R452). -/
def chooseRole (peer : Nat) (s : State) : State :=
  if s.pair.roleTaken || !s.saf.ctrl.serving then s
  else if peer = 1 then takeRole .standby s
  else if leAt s.reg.serial 0 16 < leAt s.pair.peerSerial 0 16 then takeRole .active s
  else s

/-- The role that ROLE codes. -/
def roleOf : Nat → PRole
  | 0 => .single | 1 => .active | 2 => .standby | _ => .unfit

/-- A HEARTBEAT arrives (R452, R454, R456, R460, R470). -/
def heartbeatRx (h : Heartbeat) (s : State) : State :=
  let old := s.pair
  let peer := h.role.toNat
  let new := h.pages
  let s := s.setPair fun p => { p with
    peerHb := true, peerRole := roleOf peer, peerClass := h.cls.toNat, peerGroups := h.groups, peerAt := s.io.time
    peerFit := h.fit.toNat
    peerPages := p.peerPages.filter (fun q => !(new.any fun n => n.stream == q.stream && n.page == q.page)) ++ new }
  if old.role = .active ∧ peer = 1 then
    (takeRole .unfit (s.raise .stop 208 0 4))
  else
    let s := chooseRole peer s
    let s := if old.role = .active ∧ peer = 3 ∧ old.peerRole ≠ .unfit then s.raise .note 208 0 2 else s
    stagingCheck s

/-- FORWARD bytes of the last ms (PAIR_FWD). -/
def countForward (n : Nat) (s : State) : State := s.setPair fun p => { p with
  fwd := (s.io.time, n) :: p.fwd.filter fun x => decide (s.io.time < x.1 + 1000000) }

/-- A forwarded TRT packet, header and plaintext, passes steps 7 to 9 of R83 in the STANDBY (R454, R458). -/
def forwardRx (port : Nat) (p : Bytes) (s : State) : State :=
  if s.pair.role ≠ .standby then s
  else
    let n := u16At p 2
    let s := countForward p.length s
    if 256 ≤ n then s
    else
      let s := s.setStrm n fun x => { x with lastPort := if port < 2 then port else x.lastPort }
      if seqMarked (s.strm n) (u64At p 8) then dropPacket n s else trtApply n (p.take 32) (p.drop 32) s

/-- KIND and subject of the entry of a mirrored change (R453). -/
def mirrorKind : Mirrored → Kind × Nat
  | .command op _ _ => (.command, op.code)
  | .register _ _ => (.register, 0)
  | .capture => (.capture, 0)
  | .abort _ _ _ => (.command, Op.cmdAbort.code)
  | .axis _ _ _ _ => (.command, 0)

/-- A MIRROR frame is recorded and then applied (R453); an axis's position, mode and queue are operating data, taken at
once (R259, R267). -/
def mirrorRx (seq : Nat) (body : Bytes) (m : Mirrored) (s : State) : State :=
  if s.pair.role ≠ .standby then s
  else match m with
    | .axis a pos strong segs => axisMirror a.val pos.toInt strong segs s
    | m => s.record {
      kind := (mirrorKind m).1, time := s.io.time, origin := 4, detail := 0, subject := (mirrorKind m).2
      body := body ++ le 8 seq, draw := .ordinary, act := .mirror seq m }

/-- A REPORT of the ACTIVE waits for its comparison (R460). -/
def reportRx (i sweep strobed : Nat) (digest : Bytes) (s : State) : State :=
  if s.pair.role ≠ .standby then s
  else s.setPair fun p => { p with
    reports := p.reports.filter (fun r => r.station != i) ++ [{ station := i, sweep := sweep, strobed := strobed, digest := digest }] }

/-- The STANDBY compares its digest and its STROBED of the sweep of station `i` with the REPORT (R460). -/
def digestCompare (i : Nat) (s : State) : State :=
  let x := s.stn i
  if s.pair.role ≠ .standby ∨ s.pair.joined = false ∨ ((s.pair.reports.any fun r => r.station == i) = false ∧ x.sides = []) then s
  else
    let same : Bool := s.pair.reports.any fun r =>
      r.station == i && r.sweep == x.weaver.sweep && r.strobed == x.lastStrobed && r.digest == x.bandDigest
    let s := s.setPair fun p => { p with
      reports := p.reports.filter fun r => r.station != i
      mismatch := if same then p.mismatch else satInc 16 p.mismatch }
    if same then s else becomeUnfit 5 s

/-- A DECLARE names T in the ACTIVE's TIME64 (R462). -/
def declareRx (t : Nat) (s : State) : State :=
  if s.pair.role = .standby then s.setPair fun p => { p with declared := some (((t : Int) - p.ofs).toNat, 2) } else s

/-- The peer's signed checkpoint is chained as PEER_CKPT (R366, R467). -/
def ckptRx (n : Nat) (hash sig : Bytes) (s : State) : State := s.record {
  kind := .peerCkpt, time := s.io.time, origin := 0, detail := 0, subject := 0
  body := fit 16 s.pair.peerSerial ++ le 8 n ++ fit 48 hash ++ fit 96 sig, draw := .ordinary }

/-- A SIGNATURE is sent to the peer in a CKPT frame, or held while the link is down, at most 64 (R467). -/
def ckptSend (n : Nat) (hash sig : Bytes) (s : State) : State :=
  if !s.pair.paired then s
  else if s.pair.link then s.setPair (·.send (.ckpt n hash sig))
  else s.setPair fun p => { p with
    ckptLost := if 64 ≤ p.unsent.length then satInc 16 p.ckptLost else p.ckptLost
    unsent := (if 64 ≤ p.unsent.length then p.unsent.drop 1 else p.unsent) ++ [(n, hash, sig)] }

/-! ## Commands of group 0x11 (R471) -/

/-- Words 0x04 to 0x18 of the pair mirror. -/
def pairWords (s : State) : List Nat :=
  let p := s.pair
  [p.role.code + 4 * b2n p.link + 8 * b2n p.peerHb + 16 * p.fit + p.cause * 2 ^ 12, (p.ofs % (2 : Int) ^ 32).toNat,
   p.mismatch + p.takeovers * 2 ^ 16, p.auth + p.ckptLost * 2 ^ 16, p.rbDelay,
   (p.fwd.filter fun x => decide (s.io.time < x.1 + 1000000)).foldl (fun n x => n + x.2) 0 % 2 ^ 32]

/-- PAIR_STATUS. -/
def pairStatusSpec : CmdSpec where
  viewer := true
  size := fun _ _ => 24
  ans := fun _ s => ansResult ((pairWords s).flatMap (le 4))

/-- PAIR_SET: stored in MRAM, in force from the next controller reset. -/
def pairSetSpec : CmdSpec where
  roles := [.service]
  states := inStates quietStates
  lenOk := fun c _ => c.len == 24
  post := fun c s => firstFault [(leAt c.pl 0 16 == leAt s.reg.serial 0 16, 0), (decide (1 < c.u8 16), 16), (!zeroAt c.pl 17 7, 17)]
  eff := fun c s => s.setPair fun p => { p with peerSerial := fit 16 c.pl, stored := c.u8 16 == 1 }

/-- PAIR_HANDOVER: DECLARE is sent, and the final status is DONE at T. -/
def pairHandoverSpec : CmdSpec where
  roles := [.operator, .service]
  states := inStates [.idle, .warm, .ready, .run, .drain]
  pre := fun _ s => failIf (s.pair.role != .active || !peerIsFit s) stDeniedState 0
  eff := fun _ s => sendDeclare 3 s
  ans := fun _ _ => ansAccepted
  canAbort := fun _ s => s.pair.declared.isNone

end Sys2Proof.Machine
end

