-- ==== Sys2Proof/Machine/FaultOps.lean ====
section
/-!
DEFINITION. Interlock inputs, supervisor and SRAM errors (R10, R14, R442), and FAULT_LIST and FAULT_CLEAR (R450, R451).
-/
namespace Sys2Proof.Machine

/-! ## Interlocks (R442, R449) -/

/-- Interlock input `i` has been low for 20 ns: its latch is set, and Renune, where it runs, raises the fault of the
input. -/
def interlockInput (i : Nat) (s : State) : State :=
  let old := s.saf.ilk.getD i {}
  let s := { s with saf := { s.saf with
    ilk := upd s.saf.ilk i fun x => { x with active := true, latch := true }
    trips := if old.latch then s.saf.trips else satInc 16 s.saf.trips } }
  let s := if old.active then s else s.pulse 238 0
  if s.saf.ctrl.serving && !s.saf.internalReset then s.raise .stop 236 0 (i + 1) else inhibitUnits s

/-- Interlock input `i` returns high. -/
def interlockRelease (i : Nat) (s : State) : State :=
  if (s.saf.ilk.getD i {}).active then
    ({ s with saf := { s.saf with ilk := upd s.saf.ilk i fun x => { x with active := false, highSince := s.pwr.aonNs } } }).pulse 238 0
  else s

/-! ## Supervisor pairs and SRAM (R10, R14, R378, R379) -/

/-- Number of an ECC region, as MEMORY_UE codes its INDEX. -/
def regionOf : SramRegion → Nat
  | .l2 p => p.val | .shared => 2 | .tcm => 3 | .firmware => 4 | .screenStore _ => 6 | .corrTables _ => 7 | .lineStore _ _ => 8

/-- An ECC region counts an uncorrectable error (R379). -/
def countUe (r : Nat) (s : State) : State :=
  { s with bg := { s.bg with ecc := upd s.bg.ecc r fun x => { x with ue := satInc 16 x.ue } } }

/-- The reaction to an uncorrectable SRAM error (R10, R14). -/
def sramReact (r : SramRegion) (s : State) : State := match r with
  | .lineStore i k => s.setStn i.val fun x => { x with
      lsEcc := satInc 16 x.lsEcc
      lsAbsent := if x.slots.any fun y => y.num == k && !y.absent then satInc 16 x.lsAbsent else x.lsAbsent
      slots := x.slots.map fun y => if y.num = k then { y with absent := true } else y }
  | .screenStore i => (s.setStn i.val fun x => { x with screenOut := true }).raise .halt 236 i.val 0x15
  | .corrTables i => (s.setStn i.val fun x => { x with corrOut := true }).raise .halt 236 i.val 0x15
  | r => s.raise .halt 236 (regionOf r) 0x09

/-- An uncorrectable SRAM error is found by the region's reader. -/
def sramUe (r : SramRegion) (s : State) : State := sramReact r (countUe (regionOf r) s)

/-- A lockstep mismatch of a supervisor pair, or an uncorrectable error inside it (R10). -/
def lockstep (p : Fin 2) (ue : Bool) (s : State) : State :=
  if ue then sramUe (.l2 p) s else s.raise .halt 236 p.val 0x08

/-! ## FAULT_LIST and FAULT_CLEAR (R450, R451) -/

/-- Station `i` has a lane that is FAILED. -/
def laneFailed (i : Nat) (s : State) : Bool := (s.stn i).lanes.any fun l => l.state == .failed

/-- The condition of a fault of line 236 persists (assumption 30). -/
def persists236 (index cause : Nat) (s : State) : Bool := match cause with
  | 1 | 2 | 3 | 4 => (s.saf.ilk.getD (cause - 1) {}).latch
  | 0x07 => s.saf.inhTestFail
  | 0x10 => laneFailed index s
  | 0x12 => (s.stn index).weak.any (· == true)
  | 0x15 => (s.stn index).outOfService
  | 0x28 => s.itk.master.isNone
  | 0x30 => s.led.low
  | 0x31 => s.led.full
  | 0x32 => s.led.spillErr
  | 0x33 => !s.led.unsigned.isEmpty
  | 0x39 => decide (256 ≤ s.bg.retired.length)
  | 0x3B => s.bg.worn.any fun k => !s.bg.sectors.contains k
  | 0x41 => !s.boot.berrilOk
  | 0x48 => !s.clk.ircRunning
  | 0x49 | 0x4A => !s.clk.proven
  | 0x4B | 0x4C => s.clk.rpll != .locked
  | _ => false

/-- The condition of a Rim fault persists. -/
def persistsRim (cause : Nat) (s : State) : Bool := match cause with
  | 1 => s.rim.broken
  | 2 | 4 | 5 => s.rim.state == .fault
  | 3 => s.rim.nodes.any fun n => n.state == .lost
  | 7 => s.rim.nodes.any fun n => n.alert != 0
  | _ => false

/-- The condition of a pair fault persists. -/
def persistsPair (cause : Nat) (s : State) : Bool := match cause with
  | 1 => !s.pair.peerHb
  | 2 => s.pair.peerHb && s.pair.peerRole == .unfit
  | 4 => s.pair.role == .active && s.pair.peerHb && s.pair.peerRole == .active
  | 5 | 6 | 7 => s.pair.role == .unfit
  | _ => false

/-- The condition of an active fault persists: FLAGS bit 0 (R451). -/
def persists (e : FaultEntry) (s : State) : Bool :=
  if 96 ≤ e.line ∧ e.line < 112 then
    let m := s.motor (chIdx e.index)
    let bus : Bool := match m.set with | some p => (s.bus (mBus p)).outOfRange | none => false
    (e.cause == 2 && m.drvLow) || ((e.cause == 3 || e.cause == 4) && bus)
  else if 112 ≤ e.line ∧ e.line < 116 then e.cause == 3 && (s.bus e.index).chopHot
  else if e.line = 118 then
    let a := s.axis (axIdx e.index)
    let bus : Bool := match a.set with | some p => isSc (axIdx e.index) && (s.bus (byteAt p 1)).outOfRange | none => false
    (e.cause == 0x0E && a.gpioLow) || ((e.cause == 3 || e.cause == 4) && bus)
  else if e.line = 152 then (s.qe e.index).wire.contains true
  else if e.line = 180 then (e.cause == 0x10 && s.thm.dieDev.getD e.index false) || (e.cause != 0x10 && s.thm.dieFault == e.cause)
  else if e.line = 192 then persistsRim e.cause s
  else if e.line = 208 then persistsPair e.cause s
  else if e.line = 236 then persists236 e.index e.cause s
  else false

/-- The unit of an active fault is in FAULT: FLAGS bit 1 (R451). -/
def unitFaulted (e : FaultEntry) (s : State) : Bool :=
  if 96 ≤ e.line ∧ e.line < 112 then (s.motor (chIdx e.index)).state == .fault
  else if 112 ≤ e.line ∧ e.line < 116 then (s.bus e.index).chopFault
  else if e.line = 117 ∨ e.line = 118 then (s.axis (axIdx e.index)).state == .fault
  else if e.line = 152 then (s.qe e.index).fault != 0
  else if e.line = 153 then (s.se (e.index - 16)).fault != 0
  else if e.line = 161 then (s.loop e.index).state == .fault
  else if e.line = 176 then (s.zone e.index).fault != 0
  else if e.line = 180 then s.thm.dieFault != 0
  else if e.line = 192 then s.rim.state == .fault
  else if e.line = 236 ∧ e.cause = 0x18 then (s.wvr e.index).state == .fault
  else false

/-- OVERTEMP, DIE_SHUT and INH_TEST_FAIL are never removed (R450). -/
def neverCleared (e : FaultEntry) : Bool :=
  (e.line == 176 && e.cause == 7) || (e.line == 180 && e.cause == 0x12) || (e.line == 236 && e.cause == 7)

/-- FAULT_CLEAR removes an entry whose condition has ended and whose unit is no longer in FAULT. -/
def clearable (s : State) (e : FaultEntry) : Bool := !persists e s && !unitFaulted e s && !neverCleared e

/-- The interlock latches whose inputs have been high for 10 ms are released (R442). -/
def releaseLatches (s : State) : State :=
  let go (x : Ilk) : Ilk := if !x.active && decide (x.highSince + 10000000 ≤ s.pwr.aonNs) then { x with latch := false } else x
  { s with saf := { s.saf with ilk := s.saf.ilk.map go } }

/-- The controller state that FAULT_CLEAR returns to (fault-states table). -/
def clearedState (s : State) : CState :=
  let high : Bool := s.saf.faults.any (fun x => decide (3 ≤ x.cls.code))
  let base : CState := if s.pwr.seq = .engineOn then .warm else .idle
  match s.saf.ctrl with
  | .halted => if high then .halted else base
  | .safe => if (high || s.saf.ilk.any (·.latch) || s.saf.inhForce || s.saf.extest) = true then .safe else base
  | c => c

/-- What FAULT_CLEAR does at its ordering point (R450). -/
def clearFaults (s : State) : State :=
  let s := releaseLatches s
  let gone := s.saf.faults.filter (clearable s)
  let s : State := { s with saf := { s.saf with faults := s.saf.faults.filter fun e => !clearable s e } }
  let s := gone.foldl (fun s _ => s.pulse 237 0) s
  let s : State := { s with saf := { s.saf with stopLatch := s.saf.stopLatch && s.saf.faults.any fun x => x.cls == .stop } }
  s.setCtrl (clearedState s)

/-- An entry of FAULT_LIST (R451). -/
def faultBytes (s : State) (e : FaultEntry) : Bytes :=
  le 1 e.cls.code ++ le 1 (b2n (persists e s) + 2 * b2n (unitFaulted e s)) ++ le 1 e.line ++ le 1 e.index ++ le 2 e.cause
    ++ le 2 e.count ++ le 8 e.time ++ le 8 e.seq

/-- FAULT_LIST. -/
def faultListSpec : CmdSpec where
  viewer := true
  needsRbuf := true
  size := fun _ s => 16 + 24 * s.saf.faults.length
  ans := fun _ s => ansResult (le 2 s.saf.faults.length ++ le 2 s.saf.overflow ++ le 1 (highestClass s) ++ zeros 11
    ++ s.saf.faults.flatMap (faultBytes s))

/-- FAULT_CLEAR: ALREADY_DONE when the list is empty and no latch is set. -/
def faultClearSpec : CmdSpec where
  roles := [.operator, .service]
  size := fun _ _ => 4
  eff := fun _ s => clearFaults s
  ans := fun _ s =>
    if s.saf.faults.isEmpty && !s.saf.ilk.any (·.latch) && !s.saf.stopLatch then ansAlready
    else
      let t := clearFaults s
      ansResult (le 2 (s.saf.faults.length - t.saf.faults.length) ++ le 2 t.saf.faults.length)

end Sys2Proof.Machine
end

