-- ==== Sys2Proof/Machine/Background.lean ====
section
/-!
DEFINITION. The Rambler's jobs and the commands of group 0x12 (chapter 18).
-/
namespace Sys2Proof.Machine

/-- The background state is replaced by `f` of itself. -/
def State.setBg (s : State) (f : Background → Background) : State := { s with bg := f s.bg }

/-- The Rambler runs, in IDLE to LATCHED on pair B (R375). -/
def ramblerRuns (s : State) : Bool := s.saf.ctrl.serving && !s.saf.internalReset

/-! ## Budgets and periods (R375, R376) -/

/-- The LATE counter of a job whose pass has taken more than twice its period (R376). -/
def lateJob (s : State) (k : Nat) : State :=
  let j := s.bg.jobs.getD k { period := 1 }
  if j.since + 2 * j.period * 1000000000 < s.io.time then
    s.setBg fun b => { b with
      jobs := upd b.jobs k fun j => { j with since := s.io.time }, late := satInc 16 b.late, lateJob := k + 1 }
  else s

/-- A new 10 ms window of pair B: the jobs of the last one wanted `want` us, of which at most 500 were used (R375). -/
def ramblerWindow (want : Nat) (s : State) : State :=
  if !ramblerRuns s then s
  else
    let s := s.setBg fun b => { b with
      used := (min want 500 :: b.used).take 100
      suspends := if 500 < want then satInc 16 b.suspends else b.suspends }
    forEach (List.range 8) lateJob s

/-- A pass of job `id` ends. -/
def passDone (id : Nat) (s : State) : State :=
  s.setBg fun b => { b with jobs := upd b.jobs (id - 1) (Job8.done s.io.time) }

/-! ## Scrubbing (R377 to R379) -/

/-- INDEX of ECC_RATE for a region; the screen store and the correction tables have no code, so theirs is a free value
(R448). -/
def rateIndex (r : Nat) (s : State) : Nat := if r < 6 then r else freeBits .background 8 r s

/-- A region corrects an error; above CE_WARN in one hour ECC_RATE is raised once (R379). -/
def countCe (r : Nat) (s : State) : State :=
  let h := s.io.time / 3600000000000
  let s := s.setBg fun b => { b with ecc := upd b.ecc r fun x =>
    let x := if x.hour = h then x else { x with hour := h, hourCe := 0, raised := false }
    { x with ce := satInc 16 x.ce, hourCe := x.hourCe + 1 } }
  let x := s.bg.ecc.getD r {}
  if s.bg.ceWarn < x.hourCe ∧ x.raised = false then
    advanceFree ((s.setBg fun b => { b with ecc := upd b.ecc r fun x => { x with raised := true } }).raise .note 236 (rateIndex r s) 0x38)
  else s

/-- The scrubber records an uncorrectable error's address and pulses EV247 with its job and a cause (R378). -/
def ueFound (job cause addr : Nat) (s : State) : State :=
  (s.setBg fun b => { b with ueAddr := addr }).pulse 247 (job + cause * 256)

/-- The fault cause of an SRAM region. -/
def sramCause : SramRegion → Nat
  | .screenStore _ | .corrTables _ => 0x15
  | .lineStore _ _ => 0
  | .l2 _ | .shared | .tcm | .firmware => 0x09

/-- An error that the SRAM scrubber meets. The line store is not scrubbed (R377): an entry that names it is a single-bit
error that its own reader has corrected since the last pass, and counts in its region (R15). -/
def sramErr (s : State) (e : SramErr) : State := match e.region with
  | .lineStore _ _ => if e.ue then s else countCe 8 s
  | r => if e.ue then ueFound 1 (sramCause r) e.addr.toNat (sramUe r s) else countCe (regionOf r) s

/-- Job 1 completes a pass (R377). -/
def sramScrub (errs : List SramErr) (s : State) : State := if ramblerRuns s then passDone 1 (errs.foldl sramErr s) else s

/-- Passes within 24 h in which a granule corrected errors, this one included. -/
def granulePasses (g : Nat) (s : State) : List Nat :=
  s.io.time :: (((s.bg.granules.find? fun x => x.1 == g).map (·.2)).getD []).filter fun t => decide (s.io.time < t + 86400000000000)

/-- A granule corrects an error in this pass; the third pass within 24 h retires it, at most 256 (R379). -/
def granuleCe (g : Nat) (s : State) : State :=
  if s.bg.granules.any fun x => x.1 == g && x.2.head? == some s.io.time then s
  else
    let l := granulePasses g s
    let s := s.setBg fun b => { b with granules := (g, l) :: b.granules.filter fun x => x.1 != g }
    if l.length < 3 ∨ s.bg.retired.contains g = true then s
    else if 256 ≤ s.bg.retired.length then s.raise .note 236 5 0x39
    else s.setBg fun b => { b with retired := b.retired ++ [g] }

/-- The bytes of a capture set with CAPTURE_BAD set in its header (R120). -/
def markBad (b : Bytes) : Bytes := b.take 12 ++ [BitVec.ofNat 8 (byteAt b 12 / 2 * 2 + 1)] ++ b.drop 13

/-- A capture set is marked CAPTURE_BAD (R122, R378): a finished set in its header, in its sheet's record (R219) and in
its station's count of marked sets, each once; the set of a side in progress when the side ends. -/
def captureBad (n : Nat) (s : State) : State :=
  let mark (s : State) (c : CaptureSet) : State :=
    if c.num ≠ n ∨ bit (byteAt c.bytes 12) 0 then s
    else
      let i := byteAt c.bytes 7
      let s : State := { s with img := { s.img with
        captures := s.img.captures.map fun y => if y.num = n then { y with bytes := markBad y.bytes } else y } }
      (presentBit i (u16At c.bytes 4) (byteAt c.bytes 6) 2 s).setStn i fun x => { x with capBad := satInc 16 x.capBad }
  let s := s.img.captures.foldl mark s
  (List.range 5).foldl (fun s i => s.setStn i fun x => { x with
    sides := x.sides.map fun d => if d.capset = some n then { d with capBad := true } else d }) s

/-- An uncorrectable DRAM error that the scrubber finds (R378). -/
def dramUe (e : DramErr) (s : State) : State :=
  let s := countUe 5 s
  match e.place with
  | .unused => ueFound 2 0 e.addr.toNat s
  | .band st p => ueFound 2 9 e.addr.toNat (restage (pageStoreError st.val p.toNat (pageNeeded st.val p.toNat s) s))
  | .capture n => ueFound 2 0 e.addr.toNat (captureBad n s)
  | .firmware => ueFound 2 0x09 e.addr.toNat (s.raise .halt 236 4 0x09)

/-- An error that the DRAM scrubber meets. -/
def dramErr (s : State) (e : DramErr) : State :=
  if e.ue then dramUe e s else granuleCe (e.addr.toNat / 4096) (countCe 5 s)

/-- Job 2 completes a pass (R377). -/
def dramScrub (errs : List DramErr) (s : State) : State := if ramblerRuns s then passDone 2 (errs.foldl dramErr s) else s

/-! ## Calibration (R380, R381) -/

/-- The coefficients stored under a unit. -/
def coeffOf (l : List (Nat × List Int)) (k : Nat) : Option (List Int) := (l.find? fun x => x.1 == k).map (·.2)

/-- The coefficients of a unit are replaced. -/
def putCoeff (k : Nat) (v : List Int) (l : List (Nat × List Int)) : List (Nat × List Int) :=
  l.filter (fun x => x.1 != k) ++ [(k, v)]

/-- Job 3 has measured offset (LSB) and gain (1/65,536) of converters. -/
def adcCal (l : List (Nat × Int × Int)) (s : State) : State :=
  if !ramblerRuns s then s
  else passDone 3 (s.setBg fun b => { b with
    pass := l.foldl (fun p x => if x.1 < 256 then putCoeff x.1 [x.2.1, x.2.2] p else p) b.pass })

/-- Taps measured of a station: number and value in turn. -/
def putTap (l : List Int) (k : Nat) (v : Int) : List Int :=
  let l := if l = [] then List.replicate 128 0 else l
  (l.set (2 * k) 1).set (2 * k + 1) v

/-- All 64 taps are measured. -/
def tapsDone (l : List Int) : Bool := decide (l.length = 128) && (List.range 64).all fun k => l.getD (2 * k) 0 == 1

/-- Job 4 has measured taps of station `i`: any number while its Weaver is OFF, one per sweep in LOCKED, none in another
state (R380). -/
def ppllCal (i : Nat) (taps : List (Nat × Int)) (s : State) : State :=
  let w := (s.wvr i).state
  let n := if w = .off then taps.length else if w = .locked then 1 else 0
  if !ramblerRuns s ∨ n = 0 then s
  else
    let l := (taps.take n).foldl (fun l x => if x.1 < 64 then putTap l x.1 x.2 else l) ((coeffOf s.bg.pass (256 + i)).getD [])
    let s := s.setBg fun b => { b with pass := putCoeff (256 + i) l b.pass }
    if tapsDone l then passDone 4 s else s

/-- The measured coefficients that a BG_APPLY applies: those of the converters, or the taps of one station. -/
def passCoeffs (i : Option (Fin 5)) (s : State) : List (Nat × List Int) := match i with
  | none => s.bg.pass.filter fun x => decide (x.1 < 256)
  | some k => s.bg.pass.filter fun x => x.1 == 256 + k.val && tapsDone x.2

/-- A completed pass is applied as one recorded change: opcode 0x1281, origin 0x07, DETAIL the job, FORM 1 (R381). The
payload's layout is not given, so its bytes are free. -/
def bgApply (i : Option (Fin 5)) (s : State) : State :=
  let l := passCoeffs i s
  let job := if i.isSome then 4 else 3
  if !ramblerRuns s ∨ l = [] then s
  else
    let p := freeBytes .background 64 0 s
    let s := s.setBg fun b => { b with pass := b.pass.filter fun x => !l.any fun y => y.1 == x.1 }
    advanceFree (s.record {
      kind := .command, time := s.io.time, origin := 7, detail := job, subject := 0x1281
      body := le 2 0 ++ [0xFF, 0] ++ le 4 0 ++ le 4 0 ++ le 2 64 ++ formBytes 1 p
      draw := .ordinary, act := .bgApply job l })

/-- An offset moves by more than 8 LSB, or a gain by more than 0.5 %, from the values in force (R381). -/
def coeffDrift (job : Nat) (old new : List Int) : Bool :=
  job == 3 && (decide (8 < (new.getD 0 0 - old.getD 0 0).natAbs)
    || decide ((old.getD 1 0).natAbs < 200 * (new.getD 1 0 - old.getD 1 0).natAbs))

/-- The coefficients of a recorded pass take effect (R381). -/
def applyCoeffs (job : Nat) (l : List (Nat × List Int)) (s : State) : State :=
  let drift : Bool := l.any fun x => match coeffOf s.bg.coeffs x.1 with
    | some old => coeffDrift job old x.2
    | none => false
  let s := s.setBg fun b => { b with coeffs := l.foldl (fun c x => putCoeff x.1 x.2 c) b.coeffs }
  if drift then s.raise .note 236 job 0x3A else s

/-! ## Wear, life, ageing (R382 to R384) -/

/-- NOR_ENDURANCE (Berril setting 11). -/
def norEndurance (s : State) : Nat := s.boot.settings.getD 10 100000

/-- A sector's erase count is compared with NOR_ENDURANCE (R382). Sectors from 65,536 upward belong to firmware slots. -/
def wearSector (s : State) (x : Nat × Nat) : State :=
  let s := if norEndurance s * 80 ≤ x.2 * 100 ∧ s.bg.worn.contains x.1 = false then
      (s.setBg fun b => { b with worn := b.worn ++ [x.1] }).raise .note 236 0 0x3B
    else s
  if norEndurance s ≤ x.2 ∧ x.1 < 65536 ∧ s.bg.sectors.contains x.1 = false then
    s.setBg fun b => { b with sectors := b.sectors ++ [x.1] }
  else s

/-- Job 5 (R382). -/
def norWear (s : State) : State := if ramblerRuns s then passDone 5 (s.bg.erases.foldl wearSector s) else s

/-- What each life counter has seen since the last update, in the order of R383, and whether it counts hours of what is then
in ns: powered time, sides and sweeps per station, revolutions per polygon, running time per motor channel and per axis,
on-time and switchings per zone, chopper turn-ons per bus, power-ups. A channel or an axis that runs when its mirror is
read has run since the last update; on-time counts in hours like the running times (DESIGN CHOICE, assumption 27). -/
def lifeSeen (s : State) : List (Bool × Nat) :=
  let el := s.io.time - s.bg.lifeAt
  let run (on : Bool) : Bool × Nat := (true, if on then el else 0)
  [(true, el)] ++ s.img.stations.map (fun x => (false, x.lifeSides)) ++ s.img.stations.map (fun x => (false, x.weaver.lifeSweeps))
    ++ s.img.polygons.map (fun y => (false, y.lifeRevs)) ++ s.mot.chs.map (fun m => run (m.state != .off && m.state != .fault))
    ++ s.axs.axs.map (fun a => run (a.state != .off && a.state != .fault))
    ++ s.thm.zones.flatMap (fun z => [(true, z.lifeOn), (false, z.lifeSwitch)]) ++ s.mot.buses.map (fun b => (false, b.lifeChop))
    ++ [(false, s.pwr.lifeUps)]

/-- ns of an hour. -/
def hourNs : Nat := 3600000000000

/-- Counter `k` takes what it has seen: an amount, or the whole hours of it, whose rest is kept (R383). -/
def lifeTake (rem : Nat) (x : Bool × Nat) : Nat × Nat :=
  if x.1 then ((rem + x.2) / hourNs, (rem + x.2) % hourNs) else (x.2, 0)

/-- Job 6: the 64-bit saturating counters take what the mirrors have counted since the last update (R383). -/
def lifeUpdate (s : State) : State :=
  if !ramblerRuns s then s
  else
    let seen := lifeSeen s
    let took (k : Nat) : Nat × Nat := lifeTake (s.bg.lifeRem.getD k 0) (seen.getD k (false, 0))
    let s := s.setBg fun b => { b with
      life := b.life.zipIdx.map fun x => satAdd 64 x.1 (took x.2).1
      lifeRem := (List.range 71).map fun k => (took k).2, lifeAt := s.io.time }
    passDone 6 { s with
      img := { s.img with
        stations := s.img.stations.map fun x => { x with lifeSides := 0, weaver := { x.weaver with lifeSweeps := 0 } }
        polygons := s.img.polygons.map fun y => { y with lifeRevs := 0 } }
      thm := { s.thm with zones := s.thm.zones.map fun z => { z with lifeOn := 0, lifeSwitch := 0 } }
      mot := { s.mot with buses := s.mot.buses.map fun b => { b with lifeChop := 0 } }
      pwr := { s.pwr with lifeUps := 0 } }

/-- The least-squares slope of points (newest first) per hour, rounded half up; n points. -/
def trendSlope (ps : List Nat) : Int :=
  let n : Int := ps.length
  let l : List (Int × Int) := ps.reverse.zipIdx.map fun x => ((x.2 : Int), (x.1 : Int))
  let sx : Int := l.foldl (fun a p => a + p.1) 0
  let sy : Int := l.foldl (fun a p => a + p.2) 0
  let sxy : Int := l.foldl (fun a p => a + p.1 * p.2) 0
  let sxx : Int := l.foldl (fun a p => a + p.1 * p.1) 0
  let den := n * sxx - sx * sx
  if den = 0 then 0 else floorDiv (2 * (n * sxy - sx * sy) + den) (2 * den)

/-- Hours until DRIVE_MAX, none without a projection: fewer than 24 points, or no rise (R384). -/
def trendHours (ps : List Nat) (driveMax : Nat) : Option Nat :=
  let k := trendSlope (ps.take 168)
  if ps.length < 24 ∨ k ≤ 0 then none else some ((driveMax - ps.headD 0) / k.toNat)

/-- The mean DRIVE of a beam since the last point, rounded half up (R171, R384): over the DRIVEs that its exchanges set,
or its present DRIVE where none took place (DESIGN CHOICE, assumption 33: the spec does not weigh the mean). -/
def meanDrive (x : Station) (b : Nat) : Nat :=
  let n := x.driveCount.getD b 0
  if n = 0 then x.drive.getD b 0 else (2 * x.driveSum.getD b 0 + n) / (2 * n)

/-- The hourly point of a beam and its projection (R384). -/
def trendBeam (i : Nat) (s : State) (b : Nat) : State :=
  if apcT (s.stn i) b = 0 then s
  else
    let old : Trend := (s.bg.trends.find? fun t => t.station == i && t.beam == b).getD { station := i, beam := b }
    let ps := (meanDrive (s.stn i) b :: old.points).take 256
    let low : Bool := match trendHours ps ((s.lane i (b / 16)).driveMax) with
      | some h => decide (h < s.bg.ageWarn)
      | none => false
    let t : Trend := { old with points := ps, aged := old.aged || low }
    let s := s.setBg fun g => { g with trends := g.trends.filter (fun x => !(x.station == i && x.beam == b)) ++ [t] }
    if low && !old.aged then (s.raise .note 236 i 0x3C).pulse 247 (7 + 0x3C * 256) else s

/-- Job 7 (R384): one point for every beam with a nonzero APC target; the series of the next hour begins. -/
def laserTrend (s : State) : State :=
  if ramblerRuns s then
    passDone 7 (forEach (List.range 5) (fun s i => (forEach (List.range 64) (trendBeam i) s).setStn i fun x => { x with
      driveSum := List.replicate 64 0, driveCount := List.replicate 64 0 }) s)
  else s

/-! ## Telemetry (R385) -/

/-- A record of a kind; the spec gives its body no field widths, so its bytes are free. -/
def telRecord (s : State) (kind : Fin 6) : State :=
  let n := (s.bg.telSeq + 1) % 2 ^ 32
  let b := le 4 n ++ le 1 (kind.val + 1) ++ zeros 3 ++ le 8 s.io.time ++ freeBytes .background 48 0 s
  let l := s.bg.telemetry ++ [b]
  advanceFree (s.setBg fun g => { g with telSeq := n, telemetry := l.drop (l.length - 4096) })

/-- Job 8 writes a batch; EV248. -/
def telemetryBatch (kinds : List (Fin 6)) (s : State) : State :=
  if !ramblerRuns s then s
  else
    let s := kinds.foldl telRecord s
    (passDone 8 s).pulse 248 (s.bg.telSeq % 65536)

/-! ## Commands of group 0x12 (R386) -/

/-- Corrected and uncorrectable counts over regions, each 16 bits saturating. -/
def eccWord (l : List Nat) (s : State) : Nat :=
  let ce := l.foldl (fun n k => n + (s.bg.ecc.getD k {}).ce) 0
  let ue := l.foldl (fun n k => n + (s.bg.ecc.getD k {}).ue) 0
  satN 16 ce + satN 16 ue * 2 ^ 16

/-- Words 0x04 to 0x1C of the background mirror. -/
def bgWords (s : State) : List Nat :=
  let b := s.bg
  let used := b.used.foldl (· + ·) 0
  [satN 16 (used * 65536 / 1000000) + b.suspends * 2 ^ 16, b.late + b.lateJob * 2 ^ 16, eccWord [0, 1, 2, 3, 4, 6, 7, 8] s,
   eccWord [5] s, b.ueAddr % 2 ^ 32, b.retired.length + b.sectors.length * 2 ^ 16, b.telSeq]

/-- BG_STATUS. -/
def bgStatusSpec : CmdSpec where
  viewer := true
  size := fun _ _ => 28
  ans := fun _ s => ansResult ((bgWords s).flatMap (le 4))

/-- The records from the oldest held at or after START. -/
def telFrom (start : Nat) (s : State) : List Bytes := s.bg.telemetry.filter fun b => decide (start ≤ u32At b 0)

/-- Records that fit the RBUF buffer behind the head. -/
def telFit (c : Cmd) (s : State) : List Bytes := (telFrom (c.u64 0) s).take ((c.f.rbufSize - 8) / 64)

/-- TELEMETRY_READ. -/
def telemetryReadSpec : CmdSpec where
  viewer := true
  lenOk := fun c _ => c.len == 8
  needsRbuf := true
  size := fun c s => 8 + 64 * (telFit c s).length
  ans := fun c s =>
    let l := telFit c s
    ansResult ((match l with | b :: _ => b.take 4 | [] => zeros 4) ++ le 4 l.length ++ l.flatMap id)

/-- LIFE_GET. -/
def lifeGetSpec : CmdSpec where
  viewer := true
  needsRbuf := true
  size := fun _ s => 8 * s.bg.life.length
  ans := fun _ s => ansResult (s.bg.life.flatMap (le 8))

/-- Job, offset and range of the periods of BG_SET. -/
def periodTable : List (Nat × Nat × Nat × Nat) :=
  [(0, 0, 10, 3600), (1, 4, 600, 86400), (2, 8, 60, 86400), (3, 12, 60, 86400), (7, 16, 1, 3600)]

/-- BG_SET: a zero field keeps its value, and a new period applies from the job's next pass. -/
def bgSetSpec : CmdSpec where
  roles := [.service]
  lenOk := fun c _ => c.len == 24
  post := fun c _ => firstFault ((periodTable.map fun x =>
      (c.u32 x.2.1 != 0 && outside (c.u32 x.2.1) x.2.2.1 x.2.2.2, x.2.1))
    ++ [(c.u16 22 != 0 && outside (c.u16 22) 24 10000, 22)])
  eff := fun c s => s.setBg fun b =>
    let jobs := periodTable.foldl (fun l x => if c.u32 x.2.1 = 0 then l else upd l x.1 fun j => { j with next := c.u32 x.2.1 }) b.jobs
    { b with jobs := jobs, ceWarn := orDefault (c.u16 20) b.ceWarn, ageWarn := orDefault (c.u16 22) b.ageWarn }

end Sys2Proof.Machine
end

