-- ==== Sys2Proof/Machine/LedgerCmd.lean ====
section
/-!
DEFINITION. The ledger: chaining an entry, checkpoints, space, spilling, signatures, gaps, captures, and the commands of
group 0x03 (chapter 17).
-/
namespace Sys2Proof.Machine

/-! ## Entries (R361, R362, R365) -/

/-- H of the last entry; H(0) at genesis (R362). -/
def headHash (s : State) : Bytes :=
  fit 48 (if s.led.headHash = [] then sha384 (ascii "TREILE-LEDGER-1" ++ s.reg.serial) else s.led.headHash)

/-- KINDs 8 to 15, whose entries carry ORIGIN 0 and DETAIL 0 (R361, R364). -/
def Kind.noOrigin (k : Kind) : Bool := decide (8 ≤ k.code) && decide (k.code ≤ 15)

/-- The 80-byte header of the next entry (R361). -/
def entryHeader (kind : Kind) (time origin detail subject flags len : Nat) (s : State) : Bytes :=
  le 8 (s.led.head + 1) ++ le 8 time ++ le 4 s.led.boot ++ le 1 kind.code
    ++ le 1 (if kind.noOrigin then 0 else origin) ++ le 2 (if kind.noOrigin then 0 else detail)
    ++ le 2 (if kind = .command then subject else 0) ++ le 2 len ++ le 1 flags ++ zeros 3 ++ headHash s

/-- An entry and the updated head reach MRAM (R362, R368). -/
def appendEntry (kind : Kind) (time origin detail subject flags : Nat) (body : Bytes) (s : State) : State :=
  let b := entryHeader kind time origin detail subject flags body.length s ++ body
  { s with led := { s.led with
    head := s.led.head + 1, headHash := sha384 b
    journal := s.led.journal ++ [{ seq := s.led.head + 1, kind := kind, bytes := b }]
    untag := if kind = .capture then satInc 32 s.led.untag else s.led.untag } }

/-- FLAGS.RESERVE: an entry written now draws on the safety reserve (R361, R369). -/
def reserveFlag (s : State) : Nat := b2n (decide (ledgerU s < 1025 + s.led.resv))

/-- The next SEQ belongs to a CHECKPOINT (R365). -/
def ckptDue (s : State) : Bool := (s.led.head + 1) % 1024 == 0

/-- A CHECKPOINT is chained; CAPTURES and APPLY_DIGEST restart, and it awaits its SIGNATURE while a ledger key exists
(R365 to R367). -/
def writeCheckpoint (s : State) : State :=
  let n := s.led.head + 1
  let body := le 8 (n - 1023) ++ le 4 s.led.boot ++ le 4 (s.reg.fwVer % 2 ^ 24) ++ le 1 s.boot.life.code ++ zeros 7
    ++ le 8 s.led.captures.length ++ sha384 (s.led.captures.flatMap id) ++ le 8 s.led.lostTotal ++ le 8 s.led.firstHeld
  let s := appendEntry .checkpoint s.io.time 0 0 0 (reserveFlag s) body s
  { s with led := { s.led with
    captures := []
    unsigned := if s.led.keyed then s.led.unsigned ++ [(n, s.led.headHash)] else s.led.unsigned } }

/-! ## Space (R369) -/

/-- Units of the smaller of the journal and the NOR area, of which LOW_MARK is a share (assumption 8). -/
def areaUnits (s : State) : Nat := min (norBytes s / ledgerUnit) (1572864 / ledgerUnit)

/-- LOW follows the free space, and its clear ends FULL; EV245 at a change, LEDGER_LOW when LOW rises (R369, R374). -/
def ledgerLevels (s : State) : State :=
  let low := decide (ledgerSpare s < areaUnits s * s.led.lowMark / 100)
  if low = s.led.low then s
  else
    let s := ({ s with led := { s.led with low := low, full := s.led.full && low } }).pulse 245 0
    if low then s.raise .note 236 0 0x30 else s

/-- A change is refused for space: FULL, and the HALT-class fault LEDGER_FULL once (R369). -/
def ledgerFull (s : State) : State :=
  if s.led.full then s else (({ s with led := { s.led with full := true } }).pulse 245 0).raise .halt 236 0 0x31

/-- An entry that cannot be written even from the reserve is counted (R369). -/
def loseEntry (time : Nat) (s : State) : State :=
  { s with led := { s.led with
    gapCount := satInc 32 s.led.gapCount, lostTotal := s.led.lostTotal + 1
    gapFirst := if s.led.gapCount = 0 then time else s.led.gapFirst, gapLast := time } }

/-- An entry of this draw can be written (R369). -/
def spaceFor (d : Draw) (s : State) : Bool := match d with
  | .ordinary => ledgerToken s
  | _ => decide (1 ≤ ledgerU s)

/-- Once space has returned, Renune chains one GAP entry first; BAR0 writes that found no capture place count with the
entries lost (R68, R369). -/
def gapWrite (s : State) : State :=
  let lw := if capturePlaces s < 32 then s.reg.lostWrites else 0
  let n := s.led.gapCount + lw
  if n = 0 ∨ ledgerU s = 0 ∨ s.ready = false then s
  else
    let first := if s.led.gapCount = 0 then s.reg.lostFirst else if lw = 0 then s.led.gapFirst else min s.led.gapFirst s.reg.lostFirst
    let last := if lw = 0 then s.led.gapLast else max s.led.gapLast s.reg.lostLast
    let t := s.recordNext {
      kind := .gap, time := s.io.time, origin := 3, detail := Config.renuneTask.toNat, subject := 0
      body := le 4 (satN 32 n) ++ zeros 4 ++ le 8 first ++ le 8 last, draw := .reserve }
    { t with
      led := { t.led with gapCount := 0, lostTotal := t.led.lostTotal + lw }
      reg := { t.reg with lostWrites := t.reg.lostWrites - lw } }

/-! ## Spilling and reclaiming (R368, R372) -/

/-- Journal entries with their places in the NOR log. -/
def placeEntries : Nat → List Entry → List Entry
  | _, [] => []
  | p, e :: es => { e with pos := p } :: placeEntries (p + e.size) es

/-- Entries from the front of a list while they fit a number of bytes. -/
def entriesFit : Nat → List Entry → List Entry
  | _, [] => []
  | n, e :: es => if e.size ≤ n then e :: entriesFit (n - e.size) es else []

/-- Renune spills the oldest `count` journal entries to the NOR area, as far as it has space; a failed program or erase
keeps them, sets SPILL_ERR and raises LEDGER_SPILL. A later success clears SPILL_ERR (assumption 8). -/
def ledgerSpill (count : Nat) (ok : Bool) (s : State) : State :=
  if !s.ready || s.led.journal.isEmpty || count == 0 then s
  else if ok then
    let l := entriesFit (norBytes s - (s.led.norEnd - s.led.norStart)) (s.led.journal.take count)
    let t : State := { s with led := { s.led with
      nor := s.led.nor ++ placeEntries s.led.norEnd l, norEnd := s.led.norEnd + entryBytes l
      journal := s.led.journal.drop l.length, spillErr := false } }
    ledgerLevels (if s.led.spillErr then t.pulse 245 0 else t)
  else
    let t : State := { s with led := { s.led with spillErr := true } }
    (if s.led.spillErr then t else t.pulse 245 0).raise .halt 236 0 0x32

/-- LEDGER_READs in progress. -/
def readsRunning (s : State) : Nat :=
  (s.io.hampers.flatMap (·.flights)).countP fun x => x.op == .ledgerRead && x.stage == .running

/-- A sector of the NOR area is erased; its erase count counts (R372, R382). -/
def eraseSector (k : Nat) (s : State) : State :=
  let c := (s.bg.erases.find? fun x => x.1 == k).map (·.2) |>.getD 0
  { s with bg := { s.bg with erases := s.bg.erases.filter (fun x => x.1 != k) ++ [(k, c + 1)] } }

/-- NOR sectors that hold no entry at or above FIRST_HELD are erased, once at most `n` LEDGER_READs are in progress
(R372). -/
def reclaim (n : Nat) (s : State) : State :=
  if n < readsRunning s then s
  else
    let first := match s.led.nor.find? fun e => decide (s.led.firstHeld ≤ e.seq) with
      | some e => e.pos
      | none => s.led.norEnd
    let start := max s.led.norStart (first / 65536 * 65536)
    let sectors := (norBytes s / 65536) + 1
    let t := (List.range (start / 65536 - s.led.norStart / 65536)).foldl
      (fun s k => eraseSector ((s.led.norStart / 65536 + k) % sectors) s) s
    ledgerLevels { t with led := { t.led with
      norStart := start, nor := t.led.nor.filter fun e => decide (start < e.pos + e.size) } }

/-! ## Signatures (R366) -/

/-- The trust core has signed the oldest checkpoint that awaits its SIGNATURE. -/
def signatureChained (s : State) : State := match s.led.unsigned with
  | [] => s
  | (n, h) :: _ =>
    let queued : Bool := s.led.queue.any fun r => r.kind == .signature
    if !s.led.keyed || !s.ready || queued then s
    else
      let sig := freeBytes .signature 96 0 s
      advanceFree (s.record {
        kind := .signature, time := s.io.time, origin := 0, detail := 0, subject := 0
        body := le 8 n ++ sig, draw := .reserve, act := .signature n h sig })

/-- A SIGNATURE entry is chained: EV246, CKPT to the peer, and, at the last checkpoint of RETURN, the end of the ledger
key (R366, R369, R396, R467). -/
def signatureDone (n : Nat) (h sig : Bytes) (s : State) : State :=
  let last : Bool := s.boot.life == .returned && decide (s.led.lastCkpt ≤ n)
  let s : State := { s with led := { s.led with
    signed := n, signatures := (n, h, sig) :: s.led.signatures
    unsigned := s.led.unsigned.filter fun x => x.1 != n, keyed := s.led.keyed && !last } }
  ckptSend n h sig (s.pulse 246 (n % 2 ^ 32))

/-- A checkpoint stays unsigned for 1 s (R366, R396). -/
def sealTimeout (s : State) : State :=
  if s.led.unsigned.isEmpty || !s.led.keyed || !s.ready then s else s.raise .halt 236 0 0x33

/-! ## Captures (R358, R359) -/

/-- A capture record (R358). -/
def captureBytes (w : Writer) (addr old new tag : Nat) (s : State) : Bytes :=
  let prot : Bool := match w with | .protection _ => true | _ => false
  le 8 s.io.time ++ le 4 addr ++ le 4 old ++ le 4 new ++ le 1 (writerOrigin w).1 ++ le 1 (2 * b2n prot)
    ++ le 2 (writerOrigin w).2 ++ le 8 tag

/-- The record of an untagged capture. -/
def captureRec (w : Writer) (addr old new : Nat) (s : State) : Rec :=
  let d : Draw := match w with | .protection _ => .protective | _ => .ordinary
  { kind := .capture, time := s.io.time, origin := (writerOrigin w).1, detail := (writerOrigin w).2, subject := 0
    body := captureBytes w addr old new 0 s, draw := d }

/-- CAPTURE records that wait in the internal capture queue. -/
def captureWaits (s : State) : Nat := (s.led.queue.filter fun r => r.kind == .capture).length

/-- A write on the configuration bus is captured: folded into APPLY_DIGEST when tagged, else an entry of its own. A
writer of origin 0x03 or 0x07 waits for a full queue; the boot ROM's captures wait for Renune. -/
def configCapture (w : Writer) (addr old new : Nat) (tag : Option Nat) (s : State) : State := match tag with
  | some n => { s with led := { s.led with captures := s.led.captures ++ [captureBytes w addr old new n s] } }
  | none => match w with
    | .bootRom =>
      { s with led := { s.led with bootCaptures := s.led.bootCaptures ++ [captureRec w addr old new s] } }
    | .renune _ | .rambler _ => if 256 ≤ captureWaits s then s else s.record (captureRec w addr old new s)
    | _ => s.record (captureRec w addr old new s)

/-! ## Commands of group 0x03 (R374) -/

/-- Reserve units left: what U holds beyond the sheet reservations, at most 1,024 (assumption 8). -/
def reserveLeft (s : State) : Nat := min 1024 (ledgerU s - s.led.resv)

/-- LEDGER_STATUS. -/
def ledgerStatusSpec : CmdSpec where
  viewer := true
  size := fun _ _ => 40
  ans := fun _ s =>
    let l := s.led
    ansResult (le 8 l.head ++ le 8 l.firstHeld ++ le 8 l.exported ++ le 8 l.signed ++ le 2 (satN 16 (ledgerSpare s))
      ++ le 2 (reserveLeft s) ++ le 4 l.boot)

/-- Stored entries from a SEQ upward. -/
def entriesFrom (n : Nat) (s : State) : List Entry := (s.led.nor ++ s.led.journal).filter fun e => decide (n ≤ e.seq)

/-- LEDGER_READ: the data is written when the final status is posted, and EXPORTED then advances. -/
def ledgerReadSpec : CmdSpec where
  roles := [.auditor]
  lenOk := fun c _ => c.len == 16
  needsRbuf := true
  post := fun c s => badField [(outside (c.u64 0) s.led.firstHeld s.led.head, 0), (outside (c.u32 8) 1104 16777216, 8),
    (!zeroAt c.pl 12 4, 12)]
  size := fun c _ => c.u32 8
  eff := fun c s => s.finishOne c.hamper c.f.tag.toNat stDone 0 []
  ans := fun _ _ => ansAccepted
  late := some fun c s =>
    let l := entriesFit (c.u32 8 - 16) (entriesFrom (c.u64 0) s)
    let s : State := { s with led := { s.led with exported := l.foldl (fun m e => max m e.seq) s.led.exported } }
    (reclaim 1 s, le 8 (c.u64 0) ++ le 4 l.length ++ le 4 (entryBytes l) ++ l.flatMap fun e => fit e.size e.bytes)
  abort := fun _ s => reclaim 1 s

/-- The certificate chain of the ledger key: its bytes are the trust core's (R374, R396). -/
def certificate : Bytes :=
  (List.range ((Config.free .certificate 0 0).toNat % 65536)).map fun i => BitVec.ofInt 8 (Config.free .certificate 0 (i + 1))

/-- The uncompressed public key of the ledger key; free where none was ever generated. -/
def ledgerPub (s : State) : Bytes :=
  if s.led.pubKey = [] then (List.range 97).map fun i => BitVec.ofInt 8 (Config.free .certificate 1 i) else s.led.pubKey

/-- LEDGER_IDENT. -/
def ledgerIdentSpec : CmdSpec where
  viewer := true
  needsRbuf := true
  size := fun _ _ => 112 + certificate.length
  ans := fun _ s => ansResult (fit 104 (ledgerPub s) ++ le 4 certificate.length ++ zeros 4 ++ certificate)

/-- LEDGER_SEAL: 176 bytes with a signature of the ledger key. -/
def ledgerSealSpec : CmdSpec where
  roles := [.auditor]
  lenOk := fun c _ => c.len == 32
  needsRbuf := true
  pre := fun _ s => failIf (!s.led.keyed) stDeniedState 0
  size := fun _ _ => 176
  eff := fun c s => s.finishOne c.hamper c.f.tag.toNat stDone 0 []
  ans := fun _ _ => ansAccepted
  late := some fun _ s =>
    (advanceFree s, le 8 s.led.head ++ le 4 s.led.boot ++ zeros 4 ++ le 8 s.io.time ++ headHash s
      ++ freeBytes .signature 96 0 s ++ zeros 8)

/-- LEDGER_RELEASE (R372). -/
def ledgerReleaseSpec : CmdSpec where
  roles := [.auditor]
  lenOk := fun c _ => c.len == 8
  post := fun c s => failIf (!decide (c.u64 0 + 1 ≤ s.led.firstHeld)
    && (!(s.led.signatures.any fun x => x.1 == c.u64 0) || decide (s.led.exported < c.u64 0))) stBadParam 0
  eff := fun c s =>
    if c.u64 0 + 1 ≤ s.led.firstHeld then s
    else reclaim 0 { s with led := { s.led with firstHeld := c.u64 0 + 1 } }
  ans := fun c s => if c.u64 0 + 1 ≤ s.led.firstHeld then ansAlready else ansDone

/-- An ANCHOR record (R362, R364). -/
def anchorRec (source uncert at_ sec ns rate gm utc time : Nat) : Rec where
  kind := .anchor
  time := time
  origin := 0
  detail := 0
  subject := 0
  body := le 1 source ++ zeros 3 ++ le 4 (satN 32 uncert) ++ le 8 at_ ++ le 8 sec ++ le 4 ns ++ le 4 rate ++ le 8 gm
    ++ le 2 utc ++ zeros 6
  draw := .ordinary

/-- TIME_ANCHOR: its ANCHOR entry follows its COMMAND entry at once (R364). -/
def timeAnchorSpec : CmdSpec where
  roles := [.auditor]
  lenOk := fun c _ => c.len == 16
  post := fun c _ => failIf (decide (999999999 < c.u32 8)) stBadParam 8
  eff := fun c s => s.recordNext (anchorRec 2 (c.u32 12 * 1000) c.copied (c.u64 0) (c.u32 8) 0 0 0 c.copied)

end Sys2Proof.Machine
end

