-- ==== Sys2Proof/Machine/Boot.lean ====
section
/-!
DEFINITION. Images and slots in flash, the boot ROM's selection, firmware update, lifecycle and debug (chapter 19).
-/
namespace Sys2Proof.Machine

/-! ## Images (R387 to R389) -/

/-- Byte `i` of a slot: the last piece programmed there since its erase; an erased byte reads 0xFF (assumption 28). -/
def slotByte (pieces : List (Nat × Bytes)) (i : Nat) : Byte :=
  match pieces.reverse.find? fun p => decide (p.1 ≤ i) && decide (i < p.1 + p.2.length) with
  | some p => p.2.getD (i - p.1) 0xFF
  | none => 0xFF

/-- `n` bytes of slot `k` from an offset; the slots are numbered Renune A, Renune B, Berril A, Berril B. -/
def slotRead (k off n : Nat) (s : State) : Bytes := (List.range n).map fun i => slotByte (s.boot.flash.getD k []) (off + i)

/-- Slot of an image kind (0 Renune, 1 Berril). -/
def slotNo (kind a : Nat) : Nat := 2 * kind + a
/-- Size of a slot of a kind. -/
def slotSize (kind : Nat) : Nat := if kind = 0 then 33554432 else 8388608
/-- The 4 KiB image header of a slot (R388). -/
def slotHeader (kind a : Nat) (s : State) : Bytes := slotRead (slotNo kind a) 0 4096 s
/-- BODY_LEN. -/
def bodyLen (h : Bytes) : Nat := u32At h 24
/-- The body of a slot's image. -/
def slotBody (kind a : Nat) (s : State) : Bytes := slotRead (slotNo kind a) 4096 (bodyLen (slotHeader kind a s)) s
/-- VERSION. -/
def imgVersion (h : Bytes) : Nat := u32At h 12
/-- SVN. -/
def imgSvn (h : Bytes) : Nat := u64At h 16

/-- Condition 1 of R389: the header fields lie in range. -/
def headerOk (kind : Nat) (h : Bytes) : Bool :=
  h.take 8 == ascii "TRLIMG01" && byteAt h 8 == kind + 1 && byteAt h 9 == 1 && zeroAt h 10 2
    && (kind == 1 || byteAt h 15 == 0) && decide (imgSvn h ≤ 128)
    && !outside (bodyLen h) 1 (slotSize kind - 4096) && decide (u32At h 28 ≤ 1)
    && (u32At h 28 == 1 || zeroAt h 32 16) && zeroAt h 193 7 && (h.drop 296).all (· == 0)

/-- The boot record of a kind. -/
def State.bootRec (s : State) (kind : Nat) : BootRec := s.boot.recs.getD kind {}
/-- The boot record of a kind is replaced by `f` of itself. -/
def State.setBootRec (s : State) (kind : Nat) (f : BootRec → BootRec) : State :=
  { s with boot := { s.boot with recs := upd s.boot.recs kind f } }

/-- The first of the conditions of R389, numbered from 1, that the image of a slot fails; 0 for a valid image. -/
def imageFault (kind a : Nat) (s : State) : Nat :=
  let h := slotHeader kind a s
  let hashes := if kind = 0 then s.boot.vk else s.boot.ok
  let key := sub h 96 97
  if !headerOk kind h then 1
  else if !(hashes.contains (sha384 key)) then 2
  else if !Config.ecdsaOk key (sha384 (h.take 200)) (sub h 200 96) then 3
  else if sha384 (slotBody kind a s) != sub h 48 48 then 4
  else if u32At h 28 == 1 && sub h 32 16 != s.reg.serial then 5
  else if imgSvn h < (s.bootRec kind).rollback then 6
  else 0

/-! ## Slot selection (R390, R391) -/

/-- The first of a list of slots that holds a valid image. -/
def trySlots (kind : Nat) (s : State) : List Nat → Option Nat
  | [] => none
  | a :: as => if imageFault kind a s = 0 then some a else trySlots kind s as

/-- The selection of R390 for a kind: the boot record it leaves and the slot that boots (1 A, 2 B, 0 none). -/
def selectSlot (kind : Nat) (s : State) : State :=
  let r := s.bootRec kind
  let first : Bool := r.trial != 0 && r.tries == 0
  let r' : BootRec := if first then { r with tries := 1 } else if r.trial != 0 then { r with trial := 0, trialFailed := true } else r
  let order := (if first then [r.trial - 1] else []) ++ [r.primary, 1 - r.primary]
  s.setBootRec kind fun _ => { r' with booted := match trySlots kind s order with | some a => a + 1 | none => 0 }

/-- The boot ROM runs its selection: pairs A and B are released, or BOOT_FAIL (R390, R391). The code of a BOOT_FAIL cause
is not given, so it is free. -/
def bootSelect (s : State) : State :=
  let s := selectSlot 0 s
  let a := (s.bootRec 0).booted
  if a = 0 then advanceFree { s with boot := { s.boot with bootFail := true, failCause := freeBits .boot 8 0 s } }
  else
    let s := selectSlot 1 s
    { s with
      boot := { s.boot with bootFail := false, released := true }
      saf := { s.saf with internalReset := false }
      reg := { s.reg with fwVer := imgVersion (slotHeader 0 (a - 1) s) % 2 ^ 24 } }

/-- The trust core leaves reset once the chip phase is complete, the RPLL is locked and nMRST is high (R390, R432). -/
def trustCoreBoot (s : State) : State :=
  if chipOn s && s.clk.rpll == .locked && !s.saf.nmrstLow && s.saf.ctrl == .boot && s.saf.internalReset && !s.boot.bootFail then
    bootSelect s
  else s

/-- The retry of R391. -/
def bootFailRetry (s : State) : State := if s.boot.bootFail && chipOn s && !s.saf.nmrstLow then bootSelect s else s

/-- A trial boot has not reached IDLE within BOOT_TRIAL_TIME (R390). -/
def trialTimeout (s : State) : State :=
  let trial : Bool := s.boot.recs.any fun r => r.booted != 0 && r.booted == r.trial
  if s.boot.released && s.saf.ctrl == .boot && trial then controllerReset 4 (inhibitUnits s) else s

/-! ## Debug (R397) -/

/-- The debug port is open: in BLANK, or after DEBUG_UNLOCK. -/
def debugIsOpen (s : State) : Bool := s.boot.life == .blank || s.boot.debugOpen

/-- EXTEST is selected through an open port, or deselected: it asserts the inhibit for as long as it is selected. -/
def extestSelect (on : Bool) (s : State) : State :=
  if on then (if debugIsOpen s then enterSafe { s with saf := { s.saf with extest := true } } else s)
  else { s with saf := { s.saf with extest := false } }

/-! ## Firmware and package update (R398, R399) -/

/-- The slot of a kind that is neither booted nor PRIMARY. -/
def inactiveSlot (kind : Nat) (s : State) : Option Nat :=
  let r := s.bootRec kind
  [0, 1].find? fun a => r.booted != a + 1 && r.primary != a

/-- Bytes are programmed into a slot. -/
def program (k off : Nat) (b : Bytes) (s : State) : State :=
  { s with boot := { s.boot with flash := upd s.boot.flash k (· ++ [(off, b)]) } }

/-- First sector of 64 KiB of slot `k` on the device, and the slot's sectors (R387): one after another from offset 0x10000. -/
def slotSectors (k : Nat) : Nat × Nat := if k < 2 then (1 + 512 * k, 512) else (1025 + 128 * (k - 2), 128)

/-- The erase counts of `n` sectors from `first` go up by one (R382). -/
def countErases (first n : Nat) (s : State) : State :=
  let at_ (k : Nat) : Nat := (s.bg.erases.find? fun x => x.1 == k).map (·.2) |>.getD 0
  let others := s.bg.erases.filter fun x => decide (x.1 < first) || decide (first + n ≤ x.1)
  { s with bg := { s.bg with erases := others ++ (List.range n).map fun k => (first + k, at_ (first + k) + 1) } }

/-- A slot is erased; the sectors of the device outside the ledger area count under 65,536 and their place on the device
(R382, assumption 27). -/
def eraseSlot (k : Nat) (s : State) : State :=
  countErases (65536 + (slotSectors k).1) (slotSectors k).2 { s with boot := { s.boot with flash := upd s.boot.flash k fun _ => [] } }

/-- TARGET names an image kind. -/
def imgTarget (c : Cmd) : Bool := c.tgt == 1 || c.tgt == 2
/-- Kind of a TARGET. -/
def imgKind (c : Cmd) : Nat := c.tgt - 1

/-- A FW_ACTIVATE of the same kind is in progress. -/
def activating (c : Cmd) (s : State) : Bool :=
  (s.io.hampers.flatMap (·.flights)).any fun x => x.op == .fwActivate && x.stage == .recording && x.f.target == c.f.target

/-- FW_STAGE: OFFSET 0 erases the slot first; the bytes stand in it when the final status is posted. An abort leaves a
first part of them, whose length is free. -/
def fwStageSpec : CmdSpec where
  roles := [.vendor]
  form1 := true
  lenOk := fun c _ => !outside c.len 9 65544
  target := fun c _ => imgTarget c
  pre := fun c s => failIf (inactiveSlot (imgKind c) s).isNone stDeniedState 0
  post := fun c s => orElse (badField [(c.u32 0 % 4096 != 0 || decide (slotSize (imgKind c) < c.u32 0 + (c.len - 8)), 0), (!zeroAt c.pl 4 4, 4)])
    (failIf (activating c s) stBusy 0)
  eff := fun c s =>
    let s := s.finishOne c.hamper c.f.tag.toNat stDone 0 []
    match inactiveSlot (imgKind c) s with
    | some a => if c.u32 0 = 0 then eraseSlot (slotNo (imgKind c) a) s else s
    | none => s
  ans := fun _ _ => ansAccepted
  late := some fun c s => (match inactiveSlot (imgKind c) s with
    | some a => program (slotNo (imgKind c) a) (c.u32 0) (c.pl.drop 8) s
    | none => s, [])
  abort := fun c s => match inactiveSlot (imgKind c) s with
    | some a => advanceFree (program (slotNo (imgKind c) a) (c.u32 0)
        ((c.pl.drop 8).take ((freeVal .boot 0 s).toNat % (c.len - 8))) s)
    | none => s

/-- FW_ACTIVATE. -/
def fwActivateSpec : CmdSpec where
  roles := [.vendor]
  lenOk := fun c _ => c.len == 4
  target := fun c _ => imgTarget c
  pre := fun c s => match inactiveSlot (imgKind c) s with
    | none => some (stDeniedState, 0)
    | some a =>
      let k := imageFault (imgKind c) a s
      orElse (failIf (k != 0) stDeniedState k) (failIf (c.u8 0 == 1 && !noneInFlight s) stDeniedState 0)
  post := fun c _ => badField [(decide (1 < c.u8 0), 0), (!zeroAt c.pl 1 3, 1)]
  eff := fun c s => match inactiveSlot (imgKind c) s with
    | none => s
    | some a =>
      let s := s.setBootRec (imgKind c) fun r => { r with trial := a + 1, tries := 0, trialFailed := false }
      if c.u8 0 = 1 then { s with pwr := { s.pwr with resetDue := some 5 } } else s

/-- FW_COMMIT. -/
def fwCommitSpec : CmdSpec where
  roles := [.vendor]
  target := fun c _ => imgTarget c
  pre := fun c s =>
    let r := s.bootRec (imgKind c)
    failIf (r.trial != 0 && r.booted != r.trial) stDeniedState 0
  eff := fun c s =>
    let r := s.bootRec (imgKind c)
    if r.trial = 0 then s
    else
      let svn := imgSvn (slotHeader (imgKind c) (r.trial - 1) s)
      s.setBootRec (imgKind c) fun r => { r with primary := r.trial - 1, trial := 0, tries := 0, rollback := max r.rollback svn }
  ans := fun c s => if (s.bootRec (imgKind c)).trial = 0 then ansAlready else ansDone

/-! ## Lifecycle (R367, R395, R396) -/

/-- The ledger area and the MRAM head are erased: the ledger begins again at SEQ 1 (R367, R394). -/
def eraseLedger (s : State) : State :=
  let z : Ledger := {}
  countErases 0 (s.led.areaMiB * 16) { s with
    led := { s.led with
      head := 0, headHash := [], journal := [], nor := [], norEnd := 0, norStart := 0, unsigned := [], signed := 0
      signatures := [], exported := 0, firstHeld := z.firstHeld, lostTotal := 0, captures := [] } }

/-- An OTP field given as zeros is none. -/
def otpField (b : Bytes) : Bytes := if b.all (· == 0) then [] else b

/-- The OEM VENDOR keys of a LIFECYCLE_SET 1 payload, for slots 0xFF02 and 0xFF03. -/
def oemKeys (p : Bytes) : List RoleKey :=
  ([0, 1].map fun i => ({ keyId := 0xFF02 + i, role := .vendor, curve := 2, key := otpField (sub p (104 + 97 * i) 97) } : RoleKey)).filter
    fun k => k.key != []

/-- The transition to PROVISIONED (R394, R396): OTP burns, the ledger key, genesis. The key is the trust core's, so free. -/
def provision (p : Bytes) (s : State) : State :=
  let s := eraseLedger s
  advanceFree { s with
    boot := { s.boot with
      life := .provisioned, ok := [otpField (sub p 8 48), otpField (sub p 56 48)], otpKeys := s.boot.otpKeys ++ oemKeys p
      laidArea := s.led.areaMiB }
    led := { s.led with keyed := true, pubKey := freeBytes .keyBytes 97 0 s } }

/-- A lifecycle transition that R395 lists. -/
def lifeStep (t : Nat) (s : State) : Bool := t == s.boot.life.code + 1

/-- LIFECYCLE_SET. -/
def lifecycleSetSpec : CmdSpec where
  roles := [.vendor]
  states := inStates quietStates
  lenOk := fun c _ => c.len == (if c.u8 0 = 1 then 298 else 8)
  pre := fun c s => failIf (!outside (c.u8 0) 1 3 && (!lifeStep (c.u8 0) s || !noneInFlight s)) stDeniedState 0
  post := fun c _ => badField [(outside (c.u8 0) 1 3, 0), (!zeroAt c.pl 1 7, 1)]
  eff := fun c s => match c.u8 0 with
    | 1 => provision c.pl s
    | 2 => { s with boot := { s.boot with life := .field } }
    | _ => { s with boot := { s.boot with life := .returned }, led := { s.led with lastCkpt := (s.led.head / 1024 + 1) * 1024 } }

/-- DEBUG_UNLOCK: a VENDOR session was opened with an OTP VENDOR key, for no other VENDOR key exists (R396). -/
def debugUnlockSpec : CmdSpec where
  roles := [.vendor]
  eff := fun _ s => { s with boot := { s.boot with debugOpen := true } }

/-- DEBUG_LOCK. -/
def debugLockSpec : CmdSpec where
  roles := [.vendor]
  eff := fun _ s => { s with boot := { s.boot with debugOpen := false } }
  ans := fun _ s => if debugIsOpen s then ansDone else ansAlready

/-- The header of the booted image of a kind; all zeros when none booted. -/
def bootedHeader (kind : Nat) (s : State) : Bytes :=
  let b := (s.bootRec kind).booted
  if b = 0 then zeros 32 else slotRead (slotNo kind (b - 1)) 0 32 s

/-- BOOT_STATUS. -/
def bootStatusSpec : CmdSpec where
  viewer := true
  size := fun _ _ => 40
  ans := fun _ s =>
    let r := s.bootRec 0
    let q := s.bootRec 1
    let h := bootedHeader 0 s
    let g := bootedHeader 1 s
    ansResult (le 1 s.boot.life.code ++ le 1 (r.primary + 2 * q.primary) ++ le 1 (r.trial + 4 * q.trial)
      ++ le 1 (b2n (debugIsOpen s) + 2 * b2n (r.trialFailed || q.trialFailed)) ++ le 4 (imgVersion h) ++ le 4 (imgVersion g)
      ++ le 4 r.rollback ++ le 4 q.rollback ++ le 4 (imgSvn h) ++ le 4 (imgSvn g) ++ le 4 s.led.boot ++ le 8 s.boot.started)

end Sys2Proof.Machine
end

