-- ==== Sys2Proof/Machine/Session.lean ====
section
/-!
DEFINITION. Commands of groups 0x01 and 0x02 that chapter 02 owns: event rings, event routing and sessions (R46 to R53).
-/
namespace Sys2Proof.Machine

/-! ## Event rings and routing (R52, R53) -/

/-- Every session role. -/
def anyRole : List Role := [.operator, .service, .auditor, .vendor]

/-- EVRING_SET resets the ring; waiting COMPLETIONs go to it, or to the response ring while it is disabled (R43, R52).
The ring starts again with nothing lost: entries discarded before the reset get no LOST entry after it, which R52 leaves
open (DESIGN CHOICE, assumption 7). -/
def evringApply (c : Cmd) (s : State) : State :=
  let n := c.hamper
  let w := (s.io.hamper n).complWait
  let on : Bool := c.u8 9 == 1
  let io := s.io.setHamper n fun h => { h with
    ring := { base := c.u64 0, log2n := c.u8 8, enabled := on }, complWait := if on then h.complWait else [] }
  { s with io := if on then drainCompletions 64 n io else moveCompletions w n io }

/-- EVRING_SET. -/
def evringSetSpec : CmdSpec where
  roles := anyRole
  lenOk := fun c _ => c.len == 12
  post := fun c _ => badField [(c.u64 0 % 4096 != 0, 0), (outside (c.u8 8) 6 12, 8), (decide (1 < c.u8 9), 9), (!zeroAt c.pl 10 2, 10)]
  eff := evringApply

/-- A sink code of positions 2 and 3 (R53). -/
def sinkOk (c : Nat) : Bool := c == 0 || !outside c 0x20 0x47

/-- EVENT_ROUTE. -/
def eventRouteSpec : CmdSpec where
  roles := [.service]
  lenOk := fun c _ => c.len == 2
  target := fun c _ => c.tgt < 256
  post := fun c _ => badField [(!sinkOk (c.u8 0), 0), (!sinkOk (c.u8 1), 1)]
  eff := fun c s => { s with io := { s.io with
    lines := upd s.io.lines c.tgt fun l => { l with sinks := l.sinks.take 2 ++ [c.u8 0, c.u8 1] } } }

/-! ## Sessions (R46 to R49) -/

/-- A free session slot of hamper `n` (R47). -/
def freeSlot (n : Nat) (s : State) : Option Nat := [2 * n, 2 * n + 1].find? fun k => (s.io.sessions.getD k none).isNone

/-- SESSION_CHALLENGE: the new nonce replaces the old one (R48). -/
def sessionChallengeSpec : CmdSpec where
  anon := true
  post := fun c s => failIf (freeSlot c.hamper s).isNone stBusy 0
  size := fun _ _ => 36
  eff := fun c s => advanceFree (s.setHamper c.hamper fun h => { h with
    nonce := some { value := freeBytes .nonce 32 0 s, slot := (freeSlot c.hamper s).getD 0 } })
  ans := fun c s => ansResult (freeBytes .nonce 32 0 s ++ le 2 ((freeSlot c.hamper s).getD 0) ++ zeros 2)

/-- Roles that a hamper admits (R46). -/
def hamperRoles (n : Nat) : List Nat := if n = 0 then [2, 4] else if n = 1 then [3] else [1]

/-- The enrolled key of a KEY_ID and ROLE: VENDOR keys from OTP, others from the Berril package (R49, R396). -/
def enrolled (id role : Nat) (s : State) : Option RoleKey :=
  (if role = 4 then s.boot.otpKeys else s.boot.roleKeys).find? fun k => k.keyId == id && k.role.code == role

/-- The signature of a SESSION_OPEN verifies over M (R49). -/
def openVerified (c : Cmd) (nonce : Bytes) (s : State) : Bool :=
  let m := ascii "VELOV-OPEN-1" ++ s.reg.serial ++ nonce ++ le 1 (c.u8 2) ++ le 1 c.hamper ++ le 2 (c.u16 0)
  match enrolled (c.u16 0) (c.u8 2) s with
  | none => false
  | some k => Config.ecdsaOk k.key (if k.curve = 1 then sha256 m else sha384 m) (c.pl.drop 4)

/-- The checks of SESSION_OPEN (R46, R48, R49). -/
def openCheck (c : Cmd) (s : State) : Option (Nat × Nat) :=
  if !(hamperRoles c.hamper).contains (c.u8 2) then some (stDeniedRole, 1)
  else match (s.io.hamper c.hamper).nonce with
    | none => some (stDeniedRole, 4)
    | some k => orElse (failIf (c.u8 3 != 0) stBadParam 3) (failIf (!openVerified c k.value s) stDeniedRole 3)

/-- A session identifier from `x` upward that is not 0 and was never used in this boot (R49). -/
def freshId (used : List Nat) : Nat → Nat → Nat
  | 0, x => x % 2 ^ 32
  | k + 1, x => if x % 2 ^ 32 = 0 ∨ used.contains (x % 2 ^ 32) = true then freshId used k (x + 1) else x % 2 ^ 32

/-- The identifier of the session that opens now; free among the unused ones. -/
def newSession (s : State) : Nat := freshId s.io.usedIds (s.io.usedIds.length + 1) (freeBits .sessionId 32 0 s)

/-- The role that ROLE codes. -/
def roleOfCode : Nat → Role
  | 2 => .service | 3 => .auditor | 4 => .vendor | _ => .operator

/-- LENGTH of SESSION_OPEN (R40 step 6, R49): that of the curve of the key that KEY_ID and ROLE name; where none is
enrolled, that of either curve. -/
def openLenOk (c : Cmd) (s : State) : Bool := match enrolled (c.u16 0) (c.u8 2) s with
  | some k => c.len == if k.curve = 1 then 68 else 100
  | none => c.len == 68 || c.len == 100

/-- SESSION_OPEN: a failed verification consumes the nonce; every other refusal leaves it (R49). -/
def sessionOpenSpec : CmdSpec where
  anon := true
  lenOk := openLenOk
  post := openCheck
  size := fun _ _ => 8
  onRefuse := fun c st d s =>
    if st = stDeniedRole ∧ d = 3 then s.setHamper c.hamper fun h => { h with nonce := none } else s
  eff := fun c s => match (s.io.hamper c.hamper).nonce with
    | none => s
    | some k =>
      let x : Session := { id := newSession s, hamper := c.hamper, role := roleOfCode (c.u8 2) }
      let s := s.setHamper c.hamper fun h => { h with nonce := none }
      advanceFree { s with io := { s.io with
        sessions := upd s.io.sessions k.slot fun _ => some x, usedIds := x.id :: s.io.usedIds } }
  ans := fun _ s => ansResult (le 4 (newSession s) ++ zeros 4)

/-- SESSION_CLOSE: recorded by its own entry. -/
def sessionCloseSpec : CmdSpec where
  roles := anyRole
  eff := fun c s => { s with io := { s.io with sessions := upd s.io.sessions c.slot fun _ => none } }

/-- SESS_IDLE passes with no command of the session outstanding (R47). -/
def sessionIdle (slot : Nat) (s : State) : State := match s.io.sessions.getD slot none with
  | none => s
  | some x =>
    let busy : Bool := (s.io.hamper x.hamper).flights.any fun y => y.f.session.toNat == x.id && y.gone == 0
    if busy || !s.ready then s else endSession slot s

/-- A nonce has been valid for 10 s (R48). -/
def nonceExpiry (n : Nat) (s : State) : State := s.setHamper n fun h => { h with nonce := none }

/-- CMD_ABORT (R45): its TAG is outstanding in its session. What it does to the target is the hamper unit's. -/
def cmdAbortSpec : CmdSpec where
  roles := anyRole
  target := fun c s => decide (c.tgt < 64)
    && (s.io.hamper c.hamper).flights.any fun x => x.f.tag.toNat == c.tgt && x.gone == 0 && x.f.session == c.f.session

end Sys2Proof.Machine
end

