-- ==== Sys2Proof/Machine/Velov.lean ====
section
/-!
DEFINITION. The Velov engine: the check order, the start order, recording, application, abort and completion of
commands (R33 to R45), and the chaining of ledger entries (R44, R360, R369).
-/
namespace Sys2Proof.Machine

/-! ## Who uses a unit (R217, R249, R282, R287, R344) -/

/-- A polygon with a POLYGON_SET whose payload satisfies `p`. -/
def polySetAny (p : Bytes → Bool) (s : State) : Bool := s.img.polygons.any fun y => match y.set with | some b => p b | none => false

/-- Owner of a probe: 0 none, 1 REG_PRB, 2 INDEX_PRB, 3 AXIS_HOME (R282). -/
def probeOwner (k : Nat) (s : State) : Nat :=
  if homingOn k s then 3
  else if (match s.shs.path with | some b => byteAt b 0 == k | none => false) then 1
  else if polySetAny (fun b => byteAt b 1 == 1 && byteAt b 2 == k) s then 2
  else 0

/-- A feedback unit is in use by a polygon, PATH_SET or an AXIS_HOME in progress (R287). -/
def unitUsed (t : Nat) (s : State) : Bool :=
  if t < 8 then polySetAny (fun b => byteAt b 3 == t) s || (match s.shs.path with | some b => byteAt b 1 == t | none => false)
  else if 32 ≤ t ∧ t < 40 then probeOwner (t - 32) s != 0
  else false

/-- A sheet needs a page (R217). -/
def pageUse (s : State) (st id : Nat) : Bool := pageNeeded st id s

/-- A sheet is ADMITTED or later (R344). -/
def sheetsOn (s : State) : Bool := !noneInFlight s

/-- The spec of every command, as its owning chapter gives it. -/
def specOf : Op → CmdSpec
  | .cmdAbort => cmdAbortSpec
  | .evringSet => evringSetSpec
  | .eventRoute => eventRouteSpec
  | .faultList => faultListSpec
  | .faultClear => faultClearSpec
  | .sessionChallenge => sessionChallengeSpec
  | .sessionOpen => sessionOpenSpec
  | .sessionClose => sessionCloseSpec
  | .ledgerStatus => ledgerStatusSpec
  | .ledgerRead => ledgerReadSpec
  | .ledgerIdent => ledgerIdentSpec
  | .ledgerSeal => ledgerSealSpec
  | .ledgerRelease => ledgerReleaseSpec
  | .timeAnchor => timeAnchorSpec
  | .streamStatus => streamStatusSpec
  | .pageStatus => pageStatusSpec
  | .portSet => portSetSpec
  | .streamOpen => streamOpenSpec
  | .streamRekey => streamRekeySpec
  | .streamClose => streamCloseSpec pageUse
  | .pageRelease => pageReleaseSpec pageUse
  | .launchStatus => launchStatusSpec
  | .jobStatus => jobStatusSpec
  | .sheetGet => sheetGetSpec
  | .jobOpen => jobOpenSpec
  | .sheetAdd => sheetAddSpec
  | .jobClose => jobCloseSpec
  | .jobHold => jobHoldSpec
  | .sheetAbort => sheetAbortSpec
  | .jobAbort => jobAbortSpec
  | .jobRelease => jobReleaseSpec
  | .pathSet => pathSetSpec
  | .launchControl => launchControlSpec
  | .calResult => calResultSpec
  | .calRun => calRunSpec
  | .calApply => calApplySpec
  | .regSet => regSetSpec
  | .screenInfo => screenInfoSpec
  | .ecmRead => ecmReadSpec
  | .profileGet => profileGetSpec
  | .screenLoad => screenLoadSpec
  | .ecmLoad => ecmLoadSpec
  | .profileSet => profileSetSpec
  | .linkStatus => linkStatusSpec
  | .apcRead => apcReadSpec
  | .historyLoad => historyLoadSpec
  | .delayLoad => delayLoadSpec
  | .apcTarget => apcTargetSpec
  | .linkSet => linkSetSpec
  | .polygonSet => polygonSetSpec
  | .scanSet => scanSetSpec
  | .facetLoad => facetLoadSpec
  | .scanStart => scanStartSpec
  | .scanStop => scanStopSpec
  | .facetLearn => facetLearnSpec
  | .scanPlan => scanPlanSpec
  | .motorGet => motorGetSpec
  | .busGet => busGetSpec
  | .motorSet => motorSetSpec weaversOff
  | .motorStart => motorStartSpec
  | .motorStop => motorStopSpec
  | .motorSpeed => motorSpeedSpec
  | .motorClear => motorClearSpec
  | .busSet => busSetSpec
  | .axisGet => axisGetSpec
  | .axisSet => axisSetSpec
  | .axisEnable => axisEnableSpec
  | .axisMove => axisMoveSpec
  | .axisStop => axisStopSpec
  | .axisHome => axisHomeSpec
  | .axisClear => axisClearSpec
  | .fbGet => fbGetSpec
  | .prbRead => prbReadSpec probeOwner
  | .qeSet => qeSetSpec unitUsed
  | .seSet => seSetSpec unitUsed
  | .prbSet => prbSetSpec unitUsed
  | .cmpSet => cmpSetSpec
  | .posSet => posSetSpec unitUsed
  | .fbClear => fbClearSpec
  | .loopGet => loopGetSpec
  | .loopLoad => loopLoadSpec
  | .loopSet => loopSetSpec
  | .loopStart => loopStartSpec
  | .loopStop => loopStopSpec
  | .loopSp => loopSpSpec
  | .loopClear => loopClearSpec
  | .thermalGet => thermalGetSpec
  | .zoneSet => zoneSetSpec
  | .thSet => thSetSpec
  | .curveLoad => curveLoadSpec
  | .dieSet => dieSetSpec
  | .thermalClear => thermalClearSpec
  | .rimStatus => rimStatusSpec
  | .nodeGet => nodeGetSpec
  | .nodeRead => nodeMsgSpec false
  | .rimConfig => rimConfigSpec sheetsOn
  | .nodeWrite => nodeMsgSpec true
  | .rimEnum => rimEnumSpec sheetsOn
  | .powerStatus => powerStatusSpec
  | .railGet => railGetSpec
  | .railSet => railSetSpec
  | .powerSet => powerSetSpec
  | .enginePower => enginePowerSpec
  | .powerControl => powerControlSpec
  | .clockStatus => clockStatusSpec
  | .clockSet => clockSetSpec
  | .clockOutSet => clockOutSetSpec
  | .pairStatus => pairStatusSpec
  | .pairSet => pairSetSpec
  | .pairHandover => pairHandoverSpec
  | .bgStatus => bgStatusSpec
  | .telemetryRead => telemetryReadSpec
  | .lifeGet => lifeGetSpec
  | .bgSet => bgSetSpec
  | .bootStatus => bootStatusSpec
  | .fwStage => fwStageSpec
  | .fwActivate => fwActivateSpec
  | .fwCommit => fwCommitSpec
  | .lifecycleSet => lifecycleSetSpec
  | .debugUnlock => debugUnlockSpec
  | .debugLock => debugLockSpec

/-! ## Frames -/

/-- A change by its opcode's low byte (R37). -/
def isChange (o : Op) : Bool := decide (0x80 ≤ o.code % 256)

/-- The payload length: LENGTH or the extended length (R37). -/
def frameLen (f : Frame) : Nat := if f.ref && f.length.toNat == 0xFFFF then u32At f.inl 36 else f.length.toNat

/-- LENGTH obeys R37. -/
def frameLenOk (f : Frame) : Bool :=
  if f.ref then f.length.toNat != 0xFFFF || !outside (frameLen f) 65535 16777216
  else decide (f.length.toNat ≤ if f.rbuf then 24 else 48)

/-- The payload of a frame. -/
def framePayload (f : Frame) : Bytes :=
  if f.ref then (match f.fetch with | .bytes b => fit (frameLen f) b | _ => []) else f.inl.take (frameLen f)

/-- The command of a flight. -/
def Flight.cmd (x : Flight) : Cmd :=
  { f := x.f, pl := framePayload x.f, len := frameLen x.f, role := x.role, slot := x.slot, copied := x.copied }

/-- Step 1 of R40: reserved bits, alignment, and the inline bytes that must be 0. -/
def headerFault (f : Frame) : Option (Nat × Nat) :=
  orElse (failIf (f.rsvd != 0 || decide (16 ≤ f.flags.toNat)) stBadParam 0) <|
  orElse (failIf ((f.ref && u64At f.inl 16 % 64 != 0) || (f.rbuf && f.rbufAddr % 64 != 0)) stBadParam 2) <|
  failIf (f.ref && !(zeroAt f.inl 0 16 && (f.rbuf || zeroAt f.inl 24 12) && (f.length.toNat == 0xFFFF || zeroAt f.inl 36 4)
    && zeroAt f.inl 40 8)) stBadParam 3

/-- The payload fetch of step 6 (R37). -/
def fetchFault (f : Frame) : Option (Nat × Nat) :=
  if !f.ref || frameLen f == 0 then none
  else match f.fetch with
    | .bytes _ => none
    | .timeout => some (stTimeout, 0)
    | .poisoned => some (stFaulted, 0)

/-- The session slot that a frame names on its hamper (R47). -/
def sessionSlot (f : Frame) (s : State) : Option Nat :=
  [2 * f.hamper.val, 2 * f.hamper.val + 1].find? fun k => match s.io.sessions.getD k none with
    | some x => f.session != 0 && x.id == f.session.toNat
    | none => false

/-- The session in a slot. -/
def State.session (s : State) (k : Nat) : Option Session := s.io.sessions.getD k none

/-- Steps 4 and 5 of R40: the failure of a frame under the roles of a command (R46). -/
def sessionFault (p : CmdSpec) (f : Frame) (s : State) : Option (Nat × Nat) :=
  if f.session = 0 then failIf (!(p.anon || (p.viewer && decide (2 ≤ f.hamper.val)))) stDeniedRole 1
  else match sessionSlot f s with
    | none => some (stDeniedRole, 1)
    | some k => match s.session k with
      | none => some (stDeniedRole, 1)
      | some x => orElse (failIf (!(p.viewer || p.roles.contains x.role)) stDeniedRole 1)
          (failIf (decide (f.seq.toNat ≤ x.lastSeq)) stDeniedRole 2)

/-- The TAG is outstanding on the hamper (R41). -/
def tagOut (n tag : Nat) (s : State) : Bool := (s.io.hamper n).flights.any fun x => x.f.tag.toNat == tag && x.gone == 0

/-- A change that a STANDBY refuses (R453). -/
def standbyRefuses (op : Op) (s : State) : Bool :=
  isChange op && s.pair.role == .standby && !([0x02, 0x03, 0x11, 0x13].contains (op.code / 256))

/-- Step 8 of R40. -/
def stateFault (op : Op) (c : Cmd) (s : State) : Option (Nat × Nat) :=
  orElse (failIf (!(specOf op).states s.saf.ctrl || standbyRefuses op s) stDeniedState 0) ((specOf op).pre c s)

/-- Steps 1 to 3 of R40 for a known opcode. -/
def earlyFault (f : Frame) (s : State) : Option (Nat × Nat) :=
  orElse (headerFault f) (failIf (tagOut f.hamper.val f.tag.toNat s) stBadParam 1)

/-- Steps 6 to 8 of R40. -/
def lateFault (op : Op) (c : Cmd) (s : State) : Option (Nat × Nat) :=
  orElse (failIf (!frameLenOk c.f) stBadLength 0) <|
  orElse (fetchFault c.f) <|
  orElse (failIf (!(specOf op).lenOk c s) stBadLength 0) <|
  orElse (failIf (!(specOf op).target c s) stBadTarget 0) (stateFault op c s)

/-- The demand of R39 on a result of more than 40 bytes. A command that requires RBUF = 1 makes the demand for a shorter
result too; it is refused as R39 refuses, with the required size in LENGTH (DEDUCED, assumption 7). -/
def sizeBad (op : Op) (c : Cmd) (s : State) : Bool :=
  ((specOf op).needsRbuf && !c.f.rbuf)
    || (decide (40 < (specOf op).size c s) && (!c.f.rbuf || decide (c.f.rbufSize < (specOf op).size c s)))

/-! ## Flights and final statuses -/

/-- The flight with a TAG and generation on a hamper is replaced by `f` of itself. -/
def State.setFlight (s : State) (n tag gone : Nat) (f : Flight → Flight) : State :=
  s.setHamper n fun h => { h with flights := h.flights.map fun x => if x.f.tag.toNat == tag && x.gone == gone then f x else x }

/-- That flight leaves its hamper. -/
def State.endFlight (s : State) (n tag gone : Nat) : State :=
  s.setHamper n fun h => { h with flights := h.flights.filter fun x => !(x.f.tag.toNat == tag && x.gone == gone) }

/-- A result of more than 40 bytes goes whole to the RBUF buffer (R39, R56). -/
def deliver (f : Frame) (b : Bytes) (s : State) : State :=
  if f.rbuf && decide (40 < b.length) && decide (b.length ≤ f.rbufSize) then
    { s with io := { s.io with host := memWriteBytes s.io.host f.rbufAddr b } }
  else s

/-- The response of a frame (R38). -/
def respOf (opcode : Nat) (f : Frame) (status detail len seq : Nat) (result : Bytes) (closes : Bool) (s : State) : Resp where
  opcode := opcode
  tag := f.tag.toNat
  status := status
  length := len % 65536
  detail := if status = stDone then 0 else detail % 65536
  seq := seq
  time := s.io.time
  result := result.take 40
  evcopy := f.evcopy
  closes := closes

/-- A response is posted on a hamper. -/
def State.respond (s : State) (n : Nat) (r : Resp) : State := { s with io := postResponse n r s.io }

/-- A command on `n` is refused: counted, and answered with LEDGER_SEQ 0 (R40). `known` says that its TAG is its own. -/
def refuse (opcode : Nat) (f : Frame) (status detail len : Nat) (known : Bool) (s : State) : State :=
  let n := f.hamper.val
  (s.setHamper n fun h => { h with refusals := countRefusal h.refusals status }).respond n
    (respOf opcode f status detail len 0 [] known s)

/-- A flight reaches its final status by a response; one of an earlier host interface ends unreported (R30, R34, R38). -/
def finishFlight (x : Flight) (status detail seq : Nat) (result : Bytes) (s : State) : State :=
  let n := x.f.hamper.val
  if x.gone ≠ 0 then s.endFlight n x.f.tag.toNat x.gone
  else
    let s := deliver x.f result (s.setFlight n x.f.tag.toNat 0 fun y => { y with stage := .final, seq := seq })
    s.respond n (respOf x.op.code x.f status detail result.length seq result true s)

/-- A flight that had been accepted reaches its final status: a COMPLETION or a second response (R43). -/
def completeFlight (x : Flight) (status detail seq : Nat) (result : Bytes) (s : State) : State :=
  let n := x.f.hamper.val
  if x.gone ≠ 0 then s.endFlight n x.f.tag.toNat x.gone
  else
    let s := deliver x.f result (s.setFlight n x.f.tag.toNat 0 fun y => { y with stage := .final })
    let r := respOf x.op.code x.f status detail 0 seq [] true s
    { s with io := postFinal n { r with evcopy := false } s.io }

/-- A refusal of a flight at steps 9 to 12 (R40). -/
def refuseFlight (x : Flight) (status detail len : Nat) (s : State) : State :=
  let n := x.f.hamper.val
  if x.gone ≠ 0 then s.endFlight n x.f.tag.toNat x.gone
  else
    let s := s.setFlight n x.f.tag.toNat 0 fun y => { y with stage := .final }
    refuse x.op.code x.f status detail len true ((specOf x.op).onRefuse x.cmd status detail s)

/-! ## Starting (R42) -/

/-- A flight may start behind the earlier ones of its hamper. A recorded change of before a host-interface reset holds no
later change back: R30 and R42 leave this open (DESIGN CHOICE, assumption 7). -/
def mayStart (earlier : List Flight) (x : Flight) : Bool :=
  if x.op == .cmdAbort then true
  else if x.f.fence then earlier.all fun y => y.stage == .final || y.gone != 0
  else !x.change || earlier.all fun y => !y.change || y.stage == .final || y.gone != 0

/-- The first waiting flight that may start. -/
def nextStart : List Flight → List Flight → Option Flight
  | _, [] => none
  | before, x :: xs => if x.stage = .held && mayStart before x then some x else nextStart (before ++ [x]) xs

/-- ROLE of a COMMAND body. -/
def roleCode : Option Role → Nat
  | some r => r.code
  | none => 0

/-- KEY and SALT zeroed, KEY_FP appended: FORM 2 (R101, R363). -/
def form2Bytes (op : Op) (p : Bytes) : Bytes :=
  let salt := if op = .streamOpen then 30 else 2
  let key := if op = .streamOpen then 48 else 8
  let q := putLe (putLe p salt 3 0) key 32 0
  [2, 0] ++ q ++ (sha256 (sub p key 32)).take 8

/-- The COMMAND body of a change (R362, R363). -/
def commandBody (op : Op) (c : Cmd) : Bytes :=
  le 2 c.tgt ++ le 1 c.hamper ++ le 1 (roleCode c.role) ++ le 4 c.f.session.toNat ++ le 4 c.f.seq.toNat
    ++ le 2 c.f.length.toNat
    ++ (if (specOf op).form2 then form2Bytes op c.pl
        else formBytes (if (specOf op).form1 || decide (256 < c.len) then 1 else 0) c.pl)

/-- The session slot of an entry's DETAIL: SESSION_OPEN names the slot that its challenge reserved. -/
def entrySlot (x : Flight) (s : State) : Nat :=
  if x.slot < 16 then x.slot else match (s.io.hamper x.f.hamper.val).nonce with | some k => k.slot | none => 0

/-- The change record of a flight (R30, R358). -/
def commandRec (x : Flight) (s : State) : Rec where
  kind := .command
  time := s.io.time
  origin := 1
  detail := x.f.hamper.val * 256 + entrySlot x s
  subject := x.op.code
  body := commandBody x.op x.cmd
  draw := .ordinary
  act := .command x.op x.f

/-- A query answers from the state it finds; one that takes long is ACCEPTED first (R43). -/
def answerQuery (x : Flight) (s : State) : State :=
  let c := x.cmd
  let p := specOf x.op
  let n := x.f.hamper.val
  let a := p.ans c s
  if a.status = stAccepted then
    (p.eff c (s.setFlight n x.f.tag.toNat x.gone fun y => { y with stage := .running })).respond n
      (respOf x.op.code x.f stAccepted 0 0 0 [] false s)
  else finishFlight x a.status a.detail 0 a.result (p.eff c s)

/-- A flight starts: steps 9 to 11 and the result's size, then a query answers and a change is recorded. -/
def startFlight (x : Flight) (s : State) : State :=
  let c := x.cmd
  match (specOf x.op).post c s with
  | some (st, d) => refuseFlight x st d 0 s
  | none =>
    if sizeBad x.op c s then refuseFlight x stBadLength 0 ((specOf x.op).size c s) s
    else if x.change then
      (s.setFlight x.f.hamper.val x.f.tag.toNat x.gone fun y => { y with stage := .recording }).record (commandRec x s)
    else answerQuery x s

/-- Waiting flights of a hamper start while any may. -/
def pumpGo : Nat → Nat → State → State
  | 0, _, s => s
  | k + 1, n, s => match nextStart [] (s.io.hamper n).flights with
    | none => s
    | some x => pumpGo k n (startFlight x s)

/-- Every flight of hamper `n` that may start does. -/
def pump (n : Nat) (s : State) : State := pumpGo 128 n s

/-! ## Consuming a slot (R33, R40) -/

/-- A slot is consumed: CI advances, and PI with it where the row stands for the doorbell too. -/
def takeSlot (n : Nat) (s : State) : State :=
  s.setHamper n fun h => { h with ci := (h.ci + 1) % 128, pi := if h.pi = h.ci then (h.pi + 1) % 128 else h.pi }

/-- A number above those of the flights of a hamper and of the targets that its aborts hold. -/
def flightNo (l : List Flight) : Nat := l.foldl (fun m x => max m (max x.no x.victim)) 0 + 1

/-- The flight that a CMD_ABORT names: its TAG, outstanding in the session of the abort (R45). -/
def abortVictim (f : Frame) (l : List Flight) : Nat :=
  match l.find? fun x => x.f.tag.toNat == f.target.toNat && x.gone == 0 && x.f.session == f.session with
  | some x => x.no
  | none => 0

/-- The flight of a frame. -/
def newFlight (op : Op) (f : Frame) (s : State) : Flight :=
  let k := sessionSlot f s
  let l := (s.io.hamper f.hamper.val).flights
  { op := op, f := f, change := isChange op, stage := .held, copied := s.io.time, slot := k.getD 16
    no := flightNo l, victim := if op == .cmdAbort then abortVictim f l else 0
    role := match k with | some i => (s.session i).map (·.role) | none => none }

/-- A flight is added to its hamper. -/
def addFlight (x : Flight) (s : State) : State := s.setHamper x.f.hamper.val fun h => { h with flights := h.flights ++ [x] }

/-- A frame that fails at steps 1 to 3 or 6 to 8. Its TAG is outstanding until the response is written, unless it
duplicates another. -/
def refuseNew (op : Op) (opcode : Nat) (f : Frame) (status detail : Nat) (s : State) : State :=
  let own : Bool := !tagOut f.hamper.val f.tag.toNat s
  let x := { newFlight op f s with stage := .final, change := false }
  refuse opcode f status detail 0 own (if own then addFlight x s else s)

/-- The session's last accepted SEQ; the acceptance of 0xFFFF_FFFF ends the session (R40, R47). -/
def acceptSeq (f : Frame) (s : State) : State := match sessionSlot f s with
  | none => s
  | some k =>
    let s : State := { s with io := { s.io with
      sessions := upd s.io.sessions k fun y => y.map fun y => { y with lastSeq := f.seq.toNat } } }
    if f.seq = 0xFFFFFFFF then endSession k s else s

/-- The hamper unit takes a command through steps 1 to 8 and starts what may start (R33, R40, R42). -/
def consume (op : Op) (f : Frame) (s : State) : State :=
  if !s.ready then s
  else
    let s := takeSlot f.hamper.val s
    match orElse (earlyFault f s) (sessionFault (specOf op) f s) with
    | some (st, d) => refuseNew op op.code f st d s
    | none =>
      let x := newFlight op f s
      let s := acceptSeq f s
      match lateFault op x.cmd s with
      | some (st, d) => refuseNew op op.code f st d s
      | none => pump f.hamper.val (addFlight x s)

/-- Every opcode of the interface. -/
def allOps : List Op := [
  .cmdAbort, .evringSet, .eventRoute, .faultList, .faultClear, .sessionChallenge, .sessionOpen, .sessionClose, .ledgerStatus,
  .ledgerRead, .ledgerIdent, .ledgerSeal, .ledgerRelease, .timeAnchor, .streamStatus, .pageStatus, .portSet, .streamOpen,
  .streamRekey, .streamClose, .pageRelease, .launchStatus, .jobStatus, .sheetGet, .jobOpen, .sheetAdd, .jobClose,
  .jobHold, .sheetAbort, .jobAbort, .jobRelease, .pathSet, .launchControl, .calResult, .calRun, .calApply,
  .regSet, .screenInfo, .ecmRead, .profileGet, .screenLoad, .ecmLoad, .profileSet, .linkStatus, .apcRead,
  .historyLoad, .delayLoad, .apcTarget, .linkSet, .polygonSet, .scanSet, .facetLoad, .scanStart, .scanStop,
  .facetLearn, .scanPlan, .motorGet, .busGet, .motorSet, .motorStart, .motorStop, .motorSpeed, .motorClear,
  .busSet, .axisGet, .axisSet, .axisEnable, .axisMove, .axisStop, .axisHome, .axisClear, .fbGet,
  .prbRead, .qeSet, .seSet, .prbSet, .cmpSet, .posSet, .fbClear, .loopGet, .loopLoad,
  .loopSet, .loopStart, .loopStop, .loopSp, .loopClear, .thermalGet, .zoneSet, .thSet, .curveLoad,
  .dieSet, .thermalClear, .rimStatus, .nodeGet, .nodeRead, .rimConfig, .nodeWrite, .rimEnum, .powerStatus,
  .railGet, .railSet, .powerSet, .enginePower, .powerControl, .clockStatus, .clockSet, .clockOutSet, .pairStatus,
  .pairSet, .pairHandover, .bgStatus, .telemetryRead, .lifeGet, .bgSet, .bootStatus, .fwStage, .fwActivate,
  .fwCommit, .lifecycleSet, .debugUnlock, .debugLock]

/-- The command with an opcode. -/
def opOf (code : Nat) : Option Op := allOps.find? fun o => o.code == code

/-- A frame with an opcode that is not known; STATE_MOVE and BG_APPLY are written by the controller alone (R363, R381). -/
def consumeUnknown (code : Nat) (f : Frame) (s : State) : State := match opOf code with
  | some op => consume op f s
  | none =>
    if !s.ready then s
    else
      let s := takeSlot f.hamper.val s
      match earlyFault f s with
      | some (st, d) => refuseNew .cmdAbort code f st d s
      | none =>
        if code = 0x01F0 ∨ code = 0x1281 then refuseNew .cmdAbort code f stDeniedRole 1 s
        else refuseNew .cmdAbort code f stBadOpcode 0 s

/-! ## Completion (R43) -/

/-- The flight with a TAG and generation. -/
def flightOf (n tag gone : Nat) (s : State) : Option Flight :=
  (s.io.hamper n).flights.find? fun x => x.f.tag.toNat == tag && x.gone == gone

/-- The final status of a long-running command is posted; what the command still does comes first (R39, R43). -/
def postCompletion (s : State) : State := match s.io.finals with
  | [] => s
  | z :: zs =>
    let s : State := { s with io := { s.io with finals := zs } }
    match flightOf z.hamper z.tag z.gone s with
    | none => s
    | some x =>
      let (s, b) : State × Bytes := match (specOf x.op).late with
        | some g => if z.status = stDone then g x.cmd s else (s, z.result)
        | none => (s, z.result)
      pump z.hamper (completeFlight x z.status z.detail (if z.seq = 0 then x.seq else z.seq) b s)

/-! ## Abort (R45) -/

/-- The flight of hamper `n` with a number. -/
def flightNumbered (n no : Nat) (s : State) : Option Flight := (s.io.hamper n).flights.find? fun x => x.no == no

/-- A final status of a flight that waits to be posted is dropped. -/
def dropFinals (n tag gone : Nat) (s : State) : State := { s with io := { s.io with
  finals := s.io.finals.filter fun z => !(z.hamper == n && z.tag == tag && z.gone == gone) } }

/-- What CMD_ABORT meets at its ordering point, its target being flight `no` of hamper `n`: the state it leaves and whether
the target was still in progress. -/
def abortTarget (n no : Nat) (s : State) : State × Bool := match flightNumbered n no s with
  | none => (s, false)
  | some x =>
    let p := specOf x.op
    let tag := x.f.tag.toNat
    let due : Bool := s.io.finals.any fun z => z.hamper == n && z.tag == tag && z.gone == x.gone
    match x.stage with
    | .final => (s, false)
    | .held => (finishFlight x stFaulted 0xAB 0 [] s, true)
    | .recording => (s.setFlight n tag x.gone fun y => { y with aborted := true }, true)
    | .running =>
      if (due && p.late.isNone) || !p.canAbort x.cmd s then (s, false)
      else
        let s := p.abort x.cmd (dropFinals n tag x.gone s)
        (if p.abortPosts then completeFlight x stFaulted 0xAB x.seq [] (dropFinals n tag x.gone s) else s, true)

/-! ## Application (R44) -/

/-- The recorded flight of a frame. -/
def recordedFlight (op : Op) (f : Frame) (s : State) : Option Flight :=
  (s.io.hamper f.hamper.val).flights.find? fun x => x.f == f && x.op == op && x.stage == .recording

/-- The checks that the owning unit repeats at the application point (R44): a unit that has faulted since comes first. -/
def applyFault (op : Op) (c : Cmd) (s : State) : Option (Nat × Nat) :=
  orElse (failIf (!(specOf op).target c s) stBadTarget 0) <|
  orElse (failIf ((specOf op).faulted c s) stFaulted 0) <|
  orElse (stateFault op c s) ((specOf op).post c s)

/-- The second entry of a recorded change that did not apply (R44, R362). -/
def outcomeRec (x : Flight) (seq status detail : Nat) (s : State) : Rec where
  kind := .outcome
  time := s.io.time
  origin := 3
  detail := Config.renuneTask.toNat
  subject := 0
  body := le 8 seq ++ le 1 status ++ [0] ++ le 2 detail ++ zeros 4
  draw := .reserve
  act := .outcome x.f.hamper.val x.f.tag.toNat status detail

/-- A change whose entry is in MRAM takes effect and is answered (R43, R44). -/
def applyChange (x : Flight) (seq : Nat) (s : State) : State :=
  let c := x.cmd
  let p := specOf x.op
  let n := x.f.hamper.val
  if x.aborted then finishFlight x stFaulted 0xAB seq [] s
  else if x.op = .cmdAbort then
    let (s, ok) := abortTarget n x.victim s
    finishFlight x (if ok then stDone else stAlreadyDone) 0 seq [] s
  else match applyFault x.op c s with
    | some (st, d) => s.record (outcomeRec x seq st d s)
    | none =>
      let a := p.ans c s
      if a.status = stAccepted then
        let s := p.eff c (s.setFlight n x.f.tag.toNat x.gone fun y => { y with stage := .running, seq := seq })
        if x.gone = 0 then s.respond n (respOf x.op.code x.f stAccepted 0 0 seq [] false s) else s
      else finishFlight x a.status a.detail seq a.result (p.eff c s)

/-- A reset that a command asked for follows its response (R399, R435). -/
def dueReset (s : State) : State := if s.pwr.resetDue = some 5 then controllerReset 5 (inhibitUnits s) else s

/-- The command behind a TARGET and a payload, without a frame of a hamper. -/
def bareCmd (t : Nat) (p : Bytes) : Cmd := { f := { hamper := 0, target := BitVec.ofNat 16 t }, pl := p, len := p.length }

/-- A change without a hamper applies where its checks allow it (R44, R363); what a long-running one does last it does at
once. -/
def applyBare (op : Op) (t : Nat) (b : Bytes) (s : State) : State :=
  let c := bareCmd t b
  match orElse ((specOf op).pre c s) ((specOf op).post c s) with
  | some _ => s
  | none =>
    let s := (specOf op).eff c s
    match (specOf op).late with
    | some g => (g c s).1
    | none => s

/-- A recorded change of Renune's own applies (R199, R217, R218, R223, R239). What Renune has decided under a rule of its own is
not held to the states that a command of a host would need: SIG of a FACET_LEARN is written while the Weavers are LOCKED,
the speeds of a plan go to running channels, and a lower speed to a polygon with an ADMITTED sheet. -/
def applyRenune (op : Op) (t : Nat) (b : Bytes) (s : State) : State := match op with
  | .polygonSet => polygonSetSpec.eff (bareCmd t b) s
  | .motorSpeed => motorSpeedSpec.eff (bareCmd t b) s
  | .scanStart => match orElse (scanStartable (bareCmd t b) s) (scanStartSpec.post (bareCmd t b) s) with
    | some _ => s
    | none => scanStartSpec.eff (bareCmd t b) s
  | _ => applyBare op t b s

/-- The mirrored change of the ACTIVE takes effect in the STANDBY (R453). -/
def applyMirror (seq : Nat) (m : Mirrored) (s : State) : State :=
  let s := s.setPair fun p => { p with peerSeq := seq }
  match m with
  | .command op t p => applyRenune op t.toNat p s
  | .register a v =>
    let regs : List Guarded := (List.range 8).flatMap (fun k => [.ring (Fin.ofNat 8 k) .baseLo, .ring (Fin.ofNat 8 k) .baseHi,
      .ring (Fin.ofNat 8 k) .cfg]) ++ [.svcCmd, .svcInh]
    match regs.find? fun g => g.addr == a.toNat with
    | some g => g.apply (g.mask v.toNat) s
    | none => s
  | .capture => s
  | .abort op t p => (specOf op).abort (bareCmd t.toNat p) s
  | .axis _ _ _ _ => s

/-- The oldest held write of an origin without a decided entry learns it: its SEQ, or 0 (R66). Records of one origin are
chained in arrival order (R360). -/
def decideHeld (origin seq : Nat) : List HeldWrite → List HeldWrite
  | [] => []
  | h :: hs => if h.seq.isNone && h.origin == origin then { h with seq := some seq } :: hs else h :: decideHeld origin seq hs

/-- The fault list's entry learns its LEDGER_SEQ (R451). -/
def faultSeq (line index cause seq : Nat) (s : State) : State := { s with saf := { s.saf with
  faults := s.saf.faults.map fun e => if e.line = line ∧ e.index = index ∧ e.cause = cause then { e with seq := seq } else e } }

/-- The switch of a dead source has reached the ledger: the controller resets (R412). -/
def deadClock : Act → Bool
  | .fault line _ cause => line == 236 && cause == 0x4D
  | _ => false

/-- The response behind an OUTCOME entry (R44); an abort that came before it wins (R45). -/
def answerOutcome (n tag status detail seq : Nat) (s : State) : State :=
  match (s.io.hamper n).flights.find? fun x => x.f.tag.toNat == tag && x.stage == .recording with
  | none => s
  | some x =>
    let s := (specOf x.op).onRefuse x.cmd status detail s
    if x.aborted then finishFlight x stFaulted 0xAB seq [] s else finishFlight x status detail seq [] s

/-- What waited for an entry happens once it is in MRAM (R44, R66, R381, R392, R424, R451, R453). -/
def afterEntry (a : Act) (seq : Nat) (s : State) : State := match a with
  | .none => s
  | .command op f => match recordedFlight op f s with
    | some x => dueReset (pump x.f.hamper.val (applyChange x seq s))
    | none => s
  | .heldWrite b o => s.setGuard b fun g => { g with held := decideHeld o seq g.held }
  | .seqLo b => s.setGuard b fun g => { g with seqLo := seq % 65536 }
  | .fault line index cause =>
    let s := faultSeq line index cause seq s
    if deadClock a then controllerReset 5 (inhibitUnits s) else s
  | .renune op t p => applyRenune op t p s
  | .mirror n m => applyMirror n m s
  | .signature n h sig => signatureDone n h sig s
  | .bgApply job l => applyCoeffs job l s
  | .boot => { s with pwr := { s.pwr with causeHold := false, causeForce := false, causeRail := false, record := none, laterFaults := 0 } }
  | .measured =>
    let s : State := { s with boot := { s.boot with measured := true } }
    if s.saf.ctrl = .idle ∧ s.pwr.seq = .engineOn then s.moveState .warm else s
  | .outcome n tag st d => pump n (answerOutcome n tag st d seq s)
  | .sheet id => s.setSheet id fun x => { x with recordSeq := seq }
  | .node addr tag => nodeAnswer addr tag true s

/-- What waited for an entry that is refused for space (R44, R66, R337). -/
def notRecorded (a : Act) (s : State) : State := match a with
  | .command op f => match recordedFlight op f s with
    | some x => pump x.f.hamper.val (if x.aborted then finishFlight x stFaulted 0xAB 0 [] s else refuseFlight x stNotRecorded 0 0 s)
    | none => s
  | .heldWrite b o => s.setGuard b fun g => { g with held := decideHeld o 0 g.held }
  | .node addr tag => nodeAnswer addr tag false s
  | _ => s

/-- What waited for an entry that is lost even from the reserve (R369). -/
def entryLost (a : Act) (s : State) : State := match a with
  | .outcome n tag st d => pump n (answerOutcome n tag st d 0 s)
  | .fault _ _ _ => if deadClock a then controllerReset 5 (inhibitUnits s) else s
  | _ => s

/-- FLAGS of an entry (R361, R369). -/
def entryFlags (r : Rec) (s : State) : Nat := match r.draw with
  | .reserve => reserveFlag s
  | .protective => reserveFlag s + 2
  | .ordinary | .sheet => 0

/-- The ACTIVE sends a change that it has recorded to its peer: LEDGER_SEQ and the change record (R453, R454). -/
def mirrorSend (r : Rec) (n : Nat) (s : State) : State :=
  let sends := s.pair.role == .active && s.pair.link && [Kind.command, .register, .capture].contains r.kind
  { s with led := { s.led with mirrored := if sends then some (n, r.body) else s.led.mirrored } }

/-- A record becomes the next entry (R44, R219, R361), and a change leaves for the peer (R453). -/
def chainRecord (r : Rec) (s : State) : State :=
  let n := s.led.head + 1
  let body := if r.kind = .sheet then putLe r.body 56 8 n else r.body
  let s := mirrorSend r n (appendEntry r.kind r.time r.origin r.detail r.subject (entryFlags r s) body s)
  let s : State := if r.draw = .sheet then { s with led := { s.led with resv := s.led.resv - 1 } } else s
  afterEntry r.act n (ledgerLevels s)

/-- The first ordinary record behind BOOT and MEASURE is refused while these wait for space. -/
def refuseBehind (s : State) : State :=
  match s.led.queue.findIdx? fun r => !r.bootKind && r.draw == .ordinary with
  | none => ledgerFull s
  | some i =>
    let a := (s.led.queue.map (·.act)).getD i .none
    ledgerFull (notRecorded a { s with led := { s.led with queue := s.led.queue.eraseIdx i } })

/-- A record without space: an ordinary one is refused, a GAP waits, every other is lost (R369). -/
def recordFails (r : Rec) (rest : List Rec) (s : State) : State :=
  let t : State := { s with led := { s.led with queue := rest } }
  if r.bootKind then refuseBehind s
  else if r.kind = .gap then s
  else if r.draw = .ordinary then ledgerFull (notRecorded r.act t)
  else
    let t : State := if r.draw = .sheet then { t with led := { t.led with resv := t.led.resv - 1 } } else t
    entryLost r.act (loseEntry r.time t)

/-- One entry and the updated head reach MRAM: a CHECKPOINT where its SEQ is due, else the record at the head of the
recorder's queue (R44, R360, R365, R369). -/
def ledgerCommit (s : State) : State :=
  if !s.ready then s
  else if ckptDue s && decide (1 ≤ ledgerU s) then ledgerLevels (writeCheckpoint s)
  else match s.led.queue with
    | [] => s
    | r :: rest =>
      if spaceFor r.draw s then chainRecord r { s with led := { s.led with queue := rest } }
      else recordFails r rest s

end Sys2Proof.Machine
end

