-- ==== Sys2Proof/Machine/Mirrors.lean ====
section
/-!
DEFINITION. The status mirrors: the words of every mirror block, and the refresh that brackets its writes with the
generation word (R75, R490). Offsets are those of BAR0.
-/
namespace Sys2Proof.Machine

/-- A list of small fields as one word: value and lowest bit of each. -/
def packWord (l : List (Nat × Nat)) : Nat := l.foldl (fun n x => n + x.1 * 2 ^ x.2) 0
/-- A signed value in `n` bits of two's complement. -/
def wrapN (n : Nat) (x : Int) : Nat := (x % (2 : Int) ^ n).toNat
/-- Two unsigned 16-bit fields, the low one first. -/
def pair16 (a b : Nat) : Nat := a % 65536 + b % 65536 * 65536
/-- Two signed 16-bit fields, the low one first. -/
def pairI16 (a b : Int) : Nat := wrapN 16 a + wrapN 16 b * 65536

/-! ## Stations (chapters 03 and 05 to 08) -/

/-- STs_STATE.STATE: OFF without the station, FAULT with its Weaver, IMAGING with a side in progress, SCANNING while
the Weaver is not OFF, else IDLE (assumption 29). -/
def stationState (i : Nat) (s : State) : Nat :=
  if !bit (stationsOn s) i then 0
  else if (s.wvr i).state = .fault then 4
  else if (s.stn i).sides ≠ [] then 3
  else if (s.wvr i).state = .off then 1 else 2

/-- STs_PCLK: the pixel clock of PERIOD in kHz, rounded to nearest (R190). -/
def pclkKhz (w : Weaver) : Nat := if w.period = 0 then 0 else (32000000000 + w.period) / (2 * w.period)

/-- STs_COST.PEAK: the peak band cost against 0.85 of the sweep period in decoder clocks, UQ0.16 (R110). -/
def costPeak (i : Nat) (s : State) : Nat :=
  let budget := 17 * (s.poly (polyOf i)).tNom / 1280
  if budget = 0 then 0 else min 65535 ((s.stn i).peak * 65536 / budget)

/-- The words of a station mirror from 0x004 to 0x070. -/
def stationWords (i : Nat) (s : State) : List Nat :=
  let x := s.stn i
  let w := x.weaver
  let y := s.poly (polyOf i)
  let d := x.side?
  [packWord [(stationState i s, 0), (b2n (w.state == .locked), 4), (bitsOf (x.lanes.map fun l => l.state == .up), 5)],
   x.tag % 2 ^ 32, x.tag / 2 ^ 32, pclkKhz w, pair16 w.bridged w.aborted, pair16 x.underrun x.spoiled, costPeak i s,
   x.decBands, packWord [(x.decCause, 0), (x.decErr, 16)], pair16 x.capBands x.capRaw, pair16 x.capVerify x.capBad,
   pair16 x.clamp x.trimSat,
   packWord [(x.ecmActive, 0), (b2n (ecmInUse i s), 1), ((x.ecm.getD x.ecmActive {}).seq % 65536, 16)],
   packWord ((List.range 4).flatMap fun k => [((x.screens.getD k {}).state.code, 2 * k), (b2n (slotInUse i k s), 8 + k)]),
   bitsOf (x.profiles.map fun p => pfMode p != 0), pair16 x.lsAbsent x.lsEcc,
   packWord (((List.range 4).map fun m => ((x.lanes.getD m {}).state.code, 4 * m)) ++ [(x.retrains, 16)]),
   pair16 x.badSweeps x.bkErr,
   packWord [(x.histActive, 0), (b2n (histInUse i s), 1), ((x.hist.getD x.histActive {}).seq % 65536, 16)],
   packWord [(x.apcK, 0), (((List.range 64).filter fun b => decide (0 < x.drive.getD b 0)
       && x.drive.getD b 0 == (x.lanes.getD (b / 16) {}).driveMax).length, 8), (x.apcSkipped, 16)],
   packWord [(x.groupLate, 0), ((match d with | some d => d.cause | none => 0), 16)],
   packWord [(b2n x.delayNext.isSome, 0), (x.delaySeq % 65536, 16)],
   packWord [(w.state.code, 0), (w.facet, 4), (b2n w.ident.isSome, 8), (b2n (weaverToken i s), 9), (y.k, 16)],
   w.period % 2 ^ 20, w.trev % 2 ^ 32,
   wrapN 16 (match d with | some d => d.err | none => 0) + w.stray * 65536,
   pairI16 (y.q - 65536) (y.qb - 65536), pair16 w.overCnt w.under]

/-! ## Motors, buses and axes (chapters 03, 10 and 11) -/

/-- LMn words 0x04 to 0x1C. -/
def largeWords (i : Nat) (s : State) : List Nat :=
  let m := s.motor i
  [packWord [(m.state.code, 0), (m.fault, 8)], wrapN 32 m.speed, pairI16 m.id m.iq, m.conf,
   packWord [(m.mod, 0), (b2n (match m.vsatAt with | some t => decide (s.io.time < t + 100000) | none => false), 16)], wrapN 32 m.slew, pair16 m.losses m.catches]

/-- SMn words 0x04 to 0x14; `i` is the channel, 6 to 15. -/
def smallWords (i : Nat) (s : State) : List Nat :=
  let m := s.motor i
  [packWord [(m.state.code, 0), (m.fault, 8)], wrapN 32 m.speed, wrapN 16 m.torque + m.flux % 65536 * 65536, m.sector,
   pairI16 m.ia m.ib]

/-- BUSn words 0x04 to 0x0C. -/
def busWords (n : Nat) (s : State) : List Nat :=
  let b := s.bus n
  [b.v, b.flags, pair16 (satN 16 (b.onTime s.io.time * 65536 / 1000000000)) b.onCnt]

/-- AXn words 0x04 to 0x14. -/
def axisWords (a : Nat) (s : State) : List Nat :=
  let x := s.axis a
  [packWord [(x.state.code, 0), (b2n x.strong, 4), (b2n x.homed, 5), (b2n x.stallValid, 6), (x.fault, 8), (x.queue.length, 16)],
   wrapN 32 x.pos, wrapN 32 x.vel, wrapN 16 x.angle + x.stalls * 65536, pairI16 x.ia x.ib]

/-! ## Feedback and loops (chapters 12 and 13) -/

/-- QEn words 0x04 to 0x1C. -/
def qeWords (n : Nat) (s : State) : List Nat :=
  let x := s.fb.qe.getD n {}
  [packWord [(b2n x.indexed, 0), (b2n x.posBad, 1), (x.ctr.dir, 2), (b2n x.ctr.settling, 4), (b2n x.ctr.dirchg, 5),
     (bitsOf x.wire, 6), (x.fault, 16)],
   wrapN 32 x.ctr.pos, wrapN 32 x.ctr.rev, wrapN 32 x.ctr.lastNet, wrapN 32 x.ctr.speed, pair16 x.illegal x.idxCorr, x.strayZ]

/-- SEn words 0x04 to 0x18. -/
def seWords (n : Nat) (s : State) : List Nat :=
  let x := s.fb.se.getD n {}
  [packWord [(b2n x.valid, 0), (b2n x.extrap, 1), (b2n x.fallback, 2), (b2n (decide (1000 ≤ x.goodRun)), 3), (x.ctr.dir, 4),
     (b2n x.ctr.settling, 6), (b2n x.ctr.dirchg, 7), (x.fault, 8)],
   wrapN 32 x.ctr.pos, wrapN 32 x.ctr.speed, pair16 x.crcErr x.timeoutErr, pair16 x.plausErr x.encErr, pair16 x.delay x.warn]

/-- CMPk words 0x04 to 0x0C. -/
def cmpWords (k : Nat) (s : State) : List Nat :=
  let x := s.fb.cmp.getD k {}
  [packWord [(b2n x.armed, 0), (b2n x.behind, 1), (b2n x.late, 2), (x.fires, 16)], wrapN 32 x.firePos, x.fireTime % 2 ^ 32]

/-- PRBk words 0x04 to 0x10. -/
def prbWords (k : Nat) (s : State) : List Nat :=
  let x := s.fb.prb.getD k {}
  [packWord [(x.fifo.length, 0), (probeOwner k s, 4), (x.overflow, 16)], wrapN 32 x.lastPos, x.lastTime % 2 ^ 32, x.glitch]

/-- LPi words 0x04 to 0x1C. -/
def loopWords (i : Nat) (s : State) : List Nat :=
  let l := s.loop i
  let p := l.set.getD []
  [packWord [(l.state.code, 0), (b2n (l.set.isSome && lStations p != 0 && l.state == .regulating), 3), (l.fault, 8),
     (bitsOf l.flags, 16)],
   wrapN 32 l.r, wrapN 32 l.y, wrapN 32 l.u, (if lModel p then wrapN 32 l.m else 0), pair16 l.fe l.skips, wrapN 32 l.sp]

/-- CLE words 0x04 and 0x08. -/
def engineWords (s : State) : List Nat := [pair16 (worstTick (descriptors 64 none s)) s.cle.peak, s.cle.ovr]

/-! ## Heat, ledger (chapters 14 and 17) -/

/-- ZNz words 0x04 to 0x10. -/
def zoneWords (z : Nat) (s : State) : List Nat :=
  let x := s.zone z
  [packWord [(zoneStateCode z s, 0), (b2n x.fast, 3), (b2n (decide (x.pLim < zMax (Zone.pay x))), 4), (b2n (zoneMeets z s), 5),
     (x.fault, 8), ((validOf z z s).length, 16)],
   wrapN 32 (roundHalfUp x.tm 16), pair16 x.p x.pLim, x.steps]

/-- The thermistor and die words, 0x004 to 0x10C; 0x064 to 0x0FC read 0. -/
def thermalWords (s : State) : List Nat :=
  ((List.range 24).map fun j =>
    let x := s.th j
    packWord [(wrapN 16 (floorDiv (x.temp * 10) 65536), 0), (x.status, 16), (x.dis, 24)])
  ++ List.replicate 39 0
  ++ [pairI16 (s.thm.die.getD 0 0) (s.thm.die.getD 1 0), pairI16 (s.thm.die.getD 2 0) (s.thm.die.getD 3 0), s.thm.vPerm,
      match s.thm.latch with | some l => packWord [(l.cause, 0), (l.src, 8), (l.sensor, 16)] | none => 0]

/-- LED words 0x04 to 0x24. -/
def ledgerWords (s : State) : List Nat :=
  let l := s.led
  [bitsOf [l.low, l.full, l.spillErr, !l.unsigned.isEmpty], l.head % 2 ^ 32, satN 16 (ledgerSpare s) + reserveLeft s * 65536,
   satN 16 (ceilDivN (entryBytes l.journal) ledgerUnit), l.lostTotal % 2 ^ 32, l.captures.length, l.untag,
   l.firstHeld % 2 ^ 32, l.exported % 2 ^ 32]

/-! ## Blocks -/

/-- `o` is a base plus `k` steps, with `k` below `n`: the unit of a family of mirror blocks. -/
def unitOf (base step n o : Nat) : Option Nat :=
  if base ≤ o ∧ (o - base) % step = 0 ∧ (o - base) / step < n then some ((o - base) / step) else none

/-- The words of the mirror block at BAR0 offset `o`, after its generation word. -/
def blockWords (o : Nat) (s : State) : Option (List Nat) :=
  match unitOf 0x40000 0x2000 5 o, unitOf 0x50000 0x100 6 o, unitOf 0x50800 0x100 10 o, unitOf 0x51800 0x40 4 o with
  | some i, _, _, _ => some (stationWords i s)
  | _, some i, _, _ => some (largeWords i s)
  | _, _, some i, _ => some (smallWords (6 + i) s)
  | _, _, _, some n => some (busWords n s)
  | none, none, none, none => match unitOf 0x60000 0x40 24 o, unitOf 0x60800 0x40 8 o, unitOf 0x60A00 0x40 4 o with
    | some t, _, _ => if axExists t then some (axisWords (axIdx t) s) else none
    | _, some n, _ => some (qeWords n s)
    | _, _, some n => some (seWords n s)
    | none, none, none => match unitOf 0x60C00 0x20 16 o, unitOf 0x60E00 0x20 8 o, unitOf 0x61000 0x20 64 o with
      | some k, _, _ => some (cmpWords k s)
      | _, some k, _ => some (prbWords k s)
      | _, _, some i => some (loopWords i s)
      | none, none, none => match unitOf 0x70000 0x40 8 o with
        | some z => some (zoneWords z s)
        | none =>
          if o = 0x61800 then some (engineWords s)
          else if o = 0x70400 then some (thermalWords s)
          else if o = 0x70800 then some (clockWords s)
          else if o = 0x70C00 then some (powerWords s)
          else if o = 0x80000 then some (byteWords 7 (rimWords s) ++ s.rim.reports)
          else if o = 0x83000 then some (pairWords s)
          else if o = 0x84000 then some (ledgerWords s)
          else if o = 0x100 then some (bgWords s)
          else none

/-- The stored word at a BAR0 offset of a mirror; nothing listed reads 0. -/
def mirrorRead : List (Nat × Word) → Nat → Word
  | [], _ => 0
  | (a, v) :: l, x => if x = a then v else if x < a then 0 else mirrorRead l x

/-- A word of a mirror is stored; 0 is not listed, and offsets rise. -/
def mirrorWrite : List (Nat × Word) → Nat → Word → List (Nat × Word)
  | [], x, v => if v = 0 then [] else [(x, v)]
  | (a, w) :: l, x, v =>
    if x = a then (if v = 0 then l else (a, v) :: l)
    else if x < a then (if v = 0 then (a, w) :: l else (x, v) :: (a, w) :: l)
    else (a, w) :: mirrorWrite l x v

/-- Words are stored from an offset upward. -/
def mirrorWriteAll (l : List (Nat × Word)) (o : Nat) : List Nat → List (Nat × Word)
  | [] => l
  | v :: vs => mirrorWriteAll (mirrorWrite l o (BitVec.ofNat 32 v)) (o + 4) vs

/-- One refresh of a block: GEN goes to an odd value, the words are written, and GEN goes to the next even value
(R75). The node status words have no generation word; their block is the one at 0x8_1000. -/
def mirrorRefresh (o : Nat) (s : State) : State :=
  if o = 0x81000 then
    let l := s.rim.nodes.foldl (fun l n => mirrorWrite l (0x81000 + 4 * n.addr) (BitVec.ofNat 32 (nodeWord n.addr s))) s.reg.mirrors
    { s with reg := { s.reg with mirrors := l } }
  else match blockWords o s with
    | none => s
    | some ws =>
      let odd := mirrorWrite s.reg.mirrors o (mirrorRead s.reg.mirrors o + 1)
      let full := mirrorWriteAll odd (o + 4) ws
      { s with reg := { s.reg with mirrors := mirrorWrite full o (mirrorRead full o + 1) } }

/-- An event of a Weaver that may be a sweep start: where it is one, the station's whole block is refreshed under its
generation word, after everything that the start does (R490). -/
def sweepMirror (i : Nat) (f : State → State) (s : State) : State :=
  let t := f s
  if (t.wvr i).sweep ≠ (s.wvr i).sweep then mirrorRefresh (0x40000 + 0x2000 * i) t else t

end Sys2Proof.Machine
end

