-- ==== Sys2Proof/Machine/Start.lean ====
section
/-!
DEFINITION. Renune's start: the BOOT and MEASURE records, the Berril package, the inhibit self-test, and the first state
(R392 to R394, R432, R445).
-/
namespace Sys2Proof.Machine

/-! ## The package (R393, R394) -/

/-- The records of a package: OPCODE, TARGET and payload; none where a record is cut short or its padding is not 0. -/
def pkgRecords : Nat → Bytes → Option (List (Nat × Nat × Bytes))
  | 0, _ => none
  | k + 1, b =>
    if b = [] then some []
    else
      let n := u32At b 4
      let size := (8 + n + 7) / 8 * 8
      if b.length < 8 ∨ b.length < size ∨ ((b.take size).drop (8 + n)).any (· != 0) = true then none
      else match pkgRecords k (b.drop size) with
        | some l => some ((u16At b 0, u16At b 2, sub b 8 n) :: l)
        | none => none

/-- Range and step of a SETTING by ID, from 1. -/
def settingRange : List (Nat × Nat × Nat) := [
  (1024, 14336, 2), (0, 6144, 2), (16, 384, 1), (10, 86400, 1), (10, 10000, 1), (100, 100000, 1), (1, 255, 1), (0, 127, 1),
  (10, 86400, 1), (1, 50, 1), (10000, 1000000, 1), (0, 768, 1), (32, 256, 1), (7, 15, 1), (0, 31, 1), (0, 7, 1)]

/-- A SETTING applies, or rejects the package; RT_RESERVE and CTL_CAP together obey R17. -/
def applySetting (t : Nat) (p : Bytes) (s : State) : Option State :=
  let id := u16At p 0
  let v := u32At p 4
  let r := settingRange.getD (id - 1) (1, 0, 1)
  let l := s.boot.settings.set (id - 1) v
  if t ≠ 0 ∨ p.length ≠ 8 ∨ outside id 1 16 = true ∨ u16At p 2 ≠ 0 ∨ outside v r.1 r.2.1 = true ∨ v % r.2.2 ≠ 0
      ∨ 896 < l.getD 11 0 + l.getD 12 0 then none
  else some { s with boot := { s.boot with settings := l } }

/-- A ROLE_KEY applies, or rejects the package. -/
def applyRoleKey (t : Nat) (p : Bytes) (s : State) : Option State :=
  let curve := byteAt p 3
  if t ≠ 0 ∨ 255 < u16At p 0 ∨ outside (byteAt p 2) 1 3 = true ∨ outside curve 1 2 = true
      ∨ p.length ≠ 4 + (if curve = 1 then 65 else 97) ∨ 64 ≤ s.boot.roleKeys.length then none
  else some { s with boot := { s.boot with
    roleKeys := s.boot.roleKeys ++ [{ keyId := u16At p 0, role := roleOfCode (byteAt p 2), curve := curve, key := p.drop 4 }] } }

/-- An opcode group from which a package takes changes. -/
def pkgGroup (code : Nat) : Bool := (decide (0x04 ≤ code / 256) && decide (code / 256 ≤ 0x0F)) || code / 256 == 0x14

/-- A change of a package applies as its command would in IDLE, or rejects the package. -/
def applyPkgChange (code t : Nat) (p : Bytes) (s : State) : Option State := match opOf code with
  | none => none
  | some op =>
    let c := bareCmd t p
    let y := specOf op
    if !pkgGroup code || !isChange op || !y.states .idle || !y.lenOk c s || !y.target c s || (y.pre c s).isSome
        || (y.post c s).isSome || y.faulted c s then none
    else
      let s := y.eff c s
      match y.late with
      | some g => some (g c s).1
      | none => some s

/-- The records of a package in order; `head` while only SETTINGs have come. -/
def applyRecords : List (Nat × Nat × Bytes) → Bool → State → Option State
  | [], _, s => some s
  | (code, t, p) :: rest, head, s =>
    if code = 0x13F0 then (if head then (applySetting t p s).bind (applyRecords rest true) else none)
    else (if code = 0x13F1 then applyRoleKey t p s else applyPkgChange code t p s).bind (applyRecords rest false)

/-- LEDGER_AREA after the SETTINGs of a package: its record, or the value in force. -/
def pkgArea (l : List (Nat × Nat × Bytes)) (s : State) : Nat :=
  l.foldl (fun a r => if r.1 = 0x13F0 ∧ u16At r.2.2 0 = 3 then u32At r.2.2 4 else a) (s.boot.settings.getD 2 0)

/-- The SEQ that tags the apply window of a package: that of the Berril MEASURE entry, which follows BOOT and the MEASURE of
Renune (R358, R392, R393). In BLANK a change of LEDGER_AREA begins the ledger again (R394). -/
def pkgSeq (l : List (Nat × Nat × Bytes)) (s : State) : Nat :=
  let head := if s.boot.life = .blank ∧ pkgArea l s ≠ s.boot.laidArea then 0 else s.led.head
  (nextSeqs 3 head).getD 2 0

/-- The package of a Berril slot applied in full in IDLE, none where it is rejected. What its loads keep as their LEDGER_SEQ is
the tag of its window. After PROVISIONED its LEDGER_AREA is that of genesis (R394). -/
def applyPackage (a : Nat) (s : State) : Option State :=
  let b := slotBody 1 a s
  match pkgRecords (b.length / 8 + 1) b with
  | none => none
  | some l =>
    match applyRecords l true { s with
        boot := { s.boot with berrilOk := true }, saf := { s.saf with ctrl := .idle }
        led := { s.led with head := pkgSeq l s } } with
    | none => none
    | some t =>
      if t.boot.life ≠ .blank ∧ t.boot.settings.getD 2 0 ≠ t.boot.laidArea then none
      else some { t with
        saf := { t.saf with ctrl := s.saf.ctrl }
        led := { t.led with head := s.led.head, lowMark := t.boot.settings.getD 9 0, anchorInterval := t.boot.settings.getD 8 0 } }

/-- The booted Berril slot's package, then the other slot's (R394). -/
def startBerril (s : State) : State :=
  let b := (s.bootRec 1).booted
  let tries : List Nat := if b = 0 then [] else [b - 1] ++ [0, 1].filter fun a => a + 1 != b && imageFault 1 a s == 0
  (tries.findSome? fun a => applyPackage a s).getD s

/-- LEDGER_AREA in force lays out the area; in BLANK a change of it erases the ledger (R394). -/
def layLedger (s : State) : State :=
  let v := if s.boot.life = .blank then s.boot.settings.getD 2 384 else s.boot.laidArea
  let s : State := { s with led := { s.led with areaMiB := v } }
  if s.boot.life = .blank ∧ v ≠ s.boot.laidArea then eraseLedger { s with boot := { s.boot with laidArea := v } } else s

/-! ## Measurements (R362, R392) -/

/-- The BOOT record. -/
def bootEntry (s : State) : Rec where
  kind := .boot
  time := s.io.time
  origin := 6
  detail := 0
  subject := 0
  body := le 4 s.led.boot ++ le 1 s.pwr.resetSrc
    ++ le 1 (b2n s.pwr.causeHold + 2 * b2n s.pwr.causeRail + 4 * b2n s.thm.latch.isSome + 8 * b2n s.pwr.causeForce)
    ++ le 1 (match s.pwr.record with | some r => r.rail | none => 0xFF) ++ le 1 ((s.bootRec 0).booted - 1)
    ++ le 8 s.saf.firstFault ++ sha384 (ledgerPub s)
  draw := .ordinary
  act := .boot

/-- The MEASURE record of the booted image of a kind. -/
def measureEntry (kind : Nat) (act : Act) (s : State) : Rec :=
  let a := (s.bootRec kind).booted - 1
  let h := slotHeader kind a s
  { kind := .measure, time := s.io.time, origin := 6, detail := 0, subject := 0
    body := le 1 (kind + 1) ++ le 1 a ++ zeros 2 ++ le 4 (imgVersion h) ++ le 8 (s.bootRec kind).rollback
      ++ sha384 (slotRead (slotNo kind a) 0 (4096 + bodyLen h) s)
    draw := .ordinary, act := act }

/-- The records that Renune chains before any other. -/
def bootRecords (s : State) : List Rec :=
  if (s.bootRec 1).booted = 0 then [bootEntry s, measureEntry 0 .measured s]
  else [bootEntry s, measureEntry 0 .none s, measureEntry 1 .measured s]

/-! ## The start -/

/-- The faults that Renune finds as it starts (R390, R394, R442, R445). -/
def startFaults (ok : Bool) (s : State) : State :=
  let s := if ok then s else s.raise .halt 236 0 0x07
  let s := if s.boot.berrilOk then s else s.raise .halt 236 0 0x41
  let s := if s.boot.recs.any (·.trialFailed) then s.raise .note 236 0 0x40 else s
  forEach [0, 1, 2, 3] (fun s i => if (s.saf.ilk.getD i {}).latch then s.raise .stop 236 0 (i + 1) else s) s

/-- Renune starts on pair A; `ok` says that the inhibit self-test passed. -/
def renuneStart (ok : Bool) (s : State) : State :=
  if !s.boot.released || s.saf.ctrl != .boot || s.saf.internalReset then s
  else
    let s : State := { s with led := { s.led with boot := (s.led.boot + 1) % 2 ^ 32 }, boot := { s.boot with started := s.io.time } }
    let s : State := { s with
      led := { s.led with queue := bootRecords s ++ s.led.bootCaptures ++ s.led.queue, bootCaptures := [] }
      saf := { s.saf with firstFault := 0, inhTestFail := !ok } }
    let s := layLedger (startBerril s)
    let s := s.setCtrl (if s.thm.latch.isSome then .latched else .idle)
    let s := startFaults ok (startAllLanes s)
    let s := if s.saf.ctrl = .idle ∧ s.pwr.seq = .engineOn ∧ bootWaits s = false then s.moveState .warm else s
    restage s

end Sys2Proof.Machine
end

