-- ==== Sys2Proof/Machine/ExecBase.lean ====
section
/-!
DEFINITION. What every meaning of a row shares: a command is consumed by its hamper, an event acts on the logic that
the internal reset holds or on the logic that runs in every state; and the few events that act on several units.
-/
namespace Sys2Proof.Machine

/-- What a meaning answers. -/
abbrev Answer := Host.Outcome State Fault Refusal

/-- An event of a unit that runs in every state of the power tree: the always-on domain, the clocks, the pins. A cause
that came after its sheet's route decision raises LATE_SPOIL (R213). -/
def anyTime (f : State → State) (s : State) : Answer := .next (lateSpoils (f s))

/-- An event of the logic that the internal reset holds: nothing happens while it is held (assumption 31). -/
def onChip (f : State → State) (s : State) : Answer :=
  .next (if s.saf.internalReset then s else lateSpoils (f s))

/-- BAR0 is reachable: the internal reset is released, or the controller is in BOOT_FAIL, which presents it (R67, R391). -/
def barReachable (s : State) : Bool := !s.saf.internalReset || s.boot.bootFail

/-- An access of the host to BAR0: nothing happens where BAR0 is not reachable (assumption 31). -/
def onBar (f : State → State) (s : State) : Answer :=
  .next (if barReachable s then lateSpoils (f s) else s)

/-- A command of Velov is consumed from its request slot (R33 to R40). -/
def command (op : Op) (f : Frame) (s : State) : Answer := anyTime (consume op f) s

/-! ## Inputs whose level is kept while the internal reset is held -/

/-- An nDRVFLT input (R226). -/
def drvInput (m : Nat) (low : Bool) (s : State) : State :=
  if s.saf.internalReset then s.setMotor m fun x => { x with drvLow := low } else drvFault m low s

/-- A FAULT_GPIO input of axis `i` (R263, R269). -/
def sdInput (i : Nat) (low : Bool) (s : State) : State :=
  if s.saf.internalReset then s.setAxis i fun a => { a with gpioLow := low } else sdDriveFault i low s

/-- Accepted levels of a quadrature input (R270). -/
def qeInput (n : Nat) (a b : Bool) (s : State) : State :=
  if s.saf.internalReset then s.setQe n fun q => { q with a := a, b := b } else qeCount n a b s

/-! ## Events that act on several units -/

/-- A packet of a stream is decrypted; the ACTIVE forwards what it has authenticated, header and text (R97, R458). The
engine completes a packet of the stream that the credits name, and none of another (R96). -/
def decryptAndForward (n : Nat) (s : State) : State :=
  if cryptoNext s ≠ some n then s
  else
    let r := trtDecrypt n s
    match r.2 with
    | some x => if s.pair.role = .active ∧ s.pair.link = true then
        (countForward (32 + x.2.length) r.1).setPair (·.send (.forward (s.strm n).lastPort (x.1.take 32 ++ x.2)))
      else r.1
    | none => r.1

/-- An edge of a probe input: it is latched, and passed to its owner (R209, R265, R281, R282). `held` says that the
level held for PFILT. -/
def probeEdge (k : Nat) (rising held : Bool) (at_ : Nat) (s : State) : State :=
  let owner := probeOwner k s
  let t := latchProbe k rising held (owner != 0) at_ s
  let clean : Bool := held || byteAt (s.prb k).set 1 == 0
  if !clean then t
  else match owner with
    | 3 => homeEdge k rising at_ t
    | 2 => if probeTakes k rising s then
        (List.range 3).foldl (fun t p => if (t.poly p).mode = 1 ∧ (t.poly p).indexPrb = k then indexPulse p t else t) t
      else t
    | 1 => if probeTakes k rising s then regEdge (belt16 t) t else t
    | _ => t

/-! ## Power events -/

/-- The origin of an on request (R427). -/
def onSource : Nat → OnSource
  | 0 => .nwake | 1 => .button | 2 => .cycle | _ => .autoOn

/-- A rail is qualified; the rail of the driver modules starts the lanes (R172, R421). -/
def railUp (n : Nat) (s : State) : State :=
  let was := moduleRail s
  let t := railQualified n s
  if n = 8 ∧ was = false ∧ moduleRail t = true ∧ t.saf.internalReset = false then startAllLanes t else t

/-- Any low level on nPBTN in CLOCK_HOLD is FORCE_OFF (R408). -/
def buttonLow (s : State) : State := if s.saf.ctrl = .clockHold then forceOff s else s

end Sys2Proof.Machine
end

