-- ==== Sys2Proof/Machine/CmdHost.lean ====
section
/-!
DEFINITION. The commands of the host interface, jobs, ledger and intake: one meaning per opcode of groups 0x00
to 0x05. What each does is its row of `specOf`.
-/
namespace Sys2Proof.Machine

/-- CMD_ABORT (R45): Command 0x0180 aborts an outstanding TAG of the same session and hamper, or returns
ALREADY_DONE if the target already posted its final status. -/
def execCmdAbort (f : Frame) (s : State) : Answer := command .cmdAbort f s

/-- EVRING_SET (R52): Command 0x0181 sets, resets, enables or disables the hamper's event ring in host memory. -/
def execEvringSet (f : Frame) (s : State) : Answer := command .evringSet f s

/-- EVENT_ROUTE (R53): Command 0x0182 sets the host sink codes of positions 2 and 3 of one event line. -/
def execEventRoute (f : Frame) (s : State) : Answer := command .eventRoute f s

/-- FAULT_LIST (R451): Query 0x0110 returns the active-fault list with its head into the RBUF buffer. -/
def execFaultList (f : Frame) (s : State) : Answer := command .faultList f s

/-- FAULT_CLEAR (R450): Command 0x0190 removes ended fault entries, releases interlock and STOP latches where
allowed and returns the controller state. -/
def execFaultClear (f : Frame) (s : State) : Answer := command .faultClear f s

/-- SESSION_CHALLENGE (R48): Command 0x0200 reserves a session slot on the hamper and returns a fresh nonce. -/
def execSessionChallenge (f : Frame) (s : State) : Answer := command .sessionChallenge f s

/-- SESSION_OPEN (R49): Command 0x0280 verifies a role-key signature over the nonce and opens a session on the
hamper. -/
def execSessionOpen (f : Frame) (s : State) : Answer := command .sessionOpen f s

/-- SESSION_CLOSE (R47): Command 0x0281 ends the issuing session, letting its outstanding commands complete. -/
def execSessionClose (f : Frame) (s : State) : Answer := command .sessionClose f s

/-- LEDGER_STATUS (R374): Query 0x0300 returns head, held, exported and free-space figures of the ledger. -/
def execLedgerStatus (f : Frame) (s : State) : Answer := command .ledgerStatus f s

/-- LEDGER_READ (R374): Command 0x0301 copies whole stored ledger entries from START into the RBUF buffer and
advances EXPORTED. -/
def execLedgerRead (f : Frame) (s : State) : Answer := command .ledgerRead f s

/-- LEDGER_IDENT (R374): Query 0x0302 returns the ledger public key and its certificate chain. -/
def execLedgerIdent (f : Frame) (s : State) : Answer := command .ledgerIdent f s

/-- LEDGER_SEAL (R374): Command 0x0303 signs the ledger head together with a host nonce with the ledger key. -/
def execLedgerSeal (f : Frame) (s : State) : Answer := command .ledgerSeal f s

/-- LEDGER_RELEASE (R372): Command 0x0380 moves FIRST_HELD past an exported signed checkpoint so that NOR
sectors can be reclaimed. -/
def execLedgerRelease (f : Frame) (s : State) : Answer := command .ledgerRelease f s

/-- TIME_ANCHOR (R364): Command 0x0381 records an AUDITOR time anchor as an ANCHOR entry chained right after its
COMMAND entry. -/
def execTimeAnchor (f : Frame) (s : State) : Answer := command .timeAnchor f s

/-- STREAM_STATUS (R82): Query 0x0400 returns the state, epoch, window and counters of one stream. -/
def execStreamStatus (f : Frame) (s : State) : Answer := command .streamStatus f s

/-- PAGE_STATUS (R98): Query 0x0401 returns the staging report of one page. -/
def execPageStatus (f : Frame) (s : State) : Answer := command .pageStatus f s

/-- PORT_SET (R76): Command 0x0480 sets speed, FEC, VLAN, MTU, UDP port and addresses of an Ethernet port and
retrains its link. -/
def execPortSet (f : Frame) (s : State) : Answer := command .portSet f s

/-- STREAM_OPEN (R101): Command 0x0481 opens a stream with its transport, peer, weight, quota and first key. -/
def execStreamOpen (f : Frame) (s : State) : Answer := command .streamOpen f s

/-- STREAM_REKEY (R81): Command 0x0482 installs the key of the next epoch of a stream. -/
def execStreamRekey (f : Frame) (s : State) : Answer := command .streamRekey f s

/-- STREAM_CLOSE (R94): Command 0x0483 closes a stream, erases its keys and frees its RECEIVING and REJECTED
pages. -/
def execStreamClose (f : Frame) (s : State) : Answer := command .streamClose f s

/-- PAGE_RELEASE (R94): Command 0x0484 frees a page that no sheet needs, rechecking the need at its application
point. -/
def execPageRelease (f : Frame) (s : State) : Answer := command .pageRelease f s

/-- LAUNCH_STATUS (R205): Query 0x0500 returns planned speed, tokens held and launch-gate resources. -/
def execLaunchStatus (f : Frame) (s : State) : Answer := command .launchStatus f s

/-- JOB_STATUS (R201): Query 0x0501 returns the state and counts of one job. -/
def execJobStatus (f : Frame) (s : State) : Answer := command .jobStatus f s

/-- SHEET_GET (R219): Query 0x0502 returns the 512-byte sheet record of one sheet. -/
def execSheetGet (f : Frame) (s : State) : Answer := command .sheetGet f s

/-- JOB_OPEN (R201): Command 0x0580 creates an OPEN job with its profiles, reprint, capture and placement
settings. -/
def execJobOpen (f : Frame) (s : State) : Answer := command .jobOpen f s

/-- SHEET_ADD (R202): Command 0x0581 adds PLANNED sheets to an OPEN job and assigns consecutive SHEET_IDs. -/
def execSheetAdd (f : Frame) (s : State) : Answer := command .sheetAdd f s

/-- JOB_CLOSE (R201): Command 0x0582 makes a job CLOSED so that it accepts no more sheets. -/
def execJobClose (f : Frame) (s : State) : Answer := command .jobClose f s

/-- JOB_HOLD (R203): Command 0x0583 sets or clears the HELD flag that stops admission of a job's sheets. -/
def execJobHold (f : Frame) (s : State) : Answer := command .jobHold f s

/-- SHEET_ABORT (R215): Command 0x0584 withdraws, blanks or spoils a sheet according to its state at the launch
gate. -/
def execSheetAbort (f : Frame) (s : State) : Answer := command .sheetAbort f s

/-- JOB_ABORT (R215): Command 0x0585 closes a job and aborts every non-terminal sheet of it at one ordering
instant. -/
def execJobAbort (f : Frame) (s : State) : Answer := command .jobAbort f s

/-- JOB_RELEASE (R224): Command 0x0586 frees the records and capture sets of an ENDED job. -/
def execJobRelease (f : Frame) (s : State) : Answer := command .jobRelease f s

/-- PATH_SET (R205): Command 0x0587 sets the paper-path geometry, gate tolerance, gap and speed step. -/
def execPathSet (f : Frame) (s : State) : Answer := command .pathSet f s

/-- LAUNCH_CONTROL (R431): Command 0x0588 moves the controller from READY to RUN or from RUN to DRAIN. -/
def execLaunchControl (f : Frame) (s : State) : Answer := command .launchControl f s

end Sys2Proof.Machine
end

