-- ==== Sys2Proof/Machine/CmdImaging.lean ====
section
/-!
DEFINITION. The commands of the stations and Weavers: one meaning per opcode of groups 0x06 and 0x07. What each
does is its row of `specOf`.
-/
namespace Sys2Proof.Machine

/-- SCREEN_INFO (R132): Query 0x0601 returns the state, geometry and threshold hash of a screen slot. -/
def execScreenInfo (f : Frame) (s : State) : Answer := command .screenInfo f s

/-- ECM_READ (R140): Query 0x0602 returns one ECM bank with its zone phase table. -/
def execEcmRead (f : Frame) (s : State) : Answer := command .ecmRead f s

/-- PROFILE_GET (R127): Query 0x0603 returns one imaging profile. -/
def execProfileGet (f : Frame) (s : State) : Answer := command .profileGet f s

/-- SCREEN_LOAD (R148): Command 0x0680 writes a threshold screen into a screen slot, LOADING until its final
status. -/
def execScreenLoad (f : Frame) (s : State) : Answer := command .screenLoad f s

/-- ECM_LOAD (R149): Command 0x0681 writes the inactive ECM bank and zone phases, which sides take from their
next schedule fix. -/
def execEcmLoad (f : Frame) (s : State) : Answer := command .ecmLoad f s

/-- PROFILE_SET (R129): Command 0x0682 writes one imaging profile of a station. -/
def execProfileSet (f : Frame) (s : State) : Answer := command .profileSet f s

/-- LINK_STATUS (R172): Query 0x0604 returns the lane states and module identities of a station. -/
def execLinkStatus (f : Frame) (s : State) : Answer := command .linkStatus f s

/-- APC_READ (R169): Query 0x0605 returns DRIVE, photodiode reading, target and flags of every beam. -/
def execApcRead (f : Frame) (s : State) : Answer := command .apcRead f s

/-- HISTORY_LOAD (R174): Command 0x0683 writes one class of the inactive history bank after copying the others
from the active bank. -/
def execHistoryLoad (f : Frame) (s : State) : Answer := command .historyLoad f s

/-- DELAY_LOAD (R175): Command 0x0684 stores beam delays to be sent before the first sweep of the next fixed
side. -/
def execDelayLoad (f : Frame) (s : State) : Answer := command .delayLoad f s

/-- APC_TARGET (R169): Command 0x0685 sets photodiode targets, gain, step and tolerance for laser power control. -/
def execApcTarget (f : Frame) (s : State) : Answer := command .apcTarget f s

/-- LINK_SET (R172): Command 0x0686 sets lane enables, LPI_MIN and may restart training. -/
def execLinkSet (f : Frame) (s : State) : Answer := command .linkSet f s

/-- POLYGON_SET (R197): Command 0x0780 sets facets, facet mode, belt encoder and limits of a polygon. -/
def execPolygonSet (f : Frame) (s : State) : Answer := command .polygonSet f s

/-- SCAN_SET (R197): Command 0x0781 sets optics, beam-detect and width parameters of a station. -/
def execScanSet (f : Frame) (s : State) : Answer := command .scanSet f s

/-- FACET_LOAD (R188): Command 0x0782 sets the per-facet in-scan delays of a station. -/
def execFacetLoad (f : Frame) (s : State) : Answer := command .facetLoad f s

/-- SCAN_START (R198): Command 0x0783 plans K for a speed and starts or re-plans a polygon, ending DONE when its
Weavers are LOCKED. -/
def execScanStart (f : Frame) (s : State) : Answer := command .scanStart f s

/-- SCAN_STOP (R198): Command 0x0784 stops a polygon and turns its Weavers OFF. -/
def execScanStop (f : Frame) (s : State) : Answer := command .scanStop f s

/-- FACET_LEARN (R199): Command 0x0785 measures 256 revolutions and records a new facet signature. -/
def execFacetLearn (f : Frame) (s : State) : Answer := command .facetLearn f s

/-- SCAN_PLAN (R177): Query 0x0701 reports whether a speed can be planned and with which K and pixel clocks. -/
def execScanPlan (f : Frame) (s : State) : Answer := command .scanPlan f s

end Sys2Proof.Machine
end

