-- ==== Sys2Proof/Machine/CmdMotion.lean ====
section
/-!
DEFINITION. The commands of motors, axes, feedback, loops and heat: one meaning per opcode of groups 0x08 to
0x0C. What each does is its row of `specOf`.
-/
namespace Sys2Proof.Machine

/-- MOTOR_GET (R249): Query 0x0800 returns the parameter set of a motor channel. -/
def execMotorGet (f : Frame) (s : State) : Answer := command .motorGet f s

/-- BUS_GET (R251): Query 0x0801 returns the settings of a bus monitor. -/
def execBusGet (f : Frame) (s : State) : Answer := command .busGet f s

/-- MOTOR_SET (R249): Command 0x0880 loads the parameter set of a motor channel. -/
def execMotorSet (f : Frame) (s : State) : Answer := command .motorSet f s

/-- MOTOR_START (R250): Command 0x0881 starts an auxiliary, belt, drum or fuser-roller channel toward its
setpoint. -/
def execMotorStart (f : Frame) (s : State) : Answer := command .motorStart f s

/-- MOTOR_STOP (R250): Command 0x0882 ramps or coasts a motor channel to OFF. -/
def execMotorStop (f : Frame) (s : State) : Answer := command .motorStop f s

/-- MOTOR_SPEED (R250): Command 0x0883 applies a new setpoint to an auxiliary channel. -/
def execMotorSpeed (f : Frame) (s : State) : Answer := command .motorSpeed f s

/-- MOTOR_CLEAR (R250): Command 0x0884 moves a motor channel from FAULT to OFF once its cause is gone. -/
def execMotorClear (f : Frame) (s : State) : Answer := command .motorClear f s

/-- BUS_SET (R251): Command 0x0885 sets bus thresholds and chopper parameters and clears CHOP_FAULT and
CHOP_HOT. -/
def execBusSet (f : Frame) (s : State) : Answer := command .busSet f s

/-- AXIS_GET (R269): Query 0x0900 returns an axis's settings, position, velocity and load angle. -/
def execAxisGet (f : Frame) (s : State) : Answer := command .axisGet f s

/-- AXIS_SET (R268): Command 0x0980 loads the parameter set of an axis. -/
def execAxisSet (f : Frame) (s : State) : Answer := command .axisSet f s

/-- AXIS_ENABLE (R269): Command 0x0981 moves an axis between OFF and HOLD. -/
def execAxisEnable (f : Frame) (s : State) : Answer := command .axisEnable f s

/-- AXIS_MOVE (R259): Command 0x0982 queues 1 to 16 segments of a planned move on a HOST axis in HOLD. -/
def execAxisMove (f : Frame) (s : State) : Answer := command .axisMove f s

/-- AXIS_STOP (R264): Command 0x0983 decelerates an axis to rest and empties its queue. -/
def execAxisStop (f : Frame) (s : State) : Answer := command .axisStop f s

/-- AXIS_HOME (R265): Command 0x0984 moves an axis to a probe edge and sets its home position. -/
def execAxisHome (f : Frame) (s : State) : Answer := command .axisHome f s

/-- AXIS_CLEAR (R269): Command 0x0985 moves an axis from FAULT to OFF once its cause is gone. -/
def execAxisClear (f : Frame) (s : State) : Answer := command .axisClear f s

/-- FB_GET (R287): Query 0x0A00 returns the setting payload of a feedback unit. -/
def execFbGet (f : Frame) (s : State) : Answer := command .fbGet f s

/-- PRB_READ (R282): Query 0x0A01 drains up to 8 latches from an unowned probe FIFO. -/
def execPrbRead (f : Frame) (s : State) : Answer := command .prbRead f s

/-- QE_SET (R287): Command 0x0A80 configures a quadrature input. -/
def execQeSet (f : Frame) (s : State) : Answer := command .qeSet f s

/-- SE_SET (R275): Command 0x0A81 configures a serial encoder port. -/
def execSeSet (f : Frame) (s : State) : Answer := command .seSet f s

/-- PRB_SET (R281): Command 0x0A82 sets edge polarity, filter and source counter of a probe. -/
def execPrbSet (f : Frame) (s : State) : Answer := command .prbSet f s

/-- CMP_SET (R284): Command 0x0A83 writes a host compare unit and evaluates BEHIND for LATE_FIRE or NEXT_REV. -/
def execCmpSet (f : Frame) (s : State) : Answer := command .cmpSet f s

/-- POS_SET (R285): Command 0x0A84 sets a feedback counter, clears POS_BAD and disarms its compares. -/
def execPosSet (f : Frame) (s : State) : Answer := command .posSet f s

/-- FB_CLEAR (R277): Command 0x0A85 clears a feedback unit's fault and returns a READY serial port from
FALLBACK. -/
def execFbClear (f : Frame) (s : State) : Answer := command .fbClear f s

/-- LOOP_GET (R301): Query 0x0B00 returns a loop descriptor. -/
def execLoopGet (f : Frame) (s : State) : Answer := command .loopGet f s

/-- LOOP_LOAD (R289): Query 0x0B01 returns the worst-tick cost and the number of loops holding descriptors. -/
def execLoopLoad (f : Frame) (s : State) : Answer := command .loopLoad f s

/-- LOOP_SET (R301): Command 0x0B80 loads a loop descriptor after checking assignments, cascades and the tick
budget. -/
def execLoopSet (f : Frame) (s : State) : Answer := command .loopSet f s

/-- LOOP_START (R296): Command 0x0B81 starts a loop bumplessly from its measured value, ending DONE in
REGULATING. -/
def execLoopStart (f : Frame) (s : State) : Answer := command .loopStart f s

/-- LOOP_STOP (R297): Command 0x0B82 moves a loop to OUT_SAFE and OFF, slewed or at once. -/
def execLoopStop (f : Frame) (s : State) : Answer := command .loopStop f s

/-- LOOP_SP (R301): Command 0x0B83 sets a loop setpoint at its next period. -/
def execLoopSp (f : Frame) (s : State) : Answer := command .loopSp f s

/-- LOOP_CLEAR (R301): Command 0x0B84 clears sticky flags and moves a loop from FAULT to OFF. -/
def execLoopClear (f : Frame) (s : State) : Answer := command .loopClear f s

/-- THERMAL_GET (R316): Query 0x0C00 returns the settings of a zone, thermistor or the die. -/
def execThermalGet (f : Frame) (s : State) : Answer := command .thermalGet f s

/-- ZONE_SET (R316): Command 0x0C80 configures and enables or disables a fuser zone. -/
def execZoneSet (f : Frame) (s : State) : Answer := command .zoneSet f s

/-- TH_SET (R306): Command 0x0C81 configures a thermistor's source, zone, curve and offset. -/
def execThSet (f : Frame) (s : State) : Answer := command .thSet f s

/-- CURVE_LOAD (R306): Command 0x0C82 loads a thermistor conversion curve. -/
def execCurveLoad (f : Frame) (s : State) : Answer := command .curveLoad f s

/-- DIE_SET (R314): Command 0x0C83 sets the die throttling threshold, step, dwell and release time. -/
def execDieSet (f : Frame) (s : State) : Answer := command .dieSet f s

/-- THERMAL_CLEAR (R312): Command 0x0C84 clears a zone or die fault once its cause is gone, never OVERTEMP. -/
def execThermalClear (f : Frame) (s : State) : Answer := command .thermalClear f s

end Sys2Proof.Machine
end

