-- ==== Sys2Proof/Machine/CmdSystem.lean ====
section
/-!
DEFINITION. The commands of the ring, power, clocks, pair, background services and trust: one meaning per opcode
of groups 0x0D to 0x13. What each does is its row of `specOf`.
-/
namespace Sys2Proof.Machine

/-- RIM_STATUS (R344): Query 0x0D00 returns the ring mirror words. -/
def execRimStatus (f : Frame) (s : State) : Answer := command .rimStatus f s

/-- NODE_GET (R344): Query 0x0D01 returns a node's status, ident and last DELTA. -/
def execNodeGet (f : Frame) (s : State) : Answer := command .nodeGet f s

/-- NODE_READ (R344): Command 0x0D02 reads a node parameter through its mailbox. -/
def execNodeRead (f : Frame) (s : State) : Answer := command .nodeRead f s

/-- RIM_CONFIG (R328): Command 0x0D80 stores the ring topology to apply at the next enumeration. -/
def execRimConfig (f : Frame) (s : State) : Answer := command .rimConfig f s

/-- NODE_WRITE (R345): Command 0x0D81 writes a node parameter through its mailbox. -/
def execNodeWrite (f : Frame) (s : State) : Answer := command .nodeWrite f s

/-- RIM_ENUM (R327): Command 0x0D82 re-enumerates and configures the ring, ending DONE in RUN. -/
def execRimEnum (f : Frame) (s : State) : Answer := command .rimEnum f s

/-- POWER_STATUS (R435): Query 0x0E00 returns the power mirror words. -/
def execPowerStatus (f : Frame) (s : State) : Answer := command .powerStatus f s

/-- RAIL_GET (R435): Query 0x0E01 returns the parameter set in force of a rail slot. -/
def execRailGet (f : Frame) (s : State) : Answer := command .railGet f s

/-- RAIL_SET (R420): Command 0x0E80 stores rail slot parameters in MRAM for the next enable. -/
def execRailSet (f : Frame) (s : State) : Answer := command .railSet f s

/-- POWER_SET (R435): Command 0x0E81 stores sequencer parameters in MRAM. -/
def execPowerSet (f : Frame) (s : State) : Answer := command .powerSet f s

/-- ENGINE_POWER (R430): Command 0x0E82 starts or powers down the engine phase of the rails. -/
def execEnginePower (f : Frame) (s : State) : Answer := command .enginePower f s

/-- POWER_CONTROL (R435): Command 0x0E83 issues an off request, a power cycle or a controller reset. -/
def execPowerControl (f : Frame) (s : State) : Answer := command .powerControl f s

/-- CLOCK_STATUS (R417): Query 0x0F00 returns the clock mirror words. -/
def execClockStatus (f : Frame) (s : State) : Answer := command .clockStatus f s

/-- CLOCK_SET (R417): Command 0x0F80 stores REF_MODE, XTAL_MODE and XTAL_START_MAX in the always-on domain. -/
def execClockSet (f : Frame) (s : State) : Answer := command .clockSet f s

/-- CLOCK_OUT_SET (R416): Command 0x0F81 reconfigures a CKO output glitch-free. -/
def execClockOutSet (f : Frame) (s : State) : Answer := command .clockOutSet f s

/-- PAIR_STATUS (R471): Query 0x1100 returns the pair mirror words. -/
def execPairStatus (f : Frame) (s : State) : Answer := command .pairStatus f s

/-- PAIR_SET (R471): Command 0x1180 stores PEER_SERIAL and pairing enable for the next reset. -/
def execPairSet (f : Frame) (s : State) : Answer := command .pairSet f s

/-- PAIR_HANDOVER (R462): Command 0x1181 makes the ACTIVE send DECLARE so that the FIT STANDBY takes over at T. -/
def execPairHandover (f : Frame) (s : State) : Answer := command .pairHandover f s

/-- BG_STATUS (R386): Query 0x1200 returns the background mirror words. -/
def execBgStatus (f : Frame) (s : State) : Answer := command .bgStatus f s

/-- TELEMETRY_READ (R385): Query 0x1201 returns telemetry records from a START SEQ. -/
def execTelemetryRead (f : Frame) (s : State) : Answer := command .telemetryRead f s

/-- LIFE_GET (R383): Query 0x1202 returns the life counters. -/
def execLifeGet (f : Frame) (s : State) : Answer := command .lifeGet f s

/-- BG_SET (R386): Command 0x1280 sets Rambler job periods, CE_WARN and AGE_WARN. -/
def execBgSet (f : Frame) (s : State) : Answer := command .bgSet f s

/-- BOOT_STATUS (R399): Query 0x1300 returns lifecycle, slots, versions, rollback counters and boot count. -/
def execBootStatus (f : Frame) (s : State) : Answer := command .bootStatus f s

/-- FW_STAGE (R398): Command 0x1380 programs image bytes into the inactive slot of its kind. -/
def execFwStage (f : Frame) (s : State) : Answer := command .fwStage f s

/-- FW_ACTIVATE (R398): Command 0x1381 verifies a staged image and sets it as the trial slot, optionally
resetting. -/
def execFwActivate (f : Frame) (s : State) : Answer := command .fwActivate f s

/-- FW_COMMIT (R398): Command 0x1382 makes the trial slot PRIMARY and raises the rollback counter. -/
def execFwCommit (f : Frame) (s : State) : Answer := command .fwCommit f s

/-- LIFECYCLE_SET (R395): Command 0x1383 moves the lifecycle forward and burns OTP. -/
def execLifecycleSet (f : Frame) (s : State) : Answer := command .lifecycleSet f s

/-- DEBUG_UNLOCK (R397): Command 0x1384 opens the debug port to EXTEST and processor debug. -/
def execDebugUnlock (f : Frame) (s : State) : Answer := command .debugUnlock f s

/-- DEBUG_LOCK (R397): Command 0x1385 closes the debug port. -/
def execDebugLock (f : Frame) (s : State) : Answer := command .debugLock f s

/-- CAL_RESULT (R223): Query 0x1400 returns the calibration proposal that is held. -/
def execCalResult (f : Frame) (s : State) : Answer := command .calResult f s

/-- CAL_RUN (R220): Command 0x1480 prints registration or density calibration sheets and reads their marks
through sensor nodes. -/
def execCalRun (f : Frame) (s : State) : Answer := command .calRun f s

/-- CAL_APPLY (R223): Command 0x1481 writes the held calibration proposals as recorded REG_SET, ECM_LOAD and
APC_TARGET changes. -/
def execCalApply (f : Frame) (s : State) : Answer := command .calApply f s

/-- REG_SET (R223): Command 0x1482 sets REG_Y16 and REG_X64 of one station. -/
def execRegSet (f : Frame) (s : State) : Answer := command .regSet f s

end Sys2Proof.Machine
end

