-- ==== Sys2Proof/Machine/ExecControl.lean ====
section
/-!
DEFINITION. Events of the closed-loop engine and the thermal unit (chapters 13 and 14).
-/
namespace Sys2Proof.Machine

/-- LOOP_TICK (R288): Every 12.5 us the engine runs the due loops in ascending order. -/
def execLoopTick (ain : List (BitVec 16)) (late : List Nat) (s : State) : Answer :=
  onChip (loopTick ain late) s

/-- ZERO_CROSS (R303): A mains zero crossing decides whether a heater zone fires in the next half-cycle. -/
def execZeroCross (zc : Fin 2) (s : State) : Answer :=
  onChip (zeroCross zc.val) s

/-- MODEL_STEP (R305): Every 1 ms a zone's thermal model steps and Tm is compared with T_SHUT. -/
def execModelStep (z : Fin 8) (load : Bool) (s : State) : Answer :=
  onChip (modelStep z.val load) s

/-- THERMISTOR_SAMPLE (R307): A thermistor sample is compared with T_SHUT and classified for exclusion or
readmission. -/
def execThermistorSample (j : Fin 24) (raw : BitVec 16) (s : State) : Answer :=
  onChip (thermistorSample j.val raw.toNat) s

/-- POWER_LOST (R304): No power-node value for 20 ms faults the zone. -/
def execPowerLost (z : Fin 8) (s : State) : Answer :=
  onChip (powerLost z.val) s

/-- ZC_LOST (R304): No zero-crossing edge for 15 ms faults the zone. -/
def execZcLost (z : Fin 8) (s : State) : Answer :=
  onChip (zcLost z.val) s

/-- HEATER_OPEN (R304): Firing over 2 s with too little measured power faults the zone. -/
def execHeaterOpen (z : Fin 8) (s : State) : Answer :=
  onChip (heaterOpen z.val) s

/-- RELAY_STUCK (R304): Power measured while not fired for 200 ms raises a CUTOFF-class fault. -/
def execRelayStuck (z : Fin 8) (s : State) : Answer :=
  onChip (relayStuck z.val) s

/-- MODEL_STALL (R304): A model not updated for 10 ms drives HTR0 to HTR7 low in hardware. -/
def execModelStall (z : Fin 8) (s : State) : Answer :=
  onChip (modelStall z.val) s

/-- THROTTLE_DWELL (R309): Every THR_DWELL a zone lowers or raises P_LIM by one step. -/
def execThrottleDwell (z : Fin 8) (s : State) : Answer :=
  onChip (throttle z.val) s

/-- FAST_SAMPLING_END (R306): After 1 s below the fast threshold a zone returns to T_NORM sampling. -/
def execFastSamplingEnd (z : Fin 8) (s : State) : Answer :=
  onChip (fastEnd z.val) s

/-- MODEL_ONLY_TIMEOUT (R308): A zone MODEL_ONLY for MODEL_ONLY_MAX faults with NO_SENSOR. -/
def execModelOnlyTimeout (z : Fin 8) (s : State) : Answer :=
  onChip (modelOnlyTimeout z.val) s

/-- DIE_SENSOR_READ (R313): The four die sensors are read every 1 ms, possibly tripping DIE_SHUT. -/
def execDieSensorRead (d0 d1 d2 d3 : Int) (s : State) : Answer :=
  onChip (dieRead [d0, d1, d2, d3]) s

/-- DIE_THROTTLE_STEP (R314): T_die at or below threshold for the dwell lowers or raises V_PERM by one step. -/
def execDieThrottleStep (s : State) : Answer :=
  onChip (dieThrottle) s

/-- DIE_HOT (R315): T_die above 110 C for 1 s raises the HALT-class fault DIE_HOT. -/
def execDieHot (s : State) : Answer :=
  onChip (dieHot) s

end Sys2Proof.Machine
end

