-- ==== Sys2Proof/Machine/ExecFaults.lean ====
section
/-!
DEFINITION. Events of faults, interlocks, the supervisors and the background services (chapters 01, 18 and 22).
-/
namespace Sys2Proof.Machine

/-- INTERLOCK_INPUT (R442): An interlock input low for 20 ns sets its latch, asserts the inhibit and raises its
STOP-class fault. -/
def execInterlockInput (i : Fin 4) (s : State) : Answer :=
  anyTime (interlockInput i.val) s

/-- INTERLOCK_INPUT_RELEASE (R442): An interlock input returns high, changing ILK_STAT.INPUTS, pulsing EV238 and
starting its 10 ms high time. -/
def execInterlockInputRelease (i : Fin 4) (s : State) : Answer :=
  anyTime (interlockRelease i.val) s

/-- LOCKSTEP (R10): A lockstep mismatch or uncorrectable error in a supervisor pair raises HALT. -/
def execLockstep (pair : Fin 2) (ue : Bool) (s : State) : Answer :=
  onChip (lockstep pair ue) s

/-- SRAM_UE (R14): An uncorrectable SRAM error is found and handled by region. -/
def execSramUe (region : SramRegion) (s : State) : Answer :=
  onChip (sramUe region) s

/-- RAMBLER_WINDOW (R375): A new 10 ms window of pair B restores the Rambler time budget. -/
def execRamblerWindow (want : Nat) (s : State) : Answer :=
  onChip (ramblerWindow want) s

/-- SRAM_SCRUB (R377): Rambler job 1 scrubs SRAM regions, correcting and reporting errors. -/
def execSramScrub (errs : List SramErr) (s : State) : Answer :=
  onChip (sramScrub errs) s

/-- DRAM_SCRUB (R377): Rambler job 2 scrubs DRAM and retires granules. -/
def execDramScrub (errs : List DramErr) (s : State) : Answer :=
  onChip (dramScrub errs) s

/-- ADC_CAL (R380): Rambler job 3 calibrates the SAR converters. -/
def execAdcCal (coeffs : List (Nat × Int × Int)) (s : State) : Answer :=
  onChip (adcCal coeffs) s

/-- PPLL_CAL (R380): Rambler job 4 measures the pixel synthesiser taps. -/
def execPpllCal (i : Fin 5) (taps : List (Nat × Int)) (s : State) : Answer :=
  onChip (ppllCal i.val taps) s

/-- BG_APPLY (R381): A completed calibration pass applies its coefficients as one recorded change 0x1281. -/
def execBgApply (i : Option (Fin 5)) (s : State) : Answer :=
  onChip (bgApply i) s

/-- NOR_WEAR (R382): Rambler job 5 tracks sector erase counts and retires worn sectors. -/
def execNorWear (s : State) : Answer :=
  onChip (norWear) s

/-- LIFE (R383): Rambler job 6 updates the life counters. -/
def execLife (_ : Unit) (s : State) : Answer :=
  onChip (lifeUpdate) s

/-- LASER_TREND (R384): Rambler job 7 fits drive slopes and projects laser ageing. -/
def execLaserTrend (_ : Unit) (s : State) : Answer :=
  onChip laserTrend s

/-- TELEMETRY (R385): Rambler job 8 writes telemetry records and pulses EV248. -/
def execTelemetry (kinds : List (Fin 6)) (s : State) : Answer :=
  onChip (telemetryBatch kinds) s

end Sys2Proof.Machine
end

