-- ==== Sys2Proof/Machine/ExecFeedback.lean ====
section
/-!
DEFINITION. Events of position feedback and probes (chapter 12).
-/
namespace Sys2Proof.Machine

/-- QE_COUNT (R270): A quadrature input accepts a level change and counts, evaluating its compares. -/
def execQeCount (n : Fin 8) (a b : Bool) (s : State) : Answer :=
  anyTime (qeInput n.val a b) s

/-- WIRE_DISAGREE (R272): A QE pair in disagreement for WIRE_T stops counting and faults with WIRE. -/
def execWireDisagree (n : Fin 8) (pair : Fin 3) (s : State) : Answer :=
  onChip (wireChange n.val pair.val true) s

/-- WIRE_AGREE (R272): A disagreeing QE pair agrees again for WIRE_T and resumes counting. -/
def execWireAgree (n : Fin 8) (pair : Fin 3) (s : State) : Answer :=
  onChip (wireChange n.val pair.val false) s

/-- INDEX_EDGE (R274): A qualified Z edge indexes or corrects the counter, or faults IDX_ERR. -/
def execIndexEdge (n : Fin 8) (s : State) : Answer :=
  onChip (indexEdge n.val) s

/-- SE_READ (R276): A serial encoder port reads its encoder and adds d, extrapolates or falls back. -/
def execSeRead (n : Fin 4) (r : Option SeRead) (s : State) : Answer :=
  onChip (seRead n.val (r.map fun x => (x.raw, x.nE, x.nW, x.crc, x.delay))) s

/-- SPEED_WINDOW_END (R280): A feedback unit's speed window ends and reports NET, SPEED, DIRCHG and SETTLING. -/
def execSpeedWindowEnd (u : Fin 12) (s : State) : Answer :=
  onChip (windowEnd u.val) s

/-- PROBE_EDGE (R281): A probe latches an edge with TIME64 and its counter into its FIFO or its owner. -/
def execProbeEdge (k : Fin 8) (rising held : Bool) (at_ : Nat) (s : State) : Answer :=
  onChip (probeEdge k.val rising held at_) s

end Sys2Proof.Machine
end

