-- ==== Sys2Proof/Machine/ExecHost.lean ====
section
/-!
DEFINITION. Events of the host interface: doorbells, ring indices, guarded registers, windows, DMA rings,
sessions and mirrors (chapters 02, 03 and 16).
-/
namespace Sys2Proof.Machine

/-- SESSION_IDLE_END (R47): Expiry of SESS_IDLE with no outstanding command ends the session and records a
COMMAND entry of origin 0x03. -/
def execSessionIdleEnd (slot : Fin 16) (s : State) : Answer :=
  onChip (sessionIdle slot.val) s

/-- NONCE_EXPIRY (R48): A hamper's nonce becomes invalid 10 s after its challenge. -/
def execNonceExpiry (n : Fin 8) (s : State) : Answer :=
  onChip (nonceExpiry n.val) s

/-- HAMPER_DOORBELL (R32): A write to HnDB sets the request producer index, or is refused with DBERR. -/
def execHamperDoorbell (n : Fin 8) (v : Word) (s : State) : Answer :=
  onBar (doorbell n.val v.toNat) s

/-- RESPONSE_CONSUMER_WRITE (R72): A write to HnRSP_CONS releases response slots, letting waiting responses
post. -/
def execResponseConsumerWrite (n : Fin 8) (v : Word) (s : State) : Answer :=
  onBar (responseConsumer n.val v.toNat) s

/-- EVENT_CONSUMER_WRITE (R72): A write to HnEVR_CONS releases event-ring entries, letting a LOST entry and
waiting COMPLETIONs post. -/
def execEventConsumerWrite (n : Fin 8) (v : Word) (s : State) : Answer :=
  onBar (eventConsumer n.val v.toNat) s

/-- COMPLETION_POSTED (R43): A long-running command reaches its final status and posts a COMPLETION or second
response slot. -/
def execCompletionPosted (s : State) : Answer :=
  onChip (postCompletion) s

/-- EV_PEND_CLEAR (R61): A write of 1 to an EV_PEND bit clears PENDING and the line's counter unless an event
hits in the same cycle. -/
def execEvPendClear (i : Fin 8) (mask hit : Word) (s : State) : Answer :=
  onBar (pendClear i.val mask.toNat hit.toNat) s

/-- KEY_UNLOCK_WRITE (R62): A write to DMA_UNLOCK or SVC_UNLOCK opens or relocks a guarded block. -/
def execKeyUnlockWrite (b : Block) (v : Word) (s : State) : Answer :=
  onBar (unlockWrite b v.toNat) s

/-- DMA_SETUP_WRITE (R73): An RWK write to DnBASE_LO, DnBASE_HI or DnCFG is captured and held until its ledger
entry is in MRAM. -/
def execDmaSetupWrite (r : Fin 8) (reg : DmaReg) (v : Word) (w : Writer) (s : State) : Answer :=
  onBar (setupWrite r reg v.toNat w) s

/-- RWK_WRITE_APPLY (R66): A held RWK write applies once its ledger entry is in MRAM, or is discarded with
NOTREC. -/
def execRwkWriteApply (b : Block) (s : State) : Answer :=
  onChip (applyHeld b) s

/-- HALT_REQ (R67): Writing 1 to SVC_CMD.HALT_REQ raises the HALT-class fault HOST_HALT within 1 us. -/
def execHaltReq (w : Writer) (s : State) : Answer :=
  onBar (svcCmdWrite 1 w) s

/-- STOP_REQ (R67): Writing 1 to SVC_CMD.STOP_REQ raises the STOP-class fault HOST_STOP within 1 us. -/
def execStopReq (halt : Bool) (w : Writer) (s : State) : Answer :=
  onBar (svcCmdWrite (if halt then 3 else 2) w) s

/-- INH_FORCE_SET (R67): Setting SVC_INH.INH_FORCE asserts the internal inhibit at once as a protective write. -/
def execInhForceSet (w : Writer) (s : State) : Answer :=
  onBar (svcInhWrite 1 w) s

/-- INH_FORCE_CLEAR (R74): Clearing SVC_INH.INH_FORCE removes the forced cause after its ledger entry. -/
def execInhForceClear (w : Writer) (s : State) : Answer :=
  onBar (svcInhWrite 0 w) s

/-- DMA_RING_DOORBELL (R350): Writing DnDB.RING starts, wakes or resumes a DMA ring. -/
def execDmaRingDoorbell (r : Fin 8) (s : State) : Answer :=
  onBar (doorbellWrite r.val) s

/-- DMA_STOP (R354): Writing DnDB.STOP halts a ring at the next descriptor boundary. -/
def execDmaStop (r : Fin 8) (s : State) : Answer :=
  onBar (stopWrite r.val) s

/-- DESCRIPTOR_FETCH (R350): A running ring reads a descriptor and executes it or stops on OWN 0. -/
def execDescriptorFetch (r : Fin 8) (d : Option Bytes) (rd : DmaRead) (s : State) : Answer :=
  onChip (descFetch r.val d rd) s

/-- DESCRIPTOR_COMPLETE (R352): A descriptor's writes are acknowledged; OWN is returned and its event may pulse. -/
def execDescriptorComplete (r : Fin 8) (ok : Bool) (s : State) : Answer :=
  onChip (descComplete r.val ok) s

/-- GENERAL_ENGINE_JOB (R124): The general engine completes a COMPRESS, DECOMPRESS or CHECK job and writes its
result record. -/
def execGeneralEngineJob (badCoded badRaw : List Nat) (s : State) : Answer :=
  onChip (generalJob badCoded badRaw) s

/-- SNAPSHOT_SELECT (R69): A write to SWw_SEL captures the selected wide value and TIME64 in one cycle. -/
def execSnapshotSelect (w : Fin 4) (v : Word) (s : State) : Answer :=
  onBar (snapSelect w.val v.toNat) s

/-- SNAPSHOT_LAST_READ (R69): Reading data word LEN minus 1 of a snapshot window clears VALID. -/
def execSnapshotLastRead (w : Fin 4) (s : State) : Answer :=
  onBar (snapRead w.val) s

/-- PARTIAL_WIDTH_WRITE (R57): A BAR0 register write without all byte enables is ignored and counted in
SYS_REGERR.PARTIAL. -/
def execPartialWidthWrite (s : State) : Answer :=
  onBar (partialWrite) s

/-- REGISTER_WRITE (R60): A write to any register without a row of its own acts by its register type. -/
def execRegisterWrite (offset : BitVec 20) (v : Word) (x : Access) (s : State) : Answer :=
  onBar (barWrite offset.toNat v.toNat x.be.toNat x.writer) s

/-- HOST_INTERFACE_RESET (R30): FLR or nPERST resets the host interface, closes sessions, empties hampers and
halts DMA rings. -/
def execHostInterfaceReset (s : State) : Answer :=
  onChip (hostReset) s

/-- UNKNOWN_OPCODE (R40): A consumed command frame whose opcode is not known for interface 2.4, including the
package-only opcodes, fails with BAD_OPCODE. -/
def execUnknownOpcode (opcode : BitVec 16) (f : Frame) (s : State) : Answer :=
  anyTime (consumeUnknown opcode.toNat f) s

/-- MIRROR_REFRESH (R75): The updater of a mirror block brackets its writes with an odd and then an even GEN
value, on its period or on change. -/
def execMirrorRefresh (block : BitVec 20) (s : State) : Answer :=
  onChip (mirrorRefresh block.toNat) s

end Sys2Proof.Machine
end

