-- ==== Sys2Proof/Machine/ExecImaging.lean ====
section
/-!
DEFINITION. Events of the stations, the beam link and the Weavers (chapters 05 to 08).
-/
namespace Sys2Proof.Machine

/-- BAND_DECODE_DONE (R112): A station decoder finishes a band and releases its 64 lines, or passes an absence
mark. -/
def execBandDecodeDone (i : Fin 5) (ecc : Bool) (s : State) : Answer :=
  onChip (fun s => if ecc then restage (bandDone i.val ecc s) else bandDone i.val ecc s) s

/-- BD_EDGE (R181): An edge on BDs is accepted as the facet's edge or counted as stray. -/
def execBdEdge (i : Fin 5) (t : Nat) (e : BdLevel) (s : State) : Answer :=
  onChip (sweepMirror i.val (bdEdge i.val t e.rising e.hold)) s

/-- BD_WINDOW_CLOSE (R182): A BD window closes with no valid edge and the Weaver bridges or aborts the sweep. -/
def execBdWindowClose (i : Fin 5) (s : State) : Answer :=
  onChip (sweepMirror i.val (bdWindowClose i.val)) s

/-- NOMINAL_SWEEP_START (R184): Outside LOCKED after a lock, a sweep start occurs every T_NOM and is aborted. -/
def execNominalSweepStart (i : Fin 5) (s : State) : Answer :=
  onChip (sweepMirror i.val (nominalStart i.val)) s

/-- BD_LIGHT_SEND (R179): The Weaver sends BD_LIGHT on the BD lane 1 us before the predicted edge. -/
def execBdLightSend (i : Fin 5) (s : State) : Answer :=
  onChip (bdLightSend i.val) s

/-- ACQUIRE_RETRY (R185): In ACQUIRE with no valid edge, the Weaver retries after 100 ms and faults at the tenth
failure. -/
def execAcquireRetry (i : Fin 5) (s : State) : Answer :=
  onChip (acquireRetry i.val) s

/-- SWEEP_START_SEND (R161): The exposure stage sends SWEEP_START and groups 0 to 2 on each UP lane before S_0. -/
def execSweepStartSend (i : Fin 5) (late : List Nat) (s : State) : Answer :=
  onChip (sweepSend i.val late) s

/-- SLOT_GROUP_SEND (R164): The exposure stage sends a slot group at its instant, as zeros if incomplete. -/
def execSlotGroupSend (i : Fin 5) (complete : Bool) (s : State) : Answer :=
  onChip (sendGroup i.val complete) s

/-- SWEEP_END (R163): After the last strobe edge the stage sends SWEEP_END with CRC and STROBED, and ends the
side after its last sweep. -/
def execSweepEnd (i : Fin 5) (strobed : Nat) (badCoded badRaw : List Nat) (ecc : Bool) (s : State) : Answer :=
  onChip (sweepEnd i.val strobed badCoded badRaw ecc) s

/-- APC_EXCHANGE (R169): In blanking the station sends APC_MEASURE to all four modules, or skips the exchange. -/
def execApcExchange (i : Fin 5) (fits : Bool) (s : State) : Answer :=
  onChip (apcExchange i.val fits) s

/-- STATUS_ROUND (R168): After each sweep the stage polls STATUS from modules 0 to 3. -/
def execStatusRound (i : Fin 5) (s : State) : Answer :=
  onChip (statusRound i.val) s

/-- BACKCHANNEL_FRAME_RX (R168): A back-channel frame arrives and yields spoil causes, APC drive updates or
training progress. -/
def execBackchannelFrameRx (i : Fin 5) (frame : Bytes) (s : State) : Answer :=
  onChip (frameRx i.val frame) s

/-- BACKCHANNEL_TIMEOUT (R167): No valid frame arrives within 2 us and the stage re-polls once or posts
BK_MISSING. -/
def execBackchannelTimeout (i : Fin 5) (s : State) : Answer :=
  onChip (frameAbsent i.val) s

/-- LANE_TRAINING_TIMEOUT (R172): A lane training phase times out, advancing to IDENT or failing the attempt. -/
def execLaneTrainingTimeout (i : Fin 5) (m : Fin 4) (s : State) : Answer :=
  onChip (laneTimeout i.val m.val) s

/-- LANE_LPI_ENTER (R173): With no sweep due within LPI_MIN, the station sends LPI_ENTER and turns off non-BD
lanes. -/
def execLaneLpiEnter (i : Fin 5) (s : State) : Answer :=
  onChip (lpiEnter i.val) s

/-- LANE_WAKE (R173): WAKE_LEAD before a scheduled sweep, lanes leave LPI and must relock within 20 us. -/
def execLaneWake (i : Fin 5) (s : State) : Answer :=
  onChip (laneWake i.val) s

/-- DELAY_SET_SEND (R175): The station sends the loaded delays as DELAY_SET in the blanking before a new side. -/
def execDelaySetSend (i : Fin 5) (s : State) : Answer :=
  onChip (delaySend i.val) s

/-- SCAN_START_TIMEOUT (R198): 60 s after SCAN_START with its Weavers not LOCKED, the command's final status is
TIMEOUT. -/
def execScanStartTimeout (p : Fin 3) (s : State) : Answer :=
  onChip (fun s => s.finish .scanStart p.val stTimeout 0) s

end Sys2Proof.Machine
end

