-- ==== Sys2Proof/Machine/ExecIntake.lean ====
section
/-!
DEFINITION. Events of raster intake and the Ethernet ports (chapter 04).
-/
namespace Sys2Proof.Machine

/-- ETH_FRAME_RX (R76): A port receives a frame and drops it or passes it to intake, PTP or Renune. -/
def execEthFrameRx (port : Fin 2) (fcsOk : Bool) (frame : Bytes) (s : State) : Answer :=
  onChip (fun s => ethReceive port.val fcsOk (!s.shadow) frame s) s

/-- ETH_LINK_CHANGE (R77): A port's Ethernet link goes down or up. -/
def execEthLinkChange (port : Fin 2) (up : Bool) (s : State) : Answer :=
  onChip (fun s => s.setPort port.val fun p => { p with link := up }) s

/-- TRT_PACKET_DECRYPTED (R83): Crypto completes on a queued packet, which is authenticated, marked and applied
to its page. -/
def execTrtPacketDecrypted (st : Fin 256) (s : State) : Answer :=
  onChip (decryptAndForward st.val) s

/-- NACK_DUE (R85): A gap reaches NACK_DELAY or NACK_REPEAT and is requested in a NACK, possibly making the
stream BROKEN. -/
def execNackDue (st : Fin 256) (seqs : List Nat) (s : State) : Answer :=
  onChip (nackDue st.val seqs) s

/-- ACK_SEND (R86): The controller sends an ACK at ACK_INTERVAL or after a page state change. -/
def execAckSend (st : Fin 256) (s : State) : Answer :=
  onChip (ackSend st.val) s

/-- PCIE_STREAM_GAP_TIMEOUT (R88): A gap lasting 100 ms on a PCIe stream makes it BROKEN. -/
def execPcieStreamGapTimeout (st : Fin 256) (s : State) : Answer :=
  onChip (pcieGap st.val) s

/-- PAGE_VERIFY_DONE (R90): The verification read of a fully received page ends and makes it COMPLETE or
REJECTED. -/
def execPageVerifyDone (st : Fin 256) (page : Word) (ecc : Bool) (s : State) : Answer :=
  onChip (fun s => stagingCheck (restage (verifyPage st.val page.toNat ecc s))) s

/-- PTP_MASTER_LOST (R100): Loss of the PTP master raises a NOTE-class fault. -/
def execPtpMasterLost (s : State) : Answer :=
  onChip (ptpLost) s

/-- PTP_ANCHOR_DUE (R364): ANCHOR_INTERVAL expires or the prediction errs by more than 1 us and Renune writes a
PTP anchor. -/
def execPtpAnchorDue (sec ns uncert : Nat) (rate : Int) (s : State) : Answer :=
  onChip (ptpAnchor sec ns uncert rate) s

end Sys2Proof.Machine
end

