-- ==== Sys2Proof/Machine/ExecLedger.lean ====
section
/-!
DEFINITION. Events of the change recorder and the ledger (chapter 17).
-/
namespace Sys2Proof.Machine

/-- CONFIG_CAPTURE (R358): The change recorder captures a configuration-bus write, tagged or untagged. -/
def execConfigCapture (w : Writer) (addr old new : Word) (tag : Option (BitVec 64)) (s : State) : Answer :=
  anyTime (configCapture w addr.toNat old.toNat new.toNat (tag.map (·.toNat))) s

/-- LEDGER_ENTRY_COMMIT (R44): A ledger entry and the updated head reach MRAM, letting the waiting change apply. -/
def execLedgerEntryCommit (s : State) : Answer :=
  onChip (ledgerCommit) s

/-- LEDGER_SPILL (R368): Renune spills journal entries to the NOR ledger area, raising LEDGER_SPILL on a failed
program or erase. -/
def execLedgerSpill (count : Nat) (ok : Bool) (s : State) : Answer :=
  onChip (ledgerSpill count ok) s

/-- SIGNATURE_CHAINED (R366): The trust core's signature of a checkpoint is chained as a SIGNATURE entry. -/
def execSignatureChained (s : State) : Answer :=
  onChip (signatureChained) s

/-- SEAL_TIMEOUT (R366): A checkpoint unsigned after 1 s raises SEAL_FAIL. -/
def execSealTimeout (s : State) : Answer :=
  onChip (sealTimeout) s

/-- GAP_ENTRY_WRITE (R369): Once space returns, Renune writes one GAP entry for lost entries. -/
def execGapEntryWrite (s : State) : Answer :=
  onChip (gapWrite) s

end Sys2Proof.Machine
end

