-- ==== Sys2Proof/Machine/ExecMotion.lean ====
section
/-!
DEFINITION. Events of motor channels, buses and axes (chapters 10 and 11).
-/
namespace Sys2Proof.Machine

/-- PATH_MOVE (R259): Pair B's paper-path routing queues a move on a PATH axis as operating data. -/
def execPathMove (a : Fin 20) (segs : Bytes) (s : State) : Answer :=
  onChip (pathMove a.val segs) s

/-- LARGE_CHANNEL_PERIOD (R229): A large channel runs one PWM period of current control, observer, protection
and state tests. -/
def execLargeChannelPeriod (n : Fin 6) (ia ib ic va vb vc vbus : Int) (s : State) : Answer :=
  onChip (fun s => spinupCheck n.val (largePeriod n.val { ia := ia, ib := ib, ic := ic, va := va, vb := vb, vc := vc, vbus := vbus } s)) s

/-- SMALL_CHANNEL_PERIOD (R231): A small channel runs one DTC period with its sampling slot and switching
vector. -/
def execSmallChannelPeriod (n : Fin 10) (ia ib : Int) (s : State) : Answer :=
  onChip (smallPeriod (6 + n.val) ia ib) s

/-- SPEED_LOOP_PERIOD (R238): RT0 to RT3 run a channel's speed PI and setpoint slewing. -/
def execSpeedLoopPeriod (m : Fin 16) (s : State) : Answer :=
  onChip (fun s => spinupCheck m.val (speedLoop m.val s)) s

/-- DRV_FAULT_INPUT (R226): An nDRVFLT input low for 100 ns drives the channel's gates low and faults it with
DRV_FAULT. -/
def execDrvFaultInput (m : Fin 16) (low : Bool) (s : State) : Answer :=
  anyTime (drvInput m.val low) s

/-- SDM_STUCK (R230): A sigma-delta data line without transition for 64 clocks faults the channel with
SENSE_ERR. -/
def execSdmStuck (n : Fin 6) (s : State) : Answer :=
  onChip (protectChannel n.val 0x06) s

/-- ALIGN_END (R233): T_ALIGN elapses and the channel enters RAMP or faults ALIGN_FAIL. -/
def execAlignEnd (m : Fin 16) (iMid : Nat) (s : State) : Answer :=
  onChip (alignEnd m.val iMid) s

/-- RAMP_TIMEOUT (R233): RAMP_TIMEOUT elapses before handover and the channel faults RAMP_FAIL. -/
def execRampTimeout (m : Fin 16) (s : State) : Answer :=
  onChip (rampTimeout m.val) s

/-- CATCH_EDGE (R236): A phase-voltage comparator edge in CATCH counts toward a catch of six edges. -/
def execCatchEdge (n : Fin 6) (phase : Fin 3) (rising : Bool) (at_ : Nat) (s : State) : Answer :=
  onChip (catchEdge n.val phase.val rising at_) s

/-- CATCH_TIMEOUT (R236): CATCH_TIME elapses after a loss without a catch and the channel faults CATCH_FAIL. -/
def execCatchTimeout (n : Fin 6) (s : State) : Answer :=
  onChip (catchTimeout n.val) s

/-- CATCH_QUIET (R236): 5 ms without an edge in CATCH counts the rotor at rest and the channel enters ALIGN. -/
def execCatchQuiet (n : Fin 6) (s : State) : Answer :=
  onChip (catchQuiet n.val) s

/-- SM_COAST_END (R237): SM_COAST ends in FLOAT and the small channel enters ALIGN. -/
def execSmCoastEnd (n : Fin 10) (s : State) : Answer :=
  onChip (coastEnd (6 + n.val)) s

/-- SPEED_LIMIT_TRIP (R244): A speed estimate above SPEED_LIMIT for 10 ms faults the channel. -/
def execSpeedLimitTrip (m : Fin 16) (s : State) : Answer :=
  onChip (speedTrip m.val) s

/-- OVERCURRENT_TRIP (R230): A large channel's OSR-8 overcurrent filter crosses I_TRIP, and the channel floats
within 1.5 us and faults with OVERCURRENT. -/
def execOvercurrentTrip (n : Fin 6) (s : State) : Answer :=
  onChip (protectChannel n.val 0x05) s

/-- BUS_SAMPLE (R240): A bus monitor samples bus voltage and chopper current and acts on its thresholds. -/
def execBusSample (n : Fin 4) (mv ma : Nat) (s : State) : Answer :=
  onChip (busSample n.val mv ma) s

/-- BUS_UVP_TIMEOUT (R240): An ARMED bus below V_UVP for 1 ms floats its bridges with BUS_UVP. -/
def execBusUvpTimeout (n : Fin 4) (s : State) : Answer :=
  onChip (busUvp n.val) s

/-- BUS_ARMED (R240): A bus above V_UVP for 10 ms becomes ARMED. -/
def execBusArmed (n : Fin 4) (s : State) : Answer :=
  onChip (busArmed n.val) s

/-- CHOP_CHECK_END (R242): 200 us after CHOPn turns on, the monitor may latch CHOP_FAULT. -/
def execChopCheckEnd (n : Fin 4) (s : State) : Answer :=
  onChip (chopCheck n.val) s

/-- PROFILE_TICK (R257): RT4 to RT5 advance every axis profile by 20 us, applying stops and ending segments. -/
def execProfileTick (s : State) : Answer :=
  onChip (profileTick) s

/-- STEPPER_PWM_PERIOD (R255): An SC axis regulates phase currents for one PWM period and checks stall at full
steps. -/
def execStepperPwmPeriod (a : Fin 12) (i : Int × Int) (quarters : List (Int × Int)) (s : State) : Answer :=
  onChip (stepperPeriod a.val i.1 i.2 quarters) s

/-- HOLD_CURRENT (R255): HOLD_DELAY after an axis stops, its current drops to I_HOLD. -/
def execHoldCurrent (a : Fin 12) (s : State) : Answer :=
  onChip (holdCurrent a.val) s

/-- SD_DRIVE_FAULT (R263): The FAULT_GPIO of an SD axis low for 10 us faults it with DRIVE_FAULT. -/
def execSdDriveFault (a : Fin 8) (low : Bool) (s : State) : Answer :=
  anyTime (sdInput (12 + a.val) low) s

end Sys2Proof.Machine
end

