-- ==== Sys2Proof/Machine/ExecPair.lean ====
section
/-!
DEFINITION. Events of the redundant pair (chapter 23).
-/
namespace Sys2Proof.Machine

/-- HEARTBEAT_SEND (R455): Every 1 us a controller sends a HEARTBEAT frame. -/
def execHeartbeatSend (s : State) : Answer :=
  onChip (heartbeatSend) s

/-- HEARTBEAT_RX (R455): A HEARTBEAT frame from the peer is received, possibly raising PAIR_CONFLICT. -/
def execHeartbeatRx (ok : Bool) (h : Heartbeat) (s : State) : Answer :=
  onChip (linkFrame ok (heartbeatRx h)) s

/-- FORWARD_RX (R458): The STANDBY applies a forwarded TRT packet to its intake. -/
def execForwardRx (ok : Bool) (port : Fin 3) (packet : Bytes) (s : State) : Answer :=
  onChip (linkFrame ok fun s => stagingCheck (restage (forwardRx port.val packet s))) s

/-- MIRROR_RX (R453): The STANDBY applies and records a mirrored change of the ACTIVE. -/
def execMirrorRx (ok : Bool) (seq : BitVec 64) (body : Bytes) (m : Mirrored) (s : State) : Answer :=
  onChip (linkFrame ok (mirrorRx seq.toNat body m)) s

/-- REPORT_RX (R460): The STANDBY receives the ACTIVE's band digest and STROBED for a sweep. -/
def execReportRx (ok : Bool) (station : Fin 5) (sweep : BitVec 27) (strobed : BitVec 12) (digest : Bytes) (s : State) : Answer :=
  onChip (linkFrame ok (reportRx station.val sweep.toNat strobed.toNat digest)) s

/-- DIGEST_COMPARE (R460): The STANDBY compares its digest with the REPORT and becomes UNFIT on mismatch. -/
def execDigestCompare (i : Fin 5) (s : State) : Answer :=
  onChip (digestCompare i.val) s

/-- DECLARE_RX (R462): The STANDBY receives a DECLARE naming the handover instant T. -/
def execDeclareRx (ok : Bool) (t : BitVec 64) (s : State) : Answer :=
  onChip (linkFrame ok (declareRx t.toNat)) s

/-- CKPT_RX (R467): A controller chains the peer's signed checkpoint as a PEER_CKPT entry. -/
def execCkptRx (ok : Bool) (ckptSeq : BitVec 64) (hash sig : Bytes) (s : State) : Answer :=
  onChip (linkFrame ok (ckptRx ckptSeq.toNat hash sig)) s

/-- HEARTBEAT_LOSS (R456): No PAIR_HB_IN edge for 1 us and no HEARTBEAT for 2 us trigger takeover. -/
def execHeartbeatLoss (noEdge noFrame : Bool) (s : State) : Answer :=
  onChip (heartbeatLoss noEdge noFrame) s

/-- TAKEOVER (R462): At T the STANDBY raises OWN and becomes ACTIVE, units taking over at their boundaries. -/
def execTakeover (s : State) : Answer :=
  onChip (takeoverInstant) s

/-- PAIR_LINK_UP (R457): The pair link comes up; keys are derived, OFS measured and a join image sent. -/
def execPairLinkUp (serial : Bytes) (ofs : Int) (rbDelay : Word) (s : State) : Answer :=
  onChip (linkUp serial ofs rbDelay.toNat) s

/-- PAIR_LINK_DOWN (R467): The pair link goes down, clearing PAIR_STATE.LINK, pulsing EV211 and queueing unsent
checkpoints. -/
def execPairLinkDown (s : State) : Answer :=
  onChip (linkDown) s

/-- OFFSET_CHECK (R457): Every 1 s the STANDBY remeasures OFS and becomes UNFIT if it drifts. -/
def execOffsetCheck (ofs : Int) (s : State) : Answer :=
  onChip (offsetCheck ofs) s

/-- PAIR_ROLE_TIMEOUT (R452): No peer heartbeat within 1 s of IDLE makes the controller ACTIVE. -/
def execPairRoleTimeout (s : State) : Answer :=
  onChip (roleTimeout) s

/-- OWN_DROP (R455): Hardware drops OWN within 100 ns when the ACTIVE has not toggled its own PAIR_HB_OUT for 1
us. -/
def execOwnDrop (s : State) : Answer :=
  onChip (ownDrop) s

end Sys2Proof.Machine
end

