-- ==== Sys2Proof/Machine/ExecPower.lean ====
section
/-!
DEFINITION. Events of boot, the power sequencer, resets and clocks (chapters 19 to 21).
-/
namespace Sys2Proof.Machine

/-- TRUST_CORE_BOOT (R390): The trust core leaves reset, selects and verifies images and releases pairs A and B. -/
def execTrustCoreBoot (s : State) : Answer :=
  anyTime (trustCoreBoot) s

/-- RENUNE_START (R392): Renune chains BOOT and MEASURE entries, applies Berril, tests the inhibit and enters
IDLE or LATCHED. -/
def execRenuneStart (selfTestOk : Bool) (s : State) : Answer :=
  anyTime (renuneStart selfTestOk) s

/-- BOOT_FAIL_RETRY (R391): In BOOT_FAIL the slot selection is retried every 10 s. -/
def execBootFailRetry (s : State) : Answer :=
  anyTime (bootFailRetry) s

/-- TRIAL_BOOT_TIMEOUT (R390): A trial boot not in IDLE within BOOT_TRIAL_TIME resets the controller. -/
def execTrialBootTimeout (s : State) : Answer :=
  anyTime (trialTimeout) s

/-- EXTEST_SELECT (R397): Selecting or deselecting EXTEST asserts or releases the inhibit. -/
def execExtestSelect (on : Bool) (s : State) : Answer :=
  anyTime (extestSelect on) s

/-- VAON_ARRIVAL (R433): VAON arrives, resetting the always-on domain and starting the IRC. -/
def execVaonArrival (s : State) : Answer :=
  anyTime (vaonArrival) s

/-- VAON_LOSS (R311): Removal of VAON releases the always-on thermal latch and ends LATCHED and every state of
the controller. -/
def execVaonLoss (s : State) : Answer :=
  anyTime (vaonLoss) s

/-- EN_RELEASE (R479): After reading rail parameters, the sequencer drives each EN to its inactive level. -/
def execEnRelease (s : State) : Answer :=
  anyTime (enRelease) s

/-- IRC_START_COMPLETE (R402): The IRC completes its start count and counts as running. -/
def execIrcStartComplete (s : State) : Answer :=
  anyTime (ircStarted) s

/-- IRC_STALL (R402): The IRC stall detector restarts the IRC. -/
def execIrcStall (s : State) : Answer :=
  anyTime (ircStall) s

/-- XOK_CHANGE (R404): The crystal amplitude detector rises or falls, possibly entering CLOCK_HOLD. -/
def execXokChange (up : Bool) (s : State) : Answer :=
  anyTime (xokChange up) s

/-- XTAL_MONITOR_ARM (R404): The crystal start counter reaches 131,072 and the monitor arms. -/
def execXtalMonitorArm (s : State) : Answer :=
  anyTime (monitorArm) s

/-- XTAL_WINDOW (R405): A monitor window of 256 IRC cycles ends, proving or losing the crystal. -/
def execXtalWindow (cycles : Nat) (s : State) : Answer :=
  anyTime (xtalWindow cycles) s

/-- XTAL_START_TIMEOUT (R405): The crystal is not PROVEN within XTAL_START_MAX and is restarted or given up. -/
def execXtalStartTimeout (s : State) : Answer :=
  anyTime (xtalStartTimeout) s

/-- XTAL_RESTART (R405): After 1 ms disabled, the crystal oscillator starts again. -/
def execXtalRestart (s : State) : Answer :=
  anyTime (xtalRestart) s

/-- RPLL_LOCK (R410): The RPLL qualifies lock, releases its dividers and switches the domains from bypass. -/
def execRpllLock (counts : List Nat) (s : State) : Answer :=
  anyTime (rpllLock counts) s

/-- RPLL_LOSS (R411): Loss of lock puts the RPLL in BYPASS and raises RPLL_UNLOCK. -/
def execRpllLoss (s : State) : Answer :=
  anyTime (rpllLoss) s

/-- RPLL_RELOCK_ATTEMPT (R411): Every 1 ms in BYPASS the RPLL attempts a relock, faulting RPLL_FAIL after 8
failures. -/
def execRpllRelockAttempt (counts : List Nat) (qualified : Bool) (s : State) : Answer :=
  anyTime (relockAttempt counts qualified) s

/-- SWITCH_ACK_TIMEOUT (R412): No stop acknowledge within 64 reference cycles gates the domain and raises
OLDCLK_DEAD. -/
def execSwitchAckTimeout (d : Fin 8) (s : State) : Answer :=
  anyTime (switchAckTimeout d.val) s

/-- OLDCLK_RESET_TIMEOUT (R412): 100 ms after an OLDCLK_DEAD switch without Renune, the controller resets. -/
def execOldclkResetTimeout (s : State) : Answer :=
  anyTime (oldclkTimeout) s

/-- NWAKE_EDGE (R428): A deglitched falling edge on nWAKE is an on request. -/
def execNwakeEdge (low : Bool) (s : State) : Answer :=
  anyTime (nwakeEdge low) s

/-- NPBTN_PRESS (R428): nPBTN low for 50 ms is a press, an on request in OFF. -/
def execNpbtnPress (s : State) : Answer :=
  anyTime (buttonPress) s

/-- NPBTN_RELEASE (R428): Release of a press before LONG_PRESS outside OFF is an off request. -/
def execNpbtnRelease (s : State) : Answer :=
  anyTime (buttonRelease) s

/-- NPBTN_LOW (R408): In CLOCK_HOLD, any low level on nPBTN drops EN0 to EN15 at once as FORCE_OFF. -/
def execNpbtnLow (s : State) : Answer :=
  anyTime (buttonLow) s

/-- LONG_PRESS (R429): A press held for LONG_PRESS is FORCE_OFF and drops every EN. -/
def execLongPress (s : State) : Answer :=
  anyTime (longPressed) s

/-- ON_REQUEST (R427): An on request starts the crystal or is latched until MIN_OFF ends. -/
def execOnRequest (src : Fin 4) (s : State) : Answer :=
  anyTime (onRequest (onSource src.val)) s

/-- OFF_REQUEST (R428): An off request stops power-up or gives Renune OFF_GRACE to drain. -/
def execOffRequest (src : Fin 4) (s : State) : Answer :=
  anyTime (offRequest src.val) s

/-- OFF_GRACE_EXPIRY (R428): OFF_GRACE expires, raising POWER_OFF and powering down. -/
def execOffGraceExpiry (s : State) : Answer :=
  anyTime (graceExpiry) s

/-- DRAIN_POWER_DOWN (R428): Once drained after an off request, Renune asks the sequencer for power-down. -/
def execDrainPowerDown (s : State) : Answer :=
  anyTime (drainPowerDown) s

/-- RAIL_ENABLE (R422): ON_DELAY ends and the sequencer asserts the next rail's EN. -/
def execRailEnable (n : Fin 16) (s : State) : Answer :=
  anyTime (railEnable n.val) s

/-- PG_CHANGE (R421): A PG input becomes good or lost after DEGLITCH, restarting qualification or raising a
running-rail fault. -/
def execPgChange (n : Fin 16) (good : Bool) (s : State) : Answer :=
  anyTime (pgChange n.val good) s

/-- RAIL_QUALIFIED (R421): A rail's PG stays good for QUAL and the phase advances or completes. -/
def execRailQualified (n : Fin 16) (s : State) : Answer :=
  anyTime (railUp n.val) s

/-- RAIL_TIMEOUT (R422): A rail not qualified within TIMEOUT fails the attempt, leading to retry or LOCKOUT. -/
def execRailTimeout (n : Fin 16) (s : State) : Answer :=
  anyTime (railTimeout n.val) s

/-- RAIL_OFF_STEP (R425): OFF_DELAY ends and the next lower rail's EN drops. -/
def execRailOffStep (s : State) : Answer :=
  anyTime (downStep) s

/-- MIN_OFF_END (R427): MIN_OFF ends and a latched on request is honoured or dropped. -/
def execMinOffEnd (s : State) : Answer :=
  anyTime (minOffEnd) s

/-- NMRST_LOW (R432): nMRST low for 1 us asserts the inhibit and holds internal reset. -/
def execNmrstLow (s : State) : Answer :=
  anyTime (mrstLow) s

/-- NMRST_HIGH (R432): nMRST high for 1 us releases reset and starts boot. -/
def execNmrstHigh (s : State) : Answer :=
  anyTime (mrstHigh) s

/-- RSTOUT_RELEASE (R434): RSTOUT_DELAY after the trust core leaves reset, nRSTOUT goes high. -/
def execRstoutRelease (s : State) : Answer :=
  anyTime (rstoutRelease) s

end Sys2Proof.Machine
end

