-- ==== Sys2Proof/Machine/ExecRim.lean ====
section
/-!
DEFINITION. Events of the Rim ring (chapter 15).
-/
namespace Sys2Proof.Machine

/-- FAST_CYCLE_START (R320): Every 50 us the controller sends a cycle frame in both ring directions. -/
def execFastCycleStart (s : State) : Answer :=
  onChip (fastCycle) s

/-- RIM_MERGE (R324): The two returned copies of a frame are merged and published, locating breaks and node
losses. -/
def execRimMerge (a b : Option RimCopy) (s : State) : Answer :=
  onChip (rimMerge a b) s

/-- BLANKET_WINDOW_CLOSE (R339): A Blanket window closes and emits or merges one event with count and root. -/
def execBlanketWindowClose (c : Fin 16) (drained : Bool) (s : State) : Answer :=
  onChip (blanketClose (c.val + 1) drained) s

/-- RIM_DOWN_TIMEOUT (R327): Ports locked or 10 ms elapsed in DOWN moves the ring to ENUM. -/
def execRimDownTimeout (s : State) : Answer :=
  onChip (downTimeout) s

/-- ENUM_FRAME (R327): An enumeration frame returns and nodes, count and loop delay are taken. -/
def execEnumFrame (e : EnumCopy) (s : State) : Answer :=
  onChip (enumFrame e) s

/-- ENUM_RETRY (R327): Without two agreeing frames, enumeration retries after 100 ms. -/
def execEnumRetry (s : State) : Answer :=
  onChip (enumRetry) s

/-- MAILBOX_MESSAGE_RX (R336): A complete mailbox message from a node is acted on, including NOTICE and
CONFIG_CHANGED. -/
def execMailboxMessageRx (addr : BitVec 10) (s : State) : Answer :=
  onChip (mailReceive addr.toNat) s

/-- MBX_TIMEOUT (R336): A node silent 10 ms after a request is retried once, then raises MBX_TIMEOUT. -/
def execMbxTimeout (addr : BitVec 10) (s : State) : Answer :=
  onChip (mbxTimeout addr.toNat) s

/-- RIM_PORT_LOCK (R317): A ring port gains or loses block lock. -/
def execRimPortLock (b locked : Bool) (s : State) : Answer :=
  onChip (portLock b locked) s

end Sys2Proof.Machine
end

