-- ==== Sys2Proof/Machine/ExecSheets.lean ====
section
/-!
DEFINITION. Events of sheets, the launch gate, calibration and the print states (chapters 09 and 21).
-/
namespace Sys2Proof.Machine

/-- CAL_PROPOSAL_READY (R221): When the calibration sheets have been read, Renune computes the proposal and
pulses EV076. -/
def execCalProposalReady (m : Measured) (s : State) : Answer :=
  onChip (calReady m) s

/-- ADMISSION (R205): The launch gate admits a STAGED sheet when every reservation and token is held. -/
def execAdmission (s : State) : Answer :=
  onChip (admission) s

/-- LAUNCH (R208): The belt reaches G minus FEED16 and the feeder starts an ADMITTED sheet. -/
def execLaunch (sheet : BitVec 16) (s : State) : Answer :=
  onChip (launch sheet.toNat) s

/-- GATE_WINDOW_CLOSE (R209): A sheet's front or back window closes without an edge and the sheet becomes LOST
with MISFEED. -/
def execGateWindowClose (sheet : BitVec 16) (back : Bool) (s : State) : Answer :=
  onChip (windowMissed sheet.toNat back) s

/-- ROUTE_DECISION (R213): At G plus DIVERT16 the sheet's route is set to spoil or delivery. -/
def execRouteDecision (sheet : BitVec 16) (s : State) : Answer :=
  onChip (routeDecision sheet.toNat) s

/-- SHEET_FUSED (R200): The trailing edge leaves the fuser after the last pass and the sheet becomes FUSED. -/
def execSheetFused (sheet : BitVec 16) (s : State) : Answer :=
  onChip (sheetFused sheet.toNat) s

/-- SHEET_OUTPUT (R213): The trailing edge passes the output sensor and the sheet becomes DELIVERED or SPOILED. -/
def execSheetOutput (sheet : BitVec 16) (s : State) : Answer :=
  onChip (sheetOutput sheet.toNat) s

/-- TOKEN_WITHDRAWN (R207): A readiness token is withdrawn and sheets are restaged, blanked or spoiled by their
state. -/
def execTokenWithdrawn (s : State) : Answer :=
  onChip (tokenWithdrawn) s

/-- SPEED_LOWER (R218): In SPEED_HOLD once no sheet is LAUNCHED to IMAGED, Renune plans a lower speed or raises
SPEED_FLOOR. -/
def execSpeedLower (s : State) : Answer :=
  onChip (speedLower) s

/-- DRAIN_COMPLETE (R431): In DRAIN once no sheet is LAUNCHED to FUSED, the controller passes to READY. -/
def execDrainComplete (s : State) : Answer :=
  onChip (drainComplete) s

/-- READY_ENTRY (R431): When all READY conditions hold, Renune moves WARM to READY and records STATE_MOVE. -/
def execReadyEntry (s : State) : Answer :=
  onChip (readyEntry) s

/-- READY_EXIT (R431): When a READY condition ends, Renune returns the controller to WARM. -/
def execReadyExit (s : State) : Answer :=
  onChip (readyExit) s

end Sys2Proof.Machine
end

