-- ==== Sys2Proof/Machine/Dispatch.lean ====
section
/-!
DEFINITION. `exec`: one arm per command or event of the table, each a direct call of its meaning.
-/
namespace Sys2Proof.Machine

/-- The effect of one command or event on everything but the queue. -/
def exec (i : Instr) (s : State) : Host.Outcome State Fault Refusal :=
  match i with
  | .cmdAbort f => Sys2Proof.Machine.execCmdAbort f s
  | .evringSet f => Sys2Proof.Machine.execEvringSet f s
  | .eventRoute f => Sys2Proof.Machine.execEventRoute f s
  | .faultList f => Sys2Proof.Machine.execFaultList f s
  | .faultClear f => Sys2Proof.Machine.execFaultClear f s
  | .sessionChallenge f => Sys2Proof.Machine.execSessionChallenge f s
  | .sessionOpen f => Sys2Proof.Machine.execSessionOpen f s
  | .sessionClose f => Sys2Proof.Machine.execSessionClose f s
  | .sessionIdleEnd slot => Sys2Proof.Machine.execSessionIdleEnd slot s
  | .nonceExpiry n => Sys2Proof.Machine.execNonceExpiry n s
  | .ledgerStatus f => Sys2Proof.Machine.execLedgerStatus f s
  | .ledgerRead f => Sys2Proof.Machine.execLedgerRead f s
  | .ledgerIdent f => Sys2Proof.Machine.execLedgerIdent f s
  | .ledgerSeal f => Sys2Proof.Machine.execLedgerSeal f s
  | .ledgerRelease f => Sys2Proof.Machine.execLedgerRelease f s
  | .timeAnchor f => Sys2Proof.Machine.execTimeAnchor f s
  | .streamStatus f => Sys2Proof.Machine.execStreamStatus f s
  | .pageStatus f => Sys2Proof.Machine.execPageStatus f s
  | .portSet f => Sys2Proof.Machine.execPortSet f s
  | .streamOpen f => Sys2Proof.Machine.execStreamOpen f s
  | .streamRekey f => Sys2Proof.Machine.execStreamRekey f s
  | .streamClose f => Sys2Proof.Machine.execStreamClose f s
  | .pageRelease f => Sys2Proof.Machine.execPageRelease f s
  | .launchStatus f => Sys2Proof.Machine.execLaunchStatus f s
  | .jobStatus f => Sys2Proof.Machine.execJobStatus f s
  | .sheetGet f => Sys2Proof.Machine.execSheetGet f s
  | .jobOpen f => Sys2Proof.Machine.execJobOpen f s
  | .sheetAdd f => Sys2Proof.Machine.execSheetAdd f s
  | .jobClose f => Sys2Proof.Machine.execJobClose f s
  | .jobHold f => Sys2Proof.Machine.execJobHold f s
  | .sheetAbort f => Sys2Proof.Machine.execSheetAbort f s
  | .jobAbort f => Sys2Proof.Machine.execJobAbort f s
  | .jobRelease f => Sys2Proof.Machine.execJobRelease f s
  | .pathSet f => Sys2Proof.Machine.execPathSet f s
  | .launchControl f => Sys2Proof.Machine.execLaunchControl f s
  | .calResult f => Sys2Proof.Machine.execCalResult f s
  | .calRun f => Sys2Proof.Machine.execCalRun f s
  | .calApply f => Sys2Proof.Machine.execCalApply f s
  | .regSet f => Sys2Proof.Machine.execRegSet f s
  | .calProposalReady m => Sys2Proof.Machine.execCalProposalReady m s
  | .screenInfo f => Sys2Proof.Machine.execScreenInfo f s
  | .ecmRead f => Sys2Proof.Machine.execEcmRead f s
  | .profileGet f => Sys2Proof.Machine.execProfileGet f s
  | .screenLoad f => Sys2Proof.Machine.execScreenLoad f s
  | .ecmLoad f => Sys2Proof.Machine.execEcmLoad f s
  | .profileSet f => Sys2Proof.Machine.execProfileSet f s
  | .linkStatus f => Sys2Proof.Machine.execLinkStatus f s
  | .apcRead f => Sys2Proof.Machine.execApcRead f s
  | .historyLoad f => Sys2Proof.Machine.execHistoryLoad f s
  | .delayLoad f => Sys2Proof.Machine.execDelayLoad f s
  | .apcTarget f => Sys2Proof.Machine.execApcTarget f s
  | .linkSet f => Sys2Proof.Machine.execLinkSet f s
  | .polygonSet f => Sys2Proof.Machine.execPolygonSet f s
  | .scanSet f => Sys2Proof.Machine.execScanSet f s
  | .facetLoad f => Sys2Proof.Machine.execFacetLoad f s
  | .scanStart f => Sys2Proof.Machine.execScanStart f s
  | .scanStop f => Sys2Proof.Machine.execScanStop f s
  | .facetLearn f => Sys2Proof.Machine.execFacetLearn f s
  | .scanPlan f => Sys2Proof.Machine.execScanPlan f s
  | .motorGet f => Sys2Proof.Machine.execMotorGet f s
  | .busGet f => Sys2Proof.Machine.execBusGet f s
  | .motorSet f => Sys2Proof.Machine.execMotorSet f s
  | .motorStart f => Sys2Proof.Machine.execMotorStart f s
  | .motorStop f => Sys2Proof.Machine.execMotorStop f s
  | .motorSpeed f => Sys2Proof.Machine.execMotorSpeed f s
  | .motorClear f => Sys2Proof.Machine.execMotorClear f s
  | .busSet f => Sys2Proof.Machine.execBusSet f s
  | .axisGet f => Sys2Proof.Machine.execAxisGet f s
  | .axisSet f => Sys2Proof.Machine.execAxisSet f s
  | .axisEnable f => Sys2Proof.Machine.execAxisEnable f s
  | .axisMove f => Sys2Proof.Machine.execAxisMove f s
  | .axisStop f => Sys2Proof.Machine.execAxisStop f s
  | .axisHome f => Sys2Proof.Machine.execAxisHome f s
  | .axisClear f => Sys2Proof.Machine.execAxisClear f s
  | .pathMove a segs => Sys2Proof.Machine.execPathMove a segs s
  | .fbGet f => Sys2Proof.Machine.execFbGet f s
  | .prbRead f => Sys2Proof.Machine.execPrbRead f s
  | .qeSet f => Sys2Proof.Machine.execQeSet f s
  | .seSet f => Sys2Proof.Machine.execSeSet f s
  | .prbSet f => Sys2Proof.Machine.execPrbSet f s
  | .cmpSet f => Sys2Proof.Machine.execCmpSet f s
  | .posSet f => Sys2Proof.Machine.execPosSet f s
  | .fbClear f => Sys2Proof.Machine.execFbClear f s
  | .loopGet f => Sys2Proof.Machine.execLoopGet f s
  | .loopLoad f => Sys2Proof.Machine.execLoopLoad f s
  | .loopSet f => Sys2Proof.Machine.execLoopSet f s
  | .loopStart f => Sys2Proof.Machine.execLoopStart f s
  | .loopStop f => Sys2Proof.Machine.execLoopStop f s
  | .loopSp f => Sys2Proof.Machine.execLoopSp f s
  | .loopClear f => Sys2Proof.Machine.execLoopClear f s
  | .thermalGet f => Sys2Proof.Machine.execThermalGet f s
  | .zoneSet f => Sys2Proof.Machine.execZoneSet f s
  | .thSet f => Sys2Proof.Machine.execThSet f s
  | .curveLoad f => Sys2Proof.Machine.execCurveLoad f s
  | .dieSet f => Sys2Proof.Machine.execDieSet f s
  | .thermalClear f => Sys2Proof.Machine.execThermalClear f s
  | .rimStatus f => Sys2Proof.Machine.execRimStatus f s
  | .nodeGet f => Sys2Proof.Machine.execNodeGet f s
  | .nodeRead f => Sys2Proof.Machine.execNodeRead f s
  | .rimConfig f => Sys2Proof.Machine.execRimConfig f s
  | .nodeWrite f => Sys2Proof.Machine.execNodeWrite f s
  | .rimEnum f => Sys2Proof.Machine.execRimEnum f s
  | .powerStatus f => Sys2Proof.Machine.execPowerStatus f s
  | .railGet f => Sys2Proof.Machine.execRailGet f s
  | .railSet f => Sys2Proof.Machine.execRailSet f s
  | .powerSet f => Sys2Proof.Machine.execPowerSet f s
  | .enginePower f => Sys2Proof.Machine.execEnginePower f s
  | .powerControl f => Sys2Proof.Machine.execPowerControl f s
  | .clockStatus f => Sys2Proof.Machine.execClockStatus f s
  | .clockSet f => Sys2Proof.Machine.execClockSet f s
  | .clockOutSet f => Sys2Proof.Machine.execClockOutSet f s
  | .pairStatus f => Sys2Proof.Machine.execPairStatus f s
  | .pairSet f => Sys2Proof.Machine.execPairSet f s
  | .pairHandover f => Sys2Proof.Machine.execPairHandover f s
  | .bgStatus f => Sys2Proof.Machine.execBgStatus f s
  | .telemetryRead f => Sys2Proof.Machine.execTelemetryRead f s
  | .lifeGet f => Sys2Proof.Machine.execLifeGet f s
  | .bgSet f => Sys2Proof.Machine.execBgSet f s
  | .bootStatus f => Sys2Proof.Machine.execBootStatus f s
  | .fwStage f => Sys2Proof.Machine.execFwStage f s
  | .fwActivate f => Sys2Proof.Machine.execFwActivate f s
  | .fwCommit f => Sys2Proof.Machine.execFwCommit f s
  | .lifecycleSet f => Sys2Proof.Machine.execLifecycleSet f s
  | .debugUnlock f => Sys2Proof.Machine.execDebugUnlock f s
  | .debugLock f => Sys2Proof.Machine.execDebugLock f s
  | .hamperDoorbell n v => Sys2Proof.Machine.execHamperDoorbell n v s
  | .responseConsumerWrite n v => Sys2Proof.Machine.execResponseConsumerWrite n v s
  | .eventConsumerWrite n v => Sys2Proof.Machine.execEventConsumerWrite n v s
  | .completionPosted => Sys2Proof.Machine.execCompletionPosted s
  | .evPendClear n mask hit => Sys2Proof.Machine.execEvPendClear n mask hit s
  | .keyUnlockWrite b v => Sys2Proof.Machine.execKeyUnlockWrite b v s
  | .dmaSetupWrite r reg v w => Sys2Proof.Machine.execDmaSetupWrite r reg v w s
  | .rwkWriteApply b => Sys2Proof.Machine.execRwkWriteApply b s
  | .haltReq w => Sys2Proof.Machine.execHaltReq w s
  | .stopReq halt w => Sys2Proof.Machine.execStopReq halt w s
  | .inhForceSet w => Sys2Proof.Machine.execInhForceSet w s
  | .inhForceClear w => Sys2Proof.Machine.execInhForceClear w s
  | .dmaRingDoorbell r => Sys2Proof.Machine.execDmaRingDoorbell r s
  | .dmaStop r => Sys2Proof.Machine.execDmaStop r s
  | .snapshotSelect w v => Sys2Proof.Machine.execSnapshotSelect w v s
  | .snapshotLastRead w => Sys2Proof.Machine.execSnapshotLastRead w s
  | .partialWidthWrite => Sys2Proof.Machine.execPartialWidthWrite s
  | .registerWrite offset v x => Sys2Proof.Machine.execRegisterWrite offset v x s
  | .hostInterfaceReset => Sys2Proof.Machine.execHostInterfaceReset s
  | .configCapture w addr old new tag => Sys2Proof.Machine.execConfigCapture w addr old new tag s
  | .ledgerEntryCommit => Sys2Proof.Machine.execLedgerEntryCommit s
  | .ledgerSpill count ok => Sys2Proof.Machine.execLedgerSpill count ok s
  | .signatureChained => Sys2Proof.Machine.execSignatureChained s
  | .sealTimeout => Sys2Proof.Machine.execSealTimeout s
  | .gapEntryWrite => Sys2Proof.Machine.execGapEntryWrite s
  | .ethFrameRx port fcsOk frame => Sys2Proof.Machine.execEthFrameRx port fcsOk frame s
  | .ethLinkChange port up => Sys2Proof.Machine.execEthLinkChange port up s
  | .trtPacketDecrypted st => Sys2Proof.Machine.execTrtPacketDecrypted st s
  | .nackDue st seqs => Sys2Proof.Machine.execNackDue st seqs s
  | .ackSend st => Sys2Proof.Machine.execAckSend st s
  | .pcieStreamGapTimeout st => Sys2Proof.Machine.execPcieStreamGapTimeout st s
  | .pageVerifyDone st page ecc => Sys2Proof.Machine.execPageVerifyDone st page ecc s
  | .ptpMasterLost => Sys2Proof.Machine.execPtpMasterLost s
  | .ptpAnchorDue sec ns uncert rate => Sys2Proof.Machine.execPtpAnchorDue sec ns uncert rate s
  | .bandDecodeDone n ecc => Sys2Proof.Machine.execBandDecodeDone n ecc s
  | .generalEngineJob badCoded badRaw => Sys2Proof.Machine.execGeneralEngineJob badCoded badRaw s
  | .bdEdge n t e => Sys2Proof.Machine.execBdEdge n t e s
  | .bdWindowClose n => Sys2Proof.Machine.execBdWindowClose n s
  | .nominalSweepStart n => Sys2Proof.Machine.execNominalSweepStart n s
  | .bdLightSend n => Sys2Proof.Machine.execBdLightSend n s
  | .acquireRetry n => Sys2Proof.Machine.execAcquireRetry n s
  | .sweepStartSend n late => Sys2Proof.Machine.execSweepStartSend n late s
  | .slotGroupSend n complete => Sys2Proof.Machine.execSlotGroupSend n complete s
  | .sweepEnd n strobed badCoded badRaw ecc => Sys2Proof.Machine.execSweepEnd n strobed badCoded badRaw ecc s
  | .apcExchange n fits => Sys2Proof.Machine.execApcExchange n fits s
  | .statusRound n => Sys2Proof.Machine.execStatusRound n s
  | .backchannelFrameRx n frame => Sys2Proof.Machine.execBackchannelFrameRx n frame s
  | .backchannelTimeout n => Sys2Proof.Machine.execBackchannelTimeout n s
  | .laneTrainingTimeout n m => Sys2Proof.Machine.execLaneTrainingTimeout n m s
  | .laneLpiEnter n => Sys2Proof.Machine.execLaneLpiEnter n s
  | .laneWake n => Sys2Proof.Machine.execLaneWake n s
  | .delaySetSend n => Sys2Proof.Machine.execDelaySetSend n s
  | .admission => Sys2Proof.Machine.execAdmission s
  | .launch sheet => Sys2Proof.Machine.execLaunch sheet s
  | .probeEdge k rising held at_ => Sys2Proof.Machine.execProbeEdge k rising held at_ s
  | .gateWindowClose sheet back => Sys2Proof.Machine.execGateWindowClose sheet back s
  | .routeDecision sheet => Sys2Proof.Machine.execRouteDecision sheet s
  | .sheetFused sheet => Sys2Proof.Machine.execSheetFused sheet s
  | .sheetOutput sheet => Sys2Proof.Machine.execSheetOutput sheet s
  | .tokenWithdrawn => Sys2Proof.Machine.execTokenWithdrawn s
  | .speedLower => Sys2Proof.Machine.execSpeedLower s
  | .drainComplete => Sys2Proof.Machine.execDrainComplete s
  | .readyEntry => Sys2Proof.Machine.execReadyEntry s
  | .readyExit => Sys2Proof.Machine.execReadyExit s
  | .largeChannelPeriod n ia ib ic va vb vc vbus => Sys2Proof.Machine.execLargeChannelPeriod n ia ib ic va vb vc vbus s
  | .smallChannelPeriod n ia ib => Sys2Proof.Machine.execSmallChannelPeriod n ia ib s
  | .speedLoopPeriod m => Sys2Proof.Machine.execSpeedLoopPeriod m s
  | .drvFaultInput m low => Sys2Proof.Machine.execDrvFaultInput m low s
  | .sdmStuck n => Sys2Proof.Machine.execSdmStuck n s
  | .alignEnd m iMid => Sys2Proof.Machine.execAlignEnd m iMid s
  | .rampTimeout m => Sys2Proof.Machine.execRampTimeout m s
  | .catchEdge n phase rising at_ => Sys2Proof.Machine.execCatchEdge n phase rising at_ s
  | .catchTimeout n => Sys2Proof.Machine.execCatchTimeout n s
  | .catchQuiet n => Sys2Proof.Machine.execCatchQuiet n s
  | .smCoastEnd n => Sys2Proof.Machine.execSmCoastEnd n s
  | .speedLimitTrip m => Sys2Proof.Machine.execSpeedLimitTrip m s
  | .busSample n mv ma => Sys2Proof.Machine.execBusSample n mv ma s
  | .busUvpTimeout n => Sys2Proof.Machine.execBusUvpTimeout n s
  | .busArmed n => Sys2Proof.Machine.execBusArmed n s
  | .chopCheckEnd n => Sys2Proof.Machine.execChopCheckEnd n s
  | .profileTick => Sys2Proof.Machine.execProfileTick s
  | .stepperPwmPeriod a c q => Sys2Proof.Machine.execStepperPwmPeriod a c q s
  | .holdCurrent a => Sys2Proof.Machine.execHoldCurrent a s
  | .sdDriveFault a low => Sys2Proof.Machine.execSdDriveFault a low s
  | .qeCount n a b => Sys2Proof.Machine.execQeCount n a b s
  | .wireDisagree n pair => Sys2Proof.Machine.execWireDisagree n pair s
  | .wireAgree n pair => Sys2Proof.Machine.execWireAgree n pair s
  | .indexEdge n => Sys2Proof.Machine.execIndexEdge n s
  | .seRead n r => Sys2Proof.Machine.execSeRead n r s
  | .speedWindowEnd u => Sys2Proof.Machine.execSpeedWindowEnd u s
  | .loopTick ain late => Sys2Proof.Machine.execLoopTick ain late s
  | .zeroCross zc => Sys2Proof.Machine.execZeroCross zc s
  | .modelStep z load => Sys2Proof.Machine.execModelStep z load s
  | .thermistorSample j raw => Sys2Proof.Machine.execThermistorSample j raw s
  | .powerLost z => Sys2Proof.Machine.execPowerLost z s
  | .zcLost z => Sys2Proof.Machine.execZcLost z s
  | .heaterOpen z => Sys2Proof.Machine.execHeaterOpen z s
  | .relayStuck z => Sys2Proof.Machine.execRelayStuck z s
  | .modelStall z => Sys2Proof.Machine.execModelStall z s
  | .throttleDwell z => Sys2Proof.Machine.execThrottleDwell z s
  | .fastSamplingEnd z => Sys2Proof.Machine.execFastSamplingEnd z s
  | .modelOnlyTimeout z => Sys2Proof.Machine.execModelOnlyTimeout z s
  | .dieSensorRead d0 d1 d2 d3 => Sys2Proof.Machine.execDieSensorRead d0 d1 d2 d3 s
  | .dieThrottleStep => Sys2Proof.Machine.execDieThrottleStep s
  | .dieHot => Sys2Proof.Machine.execDieHot s
  | .fastCycleStart => Sys2Proof.Machine.execFastCycleStart s
  | .rimMerge a b => Sys2Proof.Machine.execRimMerge a b s
  | .blanketWindowClose c drained => Sys2Proof.Machine.execBlanketWindowClose c drained s
  | .rimDownTimeout => Sys2Proof.Machine.execRimDownTimeout s
  | .enumFrame e => Sys2Proof.Machine.execEnumFrame e s
  | .enumRetry => Sys2Proof.Machine.execEnumRetry s
  | .mailboxMessageRx addr => Sys2Proof.Machine.execMailboxMessageRx addr s
  | .mbxTimeout addr => Sys2Proof.Machine.execMbxTimeout addr s
  | .rimPortLock b locked => Sys2Proof.Machine.execRimPortLock b locked s
  | .descriptorFetch r d rd => Sys2Proof.Machine.execDescriptorFetch r d rd s
  | .descriptorComplete r ok => Sys2Proof.Machine.execDescriptorComplete r ok s
  | .ramblerWindow want => Sys2Proof.Machine.execRamblerWindow want s
  | .sramScrub errs => Sys2Proof.Machine.execSramScrub errs s
  | .dramScrub errs => Sys2Proof.Machine.execDramScrub errs s
  | .adcCal coeffs => Sys2Proof.Machine.execAdcCal coeffs s
  | .ppllCal n taps => Sys2Proof.Machine.execPpllCal n taps s
  | .bgApply n => Sys2Proof.Machine.execBgApply n s
  | .norWear => Sys2Proof.Machine.execNorWear s
  | .life pass => Sys2Proof.Machine.execLife pass s
  | .laserTrend pass => Sys2Proof.Machine.execLaserTrend pass s
  | .telemetry kinds => Sys2Proof.Machine.execTelemetry kinds s
  | .sramUe region => Sys2Proof.Machine.execSramUe region s
  | .lockstep pair ue => Sys2Proof.Machine.execLockstep pair ue s
  | .trustCoreBoot => Sys2Proof.Machine.execTrustCoreBoot s
  | .renuneStart selfTestOk => Sys2Proof.Machine.execRenuneStart selfTestOk s
  | .bootFailRetry => Sys2Proof.Machine.execBootFailRetry s
  | .trialBootTimeout => Sys2Proof.Machine.execTrialBootTimeout s
  | .extestSelect on => Sys2Proof.Machine.execExtestSelect on s
  | .vaonArrival => Sys2Proof.Machine.execVaonArrival s
  | .enRelease => Sys2Proof.Machine.execEnRelease s
  | .ircStartComplete => Sys2Proof.Machine.execIrcStartComplete s
  | .ircStall => Sys2Proof.Machine.execIrcStall s
  | .xokChange up => Sys2Proof.Machine.execXokChange up s
  | .xtalMonitorArm => Sys2Proof.Machine.execXtalMonitorArm s
  | .xtalWindow cycles => Sys2Proof.Machine.execXtalWindow cycles s
  | .xtalStartTimeout => Sys2Proof.Machine.execXtalStartTimeout s
  | .xtalRestart => Sys2Proof.Machine.execXtalRestart s
  | .rpllLock counts => Sys2Proof.Machine.execRpllLock counts s
  | .rpllLoss => Sys2Proof.Machine.execRpllLoss s
  | .rpllRelockAttempt counts qualified => Sys2Proof.Machine.execRpllRelockAttempt counts qualified s
  | .switchAckTimeout d => Sys2Proof.Machine.execSwitchAckTimeout d s
  | .oldclkResetTimeout => Sys2Proof.Machine.execOldclkResetTimeout s
  | .nwakeEdge low => Sys2Proof.Machine.execNwakeEdge low s
  | .npbtnPress => Sys2Proof.Machine.execNpbtnPress s
  | .npbtnRelease => Sys2Proof.Machine.execNpbtnRelease s
  | .longPress => Sys2Proof.Machine.execLongPress s
  | .onRequest src => Sys2Proof.Machine.execOnRequest src s
  | .offRequest src => Sys2Proof.Machine.execOffRequest src s
  | .offGraceExpiry => Sys2Proof.Machine.execOffGraceExpiry s
  | .drainPowerDown => Sys2Proof.Machine.execDrainPowerDown s
  | .railEnable n => Sys2Proof.Machine.execRailEnable n s
  | .pgChange n good => Sys2Proof.Machine.execPgChange n good s
  | .railQualified n => Sys2Proof.Machine.execRailQualified n s
  | .railTimeout n => Sys2Proof.Machine.execRailTimeout n s
  | .railOffStep => Sys2Proof.Machine.execRailOffStep s
  | .minOffEnd => Sys2Proof.Machine.execMinOffEnd s
  | .nmrstLow => Sys2Proof.Machine.execNmrstLow s
  | .nmrstHigh => Sys2Proof.Machine.execNmrstHigh s
  | .rstoutRelease => Sys2Proof.Machine.execRstoutRelease s
  | .interlockInput n => Sys2Proof.Machine.execInterlockInput n s
  | .heartbeatSend => Sys2Proof.Machine.execHeartbeatSend s
  | .heartbeatRx ok h => Sys2Proof.Machine.execHeartbeatRx ok h s
  | .forwardRx ok port packet => Sys2Proof.Machine.execForwardRx ok port packet s
  | .mirrorRx ok seq body m => Sys2Proof.Machine.execMirrorRx ok seq body m s
  | .reportRx ok station sweep strobed digest => Sys2Proof.Machine.execReportRx ok station sweep strobed digest s
  | .digestCompare n => Sys2Proof.Machine.execDigestCompare n s
  | .declareRx ok t => Sys2Proof.Machine.execDeclareRx ok t s
  | .ckptRx ok ckptSeq hash sig => Sys2Proof.Machine.execCkptRx ok ckptSeq hash sig s
  | .heartbeatLoss noEdge noFrame => Sys2Proof.Machine.execHeartbeatLoss noEdge noFrame s
  | .takeover => Sys2Proof.Machine.execTakeover s
  | .pairLinkUp serial ofs rbDelay => Sys2Proof.Machine.execPairLinkUp serial ofs rbDelay s
  | .offsetCheck ofs => Sys2Proof.Machine.execOffsetCheck ofs s
  | .pairRoleTimeout => Sys2Proof.Machine.execPairRoleTimeout s
  | .unknownOpcode opcode f => Sys2Proof.Machine.execUnknownOpcode opcode f s
  | .scanStartTimeout p => Sys2Proof.Machine.execScanStartTimeout p s
  | .vaonLoss => Sys2Proof.Machine.execVaonLoss s
  | .interlockInputRelease n => Sys2Proof.Machine.execInterlockInputRelease n s
  | .pairLinkDown => Sys2Proof.Machine.execPairLinkDown s
  | .ownDrop => Sys2Proof.Machine.execOwnDrop s
  | .overcurrentTrip n => Sys2Proof.Machine.execOvercurrentTrip n s
  | .mirrorRefresh block => Sys2Proof.Machine.execMirrorRefresh block s
  | .npbtnLow => Sys2Proof.Machine.execNpbtnLow s

end Sys2Proof.Machine
end

