-- ==== Sys2Proof/Machine/ReadMap.lean ====
section
/-!
DEFINITION. What a read of BAR0 returns (R57 to R60, R71): the words of the identity block, the hamper doorbells, the
DMA rings, the event block, the time base and the safety block, formed from the state; the hamper windows as memory; the
status mirrors as they were last written; 0 at every other offset. A read changes nothing but for the last data word of
a snapshot window, whose effect is the row SNAPSHOT_LAST_READ (R59).
-/
namespace Sys2Proof.Machine

/-! ## Identity and system block (0x0_0000) -/

/-- SYS_STATE.ACTIVE: this controller drives the engine's outputs. -/
def drivesOutputs (s : State) : Bool := match s.pair.role with
  | .single => true
  | .active => s.pair.own
  | .standby | .unfit => false

/-- SYS_STATE. -/
def sysState (s : State) : Nat :=
  packWord [(s.saf.ctrl.code, 0), (s.boot.life.code, 4), (b2n (drivesOutputs s), 6), (b2n ((s.bootRec 0).booted == 2), 7)]

/-- SYS_CAPS. -/
def sysCaps (s : State) : Nat :=
  packWord [(stationsOn s % 32, 0), ((if s.boot.berrilOk then s.boot.settings.getD 15 0 else 0) % 8, 5), (b2n s.pair.paired, 8)]

/-- A register of the identity block by its offset. -/
def identityRead (o : Nat) (s : State) : Nat :=
  if 0x10 ≤ o ∧ o < 0x20 then u32At s.reg.serial (o - 0x10)
  else if 0x30 ≤ o ∧ o < 0x40 then s.reg.scratch.getD ((o - 0x30) / 4) 0
  else match o with
    | 0x00 => s.reg.part
    | 0x04 => s.reg.step
    | 0x08 => s.reg.fwVer
    | 0x0C => s.reg.ifVer
    | 0x20 => sysState s
    | 0x24 => sysCaps s
    | 0x40 => s.reg.overcap
    | 0x44 => s.reg.partialCnt
    | _ => 0

/-! ## Hamper doorbells, DMA rings, guards -/

/-- A register of the doorbell block of hamper `n`. -/
def hamperRegRead (n o : Nat) (s : State) : Nat :=
  let h := s.io.hamper n
  match o with
  | 0x0 => h.pi
  | 0x4 => packWord [(h.ci, 0), (h.rspPi, 8), (b2n s.ready, 16), (b2n h.dberr, 17)]
  | 0x8 => h.rspCons
  | 0xC => h.ring.ci
  | _ => 0

/-- A register of DMA ring `n`; DnDB reads 0 (R60). -/
def ringRegRead (n o : Nat) (s : State) : Nat :=
  let x := s.dring n
  match o with
  | 0x00 => x.base % 2 ^ 32
  | 0x04 => x.base / 2 ^ 32
  | 0x08 => cfgWord x
  | 0x10 => packWord [(x.ci, 0), (b2n x.run, 16), (b2n x.halted, 17), (x.err, 20), (b2n x.cfgErr, 24)]
  | 0x14 => x.done
  | 0x18 => x.errAddr % 2 ^ 32
  | 0x1C => x.errAddr / 2 ^ 32
  | 0x20 => packWord [(x.fetched.length, 0), (b2n x.wake, 8)]
  | _ => 0

/-- KSTAT of a guarded block; APPLY_PEND while a write of the block waits for its ledger entry (R66). -/
def kstat (b : Block) (s : State) : Nat :=
  let g := s.guard b
  packWord [(b2n g.isOpen, 0), (b2n (!g.held.isEmpty), 1), (b2n g.keyErr, 8), (b2n g.notRec, 9), (g.seqLo, 16)]

/-! ## Event, time base and safety blocks -/

/-- A register of the event block by its offset from 0x2_4000. -/
def eventRegRead (o : Nat) (s : State) : Nat :=
  let line (l : Nat) : Line := s.io.lines.getD l {}
  if o < 0x20 then bitsOf ((List.range 32).map fun k => (line (8 * o + k)).pending)
  else if 0x100 ≤ o ∧ o < 0x200 then
    packWord ((List.range 4).map fun k => ((line (o - 0x100 + k)).count, 8 * k))
  else if 0x400 ≤ o ∧ o < 0x800 then
    packWord ((List.range 4).map fun k => ((line ((o - 0x400) / 4)).sinks.getD k 0, 8 * k))
  else 0

/-- A register of snapshot window `w` (R69). -/
def snapRegRead (w o : Nat) (s : State) : Nat :=
  let x := s.reg.snaps.getD w {}
  if 0x10 ≤ o ∧ o < 0x40 then x.data.getD ((o - 0x10) / 4) 0
  else match o with
    | 0x00 => x.sel
    | 0x04 => packWord [(b2n x.valid, 0), (b2n x.overrun, 1), (b2n x.selErr, 2), (x.len, 8)]
    | 0x08 => x.time % 2 ^ 32
    | 0x0C => x.time / 2 ^ 32
    | _ => 0

/-- FAULT_SUM: the highest active class and the number of active faults. -/
def faultSum (s : State) : Nat := packWord [(highestClass s, 0), (satN 16 s.saf.faults.length, 8)]

/-- A register of the safety block by its offset from 0x3_4000; SVC_CMD reads 0 (R60, R440, R442). -/
def safetyRegRead (o : Nat) (s : State) : Nat :=
  let f := s.saf
  match o with
  | 0x04 => kstat .svc s
  | 0x14 => b2n f.inhForce
  | 0x20 => packWord [(bitsOf (f.ilk.map (·.active)), 0), (b2n f.inhibit, 4), (b2n f.inhibit, 5)]
  | 0x24 => faultSum s
  | 0x28 => packWord [(bitsOf (f.ilk.map (·.latch)), 0), (b2n f.stopLatch, 4), (bitsOf [f.inhForce, f.railFault, f.powerDown,
      f.nmrstLow, f.ctrl == .clockHold, f.internalReset, f.extest, f.selfTest], 8)]
  | 0x2C => pair16 f.trips f.overflow
  | _ => 0

/-! ## The map (R71) -/

/-- The register or mirror word at an aligned offset of BAR0 outside the hamper windows (R58, R60, R71): a location that
no table lists reads 0. -/
def regRead (o : Nat) (s : State) : Nat :=
  if o < 0x100 then identityRead o s
  else if 0x1000 ≤ o ∧ o < 0x1080 then hamperRegRead ((o - 0x1000) / 16) (o % 16) s
  else if 0x20000 ≤ o ∧ o < 0x20200 then ringRegRead ((o - 0x20000) / 0x40) (o % 0x40) s
  else if o = 0x20FF4 then kstat .dma s
  else if 0x24000 ≤ o ∧ o < 0x24800 then eventRegRead (o - 0x24000) s
  else if 0x30000 ≤ o ∧ o < 0x30200 then snapRegRead ((o - 0x30000) / 0x80) (o % 0x80) s
  else if 0x34000 ≤ o ∧ o < 0x34100 then safetyRegRead (o - 0x34000) s
  else (mirrorRead s.reg.mirrors o).toNat

/-- The byte of BAR0 at an offset. -/
def barByte (o : Nat) (s : State) : Byte :=
  if 0x10000 ≤ o ∧ o < 0x20000 then memRead s.io.windows (o - 0x10000)
  else BitVec.ofNat 8 (regRead (o / 4 * 4) s / 2 ^ (8 * (o % 4)))

/-- A read of `n` bytes of BAR0 from an offset (R57): one narrower than 32 bits returns the addressed bytes of the
register, a longer one is made of successive 32-bit reads. -/
def barRead (o n : Nat) (s : State) : Bytes := (List.range n).map fun k => barByte (o + k) s

end Sys2Proof.Machine
end

