-- ==== Sys2Proof/WellFormed.lean ====
section
/-!
DEFINITION. Which commands and events are well formed: the sizes that the spec gives what they carry. An operand whose
type already bounds it needs no check.
-/
namespace Sys2Proof

/-- The payload area of a request slot holds 48 bytes (R35). -/
def frameWf (f : Frame) : Bool := f.inl.length == 48

/-- A well-formed command or event. -/
def Instr.wf (i : Instr) : Bool :=
  match i with
  | .cmdAbort f => frameWf f
  | .evringSet f => frameWf f
  | .eventRoute f => frameWf f
  | .faultList f => frameWf f
  | .faultClear f => frameWf f
  | .sessionChallenge f => frameWf f
  | .sessionOpen f => frameWf f
  | .sessionClose f => frameWf f
  | .sessionIdleEnd _ => true
  | .nonceExpiry _ => true
  | .ledgerStatus f => frameWf f
  | .ledgerRead f => frameWf f
  | .ledgerIdent f => frameWf f
  | .ledgerSeal f => frameWf f
  | .ledgerRelease f => frameWf f
  | .timeAnchor f => frameWf f
  | .streamStatus f => frameWf f
  | .pageStatus f => frameWf f
  | .portSet f => frameWf f
  | .streamOpen f => frameWf f
  | .streamRekey f => frameWf f
  | .streamClose f => frameWf f
  | .pageRelease f => frameWf f
  | .launchStatus f => frameWf f
  | .jobStatus f => frameWf f
  | .sheetGet f => frameWf f
  | .jobOpen f => frameWf f
  | .sheetAdd f => frameWf f
  | .jobClose f => frameWf f
  | .jobHold f => frameWf f
  | .sheetAbort f => frameWf f
  | .jobAbort f => frameWf f
  | .jobRelease f => frameWf f
  | .pathSet f => frameWf f
  | .launchControl f => frameWf f
  | .calResult f => frameWf f
  | .calRun f => frameWf f
  | .calApply f => frameWf f
  | .regSet f => frameWf f
  | .calProposalReady m => m.marks.all fun x => x.bar.length == 5 && x.sep.length == 5 && x.rho.length == 5
  | .screenInfo f => frameWf f
  | .ecmRead f => frameWf f
  | .profileGet f => frameWf f
  | .screenLoad f => frameWf f
  | .ecmLoad f => frameWf f
  | .profileSet f => frameWf f
  | .linkStatus f => frameWf f
  | .apcRead f => frameWf f
  | .historyLoad f => frameWf f
  | .delayLoad f => frameWf f
  | .apcTarget f => frameWf f
  | .linkSet f => frameWf f
  | .polygonSet f => frameWf f
  | .scanSet f => frameWf f
  | .facetLoad f => frameWf f
  | .scanStart f => frameWf f
  | .scanStop f => frameWf f
  | .facetLearn f => frameWf f
  | .scanPlan f => frameWf f
  | .motorGet f => frameWf f
  | .busGet f => frameWf f
  | .motorSet f => frameWf f
  | .motorStart f => frameWf f
  | .motorStop f => frameWf f
  | .motorSpeed f => frameWf f
  | .motorClear f => frameWf f
  | .busSet f => frameWf f
  | .axisGet f => frameWf f
  | .axisSet f => frameWf f
  | .axisEnable f => frameWf f
  | .axisMove f => frameWf f
  | .axisStop f => frameWf f
  | .axisHome f => frameWf f
  | .axisClear f => frameWf f
  | .pathMove _ segs => segs.length % 24 == 0 && decide (24 ≤ segs.length) && decide (segs.length ≤ 384)
  | .fbGet f => frameWf f
  | .prbRead f => frameWf f
  | .qeSet f => frameWf f
  | .seSet f => frameWf f
  | .prbSet f => frameWf f
  | .cmpSet f => frameWf f
  | .posSet f => frameWf f
  | .fbClear f => frameWf f
  | .loopGet f => frameWf f
  | .loopLoad f => frameWf f
  | .loopSet f => frameWf f
  | .loopStart f => frameWf f
  | .loopStop f => frameWf f
  | .loopSp f => frameWf f
  | .loopClear f => frameWf f
  | .thermalGet f => frameWf f
  | .zoneSet f => frameWf f
  | .thSet f => frameWf f
  | .curveLoad f => frameWf f
  | .dieSet f => frameWf f
  | .thermalClear f => frameWf f
  | .rimStatus f => frameWf f
  | .nodeGet f => frameWf f
  | .nodeRead f => frameWf f
  | .rimConfig f => frameWf f
  | .nodeWrite f => frameWf f
  | .rimEnum f => frameWf f
  | .powerStatus f => frameWf f
  | .railGet f => frameWf f
  | .railSet f => frameWf f
  | .powerSet f => frameWf f
  | .enginePower f => frameWf f
  | .powerControl f => frameWf f
  | .clockStatus f => frameWf f
  | .clockSet f => frameWf f
  | .clockOutSet f => frameWf f
  | .pairStatus f => frameWf f
  | .pairSet f => frameWf f
  | .pairHandover f => frameWf f
  | .bgStatus f => frameWf f
  | .telemetryRead f => frameWf f
  | .lifeGet f => frameWf f
  | .bgSet f => frameWf f
  | .bootStatus f => frameWf f
  | .fwStage f => frameWf f
  | .fwActivate f => frameWf f
  | .fwCommit f => frameWf f
  | .lifecycleSet f => frameWf f
  | .debugUnlock f => frameWf f
  | .debugLock f => frameWf f
  | .hamperDoorbell _ _ => true
  | .responseConsumerWrite _ _ => true
  | .eventConsumerWrite _ _ => true
  | .completionPosted => true
  | .evPendClear _ _ _ => true
  | .keyUnlockWrite _ _ => true
  | .dmaSetupWrite _ _ _ _ => true
  | .rwkWriteApply _ => true
  | .haltReq _ => true
  | .stopReq _ _ => true
  | .inhForceSet _ => true
  | .inhForceClear _ => true
  | .dmaRingDoorbell _ => true
  | .dmaStop _ => true
  | .snapshotSelect _ _ => true
  | .snapshotLastRead _ => true
  | .partialWidthWrite => true
  | .registerWrite _ _ _ => true
  | .hostInterfaceReset => true
  | .configCapture _ _ _ _ _ => true
  | .ledgerEntryCommit => true
  | .ledgerSpill _ _ => true
  | .signatureChained => true
  | .sealTimeout => true
  | .gapEntryWrite => true
  | .ethFrameRx _ _ frame => decide (14 ≤ frame.length)
  | .ethLinkChange _ _ => true
  | .trtPacketDecrypted _ => true
  | .nackDue _ _ => true
  | .ackSend _ => true
  | .pcieStreamGapTimeout _ => true
  | .pageVerifyDone _ _ _ => true
  | .ptpMasterLost => true
  | .ptpAnchorDue _ _ _ _ => true
  | .bandDecodeDone _ _ => true
  | .generalEngineJob _ _ => true
  | .bdEdge _ _ _ => true
  | .bdWindowClose _ => true
  | .nominalSweepStart _ => true
  | .bdLightSend _ => true
  | .acquireRetry _ => true
  | .sweepStartSend _ _ => true
  | .slotGroupSend _ _ => true
  | .sweepEnd _ strobed _ _ _ => decide (strobed < 4096)
  | .apcExchange _ _ => true
  | .statusRound _ => true
  | .backchannelFrameRx _ frame => frame.length == 20
  | .backchannelTimeout _ => true
  | .laneTrainingTimeout _ _ => true
  | .laneLpiEnter _ => true
  | .laneWake _ => true
  | .delaySetSend _ => true
  | .admission => true
  | .launch _ => true
  | .probeEdge _ _ _ _ => true
  | .gateWindowClose _ _ => true
  | .routeDecision _ => true
  | .sheetFused _ => true
  | .sheetOutput _ => true
  | .tokenWithdrawn => true
  | .speedLower => true
  | .drainComplete => true
  | .readyEntry => true
  | .readyExit => true
  | .largeChannelPeriod _ _ _ _ _ _ _ _ => true
  | .smallChannelPeriod _ _ _ => true
  | .speedLoopPeriod _ => true
  | .drvFaultInput _ _ => true
  | .sdmStuck _ => true
  | .alignEnd _ _ => true
  | .rampTimeout _ => true
  | .catchEdge _ _ _ _ => true
  | .catchTimeout _ => true
  | .catchQuiet _ => true
  | .smCoastEnd _ => true
  | .speedLimitTrip _ => true
  | .busSample _ _ _ => true
  | .busUvpTimeout _ => true
  | .busArmed _ => true
  | .chopCheckEnd _ => true
  | .profileTick => true
  | .stepperPwmPeriod _ _ q => decide (q.length = 4)
  | .holdCurrent _ => true
  | .sdDriveFault _ _ => true
  | .qeCount _ _ _ => true
  | .wireDisagree _ _ => true
  | .wireAgree _ _ => true
  | .indexEdge _ => true
  | .seRead _ _ => true
  | .speedWindowEnd _ => true
  | .loopTick ain late => ain.length == 64 && late.all fun l => decide (l < 64)
  | .zeroCross _ => true
  | .modelStep _ _ => true
  | .thermistorSample _ _ => true
  | .powerLost _ => true
  | .zcLost _ => true
  | .heaterOpen _ => true
  | .relayStuck _ => true
  | .modelStall _ => true
  | .throttleDwell _ => true
  | .fastSamplingEnd _ => true
  | .modelOnlyTimeout _ => true
  | .dieSensorRead _ _ _ _ => true
  | .dieThrottleStep => true
  | .dieHot => true
  | .fastCycleStart => true
  | .rimMerge _ _ => true
  | .blanketWindowClose _ _ => true
  | .rimDownTimeout => true
  | .enumFrame _ => true
  | .enumRetry => true
  | .mailboxMessageRx _ => true
  | .mbxTimeout _ => true
  | .rimPortLock _ _ => true
  | .descriptorFetch _ d _ => (match d with | some b => b.length == 32 | none => true)
  | .descriptorComplete _ _ => true
  | .ramblerWindow _ => true
  | .sramScrub _ => true
  | .dramScrub _ => true
  | .adcCal _ => true
  | .ppllCal _ taps => taps.all fun t => decide (t.1 < 64)
  | .bgApply _ => true
  | .norWear => true
  | .life _ => true
  | .laserTrend _ => true
  | .telemetry _ => true
  | .sramUe _ => true
  | .lockstep _ _ => true
  | .trustCoreBoot => true
  | .renuneStart _ => true
  | .bootFailRetry => true
  | .trialBootTimeout => true
  | .extestSelect _ => true
  | .vaonArrival => true
  | .enRelease => true
  | .ircStartComplete => true
  | .ircStall => true
  | .xokChange _ => true
  | .xtalMonitorArm => true
  | .xtalWindow _ => true
  | .xtalStartTimeout => true
  | .xtalRestart => true
  | .rpllLock counts => counts.length == 64
  | .rpllLoss => true
  | .rpllRelockAttempt counts _ => counts.length == 64
  | .switchAckTimeout _ => true
  | .oldclkResetTimeout => true
  | .nwakeEdge _ => true
  | .npbtnPress => true
  | .npbtnRelease => true
  | .longPress => true
  | .onRequest _ => true
  | .offRequest _ => true
  | .offGraceExpiry => true
  | .drainPowerDown => true
  | .railEnable _ => true
  | .pgChange _ _ => true
  | .railQualified _ => true
  | .railTimeout _ => true
  | .railOffStep => true
  | .minOffEnd => true
  | .nmrstLow => true
  | .nmrstHigh => true
  | .rstoutRelease => true
  | .interlockInput _ => true
  | .heartbeatSend => true
  | .heartbeatRx _ _ => true
  | .forwardRx _ _ _ => true
  | .mirrorRx _ _ _ _ => true
  | .reportRx _ _ _ _ digest => digest.length == 16
  | .digestCompare _ => true
  | .declareRx _ _ => true
  | .ckptRx _ _ hash sig => hash.length == 48 && sig.length == 96
  | .heartbeatLoss _ _ => true
  | .takeover => true
  | .pairLinkUp serial _ _ => serial.length == 16
  | .offsetCheck _ => true
  | .pairRoleTimeout => true
  | .unknownOpcode _ f => frameWf f
  | .scanStartTimeout _ => true
  | .vaonLoss => true
  | .interlockInputRelease _ => true
  | .pairLinkDown => true
  | .ownDrop => true
  | .overcurrentTrip _ => true
  | .mirrorRefresh _ => true
  | .npbtnLow => true

end Sys2Proof
end

