-- ==== Sys2Proof/Safety.lean ====
section
/-!
DEFINITION. The terms in which claims about the machine are made: the invariant that every step keeps, and when a
command of Velov passes its checks, is recorded and applies.
-/
namespace Sys2Proof

/-- TARGET of a frame (R36). -/
def Frame.tgt (f : Frame) : Nat := f.target.toNat

/-- The payload of a frame (R37). -/
def Frame.pay (f : Frame) : Bytes := Machine.framePayload f

end Sys2Proof

namespace Sys2Proof.Machine

/-! ## The invariant -/

/-- Offsets of the stored mirror words rise above `lo`, and no stored word is 0. -/
def mirrorsWfFrom : Nat → List (Nat × Word) → Bool
  | _, [] => true
  | lo, (a, v) :: l => decide (lo ≤ a) && (v != 0) && mirrorsWfFrom (a + 1) l

/-- The hamper windows, the host memory and the status mirrors keep their canonical form, and no entry that the
controller holds has a SEQ beyond the head of the ledger (R361, R362). -/
def Inv (s : State) : Prop :=
  s.io.windows.wf = true ∧ s.io.host.wf = true ∧ mirrorsWfFrom 0 s.reg.mirrors = true
    ∧ (∀ e ∈ s.led.journal, e.seq ≤ s.led.head) ∧ ∀ e ∈ s.led.nor, e.seq ≤ s.led.head

/-! ## A command that passes its checks -/

/-- The logic runs, and no late spoil is due. -/
def Runs (s : State) : Prop := s.saf.internalReset = false ∧ s.shs.lateDue = false

/-- The flight of a frame as its hamper unit takes it (R33). -/
def heldFlight (op : Op) (f : Frame) (s : State) : Flight := newFlight op f (takeSlot f.hamper.val s)

/-- The state in which the command of a frame has passed steps 1 to 8 of R40: its slot is consumed, its SEQ accepted,
and its flight held. -/
def heldState (op : Op) (f : Frame) (s : State) : State :=
  addFlight (heldFlight op f s) (acceptSeq f (takeSlot f.hamper.val s))

/-- The command of a frame passes steps 1 to 11 of R40 on a hamper without other flights; its SEQ is not the last one of
its session. -/
def passes (op : Op) (f : Frame) (s : State) : Bool :=
  let taken := takeSlot f.hamper.val s
  let x := heldFlight op f s
  s.ready && !s.shs.lateDue && (s.io.hamper f.hamper.val).flights.isEmpty && f.seq != 0xFFFFFFFF
    && decide (f.hamper.val < s.io.hampers.length)
    && (orElse (earlyFault f taken) (sessionFault (specOf op) f taken)).isNone
    && (lateFault op x.cmd (acceptSeq f taken)).isNone
    && ((specOf op).post x.cmd (heldState op f s)).isNone && !sizeBad op x.cmd (heldState op f s)

/-- The response ring of hamper `n` has a released slot and nothing waits for one (R34). -/
def hasRoom (n : Nat) (s : State) : Bool := (s.io.hamper n).rspWait.isEmpty && decide ((s.io.hamper n).rspUsed < 64)

/-- Where the response slot lies that hamper `n` writes next (R34). -/
def slotAddr (n : Nat) (s : State) : Nat := n * 0x2000 + 0x1000 + 64 * ((s.io.hamper n).rspPi % 64)

/-- The 64 bytes that stand in state `t` in the response slot that hamper `n` writes next in state `s` (R34). -/
def nextSlot (n : Nat) (s t : State) : Bytes :=
  memReadBytes t.io.windows (slotAddr n s) 64

/-- The phase of that slot (R34). -/
def nextPhase (n : Nat) (s : State) : Nat := if (s.io.hamper n).rspPi < 64 then 1 else 0

/-- The record of a change (R44, R358). -/
def recordOf (op : Op) (f : Frame) (s : State) : Rec := commandRec (heldFlight op f s) (heldState op f s)

/-- The change of a frame has been recorded (R44). -/
def recordedState (op : Op) (f : Frame) (s : State) : State :=
  ((heldState op f s).setFlight f.hamper.val f.tag.toNat 0 fun y => { y with stage := .recording }).record (recordOf op f s)

/-- A record alone in the recorder's queue is chained, and the ACTIVE of a pair mirrors it (R362, R453). -/
def enteredState (r : Rec) (t : State) : State :=
  mirrorSend r (t.led.head + 1)
    (appendEntry r.kind r.time r.origin r.detail r.subject 0 r.body { t with led := { t.led with queue := [] } })

/-- The entry of a change has reached MRAM, and the owning unit repeats its checks (R44). -/
def committedState (op : Op) (f : Frame) (s : State) : State :=
  ledgerLevels (enteredState (recordOf op f s) (recordedState op f s))

/-- A change whose checks pass both times, with nothing before it in the recorder's queue, space for its entry, no
checkpoint due and no reset due (R40, R44, R365, R369). -/
def applies (op : Op) (f : Frame) (s : State) : Bool :=
  isChange op && op != .cmdAbort && passes op f s && s.led.queue.isEmpty && !ckptDue s && s.pwr.resetDue != some 5 && spaceFor .ordinary (recordedState op f s)
    && (applyFault op (heldFlight op f s).cmd (committedState op f s)).isNone

/-- What a change row does: the frame's row ANSWERS the state in which the change is recorded, the entry is committed, and the
command has its effect. -/
def Completes (row : Frame → Instr) (op : Op) (P : Frame → State → State → Prop) : Prop :=
  ∀ f s, applies op f s = true →
    exec (row f) s = .next (recordedState op f s)
      ∧ ∃ u, exec .ledgerEntryCommit (recordedState op f s) = .next u ∧ P f s u

/-- No event line delivers into an event ring, so that events write nothing into host memory (R25). -/
def quietLines (s : State) : Bool := s.io.lines.all fun l => l.sinks.all fun c => !(decide (0x40 ≤ c) && decide (c < 0x48))

/-- What answering the frame of a command leaves of the memories: every window byte outside the response slot, and all
of host memory where no event goes there and neither a copy nor an RBUF buffer is asked for (R34, R36, R38). -/
def MemoryKept (f : Frame) (s u : State) : Prop :=
  s.io.windows.wf = true →
    (∀ a, (a < slotAddr f.hamper.val s ∨ slotAddr f.hamper.val s + 64 ≤ a) →
      memRead u.io.windows a = memRead s.io.windows a)
    ∧ (quietLines s = true → f.evcopy = false → f.rbuf = false → u.io.host = s.io.host)

/-- What a change leaves: in `e` the effect stands on everything but the host interface, the fault list and the ledger;
the controller state, the interlocks, the time and the used session numbers are as before, the ledger has one more
entry, and the memories hold what they held. -/
def Leaves (f : Frame) (s u e : State) : Prop :=
  u = { e with io := u.io, saf := u.saf, led := u.led }
    ∧ u.saf.ctrl = s.saf.ctrl ∧ u.saf.ilk = s.saf.ilk ∧ u.io.time = s.io.time ∧ u.io.usedIds = s.io.usedIds
    ∧ u.led.head = s.led.head + 1 ∧ MemoryKept f s u

/-- A change whose whole effect is that of `e` on the state before it. -/
def Sets (row : Frame → Instr) (op : Op) (e : Frame → State → State) : Prop :=
  Completes row op fun f s u => Leaves f s u (e f s)

/-- A change whose effect is that of `e` on a state `k` that differs from the state before it in the host interface, the
fault list and the ledger alone, and there by the frame's consumption and its one entry. -/
def Takes (row : Frame → Instr) (op : Op) (C : Frame → State → Prop) (e : Frame → State → State) : Prop :=
  ∀ f s, applies op f s = true → C f s → exec (row f) s = .next (recordedState op f s)
    ∧ ∃ u k, exec .ledgerEntryCommit (recordedState op f s) = .next u
      ∧ k = { s with io := k.io, saf := k.saf, led := k.led }
      ∧ k.saf = { s.saf with faults := k.saf.faults, overflow := k.saf.overflow, firstFault := k.saf.firstFault }
      ∧ k.led.head = s.led.head + 1 ∧ k.io.time = s.io.time
      ∧ u = { e f k with io := u.io }

/-- A CMD_ABORT passes its checks and is recorded at once, and the only other flight of its hamper is its target, which
runs and may still be aborted (R45). -/
def aborts (f : Frame) (x : Flight) (s : State) : Bool :=
  s.ready && !s.shs.lateDue && (s.io.hamper f.hamper.val).flights == [x] && f.seq != 0xFFFFFFFF
    && decide (f.hamper.val < s.io.hampers.length)
    && (orElse (earlyFault f (takeSlot f.hamper.val s)) (sessionFault cmdAbortSpec f (takeSlot f.hamper.val s))).isNone
    && (lateFault .cmdAbort (heldFlight .cmdAbort f s).cmd (acceptSeq f (takeSlot f.hamper.val s))).isNone
    && x.stage == .running && x.gone == 0 && x.f.hamper == f.hamper && x.f.tag.toNat == f.tgt
    && s.io.finals.isEmpty && s.led.queue.isEmpty && !ckptDue s && s.pwr.resetDue != some 5
    && spaceFor .ordinary (recordedState .cmdAbort f s)

/-- What a query row does: it answers DONE with a result in the response slot; a result of more than 40 bytes is in the
RBUF buffer whole, where it fits and no event and no copy of the response goes into host memory meanwhile; and of everything but the
host interface it leaves what `after` says (R37 to R39). -/
def Answers (row : Frame → Instr) (op : Op) (result : Frame → State → Bytes) (after : Frame → State → State) : Prop :=
  ∀ f s, passes op f s = true → hasRoom f.hamper.val s = true → s.io.windows.wf = true → s.io.host.wf = true →
    ∃ t, exec (row f) s = .next t ∧ t = { after f s with io := t.io }
      ∧ nextSlot f.hamper.val s t
        = (respOf op.code f stDone 0 (result f s).length 0 (result f s) true s).slot (nextPhase f.hamper.val s)
      ∧ (quietLines s = true → f.evcopy = false → f.rbuf = true → 40 < (result f s).length →
          (result f s).length ≤ f.rbufSize → memReadBytes t.io.host f.rbufAddr (result f s).length = result f s)

/-- A query that changes nothing but the host interface. -/
def AnswersDone (row : Frame → Instr) (op : Op) (result : Frame → State → Bytes) : Prop :=
  Answers row op result fun _ s => s

/-- The opcode and the frame of a row that is a command of Velov (R35). -/
def commandOf : Instr → Option (Op × Frame)
  | .cmdAbort f => some (.cmdAbort, f)
  | .evringSet f => some (.evringSet, f)
  | .eventRoute f => some (.eventRoute, f)
  | .faultList f => some (.faultList, f)
  | .faultClear f => some (.faultClear, f)
  | .sessionChallenge f => some (.sessionChallenge, f)
  | .sessionOpen f => some (.sessionOpen, f)
  | .sessionClose f => some (.sessionClose, f)
  | .ledgerStatus f => some (.ledgerStatus, f)
  | .ledgerRead f => some (.ledgerRead, f)
  | .ledgerIdent f => some (.ledgerIdent, f)
  | .ledgerSeal f => some (.ledgerSeal, f)
  | .ledgerRelease f => some (.ledgerRelease, f)
  | .timeAnchor f => some (.timeAnchor, f)
  | .streamStatus f => some (.streamStatus, f)
  | .pageStatus f => some (.pageStatus, f)
  | .portSet f => some (.portSet, f)
  | .streamOpen f => some (.streamOpen, f)
  | .streamRekey f => some (.streamRekey, f)
  | .streamClose f => some (.streamClose, f)
  | .pageRelease f => some (.pageRelease, f)
  | .launchStatus f => some (.launchStatus, f)
  | .jobStatus f => some (.jobStatus, f)
  | .sheetGet f => some (.sheetGet, f)
  | .jobOpen f => some (.jobOpen, f)
  | .sheetAdd f => some (.sheetAdd, f)
  | .jobClose f => some (.jobClose, f)
  | .jobHold f => some (.jobHold, f)
  | .sheetAbort f => some (.sheetAbort, f)
  | .jobAbort f => some (.jobAbort, f)
  | .jobRelease f => some (.jobRelease, f)
  | .pathSet f => some (.pathSet, f)
  | .launchControl f => some (.launchControl, f)
  | .screenInfo f => some (.screenInfo, f)
  | .ecmRead f => some (.ecmRead, f)
  | .profileGet f => some (.profileGet, f)
  | .screenLoad f => some (.screenLoad, f)
  | .ecmLoad f => some (.ecmLoad, f)
  | .profileSet f => some (.profileSet, f)
  | .linkStatus f => some (.linkStatus, f)
  | .apcRead f => some (.apcRead, f)
  | .historyLoad f => some (.historyLoad, f)
  | .delayLoad f => some (.delayLoad, f)
  | .apcTarget f => some (.apcTarget, f)
  | .linkSet f => some (.linkSet, f)
  | .polygonSet f => some (.polygonSet, f)
  | .scanSet f => some (.scanSet, f)
  | .facetLoad f => some (.facetLoad, f)
  | .scanStart f => some (.scanStart, f)
  | .scanStop f => some (.scanStop, f)
  | .facetLearn f => some (.facetLearn, f)
  | .scanPlan f => some (.scanPlan, f)
  | .motorGet f => some (.motorGet, f)
  | .busGet f => some (.busGet, f)
  | .motorSet f => some (.motorSet, f)
  | .motorStart f => some (.motorStart, f)
  | .motorStop f => some (.motorStop, f)
  | .motorSpeed f => some (.motorSpeed, f)
  | .motorClear f => some (.motorClear, f)
  | .busSet f => some (.busSet, f)
  | .axisGet f => some (.axisGet, f)
  | .axisSet f => some (.axisSet, f)
  | .axisEnable f => some (.axisEnable, f)
  | .axisMove f => some (.axisMove, f)
  | .axisStop f => some (.axisStop, f)
  | .axisHome f => some (.axisHome, f)
  | .axisClear f => some (.axisClear, f)
  | .fbGet f => some (.fbGet, f)
  | .prbRead f => some (.prbRead, f)
  | .qeSet f => some (.qeSet, f)
  | .seSet f => some (.seSet, f)
  | .prbSet f => some (.prbSet, f)
  | .cmpSet f => some (.cmpSet, f)
  | .posSet f => some (.posSet, f)
  | .fbClear f => some (.fbClear, f)
  | .loopGet f => some (.loopGet, f)
  | .loopLoad f => some (.loopLoad, f)
  | .loopSet f => some (.loopSet, f)
  | .loopStart f => some (.loopStart, f)
  | .loopStop f => some (.loopStop, f)
  | .loopSp f => some (.loopSp, f)
  | .loopClear f => some (.loopClear, f)
  | .thermalGet f => some (.thermalGet, f)
  | .zoneSet f => some (.zoneSet, f)
  | .thSet f => some (.thSet, f)
  | .curveLoad f => some (.curveLoad, f)
  | .dieSet f => some (.dieSet, f)
  | .thermalClear f => some (.thermalClear, f)
  | .rimStatus f => some (.rimStatus, f)
  | .nodeGet f => some (.nodeGet, f)
  | .nodeRead f => some (.nodeRead, f)
  | .rimConfig f => some (.rimConfig, f)
  | .nodeWrite f => some (.nodeWrite, f)
  | .rimEnum f => some (.rimEnum, f)
  | .powerStatus f => some (.powerStatus, f)
  | .railGet f => some (.railGet, f)
  | .railSet f => some (.railSet, f)
  | .powerSet f => some (.powerSet, f)
  | .enginePower f => some (.enginePower, f)
  | .powerControl f => some (.powerControl, f)
  | .clockStatus f => some (.clockStatus, f)
  | .clockSet f => some (.clockSet, f)
  | .clockOutSet f => some (.clockOutSet, f)
  | .pairStatus f => some (.pairStatus, f)
  | .pairSet f => some (.pairSet, f)
  | .pairHandover f => some (.pairHandover, f)
  | .bgStatus f => some (.bgStatus, f)
  | .telemetryRead f => some (.telemetryRead, f)
  | .lifeGet f => some (.lifeGet, f)
  | .bgSet f => some (.bgSet, f)
  | .bootStatus f => some (.bootStatus, f)
  | .fwStage f => some (.fwStage, f)
  | .fwActivate f => some (.fwActivate, f)
  | .fwCommit f => some (.fwCommit, f)
  | .lifecycleSet f => some (.lifecycleSet, f)
  | .debugUnlock f => some (.debugUnlock, f)
  | .debugLock f => some (.debugLock, f)
  | .calResult f => some (.calResult, f)
  | .calRun f => some (.calRun, f)
  | .calApply f => some (.calApply, f)
  | .regSet f => some (.regSet, f)
  | _ => none

/-- The command of a frame passes steps 1 to 8 of R40 on a hamper without other flights; its SEQ is not the last one of
its session. -/
def checked (op : Op) (f : Frame) (s : State) : Bool :=
  let taken := takeSlot f.hamper.val s
  s.ready && !s.shs.lateDue && (s.io.hamper f.hamper.val).flights.isEmpty && f.seq != 0xFFFFFFFF
    && decide (f.hamper.val < s.io.hampers.length)
    && (orElse (earlyFault f taken) (sessionFault (specOf op) f taken)).isNone
    && (lateFault op (heldFlight op f s).cmd (acceptSeq f taken)).isNone

/-- The command of a frame is refused with a STATUS, a DETAIL and a LENGTH: the response carries LEDGER_SEQ 0, the
refusal is counted, and the host interface alone has changed (R38, R40). -/
def Refused (opcode : Nat) (f : Frame) (status detail len : Nat) (s t : State) : Prop :=
  t = { s with io := t.io }
    ∧ nextSlot f.hamper.val s t = (respOf opcode f status detail len 0 [] true s).slot (nextPhase f.hamper.val s)
    ∧ (t.io.hamper f.hamper.val).refusals = countRefusal (s.io.hamper f.hamper.val).refusals status

/-! ## Faults -/

/-- A fault is raised between two states (R437 to R439, R448, R449): the controller is in the state of its class, an
entry that is active already counts the raise, any other is in the list with its time, provided that the list is not
close to full, and its PROTECT record waits in the recorder's queue. -/
def Raised (c : Cls) (line index cause : Nat) (s t : State) : Prop :=
  t.saf.ctrl = classState c s.saf.ctrl
    ∧ if s.saf.faults.any fun x => x.line = line && x.index = index && x.cause = cause then
        s.saf.faults.length < 120 → ∃ e ∈ s.saf.faults, e.line = line ∧ e.index = index ∧ e.cause = cause
          ∧ ({ e with count := min (e.count + 1) 65535 } : FaultEntry) ∈ t.saf.faults
      else
        (s.saf.faults.length < 120 →
          ({ cls := c, line := line, index := index, cause := cause, time := s.io.time } : FaultEntry) ∈ t.saf.faults)
        ∧ ∃ r ∈ t.led.queue, r.kind = .protect ∧ r.time = s.io.time
          ∧ r.body = le 1 line ++ le 1 index ++ le 1 cause ++ le 1 c.code ++ le 4 s.saf.ctrl.code ++ le 4 t.saf.ctrl.code

/-- The controller state moves, and the move is recorded as STATE_MOVE and pulses its event line (R363, R431). -/
def Moves (c : CState) (s t : State) : Prop :=
  t = { s with io := t.io, saf := { s.saf with ctrl := c }, led := { s.led with queue := t.led.queue } }
    ∧ ∃ r ∈ t.led.queue, r.kind = .command ∧ r.subject = 0x01F0 ∧ r.origin = 3 ∧ r.time = s.io.time
      ∧ r.body = le 2 0 ++ [0xFF, 0] ++ le 4 0 ++ le 4 0 ++ le 2 2 ++ formBytes 0 (le 1 s.saf.ctrl.code ++ le 1 c.code)

/-- The fault class of a motor channel (R244). -/
def channelClass (i : Nat) (s : State) : Cls := match (s.motor i).set with | some p => motorClass p | none => .halt

/-- A motor channel is in FAULT with a cause, and the fault of its class is raised; where the loss of a polygon's NOTE
raises LATE_SPOIL too, nothing is said of the controller state (R213, R244). -/
def ChannelFaulted (i cause : Nat) (s t : State) : Prop :=
  (t.motor i).state = .fault ∧ (t.motor i).fault = cause
    ∧ (3 ≤ i ∨ channelClass i s ≠ .note → Raised (channelClass i s) (96 + i) (chTarget i) cause s t)

/-- An axis is in FAULT with a cause, and the fault of its class is raised (R263). -/
def AxisFaulted (i cause : Nat) (s t : State) : Prop :=
  (t.axis i).state = .fault ∧ (t.axis i).fault = cause
    ∧ Raised (match (s.axis i).set with | some p => axisClass p | none => .halt) (if cause = 0x0C then 117 else 118)
      (axTarget i) cause s t

/-- A heater zone without an earlier cause is in FAULT, its output is low, and the fault of its cause's class is raised
(R312). -/
def ZoneFaulted (z cause : Nat) (s t : State) : Prop :=
  (t.zone z).fault = cause ∧ (t.zone z).fire = false ∧ Raised (zoneClass cause) 176 z cause s t

/-! ## Resets, starts and power -/

/-- A controller reset with a source code (R433): internal reset is held in BOOT, TIME64 and the host interface start
again, and what MRAM, the NOR area, OTP and flash hold stays. -/
def IsReset (src : Nat) (s t : State) : Prop :=
  t.saf.ctrl = .boot ∧ t.saf.internalReset = true ∧ t.saf.inhibit = true ∧ t.saf.faults = [] ∧ t.saf.ilk = s.saf.ilk
    ∧ t.pwr.resetSrc = src ∧ t.pwr.rstoutHigh = false ∧ t.io.time = 0 ∧ t.io.hampers = List.replicate 8 {}
    ∧ t.io.sessions = List.replicate 16 none ∧ t.shs = {} ∧ t.boot.released = false
    ∧ t.led.journal = s.led.journal ∧ t.led.nor = s.led.nor ∧ t.led.head = s.led.head
    ∧ t.boot.flash = s.boot.flash ∧ t.boot.life = s.boot.life ∧ t.thm.latch = s.thm.latch ∧ t.pending = s.pending

/-- The boot ROM selects a slot for Renune (R390, R391): a trial slot on its first try, then the primary, then the other
one; the boot record says so, and the pairs are released with the version booted, or it is BOOT_FAIL. -/
def BootSelects (s t : State) : Prop :=
  let r := s.bootRec 0
  let first : Bool := r.trial != 0 && r.tries == 0
  match trySlots 0 s ((if first then [r.trial - 1] else []) ++ [r.primary, 1 - r.primary]) with
  | some a =>
    t = { s with saf := { s.saf with internalReset := false }, boot := t.boot
                 reg := { s.reg with fwVer := imgVersion (slotHeader 0 a s) % 2 ^ 24 } }
      ∧ t.boot.released = true ∧ t.boot.bootFail = false ∧ t.boot.flash = s.boot.flash
      ∧ t.bootRec 0 = { (if first then { r with tries := 1 }
        else if r.trial != 0 then { r with trial := 0, trialFailed := true } else r : BootRec) with booted := a + 1 }
  | none => t = { s with free := t.free, boot := t.boot } ∧ t.boot.bootFail = true ∧ t.boot.released = s.boot.released

/-- An on request in OFF starts the crystal (R403, R427). -/
def PowerStarts (t : State) : Prop := t.pwr.seq = .xtalStart ∧ t.saf.ctrl = .powerUp ∧ t.clk.xtalOn = true

/-- A power-down goes on after the EN of its highest rail has dropped: every other EN is as it was (R425). -/
def RailDrops (n : Nat) (s t : State) : Prop :=
  (t.rail n).en = false ∧ (t.rail n).qualified = false ∧ t.saf.powerDown = true ∧ t.saf.inhibit = true
    ∧ ∀ k, k ≠ n → (t.rail k).en = (s.rail k).en

end Sys2Proof.Machine
end

