-- ==== Sys2Proof/Certificates/Slice0/Obligations.lean ====
section
/-!
DEFINITION. The statements for the provers: what each row of the opcode table does, what a step does, and what every step
keeps.
-/
open Sys2Proof Sys2Proof.Machine

/-! ## Changes of Velov -/

/-- PORT_SET, STREAM_OPEN, STREAM_REKEY, STREAM_CLOSE and PAGE_RELEASE (R81, R94, R101). Readings of the model in these
clauses: assumption 18. -/
def Obligations.IntakeChangesTakeEffect : Prop :=
  Sets .portSet .portSet (fun f s => s.setPort f.tgt fun p => { p with set := f.pay.take 32, link := false })
  ∧ Sets .streamOpen .streamOpen (fun f s => s.setStrm f.tgt fun x => {
      state := .opened, pcie := byteAt f.pay 0 == 1, ports := byteAt f.pay 1, peerUdp := u16At f.pay 2
      weight := byteAt f.pay 4, quota := u32At f.pay 8, peer := sub f.pay 12 16
      cur := some { epoch := u16At f.pay 28, salt := sub f.pay 30 3, key := sub f.pay 48 32 }
      authFail := x.authFail, dropped := x.dropped, dupFrag := x.dupFrag, vtime := x.vtime })
  ∧ Sets .streamRekey .streamRekey (fun f s => s.setStrm f.tgt fun x =>
      { x with next := some { epoch := u16At f.pay 0, salt := sub f.pay 2 3, key := sub f.pay 8 32 } })
  ∧ Sets .streamClose .streamClose (fun f s =>
      if (s.strm f.tgt).state = .closed then s
      else ({ s with itk := { s.itk with pages := s.itk.pages.map fun p =>
          if p.stream ≠ f.tgt ∨ p.state = .complete ∨ (p.state = .rejected ∧ p.reason = 9 ∧ pageNeeded p.stream p.id s = true) then p
          else { p with bands := [], manUnits := [], manifest := none, total := none, manGrans := [], costs := [] } } } : State).setStrm
        f.tgt fun x => { x with
          state := .closed, cur := none, next := none, old := none, queue := [], gaps := [], reports := [], ackDue := false })
  ∧ Sets .pageRelease .pageRelease (fun f s => { s with itk := { s.itk with
      pages := s.itk.pages.filter fun p => !(p.stream == f.tgt && p.id == u32At f.pay 0) } })

/-- JOB_OPEN takes the lowest free job number; JOB_HOLD, JOB_RELEASE, PATH_SET and REG_SET store what they carry; the
changes of sheets and jobs (R201 to R203, R205, R207, R215, R220, R223, R224, R431). Readings of the model in these
clauses: assumptions 22 and 23. -/
def Obligations.JobChangesTakeEffect : Prop :=
  Completes .jobOpen .jobOpen (fun f s u => ∃ n, n < 256 ∧ s.job n = none ∧ (∀ m < n, s.job m ≠ none)
    ∧ Leaves f s u { s with shs := { s.shs with jobs := s.shs.jobs ++ [{ num := n, set := fit 16 f.pay }] } })
  ∧ Sets .jobHold .jobHold (fun f s => s.setJob f.tgt fun j => { j with held := byteAt f.pay 0 == 1 })
  ∧ Sets .jobRelease .jobRelease (fun f s => { s with
      shs := { s.shs with
        jobs := s.shs.jobs.filter fun j => j.num != f.tgt
        sheets := s.shs.sheets.filter fun x => x.job != f.tgt }
      img := { s.img with captures := s.img.captures.filter fun x =>
        !((s.shs.sheets.filter fun y => y.job == f.tgt).flatMap fun y => y.sides.map (·.capset)).contains x.num } })
  ∧ Sets .pathSet .pathSet (fun f s => { s with shs := { s.shs with path := some (fit 48 f.pay) } })
  ∧ Sets .regSet .regSet (fun f s => { s with shs := { s.shs with
      regY := s.shs.regY.set f.tgt (regYOf f.pay), regX := s.shs.regX.set f.tgt (regXOf f.pay) } })
  ∧ Takes .sheetAdd .sheetAdd (fun _ _ => True) (fun f s => restage ((List.range (frameLen f / 16)).foldl
    (fun s k => addCopies f.tgt (sub f.pay (16 * k) 16) (byteAt f.pay (16 * k + 9)) s) s))
  ∧ Takes .jobClose .jobClose (fun _ _ => True) (fun f s => checkEnded f.tgt (closeJob f.tgt s))
  ∧ Takes .sheetAbort .sheetAbort (fun _ _ => True) (fun f s => match s.sheet f.tgt with
      | some x => checkEnded x.job (lateSpoils (abortSheet f.tgt s))
      | none => s)
  ∧ Takes .jobAbort .jobAbort (fun _ _ => True) (fun f s => checkEnded f.tgt (lateSpoils
      ((sheetIds (fun x => x.job == f.tgt && !x.state.terminal) s).foldl (fun s id => abortSheet id s) (closeJob f.tgt s))))
  ∧ Takes .launchControl .launchControl (fun _ _ => True) (fun f s =>
      if byteAt f.pay 0 = 1 then s.setCtrl .run else unadmitAll (s.setCtrl .drain))
  ∧ Takes .calRun .calRun (fun _ _ => True) (fun f s => calOpen (byteAt f.pay 1) { s with
      io := finishAll .calRun (fun g => !(g.hamper.val == f.hamper.val && g.tag == f.tag)) stFaulted 0x80 [] s.io
      shs := { s.shs with calRun := some (fit 24 f.pay), proposal := none } })
  ∧ Takes .calApply .calApply (fun _ _ => True) (fun _ s => match s.shs.proposal with
      | none => s
      | some y => (calChanges y s).reverse.foldl
          (fun s x => s.recordNext (renuneRec s x.1 x.2.2.1 x.2.2.2 .ordinary (.renune x.2.1 x.2.2.1 x.2.2.2)))
          { s with shs := { s.shs with proposal := none } })

/-- SCREEN_LOAD, ECM_LOAD, PROFILE_SET, HISTORY_LOAD, DELAY_LOAD, APC_TARGET and LINK_SET change their station alone; a
correction bank or history bank becomes active with the LEDGER_SEQ of its entry (R140, R148, R153, R171, R172, R175).
Readings of the model in these clauses: assumption 21. -/
def Obligations.StationChangesTakeEffect : Prop :=
  Sets .screenLoad .screenLoad (fun f s => s.setStn (f.tgt % 8) fun x => { x with
      screens := upd x.screens (f.tgt / 8) fun k => { k with state := .loading } })
  ∧ Sets .ecmLoad .ecmLoad (fun f s => s.setStn (f.tgt % 8) fun x => { x with
      ecm := x.ecm.set (1 - x.ecmActive) { data := f.pay, seq := s.led.head + 1 }, ecmActive := 1 - x.ecmActive
      corrOut := false })
  ∧ Sets .profileSet .profileSet (fun f s => s.setStn (f.tgt % 8) fun x => { x with
      profiles := x.profiles.set (f.tgt / 8) (fit 8 f.pay) })
  ∧ Sets .historyLoad .historyLoad (fun f s => s.setStn (f.tgt % 8) fun x => { x with
      hist := x.hist.set (1 - x.histActive)
        { classes := (x.hist.getD x.histActive {}).classes.set (f.tgt / 8) f.pay, seq := s.led.head + 1 }
      histActive := 1 - x.histActive, corrOut := false })
  ∧ Sets .delayLoad .delayLoad (fun f s => s.setStn (f.tgt % 8) fun x => { x with delayNext := some (f.pay, s.led.head + 1) })
  ∧ Completes .apcTarget .apcTarget (fun f s u =>
      (∀ i, i ≠ f.tgt % 8 → u.stn i = s.stn i)
        ∧ Leaves f s u { s with img := { s.img with stations := u.img.stations } }
        ∧ (f.tgt % 8 < s.img.stations.length →
            (u.stn (f.tgt % 8)).corrOut = false
              ∧ if (s.stn (f.tgt % 8)).apcRuns then
                  (u.stn (f.tgt % 8)).apcNext = some (fit 136 f.pay) ∧ (u.stn (f.tgt % 8)).apc = (s.stn (f.tgt % 8)).apc
                    ∧ (u.stn (f.tgt % 8)).drive = (s.stn (f.tgt % 8)).drive
                else
                  (u.stn (f.tgt % 8)).apc = fit 136 f.pay ∧ (u.stn (f.tgt % 8)).apcNext = none
                    ∧ (u.stn (f.tgt % 8)).weak = List.replicate 64 false
                    ∧ ∀ b, (u.stn (f.tgt % 8)).drive.getD b 0
                      = if u16At (fit 136 f.pay) (2 * b) = 0 then 0 else (s.stn (f.tgt % 8)).drive.getD b 0))
  ∧ Completes .linkSet .linkSet (fun f s u =>
      (∀ i, i ≠ f.tgt % 8 → u.stn i = s.stn i)
        ∧ Leaves f s u { s with img := { s.img with stations := u.img.stations } }
        ∧ (f.tgt % 8 < s.img.stations.length →
            (u.stn (f.tgt % 8)).laneMask = byteAt f.pay 0 ∧ (u.stn (f.tgt % 8)).lpiMin = u16At f.pay 2
              ∧ ∀ m < 4, bit (byteAt f.pay 0) m = false → (u.lane (f.tgt % 8) m).state = .down))

/-- POLYGON_SET, SCAN_SET, FACET_LOAD and FACET_LEARN change their polygon or Weaver alone (R188, R197, R199);
SCAN_START plans and starts its polygon, whose motor faults where its sampling phases do not train, and SCAN_STOP stops
it (R178, R184, R198, R487). Readings of the model in these clauses: assumptions 3 and 21. -/
def Obligations.ScanChangesTakeEffect : Prop :=
  Sets .polygonSet .polygonSet (fun f s => s.setPoly f.tgt fun y => { y with set := some (fit 48 f.pay) })
  ∧ Sets .scanSet .scanSet (fun f s => s.setStn f.tgt fun x => { x with weaver := { x.weaver with set := some (fit 24 f.pay) } })
  ∧ Sets .facetLoad .facetLoad (fun f s => s.setStn f.tgt fun x =>
      { x with weaver := { x.weaver with facetsNext := some (fit 16 f.pay) }, corrOut := false })
  ∧ Sets .facetLearn .facetLearn (fun f s => s.setPoly f.tgt fun y =>
      { y with learn := some { left := 256 * y.n, sums := List.replicate y.n 0, total := 0 } })
  ∧ Takes .scanStart .scanStart (fun _ _ => True)
      (fun f s => lateSpoils (startPolygon f.tgt (u32At f.pay 0) (endScanCommands f.tgt f.hamper.val f.tag.toNat s)))
  ∧ Takes .scanStop .scanStop (fun _ _ => True)
      (fun f s => if weaversOff f.tgt s then s else stopPolygon f.tgt (endScanCommands f.tgt f.hamper.val f.tag.toNat s))

/-- MOTOR_SET and BUS_SET store their parameters with the defaults (R249, R251); MOTOR_START, MOTOR_STOP, MOTOR_SPEED and
MOTOR_CLEAR wait for their channel's next period, a MOTOR_STOP and a MOTOR_CLEAR where there is something to stop or to
clear (R247, R250). What the period then does of them is in `ChannelEvents` and `ChannelPeriodEvents`. Readings of the model in these
clauses: assumption 15. -/
def Obligations.MotorChangesTakeEffect : Prop :=
  Sets .motorSet .motorSet (fun f s => s.setMotor (chIdx f.tgt) fun m => { m with set := some (motorFill (chIdx f.tgt) f.pay) })
  ∧ Sets .motorSpeed .motorSpeed (fun f s => s.setMotor (chIdx f.tgt) fun m => { m with wait := m.wait ++ [.speed (i32At f.pay 0)] })
  ∧ Sets .busSet .busSet (fun f s => s.setBus f.tgt fun b => { b with set := some (busFill f.pay), chopFault := false, chopHot := false })
  ∧ Sets .motorStop .motorStop (fun f s => if motorRests (chIdx f.tgt) s then s
      else s.setMotor (chIdx f.tgt) fun m => { m with wait := m.wait ++ [.stop (byteAt f.pay 0)] })
  ∧ Sets .motorClear .motorClear (fun f s =>
      if (s.motor (chIdx f.tgt)).soon = .fault then s.setMotor (chIdx f.tgt) fun m => { m with wait := m.wait ++ [.clear] } else s)
  ∧ Sets .motorStart .motorStart (fun f s => s.setMotor (chIdx f.tgt) fun m =>
      { m with startNs := some 0, wait := m.wait ++ [.start (startTarget (chIdx f.tgt) f.pay s)] })

/-- The changes of an axis (R259, R264, R265, R268, R269): parameters, ENABLE into HOLD or OFF, a move and a homing from
the position held, a stop, and the return from FAULT. Readings of the model in these clauses: assumption 15. -/
def Obligations.AxisChangesTakeEffect : Prop :=
  Sets .axisSet .axisSet (fun f s => s.setAxis (axIdx f.tgt) fun a => { a with set := some (axisFill (axIdx f.tgt) f.pay) })
  ∧ Sets .axisEnable .axisEnable (fun f s => s.setAxis (axIdx f.tgt) fun a => { a with
      state := if byteAt f.pay 0 = 1 then .hold else .off, running := byteAt f.pay 0 == 1 && a.running, vel := 0
      drive := byteAt f.pay 0 == 1, lowRun := if a.drive then a.lowRun else (0, 0), lastPos := if a.drive then a.lastPos else a.pos
      ia := if byteAt f.pay 0 = 1 then a.ia else 0, ib := if byteAt f.pay 0 = 1 then a.ib else 0 })
  ∧ Sets .axisMove .axisMove (fun f s =>
      startMove (axIdx f.tgt) (parseSegs (frameLen f / 24) f.pay (s.axis (axIdx f.tgt)).pos) s)
  ∧ Sets .axisStop .axisStop (fun f s =>
      if (s.axis (axIdx f.tgt)).state = .moving ∨ (s.axis (axIdx f.tgt)).state = .homing
      then (if (s.axis (axIdx f.tgt)).homeHit then s else stopAxis (axIdx f.tgt) s).setAxis (axIdx f.tgt) fun a => { a with
        state := .stopping, home := none, homeHit := false, homed := a.homed && a.home.isNone, stopDetail := 0x80 }
      else s)
  ∧ Completes .axisHome .axisHome (fun f s u => ∃ p, (s.axis (axIdx f.tgt)).set = some p ∧ Leaves f s u
      ((startMove (axIdx f.tgt) [{
          pos := (s.axis (axIdx f.tgt)).pos + (if bit (byteAt f.pay 1) 0 then aMin p - aMax p else aMax p - aMin p)
          mark := false, blend := false, vmax := u32At f.pay 4, acc := u32At p 44, jerk := u32At p 48 }] s).setAxis
        (axIdx f.tgt) fun a => { a with
          state := .homing, homed := false, homeHit := false
          home := some (byteAt f.pay 0, bit (byteAt f.pay 1) 0, bit (byteAt f.pay 1) 1, u32At f.pay 4,
            toSigned 48 (leAt f.pay 8 6)) }))
  ∧ Sets .axisClear .axisClear (fun f s => s.setAxis (axIdx f.tgt) fun a =>
      if a.state = .fault then { a with state := .off, fault := 0, drive := false, running := false } else a)

/-- The changes of the feedback unit (R275, R281, R284, R285, R287): settings, a position written, a latched fault
cleared. Readings of the model in these clauses: assumption 15. -/
def Obligations.FeedbackChangesTakeEffect : Prop :=
  Sets .qeSet .qeSet (fun f s => s.setQe f.tgt fun q => { q with set := fit 24 f.pay })
  ∧ Sets .seSet .seSet (fun f s => s.setSe (f.tgt - 16) fun q => { q with set := fit 32 f.pay, last := none })
  ∧ Sets .prbSet .prbSet (fun f s => s.setPrb (f.tgt - 32) fun p => { p with set := fit 8 f.pay })
  ∧ Takes .cmpSet .cmpSet (fun _ _ => True) (fun f s => writeCmp (f.tgt - 48) f.pay s)
  ∧ Completes .posSet .posSet (fun f s u =>
      Leaves f s u { s with fb := { s.fb with qe := u.fb.qe, se := u.fb.se, cmp := u.fb.cmp } }
        ∧ (f.tgt < 8 → u.fb.qe = upd s.fb.qe f.tgt fun q =>
              { q with ctr := { q.ctr with pos := toSigned 48 (leAt f.pay 0 6) }, posBad := false })
        ∧ (16 ≤ f.tgt → u.fb.se = upd s.fb.se (f.tgt - 16) fun q =>
              { q with ctr := { q.ctr with pos := toSigned 48 (leAt f.pay 0 6) }
                       goodPos := toSigned 48 (leAt f.pay 0 6), readAt := s.io.time })
        ∧ (∀ k < 16, ctrIdx (byteAt (s.cmpUnit k).set 0) = ctrIdx f.tgt → (u.cmpUnit k).live = false ∧ (u.cmpUnit k).armed = false)
        ∧ ∀ k, ctrIdx (byteAt (s.cmpUnit k).set 0) ≠ ctrIdx f.tgt → u.cmpUnit k = s.cmpUnit k)
  ∧ Sets .fbClear .fbClear (fun f s =>
      if f.tgt < 8 then s.setQe f.tgt fun q => { q with fault := 0, raised := [] }
      else s.setSe (f.tgt - 16) fun e => { e with
        goodPos := if e.fallback then e.ctr.pos else e.goodPos, readAt := if e.fallback then s.io.time else e.readAt
        fault := 0, raised := [], fallback := false, extrap := false, failRun := 0, valid := decide (0 < e.goodRun) || e.valid })

/-- The changes of a loop, which but for LOOP_SET wait for its next period (R289, R292, R301, R302), and of the thermal unit (R303, R305, R309, R312, R316).
Readings of the model in these clauses: assumptions 15 and 16. -/
def Obligations.ControlChangesTakeEffect : Prop :=
  Takes .loopSet .loopSet (fun _ _ => True) (fun f s => loopOutput f.tgt (loopFill f.pay) (s.setLoop f.tgt fun l =>
      { l with set := some (loopFill f.pay), u := i32At (loopFill f.pay) 48, outMax := none }))
  ∧ Sets .loopSp .loopSp (fun f s => s.setLoop f.tgt fun l =>
      if l.set.isSome then { l with wait := l.wait ++ [.sp (i32At f.pay 0)] } else { l with sp := i32At f.pay 0 })
  ∧ Sets .loopStart .loopStart (fun f s => s.setLoop f.tgt fun l => { l with wait := l.wait ++ [.start] })
  ∧ Sets .loopStop .loopStop (fun f s => if loopRests f.tgt s then s
      else s.setLoop f.tgt fun l => { l with wait := l.wait ++ [.stop (byteAt f.pay 0)] })
  ∧ Sets .loopClear .loopClear (fun f s => s.setLoop f.tgt fun l =>
      if l.set.isSome then { l with wait := l.wait ++ [.clear] }
      else if l.state = .fault then { l with flags := List.replicate 7 false, fault := 0, bad := 0, fe := 0, state := .off, bandRun := 0 }
      else { l with flags := List.replicate 7 false })
  ∧ Completes .zoneSet .zoneSet (fun f s u =>
      Leaves f s u { s with thm := { s.thm with zones := u.thm.zones }, cle := { s.cle with lps := u.cle.lps } }
      ∧ (∀ z, z ≠ f.tgt → u.zone z = s.zone z)
      ∧ (f.tgt < s.thm.zones.length →
          (u.zone f.tgt).set = some (fillDefaults zoneFields f.pay) ∧ (u.zone f.tgt).enabled = bit (byteAt f.pay 0) 0
          ∧ (u.zone f.tgt).pLim = zMax (fillDefaults zoneFields f.pay) ∧ (u.zone f.tgt).fire = false
          ∧ (u.zone f.tgt).fault = (s.zone f.tgt).fault ∧ (u.zone f.tgt).stalled = false
          ∧ (bit (byteAt f.pay 0) 0 = true → (u.zone f.tgt).tp = (u.zone f.tgt).tm)))
  ∧ Sets .thSet .thSet (fun f s => s.setTh f.tgt fun _ => { set := f.pay })
  ∧ Sets .curveLoad .curveLoad (fun f s => { s with thm := { s.thm with curves := upd s.thm.curves f.tgt fun _ => curveOf f.pay } })
  ∧ Sets .dieSet .dieSet (fun f s => { s with thm := { s.thm with dieSet := fillDefaults dieFields f.pay } })
  ∧ Sets .thermalClear .thermalClear (fun f s =>
      if f.tgt = 16 then { s with thm := { s.thm with dieFault := 0 } }
      else s.setZone f.tgt fun x => { x with fault := 0, faultNew := false })

/-- RIM_CONFIG waits for the next ENUM, NODE_WRITE queues its message with the next MSG tag, RIM_ENUM enters ENUM (R327,
R328, R336, R344); the handover of a pair's ACTIVE sends DECLARE with cause 3 (R462). Readings of the model in these
clauses: assumptions 17 and 26. -/
def Obligations.RimAndPairChangesTakeEffect : Prop :=
  Sets .rimConfig .rimConfig (fun f s => { s with rim := { s.rim with config := some (rimFill f.pay) } })
  ∧ Completes .nodeWrite .nodeWrite (fun f s u => ∃ p, nodePos f.tgt s = some p ∧ Leaves f s u { s with rim := { s.rim with
      nodes := upd s.rim.nodes p fun n => { n with msgs := n.msgs ++
        [{ why := .command true f.hamper.val f.tag.toNat, tag := s.rim.nextTag, bytes := f.pay.take (frameLen f) }] }
      nextTag := (s.rim.nextTag + 1) % 256 } })
  ∧ Sets .rimEnum .rimEnum (fun _ s => { s with rim := { s.rim with
      state := .enum, broken := false, fault := 0, nodes := [], servedA := 0, enumLast := none, enumFrames := 0, flying := []
      topo := match s.rim.config with | some c => some c | none => s.rim.topo, config := none } })
  ∧ Takes .pairHandover .pairHandover (fun _ _ => True) (fun _ s =>
    if s.pair.role = .active ∧ s.pair.link = true ∧ s.pair.declared = none then
      { s with free := s.free + 1, pair := { s.pair with
          sent := .declare (s.io.time + 10000 + freeBits .pair 16 0 s) :: s.pair.sent.filter fun x => x.kind != 5
          declared := some (s.io.time + 10000 + freeBits .pair 16 0 s, 3) } }
    else s)

/-- RAIL_SET, POWER_SET, CLOCK_SET, CLOCK_OUT_SET, PAIR_SET, BG_SET and FW_COMMIT store what they carry; a zero field of
CLOCK_SET or BG_SET keeps its value, and FW_COMMIT raises the rollback value to the SVN of the trial image (R399, R424,
R435, R453). Readings of the model in these clauses: assumptions 24, 25 and 26. -/
def Obligations.ServiceSettingsTakeEffect : Prop :=
  Sets .railSet .railSet (fun f s => { s with pwr := { s.pwr with
      rails := upd s.pwr.rails f.tgt fun r => { r with stored := railOf (railFill f.pay) } } })
  ∧ Sets .powerSet .powerSet (fun f s => { s with pwr := { s.pwr with
      retries := byteAt f.pay 0, autoOn := byteAt f.pay 1 == 1, minOff := u16At f.pay 2, longPress := u16At f.pay 4
      offGrace := u16At f.pay 6, rstoutDelay := u16At f.pay 8 } })
  ∧ Sets .clockSet .clockSet (fun f s => { s with clk := { s.clk with
      refModeSet := byteAt f.pay 0, xtalModeSet := byteAt f.pay 1
      startMax := if u16At f.pay 2 = 0 then s.clk.startMax else u16At f.pay 2 } })
  ∧ Sets .clockOutSet .clockOutSet (fun f s => { s with clk := { s.clk with cko := upd s.clk.cko f.tgt fun o =>
      { o with format := byteAt f.pay 0, source := byteAt f.pay 1, div := byteAt f.pay 2 } } })
  ∧ Sets .pairSet .pairSet (fun f s => { s with pair := { s.pair with peerSerial := fit 16 f.pay, stored := byteAt f.pay 16 == 1 } })
  ∧ Completes .bgSet .bgSet (fun f s u => Leaves f s u { s with bg := { s.bg with
      jobs := u.bg.jobs, ceWarn := if u16At f.pay 20 = 0 then s.bg.ceWarn else u16At f.pay 20
      ageWarn := if u16At f.pay 22 = 0 then s.bg.ageWarn else u16At f.pay 22 } }
    ∧ ∀ x ∈ periodTable, u.bg.jobs[x.1]?
        = (s.bg.jobs[x.1]?).map fun j => if u32At f.pay x.2.1 = 0 then j else { j with next := u32At f.pay x.2.1 })
  ∧ Sets .fwCommit .fwCommit (fun f s => s.setBootRec (f.tgt - 1) fun r =>
      if r.trial = 0 then r
      else { r with primary := r.trial - 1, trial := 0, tries := 0
                    rollback := max r.rollback (imgSvn (slotHeader (f.tgt - 1) (r.trial - 1) s)) })

/-- ENGINE_POWER starts the engine phase from CHIP_ON, and leaves an engine phase alone that already stands where it
asks (R430, R435); POWER_CONTROL 1 and 2 are off requests, 2 with the automatic return (R426, R435); POWER_CONTROL 3: a
controller reset of source 5 follows the response (R433, R435). Readings of the model in these clauses: assumption 24.
-/
def Obligations.PowerChangesTakeEffect : Prop :=
  Takes .enginePower .enginePower
    (fun f s => engineThere (byteAt f.pay 0) s = true ∨ (byteAt f.pay 0 = 1 ∧ s.pwr.seq = .chipOn))
    (fun f s => if engineThere (byteAt f.pay 0) s then s else startPhase true 0 s)
  ∧ Takes .powerControl .powerControl (fun f s => byteAt f.pay 0 ≠ 3 ∧ s.pwr.seq ≠ .chipUp ∧ s.pwr.seq ≠ .engineUp)
      (fun f s => if byteAt f.pay 0 = 2
        then { offRequest 3 s with pwr := { (offRequest 3 s).pwr with latched := some ((offRequest 3 s).pwr.latched.getD .cycle) } }
        else offRequest 3 s)
  ∧ Completes .powerControl .powerControl (fun f s u => byteAt f.pay 0 = 3 →
    ∃ k : State, k = { s with io := k.io, saf := k.saf, led := k.led, pwr := { s.pwr with resetDue := some 5 } }
      ∧ k.led.head = s.led.head + 1 ∧ u = controllerReset 5 (inhibitUnits k))

/-- The changes of boot and trust (R395, R396, R399): staging erases its slot at OFFSET 0, activation makes the inactive
slot the trial and with its reset bit a controller reset of source 5 follows the response, the lifecycle takes one step,
provisioning begins the ledger again with a key, and the debug port opens and closes. Readings of the model in these
clauses: assumptions 9 and 28. -/
def Obligations.BootChangesTakeEffect : Prop :=
  Completes .fwStage .fwStage (fun f s u => match inactiveSlot (f.tgt - 1) s with
    | some a => if u32At f.pay 0 = 0
        then Leaves f s u { s with
            boot := { s.boot with flash := upd s.boot.flash (slotNo (f.tgt - 1) a) fun _ => [] }
            bg := { s.bg with erases := u.bg.erases } }
          ∧ ∀ k, (u.bg.erases.find? fun x => x.1 == k).map (·.2)
            = if 65536 + (slotSectors (slotNo (f.tgt - 1) a)).1 ≤ k
                ∧ k < 65536 + (slotSectors (slotNo (f.tgt - 1) a)).1 + (slotSectors (slotNo (f.tgt - 1) a)).2
              then some (((s.bg.erases.find? fun x => x.1 == k).map (·.2)).getD 0 + 1)
              else (s.bg.erases.find? fun x => x.1 == k).map (·.2)
        else Leaves f s u s
    | none => Leaves f s u s)
  ∧ Completes .fwActivate .fwActivate (fun f s u => ∃ a, inactiveSlot (f.tgt - 1) s = some a
      ∧ (byteAt f.pay 0 ≠ 1 → Leaves f s u (s.setBootRec (f.tgt - 1) fun r =>
          { r with trial := a + 1, tries := 0, trialFailed := false }))
      ∧ (byteAt f.pay 0 = 1 → ∃ k : State,
          k = { s.setBootRec (f.tgt - 1) (fun r => { r with trial := a + 1, tries := 0, trialFailed := false }) with
            io := k.io, saf := k.saf, led := k.led, pwr := { s.pwr with resetDue := some 5 } }
          ∧ k.led.head = s.led.head + 1 ∧ u = controllerReset 5 (inhibitUnits k)))
  ∧ Completes .lifecycleSet .lifecycleSet (fun f s u =>
      (byteAt f.pay 0 = 1 → s.boot.life = .blank ∧ u.boot.life = .provisioned
        ∧ u.boot.ok = [otpField (sub f.pay 8 48), otpField (sub f.pay 56 48)]
        ∧ u.boot.otpKeys = s.boot.otpKeys ++ oemKeys f.pay ∧ u.boot.laidArea = s.led.areaMiB ∧ u.led.keyed = true
        ∧ u.led.head = 0 ∧ u.led.nor = [])
      ∧ (byteAt f.pay 0 = 2 → s.boot.life = .provisioned
        ∧ Leaves f s u { s with boot := { s.boot with life := .field } })
      ∧ (byteAt f.pay 0 = 3 → s.boot.life = .field
        ∧ Leaves f s u { s with boot := { s.boot with life := .returned } }
        ∧ u.led.lastCkpt = ((s.led.head + 1) / 1024 + 1) * 1024))
  ∧ Sets .debugUnlock .debugUnlock (fun _ s => { s with boot := { s.boot with debugOpen := true } })
  ∧ Sets .debugLock .debugLock (fun _ s => { s with boot := { s.boot with debugOpen := false } })

/-- The changes of the host interface and of the ledger (R43, R47 to R49, R52, R53, R364, R372, R450): each row answers the
state in which it is recorded, and the commit of its entry answers the state with its effect. Readings of the model in
these clauses: assumptions 3, 7 and 8. -/
def Obligations.HostChangesTakeEffect : Prop :=
  Completes .evringSet .evringSet (fun f s u => u = { s with io := u.io, saf := u.saf, led := u.led }
    ∧ ((s.io.hamper f.hamper.val).complWait = [] → Leaves f s u s) ∧ u.io.sessions = s.io.sessions
    ∧ (u.io.hamper f.hamper.val).ring.base = u64At f.pay 0 ∧ (u.io.hamper f.hamper.val).ring.log2n = byteAt f.pay 8
    ∧ (u.io.hamper f.hamper.val).ring.enabled = (byteAt f.pay 9 == 1))
  ∧ Completes .eventRoute .eventRoute (fun f s u => u = { s with io := u.io, saf := u.saf, led := u.led }
    ∧ (byteAt f.pay 0 < 0x40 → byteAt f.pay 1 < 0x40 → Leaves f s u s) ∧ u.io.sessions = s.io.sessions
    ∧ u.io.lines.map (·.sinks) = (upd s.io.lines f.tgt fun l =>
        { l with sinks := l.sinks.take 2 ++ [byteAt f.pay 0, byteAt f.pay 1] }).map (·.sinks))
  ∧ Completes .sessionOpen .sessionOpen (fun f s u => ∃ k, (s.io.hamper f.hamper.val).nonce = some k
    ∧ u = { s with io := u.io, saf := u.saf, led := u.led, free := s.free + 1 }
    ∧ u.saf.ctrl = s.saf.ctrl ∧ u.saf.ilk = s.saf.ilk ∧ u.io.time = s.io.time ∧ u.led.head = s.led.head + 1 ∧ MemoryKept f s u
    ∧ u.io.sessions = upd s.io.sessions k.slot (fun _ =>
        some { id := newSession s, hamper := f.hamper.val, role := roleOfCode (byteAt f.pay 2) })
    ∧ u.io.usedIds = newSession s :: s.io.usedIds ∧ (u.io.hamper f.hamper.val).nonce = none)
  ∧ Completes .sessionClose .sessionClose (fun f s u => ∃ k, sessionSlot f s = some k
    ∧ Leaves f s u s ∧ u.io.sessions = upd s.io.sessions k fun _ => none)
  ∧ Takes .faultClear .faultClear (fun _ _ => True) (fun _ s => clearFaults s)
  ∧ Completes .ledgerRelease .ledgerRelease (fun f s u =>
      Leaves f s u { s with bg := { s.bg with erases := u.bg.erases } }
        ∧ u.led.firstHeld = max s.led.firstHeld (u64At f.pay 0 + 1))
  ∧ Completes .timeAnchor .timeAnchor (fun f s u => Leaves f s u s
      ∧ u.led.queue.head? = some
        (anchorRec 2 (u32At f.pay 12 * 1000) s.io.time (u64At f.pay 0) (u32At f.pay 8) 0 0 0 s.io.time))

/-- CMD_ABORT (R45): its row answers the state in which it is recorded, and the commit of its entry answers a state. Where
the command it names runs and may still be ended, no flight with that TAG is in progress any more. Readings of the model
in these clauses: assumption 7. -/
def Obligations.AbortEndsARunningCommand : Prop :=
  ∀ f x s, aborts f x s = true →
    exec (.cmdAbort f) s = .next (recordedState .cmdAbort f s)
      ∧ ∃ u, exec .ledgerEntryCommit (recordedState .cmdAbort f s) = .next u
        ∧ ((∀ c k, (specOf x.op).canAbort c k = true) → (specOf x.op).abortPosts = true →
          ∀ y ∈ (u.io.hamper f.hamper.val).flights, y.f.tag.toNat = f.tgt → y.gone = 0 → y.stage = .final)

/-! ## Queries of Velov -/

/-- FAULT_LIST, LEDGER_STATUS, LEDGER_IDENT, STREAM_STATUS and PAGE_STATUS (R98, R374, R451); JOB_STATUS, SHEET_GET,
LAUNCH_STATUS and CAL_RESULT (R219, R223, R224), where the bytes of a proposal are free values. Readings of the model in
these clauses: assumptions 3 and 10. -/
def Obligations.HostAndSheetQueriesAnswer : Prop :=
  AnswersDone .faultList .faultList (fun _ s => le 2 s.saf.faults.length ++ le 2 s.saf.overflow
      ++ le 1 (s.saf.faults.foldl (fun n e => max n e.cls.code) 0) ++ zeros 11 ++ s.saf.faults.flatMap fun e =>
        le 1 e.cls.code ++ le 1 (b2n (persists e s) + 2 * b2n (unitFaulted e s)) ++ le 1 e.line ++ le 1 e.index
          ++ le 2 e.cause ++ le 2 e.count ++ le 8 e.time ++ le 8 e.seq)
  ∧ AnswersDone .ledgerStatus .ledgerStatus (fun _ s => le 8 s.led.head ++ le 8 s.led.firstHeld ++ le 8 s.led.exported
      ++ le 8 s.led.signed ++ le 2 (satN 16 (ledgerSpare s)) ++ le 2 (reserveLeft s) ++ le 4 s.led.boot)
  ∧ AnswersDone .ledgerIdent .ledgerIdent (fun _ s =>
      fit 104 (ledgerPub s) ++ le 4 certificate.length ++ zeros 4 ++ certificate)
  ∧ AnswersDone .streamStatus .streamStatus (fun f s =>
      le 1 (s.strm f.tgt).state.code ++ le 1 (b2n (s.strm f.tgt).pcie)
        ++ le 2 (match (s.strm f.tgt).cur with | some k => k.epoch | none => 0) ++ le 8 ((s.strm f.tgt).low - 1)
        ++ le 8 (s.strm f.tgt).high ++ le 4 (streamGranules f.tgt s) ++ le 4 (s.strm f.tgt).authFail
        ++ le 4 (s.strm f.tgt).dropped
        ++ le 2 (s.itk.pages.filter fun p => p.stream == f.tgt && p.state == .complete).length
        ++ le 2 (s.itk.pages.filter fun p => p.stream == f.tgt && p.state == .receiving).length ++ zeros 4)
  ∧ AnswersDone .pageStatus .pageStatus (fun f s => match s.page f.tgt (u32At f.pay 0) with
      | some p => stagingReport p
      | none => [])
  ∧ (∀ f s, passes .jobStatus f s = true → (s.job f.tgt).isSome = true)
  ∧ AnswersDone .jobStatus .jobStatus (fun f s => match s.job f.tgt with
      | none => []
      | some j => le 1 j.state.code ++ le 1 (b2n j.held)
          ++ le 1 ((((j.sheets.filterMap s.sheet).find? fun x => decide (x.state.code ≤ 2)).map (·.wait)).getD 0) ++ [0]
          ++ le 4 ((s.shs.sheets.filter fun x => x.job == f.tgt).filter fun x => decide (x.state.code ≤ 2)).length
          ++ le 4 ((s.shs.sheets.filter fun x => x.job == f.tgt).filter fun x => x.state == .delivered).length
          ++ le 4 ((s.shs.sheets.filter fun x => x.job == f.tgt).filter fun x =>
              x.state == .spoiled || x.state == .lost).length)
  ∧ AnswersDone .sheetGet .sheetGet (fun f s => match s.sheet f.tgt with
      | none => []
      | some x => sheetRecord x)
  ∧ AnswersDone .launchStatus .launchStatus (fun _ s =>
      le 4 ((plannedV s).getD 0)
        ++ le 1 (b2n ((polysOn s).all fun p => polyToken p s)
          + 2 * b2n (((List.range 5).filter fun i => bit (stationsOn s) i).all fun i => stationToken i s)
          + 4 * b2n (hvToken ((List.range 5).filter fun i => bit (stationsOn s) i) s) + 8 * b2n (fuserToken s)
          + 16 * b2n (ledgerToken s))
        ++ le 1 (s.shs.sheets.filter (·.state.inFlight)).length ++ le 2 (4096 - liveSheets s)
        ++ le 2 (s.shs.sheets.foldl (fun n z => if z.state.inFlight then n + z.slots.foldl (· + ·) 0 else n) 0)
        ++ le 2 (min 65535 (ledgerSpare s)) ++ le 1 (b2n s.shs.speedHold) ++ zeros 19)
  ∧ AnswersDone .calResult .calResult (fun _ s =>
      if s.shs.proposal.isSome then freeBytes .calibration (freeBits .calibration 12 0 s) 1 s else [])

/-- SCREEN_INFO, ECM_READ, PROFILE_GET, LINK_STATUS, APC_READ and SCAN_PLAN (R177, R198). Readings of the model in these
clauses: assumption 21. -/
def Obligations.ImagingQueriesAnswer : Prop :=
  AnswersDone .screenInfo .screenInfo (fun f s =>
      le 1 ((s.stn (f.tgt % 8)).screens.getD (f.tgt / 8) {}).state.code
        ++ fit 4 ((s.stn (f.tgt % 8)).screens.getD (f.tgt / 8) {}).data ++ zeros 3
        ++ (if ((s.stn (f.tgt % 8)).screens.getD (f.tgt / 8) {}).state = .loaded
            then (sha256 (((s.stn (f.tgt % 8)).screens.getD (f.tgt / 8) {}).data.drop 16)).take 16
            else (sha256 []).take 16))
  ∧ AnswersDone .ecmRead .ecmRead (fun f s => fit 24672 ((s.stn (f.tgt % 8)).ecm.getD (f.tgt / 8) {}).data)
  ∧ AnswersDone .profileGet .profileGet (fun f s => (s.stn (f.tgt % 8)).profiles.getD (f.tgt / 8) [])
  ∧ AnswersDone .linkStatus .linkStatus (fun f s => ((s.stn (f.tgt % 8)).lanes.flatMap fun l =>
      le 1 l.state.code ++ le 2 l.maker ++ le 2 l.model ++ leI 1 l.temp ++ le 1 l.fails ++ [0]) ++ zeros 8)
  ∧ AnswersDone .apcRead .apcRead (fun f s => (List.range 64).flatMap fun b =>
      le 2 ((s.stn (f.tgt % 8)).drive.getD b 0) ++ le 2 ((s.stn (f.tgt % 8)).pd.getD b 0)
        ++ le 2 (apcT (s.stn (f.tgt % 8)) b)
        ++ le 1 (b2n ((s.stn (f.tgt % 8)).weak.getD b false) + 2 * b2n ((s.stn (f.tgt % 8)).dark.getD b false)) ++ [0])
  ∧ AnswersDone .scanPlan .scanPlan (fun f s => match scanPlan f.tgt (u32At f.pay 0) s with
      | .ok k => le 1 1 ++ le 1 k ++ zeros 2 ++ le 4 (rpmNomOf (s.poly f.tgt).n k (u32At f.pay 0))
          ++ le 4 (if (polyStations f.tgt s).contains (2 * f.tgt) then planKhz (s.wvr (2 * f.tgt)) k (u32At f.pay 0) else 0)
          ++ le 4 (if (polyStations f.tgt s).contains (2 * f.tgt + 1)
              then planKhz (s.wvr (2 * f.tgt + 1)) k (u32At f.pay 0) else 0)
      | .error d => le 1 0 ++ le 1 d ++ zeros 14)

/-- MOTOR_GET, BUS_GET, AXIS_GET, FB_GET, LOOP_GET, LOOP_LOAD and THERMAL_GET return what is set (R249, R251, R269,
R287, R301, R316). Readings of the model in these clauses: assumptions 15 and 16. -/
def Obligations.MotionQueriesAnswer : Prop :=
  AnswersDone .motorGet .motorGet (fun f s => ((s.motor (chIdx f.tgt)).set).getD (zeros 80))
  ∧ AnswersDone .busGet .busGet (fun f s => ((s.bus f.tgt).set).getD (busFill (zeros 24)))
  ∧ AnswersDone .axisGet .axisGet (fun f s => (s.axis (axIdx f.tgt)).set.getD (zeros 64)
      ++ leI 6 (s.axis (axIdx f.tgt)).pos ++ zeros 2 ++ leI 4 (s.axis (axIdx f.tgt)).vel ++ leI 4 (s.axis (axIdx f.tgt)).angle)
  ∧ AnswersDone .fbGet .fbGet (fun f s =>
      if f.tgt < 8 then (s.qe f.tgt).set else if f.tgt < 20 then (s.se (f.tgt - 16)).set
      else if f.tgt < 40 then (s.prb (f.tgt - 32)).set else (s.cmpUnit (f.tgt - 48)).set)
  ∧ AnswersDone .loopGet .loopGet (fun f s => (s.loop f.tgt).set.getD (zeros 96))
  ∧ AnswersDone .loopLoad .loopLoad (fun _ s =>
      le 2 (worstTick ((List.range 64).filterMap fun k => if k = 64 then none else (s.loop k).set))
        ++ le 1 ((List.range 64).filterMap fun k => if k = 64 then none else (s.loop k).set).length ++ zeros 1)
  ∧ AnswersDone .thermalGet .thermalGet (fun f s =>
      if f.tgt < 8 then zoneStored (s.zone f.tgt) else if f.tgt = 16 then s.thm.dieSet else (s.th (f.tgt - 32)).set)

/-- RIM_STATUS, NODE_GET, POWER_STATUS, RAIL_GET, CLOCK_STATUS, PAIR_STATUS, BG_STATUS, TELEMETRY_READ, LIFE_GET and
BOOT_STATUS (R344, R384, R400, R418, R436). Readings of the model in these clauses: assumptions 17, 24, 25, 26 and 27.
-/
def Obligations.SystemQueriesAnswer : Prop :=
  AnswersDone .rimStatus .rimStatus (fun _ s => rimWords s)
  ∧ AnswersDone .nodeGet .nodeGet (fun f s => match s.node f.tgt with
      | some n => le 4 (nodeWord f.tgt s) ++ fit 24 n.ident ++ leI 4 n.delta
      | none => zeros 32)
  ∧ AnswersDone .powerStatus .powerStatus (fun _ s => (powerWords s).flatMap (le 4))
  ∧ AnswersDone .railGet .railGet (fun f s =>
      let r := (s.rail f.tgt).stored
      le 1 r.order ++ le 1 (b2n r.pgUsed + 2 * b2n r.enLow) ++ le 2 r.onDelay ++ le 2 r.qual ++ le 2 r.timeout
        ++ le 2 r.deglitch ++ le 2 r.offDelay ++ zeros 4)
  ∧ AnswersDone .clockStatus .clockStatus (fun _ s => (clockWords s).flatMap (le 4))
  ∧ AnswersDone .pairStatus .pairStatus (fun _ s => (pairWords s).flatMap (le 4))
  ∧ AnswersDone .bgStatus .bgStatus (fun _ s => (bgWords s).flatMap (le 4))
  ∧ AnswersDone .telemetryRead .telemetryRead (fun f s =>
      let l := (telFrom (u64At f.pay 0) s).take ((f.rbufSize - 8) / 64)
      (match l with | b :: _ => b.take 4 | [] => zeros 4) ++ le 4 l.length ++ l.flatMap id)
  ∧ AnswersDone .lifeGet .lifeGet (fun _ s => s.bg.life.flatMap (le 8))
  ∧ AnswersDone .bootStatus .bootStatus (fun _ s =>
      le 1 s.boot.life.code ++ le 1 ((s.bootRec 0).primary + 2 * (s.bootRec 1).primary)
        ++ le 1 ((s.bootRec 0).trial + 4 * (s.bootRec 1).trial)
        ++ le 1 (b2n (debugIsOpen s) + 2 * b2n ((s.bootRec 0).trialFailed || (s.bootRec 1).trialFailed))
        ++ le 4 (imgVersion (bootedHeader 0 s)) ++ le 4 (imgVersion (bootedHeader 1 s)) ++ le 4 (s.bootRec 0).rollback
        ++ le 4 (s.bootRec 1).rollback ++ le 4 (imgSvn (bootedHeader 0 s)) ++ le 4 (imgSvn (bootedHeader 1 s))
        ++ le 4 s.led.boot ++ le 8 s.boot.started)

/-- The queries that leave something behind (R43, R48, R282, R336, R371, R374): PRB_READ drains the probe's latches,
SESSION_CHALLENGE leaves its nonce, and NODE_READ, LEDGER_READ and LEDGER_SEAL are accepted and complete by the row that
posts their final status, a LEDGER_READ by advancing EXPORTED past the entries it returns. Readings of the model in
these clauses: assumptions 3, 7 and 8. -/
def Obligations.LongQueriesComplete : Prop :=
  Answers .prbRead .prbRead (fun f s => ((s.prb (f.tgt - 32)).fifo.map latchBytes).flatten)
    (fun f s => s.setPrb (f.tgt - 32) fun p => { p with fifo := [] })
  ∧ (∀ f s, passes .sessionChallenge f s = true → ∃ t k, exec (.sessionChallenge f) s = .next t
      ∧ freeSlot f.hamper.val s = some k ∧ t = { s with io := t.io, free := s.free + 1 }
      ∧ (t.io.hamper f.hamper.val).nonce = some { value := freeBytes .nonce 32 0 s, slot := k })
  ∧ (∀ f s, passes .nodeRead f s = true → ∃ t p, exec (.nodeRead f) s = .next t ∧ nodePos f.tgt s = some p
      ∧ t = { s with io := t.io, rim := { s.rim with
        nodes := upd s.rim.nodes p fun n => { n with msgs := n.msgs ++
          [{ why := .command false f.hamper.val f.tag.toNat, tag := s.rim.nextTag, bytes := f.pay.take (frameLen f) }] }
        nextTag := (s.rim.nextTag + 1) % 256 } })
  ∧ (∀ f s, passes .ledgerRead f s = true → s.io.finals = [] → ∃ t u, exec (.ledgerRead f) s = .next t
      ∧ exec .completionPosted t = .next u ∧ t = { s with io := t.io }
      ∧ u.led.exported = (entriesFit (u32At f.pay 8 - 16) (entriesFrom (u64At f.pay 0) s)).foldl (fun m e => max m e.seq)
          s.led.exported)
  ∧ ∀ f s, passes .ledgerSeal f s = true → s.io.finals = [] → s.io.host.wf = true → quietLines s = true →
      (s.io.hamper f.hamper.val).ring.enabled = false → f.evcopy = false →
      ∃ t u, exec (.ledgerSeal f) s = .next t ∧ exec .completionPosted t = .next u
        ∧ t = { s with io := t.io } ∧ u = { s with io := u.io, free := s.free + 1 }
        ∧ memReadBytes u.io.host f.rbufAddr 176 = le 8 s.led.head ++ le 4 s.led.boot ++ zeros 4 ++ le 8 s.io.time
            ++ headHash s ++ freeBytes .signature 96 0 s ++ zeros 8

/-! ## Events of the host interface (chapters 02, 03 and 16) -/

/-- Doorbells, ring indices, sessions and completions (R30 to R34, R40, R43, R47, R48, R51, R61, R72). Readings of the
model in these clauses: assumptions 4 and 7. -/
def Obligations.HostInterfaceEvents : Prop :=
  (∀ slot s x, Runs s → s.ready = true → s.io.sessions.getD slot.val none = some x →
    (∀ y ∈ (s.io.hamper x.hamper).flights, y.f.session.toNat ≠ x.id ∨ y.gone ≠ 0) →
    exec (.sessionIdleEnd slot) s = .next (({ s with io := { s.io with
        sessions := upd s.io.sessions slot.val fun _ => none } } : State).record {
      kind := .command, time := s.io.time, origin := 3, detail := Config.renuneTask.toNat, subject := 0x0281
      body := le 2 0 ++ [0xFF, 0] ++ le 4 x.id ++ le 4 0 ++ le 2 0 ++ formBytes 0 [], draw := .reserve }))
  ∧ (∀ n s, Runs s → exec (.nonceExpiry n) s = .next { s with io := s.io.setHamper n.val fun h => { h with nonce := none } })
  ∧ (∀ n v s, Runs s → s.ready = true → (v.toNat % 128 + 128 - (s.io.hamper n.val).ci) % 128 ≤ 64 →
      exec (.hamperDoorbell n v) s = .next { s with io := s.io.setHamper n.val fun h => { h with pi := v.toNat % 128 } })
  ∧ (∀ n v s, Runs s → s.ready = true → n.val < s.io.hampers.length →
      let h := s.io.hamper n.val
      ((v.toNat % 128 + 128 - h.rspCons) % 128 ≤ (h.rspPi + 128 - h.rspCons) % 128 → h.rspWait = [] →
        exec (.responseConsumerWrite n v) s
          = .next { s with io := s.io.setHamper n.val fun h => { h with rspCons := v.toNat % 128 } })
      ∧ ((h.rspPi + 128 - h.rspCons) % 128 < (v.toNat % 128 + 128 - h.rspCons) % 128 →
        exec (.responseConsumerWrite n v) s = .next { s with io := s.io.setHamper n.val fun h => { h with dberr := true } }))
  ∧ (∀ n v s, Runs s → s.ready = true → n.val < s.io.hampers.length →
      let r := (s.io.hamper n.val).ring
      let ci := v.toNat % 8192
      (ci < 2 * r.size → (ci + 2 * r.size - r.ci) % (2 * r.size) ≤ (r.pi + 2 * r.size - r.ci) % (2 * r.size) →
        r.lost = 0 → (s.io.hamper n.val).complWait = [] →
        exec (.eventConsumerWrite n v) s
          = .next { s with io := s.io.setHamper n.val fun h => { h with ring := { h.ring with ci := ci } } })
      ∧ (2 * r.size ≤ ci ∨ (r.pi + 2 * r.size - r.ci) % (2 * r.size) < (ci + 2 * r.size - r.ci) % (2 * r.size) →
        exec (.eventConsumerWrite n v) s = .next { s with io := s.io.setHamper n.val fun h => { h with dberr := true } }))
  ∧ (∀ s z zs x, Runs s → s.io.finals = z :: zs → (s.io.hamper z.hamper).flights = [x] → x.f.tag.toNat = z.tag →
      x.f.hamper.val = z.hamper → x.gone = 0 → z.gone = 0 → x.stage = .running → (specOf x.op).late = none →
      (s.io.hamper z.hamper).ring.enabled = false → hasRoom z.hamper s = true → s.io.windows.wf = true →
      z.hamper < s.io.hampers.length →
      ∃ t, exec .completionPosted s = .next t ∧ t = { s with io := t.io } ∧ t.io.finals = zs
        ∧ (t.io.hamper z.hamper).flights = []
        ∧ nextSlot z.hamper s t = (respOf x.op.code x.f z.status z.detail 0 (if z.seq = 0 then x.seq else z.seq) [] true s).slot
            (nextPhase z.hamper s))
  ∧ (∀ i mask hit s, Runs s → ∃ t, exec (.evPendClear i mask hit) s = .next t
      ∧ t = { s with io := { s.io with lines := t.io.lines } }
      ∧ ∀ j < s.io.lines.length, t.io.lines.getD j {} =
          if j / 32 = i.val ∧ bit mask.toNat (j % 32) = true
          then { s.io.lines.getD j {} with pending := bit hit.toNat (j % 32), count := b2n (bit hit.toNat (j % 32)) }
          else s.io.lines.getD j {})
  ∧ (∀ o f s, Runs s → s.ready = true → opOf o.toNat = none →
      earlyFault f (takeSlot f.hamper.val s) = none → hasRoom f.hamper.val s = true → s.io.windows.wf = true →
      f.hamper.val < s.io.hampers.length →
      ∃ t, exec (.unknownOpcode o f) s = .next t ∧ (t.io.hamper f.hamper.val).ci = ((s.io.hamper f.hamper.val).ci + 1) % 128
        ∧ if o.toNat = 0x01F0 ∨ o.toNat = 0x1281 then Refused o.toNat f stDeniedRole 1 0 s t
          else Refused o.toNat f stBadOpcode 0 0 s t)
  ∧ (∀ s, Runs s → ∃ t, exec .hostInterfaceReset s = .next t
      ∧ t = { s with io := t.io, led := t.led, dma := t.dma, reg := { s.reg with
          dma := { s.reg.dma with isOpen := false }, svc := { s.reg.svc with isOpen := false }
          snaps := List.replicate 4 {} } }
      ∧ t.io.windows = s.io.windows ∧ t.io.host = s.io.host ∧ t.io.time = s.io.time
      ∧ (∀ k < 16, t.io.sessions.getD k none = none) ∧ t.led.head = s.led.head
      ∧ t.io.hampers = s.io.hampers.map resetHamper
      ∧ (∀ r < 8, (s.dma.rings.getD r {}).run = false →
          (t.dring r).run = false ∧ (r < s.dma.rings.length → (t.dring r).halted = true ∧ (t.dring r).err = 9)))

/-- The guarded registers (R62 to R69, R73, R74): the key, a held write, the protective writes, and a held write that
applies. Readings of the model in these clauses: assumption 7. -/
def Obligations.GuardedRegisterEvents : Prop :=
  (∀ b v s, Runs s → ∃ t, exec (.keyUnlockWrite b v) s = .next t
      ∧ t = { s with reg := { s.reg with dma := t.reg.dma, svc := t.reg.svc } }
      ∧ (t.guard (otherBlock b)).isOpen = false
      ∧ t.guard b = if (s.guard b).isOpen then { s.guard b with isOpen := false }
          else if v.toNat % 65536 = 0x7E1A then { s.guard b with isOpen := true } else { s.guard b with keyErr := true })
  ∧ (∀ r k v q s, Runs s → s.reg.dma.isOpen = true → setupBad (.ring r k) v.toNat s = false → s.saf.ctrl.serving = true →
      capturePlaces s < 24 →
      ∃ t, exec (.dmaSetupWrite r k v (.host q)) s = .next t
        ∧ t = { s with
            reg := { s.reg with dma := { s.reg.dma with isOpen := false, held := s.reg.dma.held ++
              [{ reg := .ring r k, value := Guarded.mask (.ring r k) v.toNat, origin := 2, detail := q.toNat }] } }
            led := { s.led with queue := t.led.queue } }
        ∧ t.led.queue.length = s.led.queue.length + 1)
  ∧ (∀ s r k v n hs o d, Runs s → s.reg.dma.held = { reg := .ring r k, value := v, origin := o, detail := d, seq := some (n + 1) } :: hs →
      (s.dring r.val).doorHeld = false → (s.dring r.val).stopHeld = false →
      exec (.rwkWriteApply .dma) s = .next ((Guarded.ring r k).apply v
        { s with reg := { s.reg with dma := { s.reg.dma with held := hs, seqLo := (n + 1) % 65536 } } }))
  ∧ (∀ w s, Runs s → s.reg.svc.isOpen = true → capturePlaces s < 32 →
      ∃ t, exec (.haltReq w) s = .next t ∧ Raised .halt 236 0 5 s t
        ∧ t.reg = { s.reg with svc := { s.reg.svc with isOpen := false } }
        ∧ ∃ r ∈ t.led.queue, r.kind = .register
          ∧ r.time = s.io.time ∧ r.body = (guardRec .register .svcCmd 1 0 w .protective (.seqLo .svc) s).body)
  ∧ (∀ halt w s, Runs s → s.reg.svc.isOpen = true → capturePlaces s < 32 →
      ∃ t, exec (.stopReq halt w) s = .next t ∧ t.reg = { s.reg with svc := { s.reg.svc with isOpen := false } }
        ∧ t.saf.stopLatch = true ∧ Raised .stop 236 0 6 s t)
  ∧ (∀ w s, Runs s → s.reg.svc.isOpen = true → s.saf.inhForce = false →
      ∃ t, exec (.inhForceSet w) s = .next t ∧ t.saf.inhForce = true)
  ∧ (∀ q s, Runs s → s.reg.svc.isOpen = true → s.saf.ctrl.serving = true → capturePlaces s < 24 →
      ∃ t, exec (.inhForceClear (.host q)) s = .next t
        ∧ t = { s with
            reg := { s.reg with svc := { s.reg.svc with isOpen := false, held := s.reg.svc.held ++
              [{ reg := .svcInh, value := 0, origin := 2, detail := q.toNat }] } }
            led := { s.led with queue := t.led.queue } }
        ∧ t.saf.inhForce = s.saf.inhForce)
  ∧ (∀ s v n hs o d, Runs s → s.reg.svc.held = { reg := .svcInh, value := v, origin := o, detail := d, seq := some (n + 1) } :: hs →
      exec (.rwkWriteApply .svc) s = .next { s with
        reg := { s.reg with svc := { s.reg.svc with held := hs, seqLo := (n + 1) % 65536 } }
        saf := { s.saf with inhForce := v == 1 } })

/-- Snapshot windows, partial and plain register writes, the status mirrors, and reads of the scratch words, of DnCFG and
of the words that read 0 (R57, R58, R60, R69, R75). Readings of the model in these clauses: assumption 29. -/
def Obligations.RegisterWindowEvents : Prop :=
  (∀ w v s l, Runs s → snapValue (v.toNat % 65536) s = some l →
      exec (.snapshotSelect w v) s = .next { s with reg := { s.reg with snaps := upd s.reg.snaps w.val fun x =>
        { x with sel := v.toNat % 65536, valid := true, overrun := x.overrun || x.valid, len := l.length, time := s.io.time
                 data := l ++ List.replicate (12 - l.length) 0 } } })
  ∧ (∀ w v s, Runs s → snapValue (v.toNat % 65536) s = none →
      exec (.snapshotSelect w v) s = .next { s with reg := { s.reg with snaps := upd s.reg.snaps w.val fun x =>
        { x with sel := v.toNat % 65536, selErr := true } } })
  ∧ (∀ w s, Runs s → exec (.snapshotLastRead w) s = .next { s with reg := { s.reg with
        snaps := upd s.reg.snaps w.val fun x => { x with valid := false } } })
  ∧ (∀ s, Runs s → exec .partialWidthWrite s
      = .next { s with reg := { s.reg with partialCnt := min (s.reg.partialCnt + 1) 65535 } })
  ∧ (∀ o v be w s, Runs s → 0x10000 ≤ o.toNat → o.toNat < 0x20000 →
      exec (.registerWrite o v ⟨be, w⟩) s = .next { s with io := { s.io with
        windows := memWriteEnabled s.io.windows (o.toNat - 0x10000) be.toNat (le 4 v.toNat) } })
  ∧ (∀ o v be w s, Runs s → (o.toNat < 0x10000 ∨ 0x20000 ≤ o.toNat) → o.toNat % 4 = 0 → be ≠ 0xF →
      exec (.registerWrite o v ⟨be, w⟩) s = exec .partialWidthWrite s)
  ∧ (∀ (k : Fin 4) v w s, Runs s → exec (.registerWrite (BitVec.ofNat 20 (0x30 + 4 * k.val)) v ⟨0xF, w⟩) s
      = .next { s with reg := { s.reg with scratch := upd s.reg.scratch k.val fun x =>
        (Nat.xor (Nat.land x (65535 - v.toNat / 65536)) (Nat.land v.toNat (v.toNat / 65536))) } })
  ∧ (∀ o s ws, Runs s → o.toNat ≠ 0x81000 → blockWords o.toNat s = some ws → mirrorsWfFrom 0 s.reg.mirrors = true →
      ∃ t, exec (.mirrorRefresh o) s = .next t ∧ t = { s with reg := { s.reg with mirrors := t.reg.mirrors } }
        ∧ mirrorRead t.reg.mirrors o.toNat = mirrorRead s.reg.mirrors o.toNat + 2
        ∧ (∀ k < ws.length, mirrorRead t.reg.mirrors (o.toNat + 4 + 4 * k) = BitVec.ofNat 32 (ws.getD k 0))
        ∧ ∀ a, (a < o.toNat ∨ o.toNat + 4 + 4 * ws.length ≤ a) → mirrorRead t.reg.mirrors a = mirrorRead s.reg.mirrors a)
  ∧ (∀ k < 4, ∀ s, regRead (0x30 + 4 * k) s = s.reg.scratch.getD k 0)
  ∧ (∀ r < 8, ∀ s, regRead (0x20000 + 0x40 * r + 0x0C) s = 0 ∧ regRead (0x20000 + 0x40 * r + 0x08) s
      = (s.dring r).log2n + 256 * (s.dring r).weight + 65536 * b2n (s.dring r).enable)
  ∧ ∀ s, regRead 0x34010 s = 0 ∧ regRead 0x34000 s = 0 ∧ regRead 0x34014 s = b2n s.saf.inhForce

/-- The DMA rings (R73, R117, R348, R350 to R352, R354 to R356, R124). Readings of the model in these clauses: assumption 18. -/
def Obligations.DmaEvents : Prop :=
  (∀ r s, Runs s → ringWriteHeld r.val s = false → (s.dring r.val).enable = true → (s.dring r.val).run = false →
      exec (.dmaRingDoorbell r) s = .next { s with dma := { s.dma with rings := upd s.dma.rings r.val fun x =>
        { x with run := true, halted := false, err := 0, idle := false, wake := false } } })
  ∧ (∀ r s, Runs s → ringWriteHeld r.val s = false → (s.dring r.val).enable = false →
      exec (.dmaRingDoorbell r) s = .next { s with dma := { s.dma with rings := upd s.dma.rings r.val fun x =>
        { x with cfgErr := true } } })
  ∧ (∀ r s, Runs s → ringWriteHeld r.val s = true →
      exec (.dmaRingDoorbell r) s = .next { s with dma := { s.dma with rings := upd s.dma.rings r.val fun x =>
          { x with doorHeld := true } } }
        ∧ exec (.dmaStop r) s = .next { s with dma := { s.dma with rings := upd s.dma.rings r.val fun x =>
          { x with stopHeld := true } } })
  ∧ (∀ r s, Runs s → ringWriteHeld r.val s = false → (s.dring r.val).run = true → (s.dring r.val).fetched = [] →
      exec (.dmaStop r) s = .next { s with dma := { s.dma with rings := upd s.dma.rings r.val fun x =>
        { x with fetched := [], ci := (s.dring r.val).ci, run := false, halted := true, err := 1
                 errAddr := (s.dring r.val).errAddr, wake := false, idle := false, stopErr := 0 } } })
  ∧ (∀ r b rd s, Runs s → (s.dring r.val).run = true → (s.dring r.val).idle = false → (s.dring r.val).stopErr = 0 →
      (s.dring r.val).fetched = [] → (s.dring r.val).wake = false → byteAt (fit 32 b) 31 % 2 = 0 →
      ∃ t, exec (.descriptorFetch r (some b) rd) s = .next t
        ∧ t = { s with dma := { s.dma with rings := upd s.dma.rings r.val fun x =>
            { x with run := false, idle := false, wake := false } } })
  ∧ (∀ r (d : Bytes) s, Runs s → (s.dring r.val).run = true → (s.dring r.val).idle = false → (s.dring r.val).stopErr = 0 →
      (s.dring r.val).fetched = [] → r.val < s.dma.rings.length → d.length = 32 → byteAt d 31 % 2 = 1 → descOp d = 1 →
      descBad d (fit (descLen d) []) = false → descAddrBad d = none → descDstCtrl d = false →
      ∃ t, exec (.descriptorFetch r (some d) (.data [])) s = .next t
        ∧ t.io = { s.io with host := memWriteBytes s.io.host (u64At d 8) (fillBytes (d.take 8) (descLen d)) }
        ∧ t = { s with io := t.io, dma := { s.dma with rings := upd s.dma.rings r.val fun x =>
            { x with ci := (x.ci + 1) % 2 ^ x.log2n, idle := false
                     fetched := [{ index := x.ci, bytes := d, read := .data [], started := true }] } } })
  ∧ (∀ r s e, Runs s → (s.dring r.val).fetched = [e] → e.started = true → e.codec = false → (s.dring r.val).stopErr = 0 →
      (s.dring r.val).idle = false → byteAt e.bytes 22 % 2 = 0 →
      exec (.descriptorComplete r true) s = .next { s with
        io := { s.io with host := memWrite s.io.host (descAddr (s.dring r.val) e.index + 31) 0 }
        dma := { s.dma with rings := upd s.dma.rings r.val fun x =>
          { x with fetched := [], done := (x.done + 1) % 2 ^ 32 } } })
  ∧ (∀ r s e es, Runs s → (s.dring r.val).fetched = e :: es → e.started = true → e.codec = false →
      ∃ t, exec (.descriptorComplete r false) s = .next t
        ∧ t = ({ s with dma := { s.dma with rings := upd s.dma.rings r.val fun x =>
            { x with fetched := [], ci := e.index, run := false, halted := true, err := 6, errAddr := u64At e.bytes 8
                     wake := false, idle := false, stopErr := 0 } } } : State).pulse (8 + r.val) 0)
  ∧ (∀ bc br s n js e es, Runs s → s.dma.jobs = n :: js → (s.dring n).fetched = e :: es → e.codec = true →
      (∃ b, e.read = .data b) → descDstCtrl e.bytes = false →
      (engineJob (match e.read with | .data b => fit (descLen e.bytes) b | .fail _ _ => []) bc br).undef = false →
      (engineJob (match e.read with | .data b => fit (descLen e.bytes) b | .fail _ _ => []) bc br).rawBad = false →
      ∃ t r, exec (.generalEngineJob bc br) s = .next t
        ∧ r = engineJob (match e.read with | .data b => fit (descLen e.bytes) b | .fail _ _ => []) bc br
        ∧ t = { s with
            free := s.free + 1
            io := { s.io with host := memWriteBytes s.io.host (u64At e.bytes 8) (r.record ++ r.out) }
            dma := { s.dma with jobs := js, verify := satAdd 16 s.dma.verify r.coded, rings := upd s.dma.rings n fun x =>
              { x with fetched := upd x.fetched 0 fun e => { e with codec := false } } } })

/-! ## Events of the recorder and the ledger (chapter 17) -/

/-- A capture is folded or recorded, an entry or a checkpoint is chained, entries spill, a signature is recorded, and a
GAP entry follows the losses (R44, R358 to R362, R365, R366, R368, R369). Readings of the model in these clauses:
assumption 8. -/
def Obligations.LedgerEvents : Prop :=
  (∀ w a old new n s, s.shs.lateDue = false → exec (.configCapture w a old new (some n)) s = .next { s with
      led := { s.led with captures := s.led.captures ++ [captureBytes w a.toNat old.toNat new.toNat n.toNat s] } })
  ∧ (∀ w a old new s, s.shs.lateDue = false → w ≠ .bootRom → captureWaits s < 256 →
      exec (.configCapture w a old new none) s = .next (s.record (captureRec w a.toNat old.toNat new.toNat s)))
  ∧ (∀ a old new s, s.shs.lateDue = false →
      exec (.configCapture .bootRom a old new none) s = .next { s with led := { s.led with
        bootCaptures := s.led.bootCaptures ++ [captureRec .bootRom a.toNat old.toNat new.toNat s] } })
  ∧ (∀ s r rest, Runs s → s.ready = true → ckptDue s = false → s.led.queue = r :: rest → r.kind ≠ .sheet →
      r.draw ≠ .sheet → r.act = .none → spaceFor r.draw s = true →
      ∃ t b, exec .ledgerEntryCommit s = .next t
        ∧ b = entryHeader r.kind r.time r.origin r.detail r.subject (entryFlags r s) r.body.length s ++ r.body
        ∧ t.led.head = s.led.head + 1 ∧ t.led.headHash = sha384 b
        ∧ t.led.journal = s.led.journal ++ [{ seq := s.led.head + 1, kind := r.kind, bytes := b }]
        ∧ (s.pair.role = .active → s.pair.link = true → r.kind = .command ∨ r.kind = .register ∨ r.kind = .capture →
            t.led.mirrored = some (s.led.head + 1, r.body))
        ∧ t = { s with io := t.io, saf := t.saf, led := t.led })
  ∧ (∀ s, Runs s → s.ready = true → (s.led.head + 1) % 1024 = 0 → 1 ≤ ledgerU s →
      ∃ t, exec .ledgerEntryCommit s = .next t ∧ t.led.head = s.led.head + 1 ∧ t.led.captures = []
        ∧ (∃ body, body = le 8 (s.led.head + 1 - 1023) ++ le 4 s.led.boot ++ le 4 (s.reg.fwVer % 2 ^ 24)
              ++ le 1 s.boot.life.code ++ zeros 7 ++ le 8 s.led.captures.length ++ sha384 (s.led.captures.flatMap id)
              ++ le 8 s.led.lostTotal ++ le 8 s.led.firstHeld
            ∧ t.led.journal = s.led.journal ++ [{
              seq := s.led.head + 1, kind := .checkpoint
              bytes := entryHeader .checkpoint s.io.time 0 0 0 (reserveFlag s) body.length s ++ body }]
            ∧ t.led.headHash = sha384 (entryHeader .checkpoint s.io.time 0 0 0 (reserveFlag s) body.length s ++ body))
        ∧ t.led.unsigned = (if s.led.keyed then s.led.unsigned ++ [(s.led.head + 1, t.led.headHash)] else s.led.unsigned)
        ∧ t = { s with io := t.io, saf := t.saf, led := t.led })
  ∧ (∀ n s, Runs s → s.ready = true → s.led.journal ≠ [] → 0 < n →
      ∃ t l, exec (.ledgerSpill n true) s = .next t
        ∧ l = entriesFit (norBytes s - (s.led.norEnd - s.led.norStart)) (s.led.journal.take n)
        ∧ t.led.journal = s.led.journal.drop l.length ∧ t.led.nor = s.led.nor ++ placeEntries s.led.norEnd l
        ∧ t.led.head = s.led.head ∧ t.led.spillErr = false ∧ t = { s with io := t.io, saf := t.saf, led := t.led })
  ∧ (∀ n s, Runs s → s.ready = true → s.led.journal ≠ [] → 0 < n →
      ∃ t, exec (.ledgerSpill n false) s = .next t ∧ Raised .halt 236 0 0x32 s t ∧ t.led.spillErr = true
        ∧ t.led.journal = s.led.journal ∧ t.led.nor = s.led.nor)
  ∧ (∀ s n h rest, Runs s → s.ready = true → s.led.keyed = true → s.led.unsigned = (n, h) :: rest →
      (∀ r ∈ s.led.queue, r.kind ≠ .signature) →
      exec .signatureChained s = .next { s with
        free := s.free + 1
        led := { s.led with queue := insertRec {
          kind := .signature, time := s.io.time, origin := 0, detail := 0, subject := 0
          body := le 8 n ++ freeBytes .signature 96 0 s, draw := .reserve
          act := .signature n h (freeBytes .signature 96 0 s) } s.led.queue } })
  ∧ (∀ s, Runs s → s.ready = true → s.led.keyed = true → s.led.unsigned ≠ [] →
      ∃ t, exec .sealTimeout s = .next t ∧ Raised .halt 236 0 0x33 s t ∧ t.led.unsigned = s.led.unsigned)
  ∧ (∀ s, Runs s → s.ready = true → 0 < s.led.gapCount → s.reg.lostWrites = 0 → ledgerU s ≠ 0 →
      exec .gapEntryWrite s = .next { s with led := { s.led with
        gapCount := 0
        queue := {
          kind := .gap, time := s.io.time, origin := 3, detail := Config.renuneTask.toNat, subject := 0
          body := le 4 (satN 32 s.led.gapCount) ++ zeros 4 ++ le 8 s.led.gapFirst ++ le 8 s.led.gapLast
          draw := .reserve } :: s.led.queue } })

/-! ## Events of raster intake (chapter 04) -/

/-- Frames, links, packets, gaps, acknowledgements, verified pages and the PTP master (R21, R76, R77, R80, R82, R83, R85,
R86, R88, R90, R92, R95, R96, R97, R99, R100, R364). Readings of the model in these clauses: assumptions 3, 13, 18 and 32. -/
def Obligations.IntakeEvents : Prop :=
  (∀ p f s, Runs s → exec (.ethFrameRx p false f) s = .next { s with itk := { s.itk with
      ports := upd s.itk.ports p.val fun x => { x with dropped := min (x.dropped + 1) (2 ^ 32 - 1) } } })
  ∧ (∀ p f s src udp b, Runs s → s.shadow = false → frameUse (s.port p.val) f = .trt src udp b → trtWellFormed b = true →
      (s.strm (u16At b 2)).state = .opened → (s.strm (u16At b 2)).pcie = false → (s.strm (u16At b 2)).peer = src →
      (s.strm (u16At b 2)).peerUdp = udp → bit (s.strm (u16At b 2)).ports p.val = true →
      (keyFor (s.strm (u16At b 2)) (u16At b 4) (u64At b 8)).isSome = true → seqMarked (s.strm (u16At b 2)) (u64At b 8) = false →
      u64At b 8 ≤ (s.strm (u16At b 2)).low + 1023 → (s.strm (u16At b 2)).queue.length < 64 →
      exec (.ethFrameRx p true f) s = .next { s with itk := { s.itk with
        streams := upd s.itk.streams (u16At b 2) fun x => { x with
          queue := x.queue ++ [(p.val, b)], vtime := if x.queue = [] then max x.vtime (minActive s) else x.vtime } } })
  ∧ (∀ p up s, Runs s → exec (.ethLinkChange p up) s = .next { s with itk := { s.itk with
      ports := upd s.itk.ports p.val fun x => { x with link := up } } })
  ∧ (∀ n s k port b rest, Runs s → cryptoNext s = some n.val → (s.strm n.val).queue = (port, b) :: rest → (s.strm n.val).state = .opened →
      keyFor (s.strm n.val) (u16At b 4) (u64At b 8) = some k →
      Config.gcmOpen k.key (trtNonce false k (u64At b 8)) (b.take 32) (b.drop 32) = none →
      exec (.trtPacketDecrypted n) s = .next { s with itk := { s.itk with streams := upd s.itk.streams n.val fun x =>
        { chargeStream (u16At b 6) x with queue := rest, authFail := min (x.authFail + 1) (2 ^ 32 - 1) } } })
  ∧ (∀ n s, Runs s → cryptoNext s ≠ some n.val → exec (.trtPacketDecrypted n) s = .next s)
  ∧ (∀ n s k port b rest text, Runs s → s.pair.link = false → cryptoNext s = some n.val → n.val < s.itk.streams.length →
      (s.strm n.val).queue = (port, b) :: rest → (s.strm n.val).state = .opened → port < 2 →
      keyFor (s.strm n.val) (u16At b 4) (u64At b 8) = some k → (s.strm n.val).next = none →
      Config.gcmOpen k.key (trtNonce false k (u64At b 8)) (b.take 32) (b.drop 32) = some text →
      seqMarked (s.strm n.val) (u64At b 8) = false → byteAt b 0 % 16 = 1 → s.page n.val (u32At b 16) = none →
      recordFree s = true → fits n.val (granules (u32At b 28)) s = true → u32At b 24 + text.length ≤ u32At b 28 →
      ∃ t, exec (.trtPacketDecrypted n) s = .next t ∧ t = { s with io := t.io, itk := t.itk, free := s.free + 1 }
        ∧ t.itk.pages = s.itk.pages ++ [{
            stream := n.val, id := u32At b 16
            bands := [{ station := byteAt b 20 % 8, side := byteAt b 20 / 8, band := u16At b 22, len := u32At b 28
                        units := fragUnits (text.length + 1) (u32At b 24 / 64) text
                        grans := pickGranules (granules (u32At b 28)) s }] }]
        ∧ (t.strm n.val).vtime
            = (s.strm n.val).vtime + ceilDivN (u16At b 6) 64 * (65536 / max (s.strm n.val).weight 1)
        ∧ seqMarked (t.strm n.val) (u64At b 8) = true ∧ (t.strm n.val).ackDue = true ∧ (t.strm n.val).queue = rest
        ∧ (t.strm n.val).lastPort = port)
  ∧ (∀ n seqs s k, Runs s → n.val < s.itk.streams.length → (s.strm n.val).state = .opened → (s.strm n.val).pcie = false →
      (s.strm n.val).cur = some k → mayAnswer n.val s = true → seqs.filter (isGap (s.strm n.val)) ≠ [] →
      (∀ q ∈ seqs.filter (isGap (s.strm n.val)), gapRequests (s.strm n.val) q < s.boot.settings.getD 6 64) →
      ∃ t, exec (.nackDue n seqs) s = .next t ∧ t = { s with itk := t.itk } ∧ t.itk.pages = s.itk.pages
        ∧ (t.strm n.val).outSeq = (s.strm n.val).outSeq + 1 ∧ (t.strm n.val).state = .opened
        ∧ ∀ q ∈ seqs.filter (isGap (s.strm n.val)), gapRequests (t.strm n.val) q = gapRequests (s.strm n.val) q + 1)
  ∧ (∀ n s k, Runs s → (s.strm n.val).state ≠ .closed → (s.strm n.val).pcie = false → (s.strm n.val).ackDue = true →
      (s.strm n.val).cur = some k → mayAnswer n.val s = true → n.val < s.itk.streams.length → (s.strm n.val).lastPort < s.itk.ports.length →
      ∃ t head payload, exec (.ackSend n) s = .next t ∧ t = { s with itk := t.itk }
        ∧ (t.strm n.val) = { s.strm n.val with
            ackDue := false, reports := (s.strm n.val).reports.drop 8, outSeq := (s.strm n.val).outSeq + 1 }
        ∧ payload.take 24 = le 8 ((s.strm n.val).low - 1) ++ le 8 (credit n.val s) ++ le 8 (s.strm n.val).high
        ∧ payload.length = 96 ∧ head.length = 32
        ∧ (t.port (s.strm n.val).lastPort).sent
            = head ++ Config.gcmSeal k.key (trtNonce true k (s.strm n.val).outSeq) head payload)
  ∧ (∀ n s, Runs s → (s.strm n.val).state = .opened → (s.strm n.val).pcie = true → (s.strm n.val).marks ≠ [] →
      exec (.pcieStreamGapTimeout n) s = .next (({ s with itk := { s.itk with
        streams := upd s.itk.streams n.val fun x => { x with state := .broken } } } : State).pulse 241 (n.val + 2 * 2 ^ 8)))
  ∧ (∀ n pg p m s, Runs s → s.page n.val pg.toNat = some p → p.manifest = some m → p.state = .receiving → pageFull p = true →
      ∃ t, exec (.pageVerifyDone n pg true) s = .next t
        ∧ t.page n.val pg.toNat = some { p with
            state := .rejected, reason := 9, bands := [], manUnits := [], manifest := none, total := none, manGrans := []
            costs := [] })
  ∧ (∀ n pg p m s, Runs s → s.page n.val pg.toNat = some p → p.manifest = some m → p.state = .receiving → pageFull p = true →
      (∀ pl ∈ manPlanes m, ∀ b x, p.band pl.station pl.side b = some x → (verifyBand m pl b x).1 = 0) →
      ∃ t c, exec (.pageVerifyDone n pg false) s = .next t
        ∧ t.page n.val pg.toNat = some { p with state := .complete, costs := c } ∧ c.length = (manPlanes m).length)
  ∧ (∀ s m, Runs s → s.itk.master = some m →
      ∃ t, exec .ptpMasterLost s = .next t ∧ Raised .note 236 0 0x28 s t
        ∧ t.itk = { s.itk with
            master := none, ptp := {}, foreign := s.itk.foreign.filter fun y => !(y.src == m.src && y.port == m.port) }
        ∧ t = { s with io := t.io, saf := t.saf, led := t.led, itk := t.itk })
  ∧ (∀ sec ns u r s m, Runs s → s.itk.master = some m →
      exec (.ptpAnchorDue sec ns u r) s = .next (s.record {
        kind := .anchor, time := s.io.time, origin := 0, detail := 0, subject := 0
        body := le 1 1 ++ zeros 3 ++ le 4 (satN 32 u) ++ le 8 s.io.time ++ le 8 sec ++ le 4 ns ++ leI 4 r
          ++ sub m.dataset 6 8 ++ le 2 s.itk.utcOffset ++ zeros 6
        draw := .ordinary }))

/-! ## Events of the stations and the Weavers (chapters 05 to 08) -/

/-- Decoded bands, sweeps and their groups, and laser power exchanges (R12, R109, R112, R155, R159 to R161, R163, R164, R169
to R171, R459). Readings of the model in these clauses: assumptions 19 and 21. -/
def Obligations.PipelineEvents : Prop :=
  (∀ i s d k ks b syms cost, Runs s → i.val < s.img.stations.length →
      ((s.stn i.val).sides.find? fun d => d.decoding != []) = some d → d.decoding = k :: ks → fetchBand i.val d k s = some b →
      decodeBand b d.bits d.width = .ok syms cost →
      ∃ t, exec (.bandDecodeDone i false) s = .next t ∧ t = { s with img := { s.img with stations := t.img.stations } }
        ∧ t.stn i.val = { s.stn i.val with
            decBands := ((s.stn i.val).decBands + 1) % 2 ^ 32
            slots := putSlots (bandSlots d.sheet d.side k d.width d.profile (s.stn i.val).screens syms) (s.stn i.val).slots
            sides := (s.stn i.val).sides.map fun x => if x.sheet == d.sheet && x.side == d.side
              then { x with decoding := x.decoding.drop 1, peak := max x.peak (bandCost d.width cost) } else x })
  ∧ (∀ i s d k ks b c, Runs s → i.val < s.img.stations.length →
      ((s.stn i.val).sides.find? fun d => d.decoding != []) = some d → d.decoding = k :: ks → fetchBand i.val d k s = some b →
      decodeBand b d.bits d.width = .fail c →
      ∃ t, exec (.bandDecodeDone i false) s = .next t ∧ t = { s with img := { s.img with stations := t.img.stations } }
        ∧ (t.stn i.val).decCause = c ∧ (t.stn i.val).decErr = min ((s.stn i.val).decErr + 1) 65535
        ∧ (t.stn i.val).decBands = (s.stn i.val).decBands
        ∧ (t.stn i.val).slots = putSlots (absentSlots d.sheet d.side k) (s.stn i.val).slots)
  ∧ (∀ i s d k ks, Runs s → i.val < s.img.stations.length →
      ((s.stn i.val).sides.find? fun d => d.decoding != []) = some d → d.decoding = k :: ks → fetchBand i.val d k s = none →
      ∃ t, exec (.bandDecodeDone i false) s = .next t ∧ t = { s with img := { s.img with stations := t.img.stations } }
        ∧ (t.stn i.val).tagReport = some { expected := workTag i.val d.sheet d.side k (s.wvr i.val).sweep, received := none }
        ∧ (t.stn i.val).decCause = dcTag ∧ (t.stn i.val).decErr = min ((s.stn i.val).decErr + 1) 65535)
  ∧ (∀ i s y d lines trims, Runs s → i.val < s.img.stations.length → (s.stn i.val).sweep = some y →
      (s.stn i.val).sides.head? = some d → y.sent = false → y.groups = [] → s.saf.inhibit = false →
      sweepLines (s.stn i.val) d y.n = (lines, [], 0, 0, trims) →
      ∃ t, exec (.sweepStartSend i []) s = .next t ∧ t = { s with img := { s.img with stations := t.img.stations } }
        ∧ (t.stn i.val).sweep = some { y with
            sent := true, codes := lines
            groups := (List.range (min 3 (groupCount d.wa))).map (groupAll (sideClass (s.stn i.val) d) lines d.tail)
            causes := if s.shadow || (s.stn i.val).lanes.all (fun l => l.state == .up) then [] else [0x16] }
        ∧ (∀ m < 4, (s.lane i.val m).state = .up → ∃ b, (t.lane i.val m).last = (0x33, b)
            ∧ b % 65536 = (s.wvr i.val).sweep % 65536)
        ∧ ∀ m < 4, (s.lane i.val m).state ≠ .up → (t.lane i.val m) = s.lane i.val m)
  ∧ (∀ i s y d, Runs s → i.val < s.img.stations.length → (s.stn i.val).sweep = some y → (s.stn i.val).sides.head? = some d →
      y.sent = true → y.groups.length < groupCount d.wa →
      ∃ t, exec (.slotGroupSend i true) s = .next t ∧ t = { s with img := { s.img with stations := t.img.stations } }
        ∧ t.stn i.val = { s.stn i.val with sweep := some { y with
            groups := y.groups ++ [groupAll (sideClass (s.stn i.val) d) y.codes d.tail y.groups.length] } })
  ∧ (∀ i n bad raw e s y d, Runs s → i.val < s.img.stations.length → (s.stn i.val).sweep = some y →
      (s.stn i.val).sides = [d] → y.sent = true → y.stop = false → y.groups.length = groupCount d.wa → d.capset = none →
      d.done + 1 ≠ d.bands →
      ∃ t, exec (.sweepEnd i n bad raw e) s = .next t
        ∧ t = { s with img := { s.img with stations := t.img.stations }, pair := t.pair }
        ∧ t.pair = (if s.pair.role = .active then s.pair.send (.report {
              station := i.val, sweep := (d.n0 + d.done) % 2 ^ 27, strobed := groupCount d.wa
              digest := bandDigestOf d i.val d.done y.codes })
            else s.pair)
        ∧ (∀ m < (s.stn i.val).lanes.length, (s.lane i.val m).state = .up → (s.lane i.val m).wait = [] →
            t.lane i.val m = (s.lane i.val m).put [(0x66, crc32 (laneData m y.groups) + groupCount d.wa % 2 ^ 12 * 2 ^ 32)])
        ∧ (t.stn i.val).sweep = none ∧ (t.stn i.val).lastStrobed = groupCount d.wa
        ∧ (t.stn i.val).judged = some { sheet := d.sheet, side := d.side, causes := y.causes, sweep := (s.wvr i.val).sweep }
        ∧ (t.stn i.val).sides = [{ d with
            done := d.done + 1, tail := if groupCount d.wa = 0 then [] else (y.codes.drop 60).map (cutLine (8 * groupCount d.wa))
            digest := d.digest ++ y.groups.flatMap id }])
  ∧ (∀ i s, Runs s → i.val < s.img.stations.length → (s.stn i.val).sweep = none → (s.stn i.val).apcNext = none →
      (∀ l ∈ (s.stn i.val).lanes, l.state ≠ .lpi) →
      (∃ t, exec (.apcExchange i true) s = .next t ∧ t = { s with img := { s.img with stations := t.img.stations } }
        ∧ (t.stn i.val).apcRuns = true ∧ (t.stn i.val).apcK = ((s.stn i.val).apcK + 1) % 16
        ∧ ∀ m < (s.stn i.val).lanes.length, (s.lane i.val m).state = .up →
            u16At (s.stn i.val).apc (2 * (16 * m + (s.stn i.val).apcK)) ≠ 0 →
            (t.lane i.val m) = (s.lane i.val m).put [(0x78, 3 + (s.stn i.val).apcK * 2 ^ 8
              + (s.stn i.val).drive.getD (16 * m + (s.stn i.val).apcK) 0 * 2 ^ 12 + 50 * 2 ^ 24)])
      ∧ exec (.apcExchange i false) s = .next { s with img := { s.img with stations := upd s.img.stations i.val fun x =>
          { x with apcSkipped := min (x.apcSkipped + 1) 65535 } } })
  ∧ (∀ i fit s p, Runs s → i.val < s.img.stations.length → (s.stn i.val).sweep = none → (s.stn i.val).judged = none →
      (s.stn i.val).apcNext = some p →
      ∃ t, exec (.apcExchange i fit) s = .next t ∧ t = { s with img := { s.img with stations := t.img.stations } }
        ∧ (t.stn i.val).apc = p ∧ (t.stn i.val).apcNext = none)

/-- The beam link's rounds, polls, lanes and delays (R12, R166 to R168, R172, R173, R175). Readings of the model in these
clauses: assumption 21. -/
def Obligations.LinkEvents : Prop :=
  (∀ i s j, Runs s → i.val < s.img.stations.length → (s.stn i.val).judged = some j → j.causes = [] →
      (∀ p ∈ (s.stn i.val).polls, p.round = false) → linkBusy (s.stn i.val) = false →
      ∃ t, exec (.statusRound i) s = .next t ∧ t = { s with img := { s.img with stations := t.img.stations } }
        ∧ (s.shadow = false → (t.stn i.val).polls.map (·.lane) = (s.stn i.val).polls.map (·.lane) ++ [0, 1, 2, 3]
          ∧ (∀ p ∈ (t.stn i.val).polls.drop (s.stn i.val).polls.length, p.kind = 1 ∧ p.round = true ∧ p.again = false)
          ∧ (t.stn i.val).judged = some j)
        ∧ (s.shadow = true → t.stn i.val = { s.stn i.val with judged := none }))
  ∧ (∀ i b s p rest, Runs s → i.val < s.img.stations.length → (s.stn i.val).polls = p :: rest → frameValid i.val p b = true →
      p.kind = 1 → p.round = false → p.lane < (s.stn i.val).lanes.length → (s.lane i.val p.lane).state = .config →
      (s.wvr i.val).state ≠ .acquire → byteAt b 4 = 3 → bit (byteAt b 5) 4 = false →
      ∃ t, exec (.backchannelFrameRx i b) s = .next t ∧ t = { s with img := { s.img with stations := t.img.stations } }
        ∧ (t.stn i.val).polls = rest
        ∧ t.lane i.val p.lane = { s.lane i.val p.lane with state := .up, bad := 0, temp := i8At b 9 })
  ∧ (∀ i b s p rest j, Runs s → i.val < s.img.stations.length → (s.stn i.val).polls = p :: rest → frameValid i.val p b = true →
      p.round = true → p.again = false → (s.stn i.val).judged = some j → u16At b 6 ≠ j.sweep % 65536 →
      ∃ t, exec (.backchannelFrameRx i b) s = .next t ∧ t = { s with img := { s.img with stations := t.img.stations } }
        ∧ (t.stn i.val).tagReport = some { expected := workTag i.val j.sheet j.side 0 j.sweep
                                           received := some (workTag i.val j.sheet j.side 0 (u16At b 6)) }
        ∧ (t.stn i.val).polls = { p with seq := (s.stn i.val).pollSeq, again := true } :: rest)
  ∧ (∀ i b s p rest, Runs s → i.val < s.img.stations.length → (s.stn i.val).polls = p :: rest → frameValid i.val p b = true →
      p.kind = 2 → p.lane < (s.stn i.val).lanes.length → (s.lane i.val p.lane).state = .ident → byteAt b 8 = 1 → byteAt b 9 = 16 →
      ∃ t, exec (.backchannelFrameRx i b) s = .next t ∧ t = { s with img := { s.img with stations := t.img.stations } }
        ∧ (t.lane i.val p.lane).state = .config ∧ (t.lane i.val p.lane).maker = u16At b 4
        ∧ (t.lane i.val p.lane).model = u16At b 6 ∧ (t.lane i.val p.lane).driveMax = u16At b 10)
  ∧ (∀ i s p rest, Runs s → i.val < s.img.stations.length → (s.stn i.val).polls = p :: rest → p.again = false →
      ∃ t, exec (.backchannelTimeout i) s = .next t ∧ t = { s with img := { s.img with stations := t.img.stations } }
        ∧ (t.stn i.val).polls = { p with seq := (s.stn i.val).pollSeq, again := true } :: rest
        ∧ (t.stn i.val).bkErr = min ((s.stn i.val).bkErr + 1) 65535)
  ∧ (∀ i (m : Fin 4) s, Runs s → i.val < s.img.stations.length → m.val < (s.stn i.val).lanes.length →
      (s.lane i.val m.val).state = .locking → s.shadow = false →
      ∃ t, exec (.laneTrainingTimeout i m) s = .next t ∧ t = { s with img := { s.img with stations := t.img.stations } }
        ∧ (t.lane i.val m.val).state = .ident
        ∧ (t.stn i.val).polls = (s.stn i.val).polls ++
            [{ lane := m.val, kind := 2, seq := (s.stn i.val).pollSeq, round := false }])
  ∧ (∀ i (m : Fin 4) s, Runs s → i.val < s.img.stations.length → m.val < (s.stn i.val).lanes.length →
      (s.lane i.val m.val).state = .ident ∨ (s.lane i.val m.val).state = .config → (s.lane i.val m.val).bad = 2 →
      ∃ t, exec (.laneTrainingTimeout i m) s = .next t ∧ Raised .halt 236 i.val 0x10 s t
        ∧ (t.lane i.val m.val).state = .failed)
  ∧ (∀ i s, Runs s → i.val < s.img.stations.length → (s.stn i.val).lpiMin ≠ 0 → (s.stn i.val).sweep = none →
      (s.stn i.val).judged = none → lights (s.wvr i.val).state = false →
      ∃ t, exec (.laneLpiEnter i) s = .next t ∧ t = { s with img := { s.img with stations := t.img.stations } }
        ∧ t.stn i.val = { s.stn i.val with lanes := (s.stn i.val).lanes.map fun l =>
            if l.state = .up then { l.put [(0x78, 7)] with state := .lpi } else l })
  ∧ (∀ i s, Runs s → i.val < s.img.stations.length → (s.stn i.val).lanes.length = 4 →
      ∃ t, exec (.laneWake i) s = .next t ∧ t = { s with img := { s.img with stations := t.img.stations } }
        ∧ ∀ m < 4, ((s.lane i.val m).state = .lpi → (t.lane i.val m).state = .wake)
          ∧ ((s.lane i.val m).state ≠ .lpi → t.lane i.val m = s.lane i.val m))
  ∧ (∀ i s, Runs s → i.val < s.img.stations.length → (s.stn i.val).delaySend = true → (s.stn i.val).sweep = none →
      ∃ t, exec (.delaySetSend i) s = .next t ∧ t = { s with img := { s.img with stations := t.img.stations } }
        ∧ (t.stn i.val).delaySend = false
        ∧ ∀ m < (s.stn i.val).lanes.length, (s.lane i.val m).state = .up →
            t.lane i.val m = (s.lane i.val m).put ((List.range 16).map fun j =>
              (0x78, 1 + j * 2 ^ 8 + byteAt (s.stn i.val).delays (16 * m + j) * 2 ^ 12)))

/-- Beam detect and sweep starts of the Weavers (R173, R179, R181 to R185, R196 to R198, R383, R401, R490). Readings of the model in these
clauses: assumptions 3 and 21. -/
def Obligations.WeaverEvents : Prop :=
  (∀ i t up hold s, Runs s → i.val < s.img.stations.length → imgGated i.val s = false → bdActive i.val up s = true →
      minWidth i.val s ≤ hold → (s.wvr i.val).state = .acquire → (s.stn i.val).sides = [] → 1 < (s.poly (polyOf i.val)).n →
      exec (.bdEdge i t ⟨up, hold⟩) s = .next { s with img := { s.img with stations := upd s.img.stations i.val fun x => { x with
        weaver := { x.weaver with
          state := .tracking, edges := [t % 2 ^ 48], count := 1
          that := some (tuAdd (t % 2 ^ 48) (facetPeriod (polyOf i.val) s))
          locked := 0, valid := 0, missing := 0, ident := none, gathered := 0, idFails := 0, idBad := 0, indexSeen := false
          acqFails := 0, lit := false, speedRun := 0 } } } })
  ∧ (∀ i t up hold s, Runs s → (imgGated i.val s = true ∨ bdActive i.val up s = false) → exec (.bdEdge i t ⟨up, hold⟩) s = .next s)
  ∧ (∀ i t up hold s, Runs s → imgGated i.val s = false → bdActive i.val up s = true →
      ((s.wvr i.val).state = .off ∨ (s.wvr i.val).state = .spinup ∨ (s.wvr i.val).state = .fault
        ∨ ((s.wvr i.val).state = .acquire ∧ hold < minWidth i.val s)
        ∨ (((s.wvr i.val).state = .tracking ∨ (s.wvr i.val).state = .locked) ∧ ∃ th, (s.wvr i.val).that = some th
          ∧ (hold < minWidth i.val s ∨ inWindow i.val (t % 2 ^ 48) th s = false))) →
      exec (.bdEdge i t ⟨up, hold⟩) s = .next { s with img := { s.img with stations := upd s.img.stations i.val fun x => { x with
        weaver := { x.weaver with stray := min (x.weaver.stray + 1) 65535 } } } })
  ∧ (∀ i th s, Runs s → i.val < s.img.stations.length → (s.wvr i.val).state = .tracking → (s.wvr i.val).that = some th →
      ∃ t, exec (.bdWindowClose i) s = .next t
        ∧ t = { s with img := { s.img with stations := t.img.stations, polygons := t.img.polygons } }
        ∧ t.img.polygons = (if isLead i.val s = true ∧ ((s.wvr i.val).count + 1) % max 1 (s.poly (polyOf i.val)).n = 0
            then upd s.img.polygons (polyOf i.val) fun y => { y with lifeRevs := y.lifeRevs + 1 } else s.img.polygons)
        ∧ (t.wvr i.val).state = .acquire ∧ (t.wvr i.val).that = none ∧ (t.wvr i.val).edges = [])
  ∧ (∀ i t0 s, Runs s → i.val < s.img.stations.length → (s.wvr i.val).lastStart = some t0 → (s.wvr i.val).wasLocked = true →
      (s.wvr i.val).state ≠ .off → (s.wvr i.val).state ≠ .locked → (s.stn i.val).sides = [] → (s.stn i.val).sweep = none →
      s.shs.sheets = [] →
      ∃ t, exec (.nominalSweepStart i) s = .next t
        ∧ t = { s with io := t.io, img := { s.img with stations := t.img.stations }, reg := { s.reg with mirrors := t.reg.mirrors } }
        ∧ (mirrorsWfFrom 0 s.reg.mirrors = true → mirrorRead t.reg.mirrors (0x40000 + 0x2000 * i.val)
            = mirrorRead s.reg.mirrors (0x40000 + 0x2000 * i.val) + 2)
        ∧ (t.wvr i.val).sweep = ((s.wvr i.val).sweep + 1) % 2 ^ 27
        ∧ (t.wvr i.val).lastStart = some (tuAdd t0 (s.poly (polyOf i.val)).tNom)
        ∧ (t.wvr i.val).pos = beltCount (s.poly (polyOf i.val)).beltQe s
        ∧ (t.stn i.val).tag = i.val * 2 ^ 17 + ((s.wvr i.val).sweep + 1) % 2 ^ 27 * 2 ^ 37)
  ∧ (∀ i s, Runs s → i.val < s.img.stations.length → (s.wvr i.val).state = .tracking ∨ (s.wvr i.val).state = .locked →
      (s.wvr i.val).that.isSome = true → bdLane (s.wvr i.val) < (s.stn i.val).lanes.length →
      (s.lane i.val (bdLane (s.wvr i.val))).state = .up →
      ∃ t, exec (.bdLightSend i) s = .next t ∧ t = { s with img := { s.img with stations := t.img.stations } }
        ∧ t.lane i.val (bdLane (s.wvr i.val)) = sendCmds (linkBusy (s.stn i.val))
            [(0x78, 4 + byteAt (s.wvr i.val).b 8 % 16 * 2 ^ 8
              + min (u16At (s.wvr i.val).b 10) (s.lane i.val (bdLane (s.wvr i.val))).driveMax * 2 ^ 12
              + byteAt (s.wvr i.val).b 15 * 2 ^ 24)] (s.lane i.val (bdLane (s.wvr i.val))))
  ∧ (∀ i s, Runs s → i.val < s.img.stations.length → (s.wvr i.val).state = .acquire → (s.stn i.val).sides = [] →
      (s.wvr i.val).lit = true → (s.wvr i.val).acqFails + 1 < 10 → bdLane (s.wvr i.val) < (s.stn i.val).lanes.length →
      (s.lane i.val (bdLane (s.wvr i.val))).state = .up → linkBusy (s.stn i.val) = false →
      ∃ t, exec (.acquireRetry i) s = .next t ∧ t = { s with img := { s.img with stations := t.img.stations } }
        ∧ (t.wvr i.val) = { s.wvr i.val with acqFails := (s.wvr i.val).acqFails + 1 }
        ∧ (t.lane i.val (bdLane (s.wvr i.val))).last = (0x78, 4 + byteAt (s.wvr i.val).b 8 % 16 * 2 ^ 8
              + min (u16At (s.wvr i.val).b 10) (s.lane i.val (bdLane (s.wvr i.val))).driveMax * 2 ^ 12 + 255 * 2 ^ 24))
  ∧ (∀ i s, Runs s → (s.wvr i.val).state = .acquire → (s.wvr i.val).lit = false →
      ((s.stn i.val).sides ≠ [] ∨ (s.lane i.val (bdLane (s.wvr i.val))).state ≠ .up) → exec (.acquireRetry i) s = .next s)
  ∧ (∀ i s, Runs s → i.val < s.img.stations.length → (s.wvr i.val).state = .acquire → (s.wvr i.val).lit = true →
      (s.wvr i.val).acqFails = 9 →
      ∃ t, exec (.acquireRetry i) s = .next t ∧ Raised .halt 236 i.val 0x18 s t ∧ (t.wvr i.val).state = .fault)
  ∧ (∀ p s x, Runs s → s.io.finals = [] → s.io.hampers.flatMap (·.flights) = [x] → x.op = .scanStart → x.stage = .running →
      x.f.target.toNat = p.val →
      exec (.scanStartTimeout p) s = .next { s with io := { s.io with finals :=
        [{ hamper := x.f.hamper.val, tag := x.f.tag.toNat, gone := x.gone, status := stTimeout, detail := 0, result := [] }] } })

/-! ## Events of sheets and the launch gate (chapter 09) -/

/-- Admission, launch, the commit windows, the route, the output, withdrawn tokens, the lower speed, the print states
and the calibration proposal (R200, R203 to R209, R213, R216, R218, R219, R221 to R223, R431). Readings of the model in
these clauses: assumptions 22 and 23. -/
def Obligations.SheetEvents : Prop :=
  (∀ m s p, Runs s → s.shs.calRun = some p →
      ∃ t, exec (.calProposalReady m) s = .next t
        ∧ t = { s with io := t.io, free := s.free + 1, shs := { s.shs with
            calRun := none, proposal := some (if byteAt p 0 = 1 then calRegister p m s else calDensity p m s) } })
  ∧ (∀ s k x rest j y, Runs s → restage s = k → k.saf.ctrl = .run → k.pwr.grace = false → candidates k = x :: rest → k.job x.job = some j →
      stageFail x j k = none → admitTry x j k = .ok y →
      ∃ t, exec .admission s = .next t ∧ t.sheet x.id = some { y with wait := 0, state := .admitted }
        ∧ t = { k with io := t.io, shs := t.shs, led := { k.led with resv := k.led.resv + 1 } })
  ∧ (∀ id s x, Runs s → s.sheet id.toNat = some x → x.state = .admitted → x.gate - feed16 s ≤ belt16 s →
      ∃ t, exec (.launch id) s = .next t ∧ t = { s with io := t.io, shs := t.shs }
        ∧ t.sheet id.toNat = some { x with state := .launched })
  ∧ (∀ id s x, Runs s → s.sheet id.toNat = some x → x.state = .launched → x.frontEdge = false → x.cause = 0 →
      x.gate + gtol16 s < belt16 s →
      ∃ t y, exec (.gateWindowClose id false) s = .next t ∧ Raised .halt 236 0 0x21 s t
        ∧ t.sheet id.toNat = some y ∧ y.state = .lost ∧ y.cause = 0x52)
  ∧ (∀ id s x, Runs s → s.sheet id.toNat = some x → x.state = .launched ∨ x.state = .committed ∨ x.state = .imaged
        ∨ x.state = .fused → x.route = none → x.gate + divert16 s ≤ belt16 s →
      ∃ t, exec (.routeDecision id) s = .next t ∧ t = { s with shs := { s.shs with sheets := t.shs.sheets } }
        ∧ t.sheet id.toNat = some { x with route := some (x.spoil || x.blank) })
  ∧ (∀ id s x, Runs s → s.sheet id.toNat = some x → x.state = .imaged →
      ∃ t, exec (.sheetFused id) s = .next t ∧ t = { s with shs := { s.shs with sheets := t.shs.sheets } }
        ∧ t.sheet id.toNat = some { x with state := .fused })
  ∧ (∀ id s x, Runs s → s.sheet id.toNat = some x → x.state = .fused → x.route = some false → x.spoil = false →
      ∃ t, exec (.sheetOutput id) s = .next t
        ∧ t.sheet id.toNat = some { x with state := .delivered, tEnd := s.io.time }
        ∧ ∃ r ∈ t.led.queue, r.kind = .sheet ∧ r.draw = .sheet
          ∧ r.body = sheetRecord { x with state := .delivered, tEnd := s.io.time })
  ∧ (∀ id s x, Runs s → s.sheet id.toNat = some x → x.state = .fused → x.route = some true →
      ∃ t, exec (.sheetOutput id) s = .next t
        ∧ t.sheet id.toNat = some { x with state := .spoiled, tEnd := s.io.time })
  ∧ (∀ s x, Runs s → s.shs.sheets = [x] → (tokenFail x.stations s).isSome = true →
      (x.state = .admitted → ∃ t y, exec .tokenWithdrawn s = .next t ∧ t.sheet x.id = some y ∧ y.state = .staged
        ∧ y.slots = [0, 0, 0, 0, 0] ∧ t.led.resv = s.led.resv - 1 ∧ (∀ r ∈ y.sides, r.capset = 0xFFFF ∧ r.granules = 0))
      ∧ (x.state = .launched → x.blank = false → x.cause = 0 →
        ∃ t y, exec .tokenWithdrawn s = .next t ∧ t.sheet x.id = some y ∧ y.state = .launched ∧ y.blank = true
          ∧ y.cause = 0x41))
  ∧ (∀ s v, Runs s → s.shs.speedHold = true → (∀ x ∈ s.shs.sheets, x.state.code < 4 ∨ 6 < x.state.code) →
      plannedV s = some v →
      (minV s < v → ∃ t, exec .speedLower s = .next t ∧ t.shs = { s.shs with speedHold := false }
        ∧ ∀ p ∈ polysOn s, ∃ r ∈ t.led.queue, r.subject = 0x0783 ∧ r.origin = 3
          ∧ r.act = .renune .scanStart p (le 4 (max (minV s) (v * (100 - speedStepOf s) / 100 / 1000 * 1000))))
      ∧ (v ≤ minV s → ∃ t, exec .speedLower s = .next t ∧ t.shs.speedHold = false ∧ Raised .halt 236 0 0x23 s t))
  ∧ (∀ s, Runs s → s.saf.ctrl = .drain → noneRunning s = true → ∃ t, exec .drainComplete s = .next t ∧ Moves .ready s t)
  ∧ (∀ s, Runs s → s.saf.ctrl = .warm → readyHolds s = true → ∃ t, exec .readyEntry s = .next t ∧ Moves .ready s t)
  ∧ (∀ s, Runs s → s.saf.ctrl = .ready → readyHolds s = false → ∃ t, exec .readyExit s = .next t ∧ Moves .warm s t)

/-! ## Events of motor channels, buses and axes (chapters 10 and 11) -/

/-- The periods of a channel (R227 to R232, R234, R238, R239, R241, R243, R246, R247): the commands that wait apply first,
then what is sampled and computed in ALIGN and CLOSED, the speed loop, and the tests that float a channel. The observer's
angle, speed and angle error, and a small channel's speed, are free values, and the transforms are rounded as the model
chooses (assumption 5). -/
def Obligations.ChannelPeriodEvents : Prop :=
  (∀ n ia ib ic va vb vc vbus s p d q v, Runs s → n.val < s.mot.chs.length → (s.motor n.val).set = some p →
      (s.motor n.val).state = .align → (s.motor n.val).startNs = none → (s.motor n.val).stopping = false →
      (s.motor n.val).wait = [] → (10 * (ia + ib + ic)).natAbs ≤ mIMax p → 0 < vbus →
      d = piStep p ((largeRefs p (s.motor n.val) (s.bus (mBus p)).regenFree 0).1 * 65536 - (park 0 ia ib ic).1)
        (s.motor n.val).intDq.1 (5 * tPwm p) →
      q = piStep p ((largeRefs p (s.motor n.val) (s.bus (mBus p)).regenFree 0).2 * 65536 - (park 0 ia ib ic).2)
        (s.motor n.val).intDq.2 (5 * tPwm p) →
      v = unpark 0 (d.1, q.1) →
      ∃ t, exec (.largeChannelPeriod n ia ib ic va vb vc vbus) s = .next t
        ∧ t = { s with free := s.free + 1, mot := { s.mot with chs := t.mot.chs } }
        ∧ (∀ k, k ≠ n.val → t.motor k = s.motor k)
        ∧ (t.motor n.val).state = .align ∧ (t.motor n.val).sumBad = 0
        ∧ (t.motor n.val).ia = sat16 ia ∧ (t.motor n.val).ib = sat16 ib ∧ (t.motor n.val).speed = 0
        ∧ (t.motor n.val).id = sat16 (sar (park 0 ia ib ic).1 16) ∧ (t.motor n.val).iq = sat16 (sar (park 0 ia ib ic).2 16)
        ∧ (t.motor n.val).cmp = (svm p (floorDiv (v.1 * 1000) vbus) (floorDiv (v.2.1 * 1000) vbus) (floorDiv (v.2.2 * 1000) vbus)).1
        ∧ (t.motor n.val).mod = (svm p (floorDiv (v.1 * 1000) vbus) (floorDiv (v.2.1 * 1000) vbus) (floorDiv (v.2.2 * 1000) vbus)).2.1
        ∧ (t.motor n.val).gate = .pwm ∧ (t.motor n.val).drives = s.outputsOwned
        ∧ (t.motor n.val).idRef = min (u16At p 40) (mIMax p)
        ∧ (t.motor n.val).inState = (s.motor n.val).inState + 5 * tPwm p)
  ∧ (∀ n ia ib ic va vb vc vbus s p, Runs s → n.val < s.mot.chs.length → 3 ≤ n.val → (s.motor n.val).set = some p →
      (s.motor n.val).state = .closed → (s.motor n.val).startNs = none → (s.motor n.val).stopping = false →
      (s.motor n.val).wait = [] → (10 * (ia + ib + ic)).natAbs ≤ mIMax p → u16At p 52 * 4 ≤ (s.motor n.val).conf * 3 →
      (s.motor n.val).conf ≤ 65535 →
      ∃ t, exec (.largeChannelPeriod n ia ib ic va vb vc vbus) s = .next t
        ∧ t = { s with free := s.free + 1, mot := { s.mot with chs := t.mot.chs } }
        ∧ (t.motor n.val).state = .closed ∧ (t.motor n.val).lossNs = 0
        ∧ (t.motor n.val).speed = sat32 (freeVal .observer 0 s)
        ∧ (t.motor n.val).id = sat16 (sar (park (turn16 (freeVal .observer 1 s) % turn) ia ib ic).1 16)
        ∧ (t.motor n.val).iq = sat16 (sar (park (turn16 (freeVal .observer 1 s) % turn) ia ib ic).2 16)
        ∧ (t.motor n.val).idRef = (largeRefs p (s.motor n.val) (s.bus (mBus p)).regenFree (t.motor n.val).speed).1
        ∧ (t.motor n.val).iqUse = (largeRefs p (s.motor n.val) (s.bus (mBus p)).regenFree (t.motor n.val).speed).2
        ∧ (t.motor n.val).gate = .pwm ∧ (t.motor n.val).torqueAt = some s.io.time)
  ∧ (∀ n ia ib ic va vb vc vbus s p w, Runs s → n.val < s.mot.chs.length → 3 ≤ n.val → (s.motor n.val).set = some p →
      (s.motor n.val).state = .catching → (s.motor n.val).caught = some w → (s.motor n.val).startNs = none →
      (s.motor n.val).stopping = false → (s.motor n.val).wait = [] → (10 * (ia + ib + ic)).natAbs ≤ mIMax p →
      u16At p 52 * 4 ≤ (s.motor n.val).conf * 3 → (s.motor n.val).conf ≤ 65535 →
      ∃ t, exec (.largeChannelPeriod n ia ib ic va vb vc vbus) s = .next t
        ∧ (t.motor n.val).state = .closed ∧ (t.motor n.val).slew = w ∧ (t.motor n.val).iqRef = 0 ∧ (t.motor n.val).intW = 0
        ∧ (t.motor n.val).caught = none ∧ (t.motor n.val).gate = .pwm)
  ∧ (∀ n ia ib ic va vb vc vbus s p, Runs s → n.val < s.mot.chs.length → (s.motor n.val).set = some p →
      (s.motor n.val).state ≠ .off → (s.motor n.val).state ≠ .fault → (s.motor n.val).caught = none →
      (s.motor n.val).wait = [] → (s.motor n.val).sumBad = 2 → mIMax p < (10 * (ia + ib + ic)).natAbs →
      ∃ t, exec (.largeChannelPeriod n ia ib ic va vb vc vbus) s = .next t ∧ ChannelFaulted n.val 0x06 s t)
  ∧ (∀ n ia ib s p y, Runs s → 6 + n.val < s.mot.chs.length → (s.motor (6 + n.val)).set = some p →
      (s.motor (6 + n.val)).state = .align → (s.motor (6 + n.val)).startNs = none → (s.motor (6 + n.val)).stopping = false →
      (s.motor (6 + n.val)).wait = [] →
      ia.natAbs ≤ u16At p 22 → ib.natAbs ≤ u16At p 22 → (-ia - ib).natAbs ≤ u16At p 22 →
      y = fluxStep p (s.motor (6 + n.val)).vector (s.bus (mBus p)).v ia ib (s.motor (6 + n.val)).psi →
      ∃ t, exec (.smallChannelPeriod n ia ib) s = .next t
        ∧ t = { s with free := s.free + 1, mot := { s.mot with chs := t.mot.chs } }
        ∧ (∀ k, k ≠ 6 + n.val → t.motor k = s.motor k)
        ∧ (t.motor (6 + n.val)).ia = sat16 ia ∧ (t.motor (6 + n.val)).ib = sat16 ib ∧ (t.motor (6 + n.val)).psi = y
        ∧ (t.motor (6 + n.val)).flux = (satu (fluxMag y) 16).toNat
        ∧ (t.motor (6 + n.val)).torque = sat16 (sar (torqueOf p ia ib y) 16)
        ∧ (t.motor (6 + n.val)).gate = .vector ∧ (t.motor (6 + n.val)).vectorWas = (s.motor (6 + n.val)).vector
        ∧ ((max ia.natAbs (max ib.natAbs (-ia - ib).natAbs)) < u16At p 40 - u16At p 40 / 8 → (t.motor (6 + n.val)).vector = 1)
        ∧ (u16At p 40 + u16At p 40 / 8 < (max ia.natAbs (max ib.natAbs (-ia - ib).natAbs)) → (t.motor (6 + n.val)).vector = 0)
        ∧ (t.motor (6 + n.val)).inState = (s.motor (6 + n.val)).inState + 1000 * u16At p 4)
  ∧ (∀ n ia ib s p, Runs s → 6 + n.val < s.mot.chs.length → (s.motor (6 + n.val)).set = some p →
      (s.motor (6 + n.val)).state.floated = false → (s.motor (6 + n.val)).wait = [] → u16At p 22 < ia.natAbs →
      ∃ t, exec (.smallChannelPeriod n ia ib) s = .next t ∧ ChannelFaulted (6 + n.val) 0x05 s t)
  ∧ (∀ n ia ib s p v, Runs s → 6 + n.val < s.mot.chs.length → (s.motor (6 + n.val)).set = some p →
      (s.motor (6 + n.val)).state = .off → (s.motor (6 + n.val)).wait = [.start v] → (s.motor (6 + n.val)).startNs = some 0 →
      (s.motor (6 + n.val)).torqueAt = none →
      ia.natAbs ≤ u16At p 22 → ib.natAbs ≤ u16At p 22 → (-ia - ib).natAbs ≤ u16At p 22 →
      ∃ t, exec (.smallChannelPeriod n ia ib) s = .next t ∧ (t.motor (6 + n.val)).state = .align
        ∧ (t.motor (6 + n.val)).target = v ∧ (t.motor (6 + n.val)).slew = 0 ∧ (t.motor (6 + n.val)).wait = []
        ∧ (t.motor (6 + n.val)).startNs = some (1000 * u16At p 4))
  ∧ (∀ n ia ib s p, Runs s → 6 + n.val < s.mot.chs.length → (s.motor (6 + n.val)).set = some p →
      (s.motor (6 + n.val)).state = .closed → (s.motor (6 + n.val)).wait = [.stop 1] → (s.motor (6 + n.val)).startNs = none →
      ∃ t, exec (.smallChannelPeriod n ia ib) s = .next t ∧ (t.motor (6 + n.val)).state = .off
        ∧ (t.motor (6 + n.val)).gate = .low ∧ (t.motor (6 + n.val)).wait = [])
  ∧ (∀ m s p r dt lim raw, Runs s → m.val < s.mot.chs.length → (s.motor m.val).set = some p → (s.motor m.val).state = .closed →
      (s.motor m.val).stopping = false → (s.motor m.val).direct = false →
      dt = byteAt p 54 * (if m.val < 6 then 5 * tPwm p else 1000 * u16At p 4) →
      r = slewStep p (decMilli p (s.bus (mBus p))) false
        (match (s.bus (mBus p)).set with | some q => decide (bThr q 14 < (s.bus (mBus p)).v * 100) | none => false)
        (s.motor m.val).slew (s.motor m.val).target (s.motor m.val).slewRem dt →
      mHand p * 100 ≤ r.1.natAbs → lim = (if m.val < 6 then mIMax p * 65536 else torqueMax p) →
      raw = floorDiv ((u32At p 32 : Nat) * (r.1 - (s.motor m.val).speed)) 100 + (s.motor m.val).intW →
      ∃ t, exec (.speedLoopPeriod m) s = .next t
        ∧ t = { s with io := t.io, img := t.img, mot := { s.mot with chs := upd s.mot.chs m.val fun x => { x with
            slew := r.1, slewRem := r.2, iqRef := sar (clamp raw (-(lim : Int)) lim) 16
            intW := if clamp raw (-(lim : Int)) lim = raw then
              x.intW + floorDiv ((u32At p 36 : Nat) * (r.1 - x.speed) * dt) 100000000000 else x.intW } } })

/-- What starts, catches, stops and protects a channel (R226, R230, R233, R235 to R237, R244). Readings of the model in
these clauses: assumptions 5 and 15. -/
def Obligations.ChannelEvents : Prop :=
  (∀ m s, Runs s → m.val < s.mot.chs.length → (s.motor m.val).state ≠ .fault →
      ∃ t, exec (.drvFaultInput m true) s = .next t ∧ ChannelFaulted m.val 0x02 s t ∧ (t.motor m.val).drvLow = true
        ∧ (t.motor m.val).gate = .low)
  ∧ (∀ m s, s.shs.lateDue = false → exec (.drvFaultInput m false) s = .next { s with mot := { s.mot with
      chs := upd s.mot.chs m.val fun x => { x with drvLow := false } } })
  ∧ (∀ n s, Runs s → n.val < s.mot.chs.length → (s.motor n.val).state ≠ .off → (s.motor n.val).state ≠ .fault →
      (∃ t, exec (.sdmStuck n) s = .next t ∧ ChannelFaulted n.val 0x06 s t)
      ∧ ∃ t, exec (.overcurrentTrip n) s = .next t ∧ ChannelFaulted n.val 0x05 s t)
  ∧ (∀ m i s p, Runs s → m.val < s.mot.chs.length → (s.motor m.val).state = .align → (s.motor m.val).set = some p →
      (u16At p 40 ≤ i * 2 → ∃ t, exec (.alignEnd m i) s = .next t ∧ t = { s with io := t.io, mot := t.mot }
        ∧ (t.motor m.val).state = .ramp ∧ (t.motor m.val).inState = 0)
      ∧ (i * 2 < u16At p 40 → ∃ t, exec (.alignEnd m i) s = .next t ∧ ChannelFaulted m.val 0x09 s t))
  ∧ (∀ m s, Runs s → m.val < s.mot.chs.length → (s.motor m.val).state = .align ∨ (s.motor m.val).state = .ramp →
      ∃ t, exec (.rampTimeout m) s = .next t ∧ ChannelFaulted m.val 0x08 s t)
  ∧ (∀ m s, Runs s → m.val < s.mot.chs.length → (s.motor m.val).state = .catching →
      (s.motor m.val).probe = true ∨ (s.motor m.val).opposite = true →
      ∃ t, exec (.rampTimeout m) s = .next t ∧ ChannelFaulted m.val 0x07 s t)
  ∧ (∀ n f r a s p es, Runs s → n.val < s.mot.chs.length → (s.motor n.val).state = .catching → (s.motor n.val).set = some p →
      es = ((f.val, r, a) :: (s.motor n.val).edges).take 6 → es.length = 6 → edgeDir es ≠ 0 → gapsAgree (edgeGaps es) = true →
      (s.motor n.val).opposite = false → (s.motor n.val).caught = none →
      (0 ≤ edgeDir es * edgeSpeed p (edgeGaps es) * (s.motor n.val).target →
        ∃ t, exec (.catchEdge n f r a) s = .next t ∧ t = { s with mot := t.mot }
          ∧ (t.motor n.val).state = .catching ∧ (t.motor n.val).caught = some (edgeDir es * edgeSpeed p (edgeGaps es)) ∧ (t.motor n.val).speed = edgeDir es * edgeSpeed p (edgeGaps es)
          ∧ (t.motor n.val).catches = min ((s.motor n.val).catches + 1) 65535)
      ∧ (edgeDir es * edgeSpeed p (edgeGaps es) * (s.motor n.val).target < 0 →
        ∃ t, exec (.catchEdge n f r a) s = .next t ∧ t = { s with mot := t.mot }
          ∧ (t.motor n.val).state = .catching ∧ (t.motor n.val).opposite = true))
  ∧ (∀ n s, Runs s → n.val < s.mot.chs.length → (s.motor n.val).state = .catching → (s.motor n.val).probe = false →
      (s.motor n.val).opposite = false → (s.motor n.val).caught = none →
      ∃ t, exec (.catchTimeout n) s = .next t ∧ ChannelFaulted n.val 0x07 s t)
  ∧ (∀ n s, Runs s → n.val < s.mot.chs.length → (s.motor n.val).state = .catching →
      (s.motor n.val).caught = none → (s.motor n.val).probe = true ∨ (s.motor n.val).opposite = true →
      ∃ t, exec (.catchQuiet n) s = .next t ∧ t = { s with free := s.free + 1, io := t.io, mot := t.mot } ∧ (t.motor n.val).state = .align)
  ∧ (∀ n s, Runs s → 6 + n.val < s.mot.chs.length → (s.motor (6 + n.val)).state = .float →
      ∃ t, exec (.smCoastEnd n) s = .next t ∧ t = { s with free := s.free + 1, io := t.io, mot := t.mot }
        ∧ (t.motor (6 + n.val)).state = .align)
  ∧ (∀ m s, Runs s → m.val < s.mot.chs.length → (s.motor m.val).state ≠ .off → (s.motor m.val).state ≠ .fault →
      ∃ t, exec (.speedLimitTrip m) s = .next t ∧ ChannelFaulted m.val 0x0B s t)

/-- The DC buses: samples, choppers, and the faults that float every bridge of a bus (R240, R242, R243); the axes: moves
of the path, profile ticks, PWM periods, hold current and drive faults (R255, R257 to R259, R263). Readings of the model
in these clauses: assumptions 3 and 15. -/
def Obligations.BusAndAxisEvents : Prop :=
  (∀ n mv ma s p, Runs s → n.val < s.mot.buses.length → (s.bus n.val).set = some p → (s.bus n.val).regenFree = false →
      (s.bus n.val).chop = false → (s.bus n.val).ons = [] → bThr p 15 ≤ mv * 100 → mv * 100 < bThr p 16 → bThr p 12 ≤ mv * 100 →
      ∃ t, exec (.busSample n mv ma) s = .next t ∧ t = { s with io := t.io, mot := { s.mot with buses := t.mot.buses } }
        ∧ (t.bus n.val).v = mv ∧ (t.bus n.val).chop = true ∧ (t.bus n.val).chopV0 = mv ∧ (t.bus n.val).ovpRun = 0
        ∧ (t.bus n.val).onCnt = min ((s.bus n.val).onCnt + 1) 65535 ∧ (t.bus n.val).armed = (s.bus n.val).armed
        ∧ (t.bus n.val).lifeChop = (s.bus n.val).lifeChop + 1)
  ∧ (∀ n mv ma s p i, Runs s → n.val < s.mot.buses.length → (s.bus n.val).set = some p → (s.bus n.val).ovpRun = 1 →
      bThr p 16 ≤ mv * 100 → i ∈ s.onBus n.val → i < s.mot.chs.length → (s.motor i).state ≠ .off →
      ∃ t, exec (.busSample n mv ma) s = .next t ∧ (t.motor i).state = .fault)
  ∧ (∀ n s i, Runs s → (s.bus n.val).armed = true → i < s.mot.chs.length →
      i ∈ s.onBus n.val → (s.motor i).state ≠ .off →
      ∃ t, exec (.busUvpTimeout n) s = .next t ∧ (t.motor i).state = .fault)
  ∧ (∀ n s, Runs s → n.val < s.mot.buses.length →
      ∃ t, exec (.busArmed n) s = .next t ∧ t = { s with io := t.io, mot := { s.mot with
        buses := upd s.mot.buses n.val fun b => { b with armed := true } } })
  ∧ (∀ n s p, Runs s → n.val < s.mot.buses.length → (s.bus n.val).set = some p → (s.bus n.val).chopSeen = false →
      (s.bus n.val).chopFault = false →
      ∃ t, exec (.chopCheckEnd n) s = .next t ∧ Raised .halt (112 + n.val) n.val 1 s t
        ∧ (t.bus n.val).chopFault = true ∧ (t.bus n.val).chop = false)
  ∧ (∀ a b s p, Runs s → a.val < s.axs.axs.length → (s.axis a.val).set = some p → aPath p = true →
      (s.axis a.val).state = .hold → (s.axis a.val).queue = [] → 24 ≤ b.length →
      firstFault (segFaults a.val p (min 16 (b.length / 24)) b 0 (s.axis a.val).pos) = none →
      ∃ t, exec (.pathMove a b) s = .next t ∧ t = { s with axs := { s.axs with axs := t.axs.axs } }
        ∧ (t.axis a.val).state = .moving
        ∧ (t.axis a.val).queue = parseSegs (min 16 (b.length / 24)) b (s.axis a.val).pos
        ∧ ∀ k, k ≠ a.val → t.axis k = s.axis k)
  ∧ (∀ s i p g rest, Runs s → i < 20 → s.axs.axs.length = 20 → (∀ k < 20, (s.axis k).state ≠ .homing) →
      (s.axis i).set = some p → (s.axis i).state = .moving → (s.axis i).queue = g :: rest →
      (s.axis i).segT + 20000 < segNs (s.axis i).vIn (s.axis i).vPeak (s.axis i).vOut g (g.len ((s.axis i).start / 65536)) →
      ∃ t x, exec .profileTick s = .next t
        ∧ t = { s with io := t.io, axs := { s.axs with axs := t.axs.axs, tickAt := s.io.time, drives := s.outputsOwned } }
        ∧ x = (s.axis i).start + (if (s.axis i).start / 65536 ≤ g.pos then 1 else -1)
          * (segAt (s.axis i).vIn (s.axis i).vPeak (s.axis i).vOut g (g.len ((s.axis i).start / 65536)) ((s.axis i).segT + 20000)).1
        ∧ (t.axis i).pos = wrap48 (x / 65536) ∧ (t.axis i).frac = (x % 65536).toNat ∧ (t.axis i).segT = (s.axis i).segT + 20000
        ∧ (t.axis i).state = .moving ∧ (t.axis i).queue = g :: rest)
  ∧ (∀ s i p l, Runs s → i < 20 → s.axs.axs.length = 20 → (∀ k < 20, (s.axis k).state ≠ .homing) →
      (s.axis i).set = some p → (s.axis i).state = .stopping → (s.axis i).queue = [] → (s.axis i).homeHit = false →
      l = stopPhases (s.axis i).vIn ((if (s.axis i).vel < 0 then -1 else 1) * (s.axis i).accel) (u32At p 44) (u32At p 48) →
      (phasesNs l ≤ (s.axis i).segT + 20000 → ∃ t, exec .profileTick s = .next t ∧ (t.axis i).state = .hold
        ∧ (t.axis i).vel = 0 ∧ (t.axis i).frac = 0
        ∧ (t.axis i).pos = wrap48 ((profileAt p (s.axis i) (phasesNs l)).1 / 65536))
      ∧ ((s.axis i).segT + 20000 < phasesNs l → ∃ t, exec .profileTick s = .next t ∧ (t.axis i).state = .stopping
        ∧ (t.axis i).pos = wrap48 ((profileAt p (s.axis i) ((s.axis i).segT + 20000)).1 / 65536)))
  ∧ (∀ a ia ib qs s p, Runs s → a.val < s.axs.axs.length → (s.axis a.val).set = some p → (s.axis a.val).drive = true →
      (s.axis a.val).strong = false → ia.natAbs ≤ u16At p 8 → ib.natAbs ≤ u16At p 8 → (s.axis a.val).lowRun.1 < 63 →
      (s.axis a.val).lowRun.2 < 63 → boundaryMet (s.axis a.val).lastPos (s.axis a.val).pos = false →
      ∃ t, exec (.stepperPwmPeriod a (ia, ib) qs) s = .next t
        ∧ t = { s with free := s.free + 1, axs := { s.axs with axs := t.axs.axs } }
        ∧ (t.axis a.val).ia = sat16 ia ∧ (t.axis a.val).ib = sat16 ib ∧ (t.axis a.val).state = (s.axis a.val).state
        ∧ (t.axis a.val).pos = (s.axis a.val).pos ∧ (t.axis a.val).lastPos = (s.axis a.val).pos
        ∧ (t.axis a.val).strong = false)
  ∧ (∀ a ia ib qs s p, Runs s → a.val < s.axs.axs.length → (s.axis a.val).set = some p → (s.axis a.val).drive = true →
      (s.axis a.val).state = .moving → (s.axis a.val).strong = false → ia.natAbs ≤ u16At p 8 → ib.natAbs ≤ u16At p 8 →
      (s.axis a.val).lowRun.1 < 63 → (s.axis a.val).lowRun.2 < 63 → aOption p 1 = false → aOption p 2 = false →
      u16At p 24 * 256 ≤ (s.axis a.val).vel.natAbs → boundaryMet (s.axis a.val).lastPos (s.axis a.val).pos = true →
      ∃ t, exec (.stepperPwmPeriod a (ia, ib) qs) s = .next t
        ∧ t = { s with free := t.free, io := t.io, axs := { s.axs with axs := t.axs.axs } }
        ∧ (t.axis a.val).strong = true ∧ (t.axis a.val).modeDue = false ∧ (t.axis a.val).stallValid = false
        ∧ (t.axis a.val).state = .moving)
  ∧ (∀ a ia ib qs s p, Runs s → a.val < s.axs.axs.length → (s.axis a.val).set = some p → (s.axis a.val).drive = true →
      (s.axis a.val).state ≠ .fault → u16At p 8 < ia.natAbs →
      ∃ t, exec (.stepperPwmPeriod a (ia, ib) qs) s = .next t ∧ AxisFaulted a.val 0x05 s t)
  ∧ (∀ a ia ib qs s, Runs s → (s.axis a.val).drive = false → exec (.stepperPwmPeriod a (ia, ib) qs) s = .next s)
  ∧ (∀ a s, Runs s → (s.axis a.val).state = .hold → exec (.holdCurrent a) s = .next { s with axs := { s.axs with
      axs := upd s.axs.axs a.val fun x => { x with running := false } } })
  ∧ (∀ a s, Runs s → 12 + a.val < s.axs.axs.length → (s.axis (12 + a.val)).state ≠ .off → (s.axis (12 + a.val)).state ≠ .fault →
      ∃ t, exec (.sdDriveFault a true) s = .next t ∧ AxisFaulted (12 + a.val) 0x0E s t ∧ (t.axis (12 + a.val)).gpioLow = true)
  ∧ (∀ a s, s.shs.lateDue = false → exec (.sdDriveFault a false) s = .next { s with axs := { s.axs with
      axs := upd s.axs.axs (12 + a.val) fun x => { x with gpioLow := false } } })

/-! ## Events of feedback, loops and heater zones (chapters 12 to 14) -/

/-- Counts, wires, the index, serial reads, speed windows and probes (R270 to R282). Readings of the model in these
clauses: assumptions 14 and 15. -/
def Obligations.FeedbackEvents : Prop :=
  (∀ n a b s q d, Runs s → n.val < s.fb.qe.length → q = s.qe n.val → q.wire.getD 0 false = false → q.wire.getD 1 false = false →
      (a ≠ q.a ∧ b = q.b) ∨ (a = q.a ∧ b ≠ q.b) →
      d = (if ((grayPlace a b + 4 - grayPlace q.a q.b) % 4 == 1) != bit (byteAt q.set 0) 0 then (1 : Int) else -1) →
      ∃ t, exec (.qeCount n a b) s = .next t ∧ t = { s with io := t.io, fb := t.fb }
        ∧ (t.qe n.val).a = a ∧ (t.qe n.val).b = b ∧ (t.qe n.val).ctr.pos = wrapPos (s.cpr n.val) (q.ctr.pos + d)
        ∧ (t.qe n.val).ctr.rev = q.ctr.rev + wraps (s.cpr n.val) (q.ctr.pos + d)
        ∧ (t.qe n.val).ctr.net = q.ctr.net + d ∧ (t.qe n.val).illegal = q.illegal ∧ (t.qe n.val).fault = q.fault
        ∧ ∀ k, k ≠ n.val → t.qe k = s.qe k)
  ∧ (∀ n a b s, Runs s → n.val < s.fb.qe.length → (s.qe n.val).wire.getD 0 false = false →
      (s.qe n.val).wire.getD 1 false = false → a ≠ (s.qe n.val).a → b ≠ (s.qe n.val).b →
      (s.qe n.val).raised.contains 1 = false →
      ∃ t, exec (.qeCount n a b) s = .next t ∧ Raised (fbClass (byteAt (s.qe n.val).set 1)) 152 n.val 1 s t
        ∧ (t.qe n.val).fault = firstFbCause (s.qe n.val).fault (s.qe n.val).faultAt s.io.time 1
        ∧ (t.qe n.val).raised = (s.qe n.val).raised ++ [1] ∧ (t.qe n.val).illegal = min ((s.qe n.val).illegal + 1) 65535
        ∧ (t.qe n.val).posBad = true ∧ (t.qe n.val).ctr = (s.qe n.val).ctr)
  ∧ (∀ n a b s, s.saf.internalReset = true → s.shs.lateDue = false → exec (.qeCount n a b) s
      = .next { s with fb := { s.fb with qe := upd s.fb.qe n.val fun q => { q with a := a, b := b } } })
  ∧ (∀ n p s, Runs s → n.val < s.fb.qe.length → p.val < (s.qe n.val).wire.length →
      (s.qe n.val).raised.contains 2 = false →
      ∃ t, exec (.wireDisagree n p) s = .next t ∧ Raised (fbClass (byteAt (s.qe n.val).set 1)) 152 n.val 2 s t
        ∧ (t.qe n.val).wire.getD p.val false = true ∧ (t.qe n.val).posBad = true
        ∧ (t.qe n.val).fault = firstFbCause (s.qe n.val).fault (s.qe n.val).faultAt s.io.time 2)
  ∧ (∀ n p s, Runs s → exec (.wireAgree n p) s = .next { s with fb := { s.fb with qe := upd s.fb.qe n.val fun q =>
        { q with wire := upd q.wire p.val fun _ => false } } })
  ∧ (∀ n s q, Runs s → n.val < s.fb.qe.length → q = s.qe n.val → bit (byteAt q.set 0) 1 = true → u32At q.set 8 ≠ 0 →
      q.wire.getD 2 false = false → b2n q.a + 2 * b2n q.b = byteAt q.set 3 →
      (q.indexed = false →
        ∃ t, exec (.indexEdge n) s = .next t ∧ t = { s with io := t.io, fb := t.fb }
          ∧ (t.qe n.val).ctr.pos = u32At q.set 12 ∧ (t.qe n.val).indexed = true ∧ (t.qe n.val).idxArmed = false)
      ∧ (q.indexed = true → q.idxArmed = true →
        (cmpDist (u32At q.set 8) (u32At q.set 12) q.ctr.pos).natAbs ≤ u32At q.set 16 →
        ((cmpDist (u32At q.set 8) (u32At q.set 12) q.ctr.pos).natAbs ≤ byteAt q.set 7 →
          ∃ t, exec (.indexEdge n) s = .next t ∧ t = { s with io := t.io, fb := t.fb }
            ∧ (t.qe n.val).ctr.pos = u32At q.set 12 ∧ (t.qe n.val).posBad = false ∧ (t.qe n.val).idxArmed = false)
        ∧ (byteAt q.set 7 < (cmpDist (u32At q.set 8) (u32At q.set 12) q.ctr.pos).natAbs → q.raised.contains 3 = false →
          ∃ t, exec (.indexEdge n) s = .next t ∧ Raised (fbClass (byteAt q.set 1)) 152 n.val 3 s t
            ∧ (t.qe n.val).ctr.pos = q.ctr.pos ∧ (t.qe n.val).fault = firstFbCause q.fault q.faultAt s.io.time 3))
      ∧ (q.indexed = true → q.idxArmed = false → exec (.indexEdge n) s = .next { s with fb := { s.fb with
          qe := upd s.fb.qe n.val fun q => { q with strayZ := min (q.strayZ + 1) 65535 } } }))
  ∧ (∀ n s e, Runs s → n.val < s.fb.se.length → e = s.se n.val → byteAt e.set 0 ≠ 0 → e.fallback = false → e.fault = 0 →
      e.failRun < byteAt e.set 9 →
      ∃ t, exec (.seRead n none) s = .next t ∧ t = { s with io := t.io, fb := t.fb } ∧ (t.se n.val).extrap = true
        ∧ (t.se n.val).timeoutErr = min (e.timeoutErr + 1) 65535 ∧ (t.se n.val).failRun = e.failRun + 1
        ∧ (t.se n.val).ctr.pos = if e.d = 0 then e.ctr.pos else wrapPos (u32At e.set 24) (e.ctr.pos + e.d))
  ∧ (∀ n s e, Runs s → n.val < s.fb.se.length → e = s.se n.val → byteAt e.set 0 ≠ 0 → e.fallback = false → e.fault = 0 →
      byteAt e.set 9 ≤ e.failRun → e.raised.contains 8 = false →
      ∃ t, exec (.seRead n none) s = .next t ∧ Raised (fbClass (byteAt e.set 2)) 153 (16 + n.val) 8 s t
        ∧ (t.se n.val).fault = 8 ∧ (t.se n.val).fallback = decide (byteAt e.set 12 < 8))
  ∧ (∀ n s e x w l d g, Runs s → n.val < s.fb.se.length → e = s.se n.val → byteAt e.set 0 ≠ 0 → e.fallback = false → e.fault = 0 →
      w = (if byteAt e.set 0 = 3 then grayToBin (byteAt e.set 1) (x.raw % 2 ^ byteAt e.set 1) else x.raw % 2 ^ byteAt e.set 1) →
      (byteAt e.set 0 = 1 → x.crc = 63 - crc6 (byteAt e.set 1) w x.nE x.nW ∧ x.nE = true) → e.last = some l →
      d = toSigned (byteAt e.set 1) ((w + 2 ^ byteAt e.set 1 - l) % 2 ^ byteAt e.set 1) → d.natAbs ≤ u32At e.set 20 →
      g = (if bit (byteAt e.set 3) 0 then -d else d) →
      ∃ t, exec (.seRead n (some x)) s = .next t ∧ t = { s with io := t.io, fb := t.fb } ∧ (t.se n.val).last = some w
        ∧ (t.se n.val).d = g ∧ (t.se n.val).valid = true ∧ (t.se n.val).failRun = 0 ∧ (t.se n.val).extrap = false
        ∧ (t.se n.val).goodPos = (t.se n.val).ctr.pos ∧ (t.se n.val).readAt = s.io.time
        ∧ (t.se n.val).ctr.pos = if g = 0 then e.ctr.pos else wrapPos (u32At e.set 24) (e.ctr.pos + g))
  ∧ (∀ u s, Runs s → ∃ t, exec (.speedWindowEnd u) s = .next t ∧ t = s.setCounter u.val fun c => { c with
        lastNet := c.net, speed := cdiv (c.net * 100000) (max 1 (s.spdWin u.val)), dirchg := c.reversed
        settling := (c.counted && !c.lastCounted) || c.settleNext, settleNext := c.counted && !c.lastCounted
        lastCounted := c.counted, dir := if c.counted then c.dir else 0, net := 0, counted := false, sign := 0
        reversed := false })
  ∧ (∀ k r a s x, Runs s → k.val < s.fb.prb.length → x = s.prb k.val → probeOwner k.val s = 0 → probeTakes k.val r s = true →
      (x.fifo.length < 8 →
        ∃ t, exec (.probeEdge k r true a) s = .next t ∧ t = { s with io := t.io, fb := t.fb }
          ∧ t.prb k.val = { x with
              lastPos := (probePos k.val a s).1, lastTime := a
              fifo := x.fifo ++ [{ time := a, pos := (probePos k.val a s).1, rising := r, interp := (probePos k.val a s).2 }] })
      ∧ (8 ≤ x.fifo.length →
        ∃ t, exec (.probeEdge k r true a) s = .next t ∧ t = { s with io := t.io, fb := t.fb } ∧ (t.prb k.val).fifo = x.fifo
          ∧ (t.prb k.val).overflow = min (x.overflow + 1) 65535)
      ∧ (byteAt x.set 1 ≠ 0 → exec (.probeEdge k r false a) s = .next { s with fb := { s.fb with
          prb := upd s.fb.prb k.val fun p => { p with glitch := min (p.glitch + 1) 65535 } } }))

/-- A tick of the engine, and the zones' firing, model, sensors, throttling and supervision (R288, R290, R293, R296,
R303 to R309, R311, R312). Readings of the model in these clauses: assumptions 16 and 20. -/
def Obligations.ControlEvents : Prop :=
  (∀ ain s n p rv l l1 x, Runs s → n < 64 → n < s.cle.lps.length → l = s.loop n → l.set = some p → loopDue n s = true →
      (∀ k < 64, (s.loop k).wait = []) → (∀ k < 64, k ≠ n → loopDue k s = false) → l.state.feeds = true → loopRaw l.rimSeen ain p s = some rv →
      lq p 84 ≤ rv → rv ≤ lq p 88 → l1 = (if l.fresh then loopBegin p (loopScale p rv).1 l else l) →
      x = (loopStep p (loopScale p rv).1 l1).1 →
      (x.fe < u16At p 64 →
        ∃ t, exec (.loopTick ain []) s = .next t
          ∧ t = { s with free := s.free + 1, io := t.io, cle := t.cle, reg := { s.reg with overcap := t.reg.overcap } }
          ∧ (t.loop n).r = x.r ∧ (t.loop n).y = x.y ∧ (t.loop n).u = x.u ∧ (t.loop n).i = x.i ∧ (t.loop n).m = x.m
          ∧ (t.loop n).dl = x.dl ∧ (t.loop n).fe = x.fe ∧ (t.loop n).bad = 0
          ∧ t.cle.tick = (s.cle.tick + 1) % 8192 ∧ t.cle.ovr = s.cle.ovr
          ∧ (t.loop n).drives = s.outputsOwned
          ∧ (lOutKind p ≠ 3 → ∀ k, k ≠ n → loopPhase k s = false → t.loop k = s.loop k)
          ∧ (lOutKind p = 3 → lOutSel p < s.cle.lps.length → (s.loop (lOutSel p)).state ≠ .off →
              (s.loop (lOutSel p)).state ≠ .fault → (t.loop (lOutSel p)).sp = x.u))
      ∧ (u16At p 64 ≤ x.fe →
        ∃ t, exec (.loopTick ain []) s = .next t ∧ Raised (fbClass (byteAt p 10)) 161 n 3 s t
          ∧ (t.loop n).state = .fault ∧ (t.loop n).fault = 3 ∧ (t.loop n).u = lSafe p ∧ (t.loop n).i = 0))
  ∧ (∀ ain s n, Runs s → n < 64 → n < s.cle.lps.length → loopDue n s = true → (∀ k < 64, k ≠ n → loopDue k s = false) →
      (∀ k < 64, (s.loop k).wait = []) → (s.loop n).skipRun = 0 →
      ∃ t, exec (.loopTick ain [n]) s = .next t
        ∧ t = { s with free := s.free + 1, cle := t.cle, reg := { s.reg with overcap := t.reg.overcap } }
        ∧ t.loop n = { s.loop n with faultNew := false, skipRun := 1, skips := min ((s.loop n).skips + 1) 65535
                                     flags := upd (s.loop n).flags 6 fun _ => true }
        ∧ t.cle.ovr = min (s.cle.ovr + 1) 4294967295 ∧ t.cle.tick = (s.cle.tick + 1) % 8192)
  ∧ (∀ ain s n p, Runs s → n < 64 → n < s.cle.lps.length → (s.loop n).set = some p → loopPhase n s = true →
      (∀ k < 64, k ≠ n → loopDue k s = false ∧ (s.loop k).wait = []) →
      ((s.loop n).wait = [.stop 1] → (s.loop n).state ≠ .off → (s.loop n).state ≠ .fault →
        ∃ t, exec (.loopTick ain []) s = .next t ∧ (t.loop n).state = .off ∧ (t.loop n).u = lSafe p ∧ (t.loop n).wait = [])
      ∧ ((s.loop n).wait = [.start] → (s.loop n).state = .off → s.saf.inhibit = false →
        ∃ t, exec (.loopTick ain []) s = .next t ∧ (t.loop n).state ≠ .off ∧ (t.loop n).wait = []))
  ∧ (∀ zc s, Runs s → ∃ t, exec (.zeroCross zc) s = .next t
      ∧ t = { s with thm := { s.thm with zones := t.thm.zones } }
      ∧ ∀ z < 8, z < s.thm.zones.length →
          let x := s.zone z
          let acc := x.acc + (clamp (powerRequest z s) 0 (min x.pLim (zRated x.pay))).toNat
          if x.enabled = true ∧ fld (byteAt x.pay 0) 1 1 = zc.val then
            (t.zone z).acc = (if zRated x.pay ≤ acc then acc - zRated x.pay else acc)
              ∧ (t.zone z).fire = (decide (zRated x.pay ≤ acc) && x.fault == 0 && !s.saf.inhibit && s.thm.latch.isNone)
              ∧ (t.zone z).fireWas = x.fire ∧ (t.zone z).crossAt = s.io.time
          else t.zone z = x)
  ∧ (∀ z load s x power ts m, Runs s → z.val < s.thm.zones.length → x = s.zone z.val → x.enabled = true →
      power = (if x.pCnt = 0 then x.p else x.pSum / x.pCnt) →
      ts = (if validTemps z.val s = [] then none else some (sensorMean (validTemps z.val s))) →
      m = modelTm x.pay x.tm power load ts →
      (atLeast32 m.2 (zThr x.pay 3) = false →
        ∃ t, exec (.modelStep z load) s = .next t ∧ t = { s with io := t.io, thm := t.thm, cle := t.cle }
          ∧ (t.zone z.val).tm = m.2 ∧ (t.zone z.val).tp = m.1 ∧ (t.zone z.val).p = power ∧ (t.zone z.val).pSum = 0
          ∧ (t.zone z.val).pCnt = 0 ∧ (t.zone z.val).shutRun = 0 ∧ (t.zone z.val).fault = x.fault
          ∧ t.thm.latch = s.thm.latch)
      ∧ (atLeast32 m.2 (zThr x.pay 3) = true → 1 ≤ x.shutRun → x.fault ≠ 7 → s.thm.latch = none →
        ∃ t, exec (.modelStep z load) s = .next t ∧ ZoneFaulted z.val 7 s t
          ∧ t.thm.latch = some { cause := 7, src := z.val, sensor := 0xFF, temp := roundHalfUp m.2 16, time := s.io.time }))
  ∧ (∀ j raw s p c x, Runs s → j.val < s.thm.ths.length → p = (s.th j.val).set → byteAt p 0 = 1 → (s.th j.val).status = 1 →
      (s.th j.val).shutRun = 0 → c = (if s.thm.curves.getD (byteAt p 5) [] = [] then freeVal .thermal 0 s
        else curveTemp (s.thm.curves.getD (byteAt p 5) []) raw.toNat) → x = s.zone (byteAt p 1) →
      (x.enabled = false → u16At p 8 ≤ raw.toNat → raw.toNat ≤ u16At p 10 →
        ∃ t, exec (.thermistorSample j raw) s = .next t ∧ t = { s with free := t.free, thm := { s.thm with ths := t.thm.ths } }
          ∧ (t.th j.val).temp = c - thOfs p ∧ (t.th j.val).status = 1 ∧ ∀ k, k ≠ j.val → t.th k = s.th k)
      ∧ (raw.toNat < u16At p 8 ∨ u16At p 10 < raw.toNat →
        ∃ t, exec (.thermistorSample j raw) s = .next t
          ∧ t = { s with free := t.free, io := t.io, thm := t.thm, led := { s.led with queue := t.led.queue } }
          ∧ (t.th j.val).temp = c - thOfs p ∧ (t.th j.val).status = 3
          ∧ ∃ r ∈ t.led.queue, r.kind = .protect ∧ r.time = s.io.time
            ∧ r.body = le 1 178 ++ le 1 j.val ++ le 1 3 ++ [0] ++ le 4 1 ++ le 4 3))
  ∧ (∀ z s, Runs s → z.val < s.thm.zones.length → (s.zone z.val).enabled = true → (s.zone z.val).fault = 0 →
      (∃ t, exec (.powerLost z) s = .next t ∧ ZoneFaulted z.val 1 s t)
      ∧ (∃ t, exec (.zcLost z) s = .next t ∧ ZoneFaulted z.val 2 s t)
      ∧ (∃ t, exec (.heaterOpen z) s = .next t ∧ ZoneFaulted z.val 3 s t)
      ∧ ((s.zone z.val).fire = false → zRated (s.zone z.val).pay < 16 * (s.zone z.val).p →
          ∃ t, exec (.relayStuck z) s = .next t ∧ ZoneFaulted z.val 4 s t)
      ∧ (∃ t, exec (.modelStall z) s = .next t ∧ ZoneFaulted z.val 8 s t ∧ ∀ y ∈ t.thm.zones, y.fire = false)
      ∧ (validOf z.val z.val s = [] → ∃ t, exec (.modelOnlyTimeout z) s = .next t ∧ ZoneFaulted z.val 5 s t))
  ∧ (∀ z s x step, Runs s → z.val < s.thm.zones.length → x = s.zone z.val → x.enabled = true →
      step = zMax x.pay * byteAt x.pay 11 / 100 →
      (anyTemp z.val (zThr x.pay 2) s = true →
        ∃ t, exec (.throttleDwell z) s = .next t
          ∧ t = { s with io := t.io, thm := t.thm, cle := t.cle, led := { s.led with queue := t.led.queue } }
          ∧ (t.zone z.val).pLim = x.pLim - step)
      ∧ (anyTemp z.val (zThr x.pay 2) s = false → anyTemp z.val ((zThr x.pay 2 : Int) - 10 * byteAt x.pay 21) s = true →
        exec (.throttleDwell z) s = .next s)
      ∧ (anyTemp z.val (zThr x.pay 2) s = false → anyTemp z.val ((zThr x.pay 2 : Int) - 10 * byteAt x.pay 21) s = false →
        ∃ t, exec (.throttleDwell z) s = .next t
          ∧ t = { s with io := t.io, thm := t.thm, cle := t.cle, led := { s.led with queue := t.led.queue } }
          ∧ (t.zone z.val).pLim = min (zMax x.pay) (x.pLim + step)))
  ∧ (∀ z s, Runs s → (s.zone z.val).fast = true → anyTemp z.val (fastLimit (s.zone z.val).pay 2) s = false →
      exec (.fastSamplingEnd z) s = .next { s with thm := { s.thm with
        zones := upd s.thm.zones z.val fun x => { x with fast := false } } })

/-- The die sensors, the permitted speed and DIE_HOT (R313 to R315); interlock inputs, supervisors and SRAM errors (R10,
R14, R379, R438, R442). Readings of the model in these clauses: assumptions 10 and 16. -/
def Obligations.DieAndSafetyEvents : Prop :=
  (∀ a b c d s l, Runs s → l = [a, b, c, d] →
      (∀ i < 4, (l.getD i 0 - (sortInt (l.eraseIdx i)).getD 1 0).natAbs ≤ 40) →
      ((∀ i < 4, l.getD i 0 < 500) →
        ∃ t, exec (.dieSensorRead a b c d) s = .next t ∧ t = { s with thm := { s.thm with
          die := l, dieRun := [0, 0, 0, 0], dieDev := t.thm.dieDev } })
      ∧ ∀ i < 4, (∀ k < 4, 500 ≤ l.getD k 0 ↔ k = i) → 1 ≤ s.thm.dieRun.getD i 0 → s.thm.latch = none →
        ∃ t x, exec (.dieSensorRead a b c d) s = .next t ∧ Raised .cutoff 180 i 0x12 s t ∧ t.thm.latch = some x
          ∧ x.cause = 0x12 ∧ x.src = i ∧ x.temp = l.getD i 0 * 16384 ∧ x.time = s.io.time)
  ∧ (∀ a b c d s l i, Runs s → l = [a, b, c, d] → i < 4 → (∀ k < 4, l.getD k 0 < 500) → s.thm.dieDev.getD i false = false →
      (∀ k < 4, 40 < (l.getD k 0 - (sortInt (l.eraseIdx k)).getD 1 0).natAbs ↔ k = i) →
      ∃ t, exec (.dieSensorRead a b c d) s = .next t ∧ Raised .note 180 i 0x10 s t
        ∧ (s.thm.dieFault = 0 → t.thm.dieFault = 0x10))
  ∧ (∀ s thr step, Runs s → thr = (byteAt s.thm.dieSet 0 : Int) → step = 16000 * byteAt s.thm.dieSet 1 →
      (thr * 4 ≤ tDie s → ∃ t, exec .dieThrottleStep s = .next t
        ∧ t = { s with io := t.io, thm := { s.thm with vPerm := t.thm.vPerm }, led := { s.led with queue := t.led.queue } }
        ∧ t.thm.vPerm = max 200000 (s.thm.vPerm - step))
      ∧ (tDie s < (thr - 5) * 4 → ∃ t, exec .dieThrottleStep s = .next t
        ∧ t = { s with io := t.io, thm := { s.thm with vPerm := t.thm.vPerm }, led := { s.led with queue := t.led.queue } }
        ∧ t.thm.vPerm = min 1600000 (s.thm.vPerm + step))
      ∧ ((thr - 5) * 4 ≤ tDie s → tDie s < thr * 4 → exec .dieThrottleStep s = .next s))
  ∧ (∀ s, Runs s →
      (440 < tDie s → ∃ t, exec .dieHot s = .next t ∧ Raised .halt 180 0 0x11 s t
        ∧ (s.thm.dieFault = 0 → t.thm.dieFault = 0x11))
      ∧ (tDie s ≤ 440 → exec .dieHot s = .next s))
  ∧ (∀ i s, s.shs.lateDue = false → i.val < s.saf.ilk.length →
      ∃ t, exec (.interlockInput i) s = .next t ∧ t.saf.inhibit = true
        ∧ (t.saf.ilk.getD i.val {}).active = true ∧ (t.saf.ilk.getD i.val {}).latch = true
        ∧ t.saf.trips = (if (s.saf.ilk.getD i.val {}).latch then s.saf.trips else min (s.saf.trips + 1) 65535)
        ∧ (s.saf.ctrl.serving = true → s.saf.internalReset = false → Raised .stop 236 0 (i.val + 1) s t)
        ∧ (s.saf.ctrl.serving = false → t.saf.ctrl = s.saf.ctrl))
  ∧ (∀ i s, s.shs.lateDue = false → (s.saf.ilk.getD i.val {}).active = true →
      ∃ t, exec (.interlockInputRelease i) s = .next t ∧ t = { s with io := t.io, saf := { s.saf with
        ilk := upd s.saf.ilk i.val fun x => { x with active := false, highSince := s.pwr.aonNs } } })
  ∧ (∀ p s, Runs s → ∃ t, exec (.lockstep p false) s = .next t ∧ Raised .halt 236 p.val 8 s t)
  ∧ (∀ p s, Runs s → ∃ t, exec (.lockstep p true) s = .next t ∧ Raised .halt 236 p.val 9 s t)
  ∧ (∀ r s, Runs s →
      (∀ i k, r = .lineStore i k → exec (.sramUe r) s = .next ((countUe 8 s).setStn i.val fun x => { x with
        lsEcc := min (x.lsEcc + 1) 65535
        lsAbsent := if x.slots.any fun y => y.num == k && !y.absent then min (x.lsAbsent + 1) 65535 else x.lsAbsent
        slots := x.slots.map fun y => if y.num = k then { y with absent := true } else y }))
      ∧ (∀ i, r = .screenStore i ∨ r = .corrTables i → i.val < s.img.stations.length →
        ∃ t, exec (.sramUe r) s = .next t ∧ Raised .halt 236 i.val 0x15 s t ∧ (t.stn i.val).outOfService = true)
      ∧ ((∀ i k, r ≠ .lineStore i k) → (∀ i, r ≠ .screenStore i ∧ r ≠ .corrTables i) →
        ∃ t, exec (.sramUe r) s = .next t ∧ Raised .halt 236 (regionOf r) 9 s t
          ∧ (regionOf r < s.bg.ecc.length →
            (t.bg.ecc.getD (regionOf r) {}).ue = min ((s.bg.ecc.getD (regionOf r) {}).ue + 1) 65535)))

/-! ## Events of the Rim ring (chapter 15) -/

/-- Cycle frames and their merge, breaks, enumeration, the Blanket's windows, the mailbox messages and the port locks
(R317, R320, R324, R327 to R329, R332, R336, R337, R339, R342). Readings of the model in these clauses: assumption 17.
-/
def Obligations.RimEvents : Prop :=
  (∀ s c, Runs s → s.rim.state ≠ .down → s.rim.state ≠ .enum → c = (s.rim.cycle + 1) % 2 ^ 32 →
      (s.outputsOwned = true → ∃ t f, exec .fastCycleStart s = .next t
        ∧ t = { s with free := s.free + 1, rim := t.rim, reg := { s.reg with overcap := t.reg.overcap } }
        ∧ t.rim.cycle = c ∧ t.rim.flying = s.rim.flying ++ [f] ∧ f.cycle = c ∧ f.grants.length ≤ 8
        ∧ ((∀ n ∈ s.rim.nodes, n.work = false) → f.grants = [])
        ∧ f.slots = frameSlots c f.grants { s with rim := { s.rim with nodes := t.rim.nodes } }
        ∧ f.swapped = s.rim.swapped ∧ f.starts = copyStarts s)
      ∧ (s.outputsOwned = false → exec .fastCycleStart s = .next { s with rim := { s.rim with
          cycle := c, flying := s.rim.flying ++ [{ cycle := c, grants := [] }] } }))
  ∧ (∀ a b s f fs n x, Runs s → s.rim.state = .run → s.rim.flying = f :: fs → f.grants = [] → s.rim.nodes = [n] →
      s.rim.broken = false → (∃ c, a = some c ∧ c.wrapped = false) → alertOf a b 0 = some n.alert → n.roleOk = true →
      n.timeSent = true → n.state = .operational → n.fast < 128 → f.cycle % 20 ≠ n.addr / 52 →
      (mergeSlot f.cycle .fast n.fast a b).1 = some x →
      ∃ t, exec (.rimMerge a b) s = .next t ∧ t = { s with rim := t.rim, thm := t.thm } ∧ t.rim.flying = fs
        ∧ t.rim.nodes = [{ n with
            safe := bit (byteAt x.trailer 0) 1, mbxPend := bit (byteAt x.trailer 0) 2, timeOk := bit (byteAt x.trailer 0) 3
            delta := i16At x.trailer 2, invalidRun := 0, inFast := fit 16 x.data, refresh := n.refresh + 1 }])
  ∧ (∀ a b s f fs ra rb, Runs s → s.rim.state = .run → s.rim.flying = f :: fs → f.grants = [] →
      (∀ p n, s.rim.nodes[p]? = some n → 128 ≤ n.fast ∧ f.cycle % 20 ≠ n.addr / 52 ∧ alertOf a b p = some n.alert) →
      (∀ c, a = some c → c.wrapped = true) → (∀ c, b = some c → c.wrapped = true) →
      reach s.rim.nodes.length a b = some (ra, rb) →
      (ra + rb = s.rim.nodes.length → evenHops a = true → evenHops b = true → s.rim.broken = false →
        ∃ t, exec (.rimMerge a b) s = .next t ∧ Raised .note 192 0 1 s t ∧ t.rim.broken = true ∧ t.rim.servedA = ra
          ∧ t.rim.breaks = min (s.rim.breaks + 1) 65535)
      ∧ (ra + rb ≠ s.rim.nodes.length →
        ∃ t, exec (.rimMerge a b) s = .next t ∧ t.rim.state = .fault
          ∧ ∀ p, ra ≤ p → p < s.rim.nodes.length - rb → ∃ n, t.rim.nodes[p]? = some n ∧ n.state = .lost))
  ∧ (∀ (c : Fin 16) drained s w, Runs s → c.val < s.rim.undrained.length → s.rim.windows.getD c.val none = some w →
      ((drained = true ∨ s.rim.undrained.getD c.val none = none) →
        ∃ t, exec (.blanketWindowClose c drained) s = .next t ∧ t = { s with io := t.io, rim := { s.rim with
          windows := upd s.rim.windows c.val fun _ => none, events := min (s.rim.events + 1) 65535
          undrained := upd s.rim.undrained c.val fun _ => some { count := min w.count 65535, lo := w.lo, hi := w.hi
                                                                 root := blanketRoot (c.val + 1) w.lo w.hi s } } })
      ∧ ∀ e, drained = false → s.rim.undrained.getD c.val none = some e → w.count + e.count < 65536 →
        exec (.blanketWindowClose c drained) s = .next { s with rim := { s.rim with
          windows := upd s.rim.windows c.val fun _ => none, merged := min (s.rim.merged + 1) 65535
          undrained := upd s.rim.undrained c.val fun _ => some {
            count := e.count + w.count, lo := min e.lo w.lo, hi := max e.hi w.hi
            root := blanketRoot (c.val + 1) (min e.lo w.lo) (max e.hi w.hi) s } } })
  ∧ (∀ s k, Runs s → k = { s.rim with
        state := .enum, broken := false, fault := 0, nodes := [], servedA := 0, enumLast := none, enumFrames := 0
        flying := [], topo := (match s.rim.config with | some c => some c | none => s.rim.topo), config := none } →
      (s.rim.state = .down →
        (∃ t, exec .rimDownTimeout s = .next t ∧ t = { s with io := t.io, rim := k })
        ∧ (s.rim.lockB = true → ∃ t, exec (.rimPortLock false true) s = .next t
            ∧ t = { s with io := t.io, rim := { k with lockA := true } })
        ∧ (s.rim.lockA = true → ∃ t, exec (.rimPortLock true true) s = .next t
            ∧ t = { s with io := t.io, rim := { k with lockB := true } }))
      ∧ (s.rim.state ≠ .down → ∀ l, exec .rimDownTimeout s = .next s
          ∧ exec (.rimPortLock false l) s = .next { s with rim := { s.rim with lockA := l } }
          ∧ exec (.rimPortLock true l) s = .next { s with rim := { s.rim with lockB := l } }))
  ∧ (∀ e s, Runs s → s.rim.state = .enum → s.rim.enumFrames < 16 →
      ((∀ x, s.rim.enumLast = some x → x.nodes ≠ e.nodes ∨ x.idents ≠ e.idents) →
        exec (.enumFrame e) s = .next { s with rim := { s.rim with
          enumLast := some e, enumFrames := s.rim.enumFrames + 1 } })
      ∧ (∀ x, s.rim.enumLast = some x → x.nodes = e.nodes → x.idents = e.idents →
        (e.loopNs ≤ 41500 → enumMismatch s e = false → e.nodes ≠ 0 →
          ∃ t, exec (.enumFrame e) s = .next t ∧ t = { s with io := t.io, rim := t.rim } ∧ t.rim.state = .config
            ∧ t.rim.loopNs = e.loopNs ∧ t.rim.nodes.length = e.nodes
            ∧ ∀ p < e.nodes, ∃ n m, n = enumNode s p (fit 24 (e.idents.getD p []))
              ∧ t.rim.nodes[p]? = some { n with msgs := [m] } ∧ m.why = .roleSet
              ∧ m.bytes = msgHead 0x83 0 4 0 ++ le 2 n.addr ++ le 1 n.fast ++ le 1 (wdogN s))
        ∧ (41500 < e.loopNs → ∃ t, exec (.enumFrame e) s = .next t ∧ Raised .halt 192 0 5 s t ∧ t.rim.state = .fault)
        ∧ (e.loopNs ≤ 41500 → enumMismatch s e = true →
            ∃ t, exec (.enumFrame e) s = .next t ∧ Raised .halt 192 0 4 s t ∧ t.rim.state = .fault)))
  ∧ (∀ s, Runs s → s.rim.state = .enum →
      exec .enumRetry s = .next { s with rim := { s.rim with enumLast := none, enumFrames := 0 } })
  ∧ (∀ addr s p n tag bytes rest, Runs s → nodePos addr.toNat s = some p → s.rim.nodes[p]? = some n →
      n.inbox = (tag, bytes) :: rest →
      (byteAt bytes 0 = 0x40 → ∃ t, exec (.mailboxMessageRx addr) s = .next t
        ∧ t = { s.setNode p fun n => { n with inbox := rest } with io := t.io })
      ∧ (byteAt bytes 0 = 0x41 → exec (.mailboxMessageRx addr) s = .next
        ((s.setNode p fun n => { n with inbox := rest }).record {
          kind := .node, time := s.io.time, origin := 9, detail := addr.toNat, subject := 0
          body := le 2 addr.toNat ++ zeros 2 ++ sub bytes 4 4 ++ sub bytes 8 16, draw := .ordinary
          act := .node addr.toNat tag }))
      ∧ ∀ m ms, n.msgs = m :: ms → m.tag = tag → m.why = .roleSet → byteAt bytes 0 = byteAt m.bytes 0 →
        byteAt bytes 0 ≠ 0x40 → byteAt bytes 0 ≠ 0x41 → byteAt bytes 1 = 0 →
        exec (.mailboxMessageRx addr) s = .next (s.setNode p fun n => { n with inbox := rest, msgs := ms, roleOk := true }))
  ∧ (∀ addr s p n m ms, Runs s → nodePos addr.toNat s = some p → s.rim.nodes[p]? = some n → n.msgs = m :: ms →
      m.why ≠ .answer → m.frags ≤ m.next →
      (m.retried = false → exec (.mbxTimeout addr) s = .next { s with rim := { s.rim with
          nextTag := (s.rim.nextTag + 1) % 256
          nodes := upd s.rim.nodes p fun n => { n with
            msgs := { m with tag := s.rim.nextTag, next := 0, acked := 0, retried := true } :: ms } } })
      ∧ (m.retried = true → ∃ t x, exec (.mbxTimeout addr) s = .next t ∧ Raised .note 192 0 6 s t
          ∧ t.rim.nodes[p]? = some x ∧ x.msgs = ms))

/-! ## Events of boot, clocks and power (chapters 19 to 21) -/

/-- The boot ROM's selection, Renune's start, EXTEST and VAON (R311, R390 to R392, R394, R397, R402, R433, R445, R479; a
start whose package sets nothing but its settings keeps what is stated). Readings of the model in these clauses:
assumptions 3, 9 and 24. -/
def Obligations.BootEvents : Prop :=
  (∀ s, s.shs.lateDue = false → chipOn s = true → s.clk.rpll = .locked → s.saf.nmrstLow = false → s.saf.ctrl = .boot →
      s.saf.internalReset = true → s.boot.bootFail = false → s.boot.recs.length = 2 →
      ∃ t, exec .trustCoreBoot s = .next t ∧ BootSelects s t)
  ∧ (∀ s, s.shs.lateDue = false → chipOn s = true → s.saf.nmrstLow = false → s.boot.bootFail = true →
      s.boot.recs.length = 2 → ∃ t, exec .bootFailRetry s = .next t ∧ BootSelects s t)
  ∧ (∀ ok s, Runs s → s.boot.released = true → s.saf.ctrl = .boot → (s.bootRec 1).booted = 0 → s.boot.berrilOk = false →
      (∀ r ∈ s.boot.recs, r.trialFailed = false) → (∀ i < 4, (s.saf.ilk.getD i {}).latch = false) →
      s.boot.life ≠ .blank →
      ∃ t, exec (.renuneStart ok) s = .next t ∧ t.saf.ctrl = (if s.thm.latch.isSome then .latched else .halted)
        ∧ t.led.boot = (s.led.boot + 1) % 2 ^ 32 ∧ t.boot.started = s.io.time ∧ t.saf.inhTestFail = !ok
        ∧ (∃ r ∈ t.led.queue, r.kind = .boot ∧ r.time = s.io.time
          ∧ r.body.take 5 = le 4 ((s.led.boot + 1) % 2 ^ 32) ++ le 1 s.pwr.resetSrc)
        ∧ (s.saf.faults = [] → ∃ r ∈ t.led.queue, r.kind = .protect ∧ r.time = s.io.time
          ∧ r.body.take 4 = le 1 236 ++ le 1 0 ++ le 1 0x41 ++ le 1 3))
  ∧ (∀ s k u, Runs s → s.boot.released = true → s.saf.ctrl = .boot →
      k = ({ s with
        led := { s.led with boot := (s.led.boot + 1) % 2 ^ 32 }, boot := { s.boot with started := s.io.time } } : State) →
      u = layLedger (startBerril { k with
        led := { k.led with queue := bootRecords k ++ k.led.bootCaptures ++ k.led.queue, bootCaptures := [] }
        saf := { k.saf with firstFault := 0, inhTestFail := false } }) →
      u.boot.berrilOk = true → (∀ r ∈ u.boot.recs, r.trialFailed = false) → (∀ i < 4, (u.saf.ilk.getD i {}).latch = false) →
      u.thm.latch = none → u.pwr.seq = .chipOn → u.shs.lateDue = false → u.shs.jobs = [] →
      ∃ t, exec (.renuneStart true) s = .next t ∧ t.saf.ctrl = .idle ∧ t.saf.faults = u.saf.faults
        ∧ t.led = u.led ∧ t.boot = u.boot)
  ∧ (∀ s, s.shs.lateDue = false → s.boot.released = true → s.saf.ctrl = .boot →
      (∃ r ∈ s.boot.recs, r.booted ≠ 0 ∧ r.booted = r.trial) →
      ∃ t, exec .trialBootTimeout s = .next t ∧ IsReset 4 s t)
  ∧ (∀ s, s.shs.lateDue = false →
      (debugIsOpen s = true → ∃ t, exec (.extestSelect true) s = .next t ∧ t.saf.extest = true ∧ t.saf.inhibit = true
        ∧ t.saf.ctrl = classState .stop s.saf.ctrl)
      ∧ (debugIsOpen s = false → exec (.extestSelect true) s = .next s)
      ∧ exec (.extestSelect false) s = .next { s with saf := { s.saf with extest := false } })
  ∧ (∀ s, ∃ t, exec .vaonArrival s = .next t ∧ t.thm = {} ∧ t.pwr.resetSrc = 1 ∧ t.clk.ircRunning = false
      ∧ t.saf.internalReset = true ∧ t.boot.flash = s.boot.flash ∧ t.boot.life = s.boot.life ∧ t.led.head = s.led.head
      ∧ t.led.journal = s.led.journal ∧ (∀ x ∈ t.saf.ilk, x.latch = x.active)
      ∧ (s.pwr.autoOn = true → PowerStarts t) ∧ (s.pwr.autoOn = false → t.pwr.seq = .off ∧ t.saf.ctrl = .off))
  ∧ (∀ s, ∃ t, exec .vaonLoss s = .next t ∧ t.thm = {} ∧ t.pwr.seq = .off ∧ t.saf.ctrl = .off
      ∧ (∀ n, (t.rail n).en = false) ∧ t.boot.flash = s.boot.flash ∧ t.led.head = s.led.head)
  ∧ (∀ s, s.shs.lateDue = false → exec .enRelease s = .next { s with pwr := { s.pwr with
      rails := s.pwr.rails.map fun r => { r with driven := true } } })

/-- The oscillators, the root PLL and the domain switches (R402 to R406, R408, R410 to R413). Where a switch of CLK_CTL
moves TIME64, the raise carries the time after it. Readings of the model in these clauses: assumptions 1 and 25. -/
def Obligations.ClockEvents : Prop :=
  (∀ s, s.shs.lateDue = false → s.clk.ircRunning = false → s.saf.ctrl ≠ .clockHold →
      (s.clk.aonRef = false → exec .ircStartComplete s = .next { s with clk := { s.clk with ircRunning := true } })
      ∧ (s.clk.aonRef = true → ∃ t, exec .ircStartComplete s = .next t ∧ t = { s with io := t.io, clk := t.clk }
        ∧ t.clk.ircRunning = true ∧ t.clk.aonRef = false ∧ t.clk.lastDomain = 7))
  ∧ (∀ s, s.shs.lateDue = false →
      (s.clk.proven = false → s.saf.ctrl ≠ .clockHold → exec .ircStall s = .next { s with clk := { s.clk with
        ircRunning := false, ircRestarts := min (s.clk.ircRestarts + 1) 65535, goodWindows := 0 } })
      ∧ (s.clk.proven = true → s.saf.ctrl ≠ .clockHold →
        ∃ t, exec .ircStall s = .next t ∧ Raised .note 236 0 0x48 s t ∧ t.clk.ircRunning = false ∧ t.clk.aonRef = true)
      ∧ (s.saf.ctrl = .clockHold → exec .ircStall s = .next { s with clk := { s.clk with
        ircRunning := false, ircRestarts := min (s.clk.ircRestarts + 1) 65535, goodWindows := 0
        holdRetries := min (s.clk.holdRetries + 1) 255 } }))
  ∧ (∀ s, s.shs.lateDue = false → s.clk.xtalOn = true →
      (∃ t, exec (.xokChange true) s = .next t
        ∧ t = { s with io := t.io, free := t.free, clk := { s.clk with xok := true, xokRisen := true } })
      ∧ (s.clk.xokRisen = true → s.clk.ircRunning = false → s.saf.ctrl ≠ .clockHold →
        ∃ t, exec (.xokChange false) s = .next t ∧ t.saf.ctrl = .clockHold ∧ t.saf.internalReset = true
          ∧ t.pwr.causeHold = true ∧ t.pwr.resetSrc = 6 ∧ t.pwr.rails = s.pwr.rails ∧ t.clk.xok = false)
      ∧ (s.clk.ircRunning = true → s.clk.proven = true →
        ∃ t, exec (.xokChange false) s = .next t
          ∧ Raised .stop 236 0 0x49 { s with io := { s.io with time := t.io.time } } t
          ∧ t.clk.refIrc = true ∧ t.clk.proven = false ∧ t.clk.xtalLost = min (s.clk.xtalLost + 1) 65535)
      ∧ (s.clk.proven = false → s.clk.ircRunning = true →
        ∃ t, exec (.xokChange false) s = .next t ∧ t = { s with io := t.io, free := t.free, clk := { s.clk with
          xok := false, startCounted := false, goodWindows := 0 } }))
  ∧ (∀ s, s.shs.lateDue = false → s.clk.xtalOn = true → s.clk.xok = true →
      exec .xtalMonitorArm s = .next { s with clk := { s.clk with startCounted := true } })
  ∧ (∀ n s, s.shs.lateDue = false → s.clk.xtalOn = true → s.clk.startCounted = true → s.clk.ircRunning = true →
      (s.clk.proven = false → n < 248 ∨ 264 < n →
        exec (.xtalWindow n) s = .next { s with clk := { s.clk with goodWindows := 0 } })
      ∧ (s.clk.proven = false → 248 ≤ n → n ≤ 264 → s.clk.goodWindows < 3 →
        exec (.xtalWindow n) s = .next { s with clk := { s.clk with goodWindows := s.clk.goodWindows + 1 } })
      ∧ (s.clk.proven = false → 248 ≤ n → n ≤ 264 → 3 ≤ s.clk.goodWindows → s.saf.ctrl ≠ .clockHold →
        ∃ t, exec (.xtalWindow n) s = .next t ∧ t.clk.proven = true ∧ t.clk.refIrc = false
          ∧ (s.pwr.seq = .xtalStart → (s.rail 3).qualified = false → t.pwr.seq = .chipUp)
          ∧ (s.pwr.seq ≠ .xtalStart → t = { s with io := t.io, free := t.free, clk := t.clk }))
      ∧ (s.clk.proven = true → n < 248 ∨ 264 < n →
        ∃ t, exec (.xtalWindow n) s = .next t
          ∧ Raised .stop 236 0 0x49 { s with io := { s.io with time := t.io.time } } t
          ∧ t.clk.refIrc = true ∧ t.clk.proven = false))
  ∧ (∀ s, s.shs.lateDue = false → s.clk.xtalOn = true → s.clk.proven = false →
      (s.clk.failedStarts < 2 →
        ∃ t, exec .xtalStartTimeout s = .next t ∧ t = { s with io := t.io, free := t.free, clk := { s.clk with
          xtalOn := false, xok := false, xokRisen := false, startCounted := false, goodWindows := 0
          failedStarts := s.clk.failedStarts + 1, xtalPause := true } })
      ∧ (2 ≤ s.clk.failedStarts →
        (s.pwr.seq = .xtalStart ∨ s.saf.ctrl = .clockHold →
          ∃ t, exec .xtalStartTimeout s = .next t ∧ t.pwr.seq = .off ∧ t.saf.ctrl = .off ∧ t.clk.xtalOn = false)
        ∧ (s.pwr.seq ≠ .xtalStart → s.saf.ctrl ≠ .clockHold →
          ∃ t, exec .xtalStartTimeout s = .next t ∧ Raised .stop 236 0 0x4A s t ∧ t.clk.xtalOn = false)))
  ∧ (∀ s, s.shs.lateDue = false → s.clk.xtalPause = true →
      ∃ t, exec .xtalRestart s = .next t ∧ t = { s with io := t.io, free := t.free, clk := { s.clk with
        xtalOn := true, xtalPause := false, xtalMode := s.clk.xtalModeSet } })
  ∧ (∀ l s, s.shs.lateDue = false → rpllMay s = true →
      (∀ b, bandSearch (fun b => l.getD b 0) = some b →
        (∃ t, exec (.rpllLock l) s = .next t ∧ t.clk.rpll = .locked ∧ t.clk.band = b ∧ t.clk.vco = l.getD b 0 % 2048
          ∧ t.clk.bypassed = 0 ∧ t.clk.relockFails = 0)
        ∧ (s.clk.rpll = .bypass → exec (.rpllRelockAttempt l true) s = exec (.rpllLock l) s)
        ∧ (s.clk.rpll = .bypass → s.clk.relockFails < 7 →
          exec (.rpllRelockAttempt l false) s = .next { s with clk := { s.clk with relockFails := s.clk.relockFails + 1 } }))
      ∧ (bandSearch (fun b => l.getD b 0) = none →
        (s.clk.relockFails < 7 →
          exec (.rpllLock l) s = .next { s with clk := { s.clk with relockFails := s.clk.relockFails + 1 } })
        ∧ (7 ≤ s.clk.relockFails →
          ∃ t, exec (.rpllLock l) s = .next t ∧ Raised .stop 236 0 0x4C s t ∧ t.clk.rpll = .failed)))
  ∧ (∀ s, s.shs.lateDue = false → s.clk.rpll = .locked →
      ∃ t, exec .rpllLoss s = .next t ∧ Raised .stop 236 0 0x4B { s with io := { s.io with time := t.io.time } } t
        ∧ t.clk.rpll = .bypass ∧ t.clk.bypassed = 0x3F ∧ t.clk.unlocks = min (s.clk.unlocks + 1) 65535)
  ∧ (∀ d s, s.shs.lateDue = false → chipOn s = true ∨ 6 ≤ d.val →
      ∃ t, exec (.switchAckTimeout d) s = .next t ∧ Raised .stop 236 d.val 0x4D s t ∧ t.clk.oldclkDead = true
        ∧ t.clk.lastDomain = d.val ∧ t.clk.lastLost = 0xFF ∧ t.pwr.resetDue = some 4)
  ∧ (∀ s, s.shs.lateDue = false → (s.pwr.resetDue = some 4 → ∃ t, exec .oldclkResetTimeout s = .next t ∧ IsReset 4 s t)
      ∧ (s.pwr.resetDue ≠ some 4 → exec .oldclkResetTimeout s = .next s))

/-- Requests for power on and off (R408, R426 to R429). Readings of the model in these clauses: assumption 24. -/
def Obligations.PowerRequestEvents : Prop :=
  (∀ s, s.shs.lateDue = false → s.pwr.forceHeld = false → s.pwr.seq = .off →
      (s.pwr.minOffRuns = false →
        (∀ x, ∃ t, exec (.onRequest x) s = .next t ∧ PowerStarts t)
        ∧ (s.pwr.nwakeLow = false → ∃ t, exec (.nwakeEdge true) s = .next t ∧ PowerStarts t ∧ t.pwr.nwakeLow = true)
        ∧ ∃ t, exec .npbtnPress s = .next t ∧ PowerStarts t ∧ t.pwr.button = true ∧ t.pwr.pressInOff = true)
      ∧ (s.pwr.minOffRuns = true → s.pwr.latched = none → ∀ x, ∃ t, exec (.onRequest x) s = .next t
          ∧ t = { s with io := t.io, pwr := { s.pwr with latched := some (onSource x.val) } }))
  ∧ (∀ s, s.shs.lateDue = false → exec (.nwakeEdge false) s = .next { s with pwr := { s.pwr with nwakeLow := false } })
  ∧ (∀ x s, s.shs.lateDue = false → s.pwr.forceHeld = true → exec (.onRequest x) s = .next s)
  ∧ (∀ s, s.shs.lateDue = false → s.pwr.seq ≠ .off →
      exec .npbtnPress s = .next { s with pwr := { s.pwr with button := true, pressInOff := false } })
  ∧ (∀ s, s.shs.lateDue = false → s.pwr.button = false ∨ s.pwr.pressInOff = true ∨ s.pwr.forceHeld = true →
      exec .npbtnRelease s = .next { s with pwr := { s.pwr with
        button := false, pressInOff := false, forceHeld := s.pwr.forceHeld && s.pwr.minOffRuns } })
  ∧ (∀ s, s.shs.lateDue = false → s.pwr.button = true → s.pwr.pressInOff = false → s.pwr.forceHeld = false →
      s.pwr.seq = .chipOn ∨ s.pwr.seq = .engineOn → s.pwr.grace = false →
      ∃ t, exec .npbtnRelease s = .next t ∧ t.pwr.button = false ∧ t.pwr.grace = true
        ∧ t.saf.ctrl = if s.saf.ctrl = .run then .drain else s.saf.ctrl)
  ∧ (∀ x s, s.shs.lateDue = false →
      (s.pwr.seq = .xtalStart → ∃ t, exec (.offRequest x) s = .next t ∧ t.pwr.seq = .off ∧ t.saf.ctrl = .off
        ∧ t.clk.xtalOn = false ∧ t.pwr.minOffRuns = true)
      ∧ (s.pwr.seq = .chipOn ∨ s.pwr.seq = .engineOn → s.pwr.grace = false →
        (s.saf.ctrl ≠ .run → ∃ t, exec (.offRequest x) s = .next t
          ∧ t = { s with io := t.io, pwr := { s.pwr with grace := true, latched := t.pwr.latched } })
        ∧ (s.saf.ctrl = .run → ∃ t, exec (.offRequest x) s = .next t ∧ t.pwr.grace = true ∧ t.saf.ctrl = .drain
          ∧ ∃ r ∈ t.led.queue, r.kind = .command ∧ r.subject = 0x0588 ∧ r.origin = 3 ∧ r.time = s.io.time)))
  ∧ (∀ s, s.shs.lateDue = false → s.pwr.button = true → s.pwr.forceHeld = false →
      ∃ t, exec .longPress s = .next t ∧ Raised .cutoff 236 0 0x53 s t ∧ t.pwr.causeForce = true ∧ t.pwr.forceHeld = true
        ∧ t.pwr.seq = .off ∧ ∀ n, (t.rail n).en = false)
  ∧ (∀ s, s.shs.lateDue = false → (s.saf.ctrl = .clockHold →
      ∃ t, exec .npbtnLow s = .next t ∧ Raised .cutoff 236 0 0x53 s t ∧ t.pwr.causeForce = true ∧ ∀ n, (t.rail n).en = false)
      ∧ (s.saf.ctrl ≠ .clockHold → exec .npbtnLow s = .next s))
  ∧ (∀ s n m l, s.shs.lateDue = false → s.pwr.grace = true →
      downRails { s with pwr := { s.pwr with downFor := .off } } = n :: m :: l →
      (noneRunning s = true → ∃ t, exec .drainPowerDown s = .next t ∧ RailDrops n s t ∧ t.pwr.grace = false)
      ∧ ∃ t, exec .offGraceExpiry s = .next t ∧ RailDrops n s t ∧ t.pwr.grace = false ∧ Raised .stop 236 0 0x52 s t)
  ∧ (∀ s, s.shs.lateDue = false → s.pwr.minOffRuns = true → s.pwr.seq = .off → s.pwr.latched = none →
      exec .minOffEnd s = .next { s with pwr := { s.pwr with
        minOffRuns := false, forceHeld := s.pwr.forceHeld && s.pwr.button } })
  ∧ (∀ s x, s.shs.lateDue = false → s.pwr.minOffRuns = true → s.pwr.seq = .off → s.pwr.latched = some x →
      (x = .nwake → s.pwr.nwakeLow = true) → s.pwr.button = false →
      ∃ t, exec .minOffEnd s = .next t ∧ PowerStarts t ∧ t.pwr.latched = none)
  ∧ (∀ s, s.shs.lateDue = false → s.pwr.minOffRuns = true → s.pwr.seq = .chipUp → s.saf.powerDown = false →
      (s.rail 3).qualified = false →
      ∃ t, exec .minOffEnd s = .next t ∧ t.pwr.seq = .chipUp ∧ t.pwr.attempt = s.pwr.attempt + 1
        ∧ t.pwr.retryCnt = min (s.pwr.retryCnt + 1) 65535 ∧ t.pwr.minOffRuns = false)

/-- Rails, power-down steps and nMRST (R420 to R425, R430, R432 to R434). Readings of the model in these clauses:
assumption 24. -/
def Obligations.RailEvents : Prop :=
  (∀ n s, s.shs.lateDue = false → phaseUp s = true → nextRail s = some n.val → (s.rail n.val).en = false →
      n.val < s.pwr.rails.length →
      ∃ t, exec (.railEnable n) s = .next t ∧ t = { s with io := t.io, pwr := { s.pwr with rails := t.pwr.rails } }
        ∧ t.rail n.val = { s.rail n.val with
            used := { (s.rail n.val).stored with order := (s.rail n.val).used.order }, en := true, pg := false, qualified := false }
        ∧ ∀ k, k ≠ n.val → t.rail k = s.rail k)
  ∧ (∀ n s, s.shs.lateDue = false → n.val < s.pwr.rails.length → (s.rail n.val).en = true →
      (s.rail n.val).used.pgUsed = true → s.pwr.seq ≠ .off →
      exec (.pgChange n true) s = .next { s with pwr := { s.pwr with
          rails := upd s.pwr.rails n.val fun r => { r with pg := true } } }
      ∧ (s.saf.ctrl = .clockHold ∨ (n.val < 7 ∧ chipOn s = true) ∨ (7 ≤ n.val ∧ s.pwr.seq = .engineOn) →
        ∃ t, exec (.pgChange n false) s = .next t ∧ Raised .cutoff 236 n.val 0x51 s t ∧ t.pwr.causeRail = true
          ∧ t.pwr.runningCnt = min (s.pwr.runningCnt + 1) 65535 ∧ t.pwr.seq = .off ∧ ∀ k, (t.rail k).en = false)
      ∧ (phaseUp s = true → (s.rail n.val).qualified = false → s.saf.ctrl ≠ .clockHold → (n.val < 7 → chipOn s = false) →
        exec (.pgChange n false) s = .next { s with pwr := { s.pwr with
          rails := upd s.pwr.rails n.val fun r => { r with pg := false } } }))
  ∧ (∀ n s k, s.shs.lateDue = false → n.val < s.pwr.rails.length → phaseUp s = true → (s.rail n.val).en = true →
      (s.rail n.val).qualified = false → (s.rail n.val).pg = true ∨ (s.rail n.val).used.pgUsed = false →
      k = ({ s with pwr := { s.pwr with rails := upd s.pwr.rails n.val fun r => { r with qualified := true } } } : State) →
      (∀ m, nextRail k = some m →
        ∃ t, exec (.railQualified n) s = .next t ∧ t.pwr = k.pwr ∧ t.saf = s.saf)
      ∧ (nextRail k = none → s.pwr.seq = .engineUp → s.saf.ctrl = .idle → bootWaits s = false →
        ∃ t, exec (.railQualified n) s = .next t ∧ t.pwr.seq = .engineOn ∧ t.saf.ctrl = .warm
          ∧ (t.rail n.val).qualified = true)
      ∧ (nextRail k = none → s.pwr.seq = .chipUp →
        ∃ t, exec (.railQualified n) s = .next t ∧ t.pwr.seq = .chipOn ∧ t.pwr.upSinceVaon = true
          ∧ IsReset (if s.pwr.upSinceVaon then 2 else 1) s t))
  ∧ (∀ n s, s.shs.lateDue = false → phaseUp s = true → (s.rail n.val).en = true → (s.rail n.val).qualified = false →
      (s.rail n.val).used.pgUsed = true →
      ∃ t, exec (.railTimeout n) s = .next t ∧ t.pwr.causeRail = true ∧ t.pwr.failRail = n.val
        ∧ (s.pwr.record = none → ∃ x, t.pwr.record = some x ∧ x.rail = n.val ∧ x.cause = 1
          ∧ x.phase = b2n (s.pwr.seq == .engineUp) ∧ x.attempt = s.pwr.attempt)
        ∧ (∀ x, s.pwr.record = some x → t.pwr.record = some x ∧ t.pwr.laterFaults = s.pwr.laterFaults + 1)
        ∧ t.pwr.downFor = if s.pwr.attempt < s.pwr.retries then .retry
            else if s.pwr.seq = .engineUp then .engineLockout else .chipLockout)
  ∧ (∀ s, s.shs.lateDue = false → (s.saf.powerDown = false → exec .railOffStep s = .next s)
      ∧ (s.saf.powerDown = true →
        (∀ n m l, downRails s = n :: m :: l → ∃ t, exec .railOffStep s = .next t ∧ RailDrops n s t)
        ∧ ∀ n, downRails s = [n] → ∃ t, exec .railOffStep s = .next t ∧ (t.rail n).en = false ∧ t.saf.powerDown = false
          ∧ (s.pwr.downFor = .off → t.pwr.seq = .off ∧ t.saf.ctrl = .off ∧ t.pwr.minOffRuns = true ∧ t.clk.xtalOn = false)
          ∧ (s.pwr.downFor = .retry → t.pwr.minOffRuns = true)
          ∧ (s.pwr.downFor = .engineOff → t.pwr.seq = .chipOn)
          ∧ (s.pwr.downFor = .chipLockout → t.pwr.seq = .off)))
  ∧ (∀ s, s.shs.lateDue = false →
      (chipOn s = true → s.saf.ctrl ≠ .clockHold →
        ∃ t, exec .nmrstLow s = .next t ∧ IsReset 3 s t ∧ t.saf.nmrstLow = true ∧ t.pwr.nmrstLow = true)
      ∧ (chipOn s = false ∨ s.saf.ctrl = .clockHold → exec .nmrstLow s = .next { s with
          saf := { s.saf with nmrstLow := true, internalReset := true }
          pwr := { s.pwr with nmrstLow := true, rstoutHigh := false } })
      ∧ exec .nmrstHigh s = .next { s with
          saf := { s.saf with nmrstLow := false }, pwr := { s.pwr with nmrstLow := false } })
  ∧ (∀ s, Runs s → chipOn s = true → s.saf.ctrl ≠ .clockHold →
      exec .rstoutRelease s = .next { s with pwr := { s.pwr with rstoutHigh := true } })

/-! ## Events of faults, background services and the pair (chapters 01, 18, 22 and 23) -/

/-- The Rambler's windows and jobs (R375 to R385). Readings of the model in these clauses: assumption 27. -/
def Obligations.BackgroundEvents : Prop :=
  (∀ n s, Runs s → s.saf.ctrl.serving = true →
      (∀ k < 8, s.io.time ≤ (s.bg.jobs.getD k { period := 1 }).since + 2 * (s.bg.jobs.getD k { period := 1 }).period * 1000000000) →
      exec (.ramblerWindow n) s = .next { s with bg := { s.bg with
        used := (min n 500 :: s.bg.used).take 100
        suspends := if 500 < n then min (s.bg.suspends + 1) 65535 else s.bg.suspends } })
  ∧ (∀ e s, Runs s → s.saf.ctrl.serving = true →
      (e.ue = false → regionOf e.region < s.bg.ecc.length →
        ∃ t, exec (.sramScrub [e]) s = .next t
          ∧ (t.bg.ecc.getD (regionOf e.region) {}).ce = min ((s.bg.ecc.getD (regionOf e.region) {}).ce + 1) 65535)
      ∧ (e.ue = true → (∀ i k, e.region ≠ .lineStore i k) → (∀ i, e.region ≠ .screenStore i ∧ e.region ≠ .corrTables i) →
        ∃ t, exec (.sramScrub [e]) s = .next t ∧ Raised .halt 236 (regionOf e.region) 9 s t ∧ t.bg.ueAddr = e.addr.toNat))
  ∧ (∀ s, Runs s → s.saf.ctrl.serving = true →
      exec (.sramScrub []) s = .next { s with bg := { s.bg with jobs := upd s.bg.jobs 0 (Job8.done s.io.time) } })
  ∧ (∀ e s, Runs s → s.saf.ctrl.serving = true → e.ue = true →
      (e.place = .unused → ∃ t, exec (.dramScrub [e]) s = .next t ∧ t = { s with io := t.io, bg := t.bg }
        ∧ t.bg.ueAddr = e.addr.toNat)
      ∧ (e.place = .firmware → ∃ t, exec (.dramScrub [e]) s = .next t ∧ Raised .halt 236 4 9 s t
        ∧ t.bg.ueAddr = e.addr.toNat))
  ∧ (∀ e s g, Runs s → s.saf.ctrl.serving = true → e.ue = false → g = e.addr.toNat / 4096 →
      (s.bg.granules.any fun x => x.1 == g && x.2.head? == some s.io.time) = false → g ∉ s.bg.retired →
      ((granulePasses g s).length < 3 → ∃ t, exec (.dramScrub [e]) s = .next t ∧ t.bg.retired = s.bg.retired
        ∧ (g, granulePasses g s) ∈ t.bg.granules)
      ∧ (3 ≤ (granulePasses g s).length → s.bg.retired.length < 256 →
        ∃ t, exec (.dramScrub [e]) s = .next t ∧ t.bg.retired = s.bg.retired ++ [g]))
  ∧ (∀ k o g s, Runs s → s.saf.ctrl.serving = true → k < 256 →
      ∃ t, exec (.adcCal [(k, o, g)]) s = .next t ∧ t = { s with bg := { s.bg with pass := t.bg.pass, jobs := t.bg.jobs } }
        ∧ coeffOf t.bg.pass k = some [o, g] ∧ ∀ j, j ≠ k → coeffOf t.bg.pass j = coeffOf s.bg.pass j)
  ∧ (∀ i k v s, Runs s → s.saf.ctrl.serving = true → k < 64 →
      ((s.wvr i.val).state = .off ∨ (s.wvr i.val).state = .locked →
        ((coeffOf s.bg.pass (256 + i.val)).getD []).length = 0 ∨ ((coeffOf s.bg.pass (256 + i.val)).getD []).length = 128 →
        ∃ t l, exec (.ppllCal i [(k, v)]) s = .next t
          ∧ t = { s with bg := { s.bg with pass := t.bg.pass, jobs := t.bg.jobs } }
          ∧ coeffOf t.bg.pass (256 + i.val) = some l ∧ l.getD (2 * k) 0 = 1 ∧ l.getD (2 * k + 1) 0 = v)
      ∧ ((s.wvr i.val).state ≠ .off → (s.wvr i.val).state ≠ .locked → ∀ l, exec (.ppllCal i l) s = .next s))
  ∧ (∀ i s, Runs s → s.saf.ctrl.serving = true →
      (passCoeffs i s = [] → exec (.bgApply i) s = .next s)
      ∧ (passCoeffs i s ≠ [] → ∃ t, exec (.bgApply i) s = .next t
        ∧ t = { s with free := s.free + 1, bg := { s.bg with pass := t.bg.pass }, led := { s.led with queue := t.led.queue } }
        ∧ ∃ r ∈ t.led.queue, r.kind = .command ∧ r.subject = 0x1281 ∧ r.origin = 7 ∧ r.time = s.io.time
          ∧ r.detail = (if i.isSome then 4 else 3) ∧ r.act = .bgApply (if i.isSome then 4 else 3) (passCoeffs i s)))
  ∧ (∀ s k n, Runs s → s.saf.ctrl.serving = true → s.bg.erases = [(k, n)] → k ∉ s.bg.worn → k ∉ s.bg.sectors →
      (norEndurance s * 80 ≤ n * 100 →
        ∃ t, exec .norWear s = .next t ∧ Raised .note 236 0 0x3B s t ∧ t.bg.worn = s.bg.worn ++ [k]
          ∧ t.bg.sectors = if norEndurance s ≤ n ∧ k < 65536 then s.bg.sectors ++ [k] else s.bg.sectors)
      ∧ (n * 100 < norEndurance s * 80 → exec .norWear s = .next { s with bg := { s.bg with
          jobs := upd s.bg.jobs 4 (Job8.done s.io.time) } }))
  ∧ (∀ s, Runs s → s.saf.ctrl.serving = true → ∃ t, exec (.life ()) s = .next t
      ∧ t = { s with
          img := t.img, thm := { s.thm with zones := t.thm.zones }, mot := { s.mot with buses := t.mot.buses }
          pwr := { s.pwr with lifeUps := 0 }
          bg := { s.bg with
            life := t.bg.life, lifeRem := t.bg.lifeRem, lifeAt := s.io.time, jobs := upd s.bg.jobs 5 (Job8.done s.io.time) } }
      ∧ ∀ k < 71, k < s.bg.life.length → ∀ x, x = lifeTake (s.bg.lifeRem.getD k 0) ((lifeSeen s).getD k (false, 0)) →
          t.bg.life.getD k 0 = min (s.bg.life.getD k 0 + x.1) (2 ^ 64 - 1) ∧ t.bg.lifeRem.getD k 0 = x.2)
  ∧ (∀ s, Runs s → s.saf.ctrl.serving = true → ∃ t, exec (.laserTrend ()) s = .next t
      ∧ ∀ i < 5, ∀ b < 64, apcT (s.stn i) b ≠ 0 → ∃ x ∈ t.bg.trends, x.station = i ∧ x.beam = b
        ∧ x.points = (meanDrive (s.stn i) b
          :: ((s.bg.trends.find? fun y => y.station == i && y.beam == b).getD { station := i, beam := b }).points).take 256)
  ∧ (∀ k s b, Runs s → s.saf.ctrl.serving = true → s.bg.telemetry.length < 4096 →
      b = le 4 ((s.bg.telSeq + 1) % 2 ^ 32) ++ le 1 (k.val + 1) ++ zeros 3 ++ le 8 s.io.time ++ freeBytes .background 48 0 s →
      ∃ t, exec (.telemetry [k]) s = .next t ∧ t = { s with io := t.io, free := s.free + 1, bg := { s.bg with
        telSeq := (s.bg.telSeq + 1) % 2 ^ 32, telemetry := s.bg.telemetry ++ [b]
        jobs := upd s.bg.jobs 7 (Job8.done s.io.time) } })

/-- Heartbeats, the frames of the link, fitness and takeover (R452 to R458, R460 to R467). Readings of the model in
these clauses: assumption 26. -/
def Obligations.PairEvents : Prop :=
  (∀ i s h p b q w m st sw sb d x ha sg, Runs s →
      i ∈ [Instr.heartbeatRx false h, .forwardRx false p b, .mirrorRx false q w m, .reportRx false st sw sb d,
        .declareRx false x, .ckptRx false q ha sg] →
      exec i s = .next (if s.pair.link = true then { s with pair := { s.pair with auth := min (s.pair.auth + 1) 65535 } } else s))
  ∧ (∀ s, Runs s → exec .ownDrop s = .next { s with pair := { s.pair with own := false } }
      ∧ (s.pair.paired = true → ∃ t g, exec .heartbeatSend s = .next t
        ∧ t = { s with free := s.free + 1, pair := { s.pair.send (.heartbeat s.pair.role.code (highestClass s) s.io.time g) with
            own := decide (s.pair.role = .active) && decide (s.saf.ctrl ≠ .clockHold) } }
        ∧ g.length = 5 ∧ ∀ i < 5, (s.stn i).sweep = none → g.getD i 0 = 0)
      ∧ (s.pair.paired = false → exec .heartbeatSend s = .next s))
  ∧ (∀ s, Runs s → s.pair.paired = true → s.pair.roleTaken = false → s.saf.ctrl.serving = true → s.pair.peerHb = false →
      ∃ t, exec .pairRoleTimeout s = .next t ∧ Raised .note 208 0 1 s t ∧ t.pair.role = .active ∧ t.pair.roleTaken = true)
  ∧ (∀ h s, Runs s → s.pair.link = true → h.pages = [] → s.pair.peerPages = [] →
      (s.pair.role = .standby → s.pair.roleTaken = true → exec (.heartbeatRx true h) s = .next { s with pair := { s.pair with
        peerHb := true, peerRole := roleOf h.role.toNat, peerClass := h.cls.toNat, peerGroups := h.groups
        peerAt := s.io.time, peerFit := h.fit.toNat } })
      ∧ (s.pair.role ≠ .active → s.pair.roleTaken = false → s.saf.ctrl.serving = true → h.role.toNat = 1 →
        ∃ t, exec (.heartbeatRx true h) s = .next t ∧ t.pair.role = .standby ∧ t.pair.roleTaken = true
          ∧ t.pair.joined = true)
      ∧ (s.pair.role ≠ .active → s.pair.roleTaken = false → s.saf.ctrl.serving = true → h.role.toNat ≠ 1 →
        leAt s.reg.serial 0 16 < leAt s.pair.peerSerial 0 16 →
        ∃ t, exec (.heartbeatRx true h) s = .next t ∧ t.pair.role = .active ∧ t.pair.roleTaken = true)
      ∧ (s.pair.role = .active → h.role.toNat = 1 →
        ∃ t, exec (.heartbeatRx true h) s = .next t ∧ Raised .stop 208 0 4 s t ∧ t.pair.role = .unfit))
  ∧ (∀ p b s n k, Runs s → s.pair.link = true → s.pair.role = .standby → n = u16At b 2 → n < 256 → s.shs.jobs = [] →
      seqMarked (s.strm n) (u64At b 8) = true →
      k = dropPacket n ((countForward b.length s).setStrm n fun x =>
        { x with lastPort := if p.val < 2 then p.val else x.lastPort }) → stagingDiffers k = false →
      ∃ t, exec (.forwardRx true p b) s = .next t ∧ t = k
        ∧ t.pair.fwd = (s.io.time, b.length) :: s.pair.fwd.filter fun x => decide (s.io.time < x.1 + 1000000))
  ∧ (∀ a p st sg s q w, Runs s → s.pair.link = true → s.pair.role = .standby →
      (s.axis a.val).state = .off ∨ ((s.axis a.val).state = .hold ∧ sg.length < 24) → a.val < s.axs.axs.length →
      ∃ t, exec (.mirrorRx true q w (.axis a p st sg)) s = .next t ∧ t = { s with axs := { s.axs with axs := t.axs.axs } }
        ∧ (t.axis a.val).pos = p.toInt ∧ (t.axis a.val).strong = st ∧ ∀ k, k ≠ a.val → t.axis k = s.axis k)
  ∧ (∀ q w m s, Runs s → s.pair.link = true → (∀ a p st sg, m ≠ .axis a p st sg) →
      exec (.mirrorRx true q w m) s = .next (if s.pair.role = .standby then s.record {
        kind := (mirrorKind m).1, time := s.io.time, origin := 4, detail := 0, subject := (mirrorKind m).2
        body := w ++ le 8 q.toNat, draw := .ordinary, act := .mirror q.toNat m } else s))
  ∧ (∀ st sw sb d s, Runs s → s.pair.link = true → s.pair.role = .standby →
      exec (.reportRx true st sw sb d) s = .next { s with pair := { s.pair with
        reports := s.pair.reports.filter (fun r => r.station != st.val)
          ++ [{ station := st.val, sweep := sw.toNat, strobed := sb.toNat, digest := d }] } })
  ∧ (∀ i s r, Runs s → s.pair.role = .standby → s.pair.joined = true → s.pair.reports = [r] → r.station = i.val →
      (r.sweep = (s.stn i.val).weaver.sweep → r.strobed = (s.stn i.val).lastStrobed → r.digest = (s.stn i.val).bandDigest →
        exec (.digestCompare i) s = .next { s with pair := { s.pair with reports := [] } })
      ∧ (r.digest ≠ (s.stn i.val).bandDigest →
        ∃ t, exec (.digestCompare i) s = .next t ∧ Raised .note 208 0 5 s t ∧ t.pair.role = .unfit ∧ t.pair.fit = 0
          ∧ t.pair.mismatch = min (s.pair.mismatch + 1) 65535))
  ∧ (∀ x s, Runs s → s.pair.link = true → s.pair.role = .standby →
      exec (.declareRx true x) s = .next { s with pair := { s.pair with
        declared := some (((x.toNat : Int) - s.pair.ofs).toNat, 2) } })
  ∧ (∀ q ha sg s, Runs s → s.pair.link = true →
      exec (.ckptRx true q ha sg) s = .next (s.record {
        kind := .peerCkpt, time := s.io.time, origin := 0, detail := 0, subject := 0
        body := fit 16 s.pair.peerSerial ++ le 8 q.toNat ++ fit 48 ha ++ fit 96 sg, draw := .ordinary }))
  ∧ (∀ s, Runs s → s.pair.paired = true →
      (mayTakeOver s = true → ∃ t, exec (.heartbeatLoss true true) s = .next t ∧ t.pair.role = .active
        ∧ t.pair.peerHb = false ∧ t.pair.takeovers = min (s.pair.takeovers + 1) 65535
        ∧ (∃ r ∈ t.led.queue, r.kind = .takeover ∧ r.time = s.io.time
          ∧ r.body.take 16 = le 1 1 ++ le 1 1 ++ le 1 s.pair.peerClass ++ zeros 5 ++ le 8 s.io.time)
        ∧ ((∀ i < 5, (s.stn i).sides = []) → Raised .note 208 0 3 s t))
      ∧ (mayTakeOver s = false → exec (.heartbeatLoss true true) s
          = .next { s with pair := { s.pair with peerHb := false, peerFit := 0 } })
      ∧ (s.pair.role = .standby → ∀ e, ∃ t, exec (.heartbeatLoss e (!e)) s = .next t ∧ Raised .note 208 0 1 s t))
  ∧ (∀ s x c, Runs s → s.pair.declared = some (x, c) →
      (s.pair.role = .standby → mayTakeOver s = true → c ≠ 1 →
        ∃ t, exec .takeover s = .next t ∧ t.pair.role = .active ∧ t.pair.declared = none ∧ t.pair.joined = false
          ∧ ∃ r ∈ t.led.queue, r.kind = .takeover ∧ r.body.take 2 = le 1 c ++ le 1 1)
      ∧ (s.pair.role = .active → peerIsFit s = true →
        ∃ t, exec .takeover s = .next t ∧ t.pair.role = .unfit ∧ t.pair.own = false ∧ t.pair.declared = none
          ∧ ∃ r ∈ t.led.queue, r.kind = .takeover ∧ r.body.take 2 = le 1 c ++ le 1 3)
      ∧ ((s.pair.role = .standby ∧ mayTakeOver s = false) ∨ (s.pair.role = .active ∧ peerIsFit s = false) →
        ∃ t, exec .takeover s = .next t ∧ t = { s with io := t.io, pair := { s.pair with declared := none } }))
  ∧ (∀ d f e s, Runs s → s.pair.paired = true → s.pair.link = false → d = s.pair.peerSerial →
      ∃ t, exec (.pairLinkUp d f e) s = .next t ∧ t = { s with io := t.io, pair := t.pair } ∧ t.pair.link = true
        ∧ t.pair.unsent = [] ∧ (s.pair.role = .standby → t.pair.ofs = 5 * floorDiv (2 * f + 5) 10 ∧ t.pair.rbDelay = e.toNat))
  ∧ (∀ s, Runs s → (s.pair.link = true → ∃ t, exec .pairLinkDown s = .next t
      ∧ t = { s with io := t.io, pair := { s.pair with link := false } })
      ∧ (s.pair.link = false → exec .pairLinkDown s = .next s))
  ∧ (∀ f s, Runs s →
      (s.pair.role = .standby → s.pair.link = true → 5 < (f - s.pair.ofs).natAbs →
        ∃ t, exec (.offsetCheck f) s = .next t ∧ Raised .note 208 0 7 s t ∧ t.pair.role = .unfit ∧ t.pair.fit = 0)
      ∧ ((f - s.pair.ofs).natAbs ≤ 5 → exec (.offsetCheck f) s = .next s))

/-! ## The hamper unit (chapter 02) -/

/-- R32: a doorbell whose producer index lies more than 64 slots ahead is ignored, sets DBERR and keeps the index. -/
def Obligations.OversizedDoorbellIsIgnored : Prop :=
  ∀ n v s, Runs s → s.ready = true → 64 < (v.toNat % 128 + 128 - (s.io.hamper n.val).ci) % 128 →
    n.val < s.io.hampers.length →
    ∃ t, exec (.hamperDoorbell n v) s = .next t
      ∧ t = { s with io := { s.io with hampers := t.io.hampers } }
      ∧ (t.io.hamper n.val).dberr = true ∧ (t.io.hamper n.val).pi = (s.io.hamper n.val).pi
      ∧ t.io.hamper n.val = { s.io.hamper n.val with dberr := true }
      ∧ ∀ k, k ≠ n.val → t.io.hamper k = s.io.hamper k

/-- R40, steps 1 to 5: a command that fails there is refused with the status and detail of the first failure, and has no
effect on anything but the host interface; while READY is 0 every command of Velov is ignored (R31). Readings of the
model in these clauses: assumption 7. -/
def Obligations.EarlyRefusals : Prop :=
  (∀ c op f s st d, commandOf c = some (op, f) → s.ready = true → s.shs.lateDue = false →
    f.hamper.val < s.io.hampers.length → hasRoom f.hamper.val s = true → s.io.windows.wf = true →
    orElse (earlyFault f (takeSlot f.hamper.val s)) (sessionFault (specOf op) f (takeSlot f.hamper.val s)) = some (st, d) →
    ∃ t, exec c s = .next t ∧ Refused op.code f st d 0 s t ∧ t.io.sessions = s.io.sessions)
  ∧ (∀ c op f s, commandOf c = some (op, f) → s.ready = false → s.shs.lateDue = false → exec c s = .next s)

/-- R40, steps 6 to 8: the SEQ has been accepted, the command is refused and has no effect on anything but the host
interface. Readings of the model in these clauses: assumption 7. -/
def Obligations.LateRefusals : Prop :=
  ∀ c op f s st d, commandOf c = some (op, f) → s.ready = true → s.shs.lateDue = false →
    f.hamper.val < s.io.hampers.length → hasRoom f.hamper.val s = true → s.io.windows.wf = true → f.seq ≠ 0xFFFFFFFF →
    orElse (earlyFault f (takeSlot f.hamper.val s)) (sessionFault (specOf op) f (takeSlot f.hamper.val s)) = none →
    lateFault op (newFlight op f (takeSlot f.hamper.val s)).cmd (acceptSeq f (takeSlot f.hamper.val s)) = some (st, d) →
    ∃ t, exec c s = .next t ∧ Refused op.code f st d 0 s t

/-- R40, steps 9 to 11: a command that fails there is refused when it starts; its effect, its record and its answer do
not happen. Readings of the model in these clauses: assumption 7. -/
def Obligations.StartRefusals : Prop :=
  ∀ c op f s st d, commandOf c = some (op, f) → checked op f s = true → hasRoom f.hamper.val s = true →
    s.io.windows.wf = true → (specOf op).post (heldFlight op f s).cmd (heldState op f s) = some (st, d) →
    ∃ t, exec c s = .next t ∧ Refused op.code f st d 0 s t

/-- R39: a result of more than 40 bytes without a buffer that holds it ends the command with BAD_LENGTH and the required
size, for a query and for a change alike without an effect. Readings of the model in these clauses: assumption 7. -/
def Obligations.OversizedResultsHaveNoEffect : Prop :=
  ∀ c op f s, commandOf c = some (op, f) → checked op f s = true → hasRoom f.hamper.val s = true →
    s.io.windows.wf = true → (specOf op).post (heldFlight op f s).cmd (heldState op f s) = none →
    40 < (specOf op).size (heldFlight op f s).cmd (heldState op f s) →
    f.rbuf = false ∨ f.rbufSize < (specOf op).size (heldFlight op f s).cmd (heldState op f s) →
    ∃ t, exec c s = .next t
      ∧ Refused op.code f stBadLength 0 ((specOf op).size (heldFlight op f s).cmd (heldState op f s)) s t

/-- R44, for EVERY change but CMD_ABORT (EVRING_SET, EVENT_ROUTE, FAULT_CLEAR, SESSION_OPEN, SESSION_CLOSE, LEDGER_RELEASE
and TIME_ANCHOR among them): the row answers the state in which the change is recorded and nothing of its effect has
happened; the record names the opcode, the hamper and the frame's TARGET, SESSION and SEQ; and the commit of the entry
answers a state, the one in which the change has been applied to the state with its entry. -/
def Obligations.ChangesAreRecordedFirst : Prop :=
  ∀ c op f s, commandOf c = some (op, f) → applies op f s = true →
    exec .ledgerEntryCommit (recordedState op f s) = .next (lateSpoils (dueReset (pump f.hamper.val
        (applyChange { heldFlight op f s with stage := .recording } (s.led.head + 1) (committedState op f s)))))
    ∧ ∃ t r, exec c s = .next t ∧ t = recordedState op f s ∧ t = { s with io := t.io, led := { s.led with queue := [r] } }
      ∧ r.kind = .command ∧ r.origin = 1 ∧ r.subject = op.code ∧ r.time = s.io.time ∧ r.draw = .ordinary
      ∧ r.act = .command op f
      ∧ r.body.take 12 = le 2 f.tgt ++ le 1 f.hamper.val ++ le 1 (roleCode (heldFlight op f s).role)
        ++ le 4 f.session.toNat ++ le 4 f.seq.toNat
      ∧ nextSlot f.hamper.val s t = nextSlot f.hamper.val s s

/-- R63: a write to a guarded register whose block is locked is not applied, sets KEYERR, and is recorded as refused; without
a capture place it sets NOTREC too and leaves no record (R68). -/
def Obligations.LockedWritesAreRefused : Prop :=
  ∀ c (g : Guarded) v q s, Runs s →
    ((∃ r k x, c = .dmaSetupWrite r k x (.host q) ∧ g = .ring r k ∧ v = x.toNat)
      ∨ (c = .haltReq (.host q) ∧ g = .svcCmd ∧ v = 1)
      ∨ (∃ h, c = .stopReq h (.host q) ∧ g = .svcCmd ∧ v = if h then 3 else 2)
      ∨ (c = .inhForceSet (.host q) ∧ g = .svcInh ∧ v = 1) ∨ (c = .inhForceClear (.host q) ∧ g = .svcInh ∧ v = 0)) →
    (s.guard g.block).isOpen = false →
    (capturePlaces s < 24 → ∃ t r, exec c s = .next t ∧ t = { s with reg := t.reg, led := { s.led with queue := t.led.queue } }
      ∧ t.reg = (s.setGuard g.block fun x => { x with keyErr := true }).reg
      ∧ r ∈ t.led.queue ∧ r.kind = .refused ∧ r.origin = 2 ∧ r.detail = q.toNat ∧ r.time = s.io.time
      ∧ r.body = le 4 g.addr ++ le 4 (g.read s) ++ le 4 (g.mask v) ++ le 4 1)
    ∧ (24 ≤ capturePlaces s → exec c s = .next (s.setGuard g.block fun x => { x with keyErr := true, notRec := true }))

/-- A session that opens has an identifier that is not 0 and that no session of this boot has had (R49; the choice among
the unused ones is free, assumption 3). -/
def Obligations.SessionIdentifiersAreFresh : Prop :=
  ∀ s, s.io.usedIds.length + 2 < 2 ^ 32 →
    newSession s ≠ 0 ∧ newSession s < 2 ^ 32 ∧ newSession s ∉ s.io.usedIds

/-! ## Faults and the inhibit (chapter 22) -/

/-- R437 to R439, R448, R449: what raising a fault leaves, whatever the fault and the state. -/
def Obligations.RaiseRecordsTheFault : Prop :=
  ∀ c line index cause s, Raised c line index cause s (s.raise c line index cause)

/-- R245, R253, R299, R441: what the internal inhibit does to the units. Readings of the model in these clauses:
assumption 10. -/
def Obligations.InhibitStopsTheUnits : Prop :=
  ∀ s t, t = inhibitUnits s →
    (∀ i < 16, (s.motor i).state ≠ .off → (t.motor i).state = .fault)
    ∧ (∀ i < 16, (s.motor i).state ≠ .off → (s.motor i).state ≠ .fault → (t.motor i).gate = .low)
    ∧ (∀ i < 20, (s.axis i).state ≠ .off → (t.axis i).drive = false)
    ∧ (∀ i < 16, (s.motor i).state ≠ .off → (s.motor i).state ≠ .fault → (t.motor i).fault = 1)
    ∧ (∀ i < 20, (s.axis i).state ≠ .off → (t.axis i).state = .fault)
    ∧ (∀ i < 64, ∀ p, (s.loop i).set = some p → lDrives p = true → (s.loop i).state ≠ .off → (t.loop i).state = .fault)
    ∧ (∀ x ∈ t.thm.zones, x.fire = false ∧ x.fireWas = false) ∧ t.saf = s.saf

/-- R450: FAULT_CLEAR keeps exactly the entries whose condition persists, whose unit is in FAULT or which are never
removed, once it has released the interlock latches that may go; it leaves HALTED only when no fault of HALT class or
higher remains. Readings of the model in these clauses: assumption 30. -/
def Obligations.FaultClearKeepsWhatPersists : Prop :=
  ∀ s t, t = clearFaults s →
    (∀ e, e ∈ t.saf.faults ↔ e ∈ s.saf.faults
      ∧ (persists e (releaseLatches s) || unitFaulted e (releaseLatches s) || neverCleared e) = true)
    ∧ (s.saf.ctrl = .halted → (∃ e ∈ t.saf.faults, 3 ≤ e.cls.code) → t.saf.ctrl = .halted)
    ∧ (s.saf.ctrl = .halted → (∀ e ∈ t.saf.faults, e.cls.code < 3) →
        t.saf.ctrl = if s.pwr.seq = .engineOn then .warm else .idle)
    ∧ (s.saf.ctrl = .safe → t.saf.inhForce = true ∨ (∃ x ∈ t.saf.ilk, x.latch = true) → t.saf.ctrl = .safe)

/-! ## The machine -/

/-- A step runs the command at the front of the queue on the state with the queue's rest. -/
def Obligations.StepRunsTheFront : Prop := ∀ c l s, s.pending = c :: l → step s = exec c { s with pending := l }

/-- With nothing waiting, a step is one CLK_CTL cycle: TIME64 counts its ns unless the internal reset or CLOCK_HOLD
holds it (R70, R408; that an idle step is a cycle is the model's choice, assumption 1). -/
def Obligations.IdleStepIsOneCycle : Prop :=
  ∀ s, s.pending = [] →
    ∃ t, step s = .next t ∧ t = { s with io := { s.io with time := t.io.time }, pwr := { s.pwr with aonNs := t.pwr.aonNs } }
      ∧ t.pwr.aonNs = s.pwr.aonNs + (if bit s.clk.bypassed 5 then 20 else 5)
      ∧ t.io.time = if s.saf.internalReset = true ∨ s.saf.ctrl = .clockHold then s.io.time
          else (s.io.time + if bit s.clk.bypassed 5 then 20 else 5) % 2 ^ 64

/-- Every command and event has a meaning: nothing is refused and nothing faults. -/
def Obligations.EveryRowAnswersANextState : Prop := ∀ c s, ∃ t, exec c s = .next t

/-- No command and no event touches the queue of those that wait. Readings of the model in these clauses: assumption 1.
-/
def Obligations.ExecLeavesTheQueue : Prop := ∀ c s t, exec c s = .next t → t.pending = s.pending

/-- What reset leaves where the spec gives the value: OFF with the internal reset held, TIME64 0, no session, no fault,
every unit off, empty queues and lists, and the settings at their stated defaults (R70, R405, R409, R420, R433, R434,
R452). Readings of the model in these clauses: assumption 2. -/
def Obligations.ResetState : Prop :=
  let s := State.reset
  s.pending = [] ∧ s.saf.ctrl = .off ∧ s.saf.internalReset = true ∧ s.saf.inhibit = true ∧ s.saf.faults = []
    ∧ s.io.time = 0 ∧ s.io.sessions = List.replicate 16 none ∧ s.io.finals = [] ∧ (∀ n < 8, (s.io.hamper n).ci = 0
      ∧ (s.io.hamper n).pi = 0 ∧ (s.io.hamper n).flights = [] ∧ (s.io.hamper n).ring.enabled = false)
    ∧ s.pwr.seq = .off ∧ s.pwr.resetSrc = 1 ∧ s.pwr.rstoutHigh = false ∧ s.pwr.retries = 3 ∧ s.pwr.autoOn = true
    ∧ s.pwr.minOff = 500 ∧ s.pwr.longPress = 40 ∧ s.pwr.offGrace = 30 ∧ s.pwr.rstoutDelay = 10
    ∧ (∀ n < 16, (s.rail n).en = false ∧ (s.rail n).qualified = false ∧ (s.rail n).stored.timeout = 50)
    ∧ s.clk.rpll = .off ∧ s.clk.refIrc = true ∧ s.clk.startMax = 20 ∧ s.clk.proven = false
    ∧ (∀ i < 16, (s.motor i).state = .off) ∧ (∀ i < 20, (s.axis i).state = .off) ∧ (∀ i < 64, (s.loop i).state = .off)
    ∧ (∀ z < 8, (s.zone z).enabled = false ∧ (s.zone z).fire = false) ∧ s.thm.latch = none ∧ s.thm.vPerm = 1600000
    ∧ s.rim.state = .down ∧ s.rim.nodes = [] ∧ s.pair.role = .single ∧ s.pair.paired = false ∧ s.pair.own = false
    ∧ s.shs.sheets = [] ∧ s.shs.jobs = [] ∧ s.itk.pages = [] ∧ (∀ r < 8, (s.dring r).run = false)
    ∧ s.led.queue = [] ∧ s.led.journal = [] ∧ s.led.lowMark = 5 ∧ s.bg.ceWarn = 64 ∧ s.bg.ageWarn = 500

/-- The invariant holds at reset. -/
def Obligations.InvariantHoldsAtReset : Prop := Machine.Inv State.reset

/-- Every step keeps the canonical form of the hamper windows, the host memory and the status mirrors, and that no entry
which the controller holds has a SEQ beyond the head of the ledger. -/
def Obligations.EveryStepKeepsTheInvariant : Prop := ∀ s t, Machine.Inv s → step s = .next t → Machine.Inv t
end

