-- ==== Sys2Proof/Laws/Mem.lean ====
section
/-!
SUPPORT. Laws of memory: what one byte reads as after a write, and that every memory operation keeps the canonical form.
The same for the stored words of the status mirrors.
-/
namespace Sys2Proof.Machine

theorem memWfFrom_mono {lo lo' : Nat} {m : Mem} (h : lo' ≤ lo) (w : memWfFrom lo m = true) : memWfFrom lo' m = true := by
  cases m with
  | nil => rfl
  | cons c m => simp only [memWfFrom, Bool.and_eq_true, decide_eq_true_eq] at w ⊢; exact ⟨⟨by omega, w.1.2⟩, w.2⟩

/-- An address below every listed one reads 0. -/
theorem memRead_below {lo x : Nat} {m : Mem} (w : memWfFrom lo m = true) (h : x < lo) : memRead m x = 0 := by
  cases m with
  | nil => rfl
  | cons c m =>
    simp only [memWfFrom, Bool.and_eq_true, decide_eq_true_eq] at w
    simp only [memRead]
    rw [if_neg (by omega), if_pos (by omega)]

theorem memWrite_wfFrom {lo x : Nat} {v : Byte} {m : Mem} (w : memWfFrom lo m = true) (h : lo ≤ x) :
    memWfFrom lo (memWrite m x v) = true := by
  induction m generalizing lo with
  | nil =>
    simp only [memWrite]; split
    · rfl
    · exact Bool.and_eq_true_iff.2 ⟨Bool.and_eq_true_iff.2 ⟨decide_eq_true h, bne_iff_ne.2 ‹_›⟩, rfl⟩
  | cons c m ih =>
    simp only [memWfFrom, Bool.and_eq_true, decide_eq_true_eq] at w
    obtain ⟨⟨w1, w2⟩, w3⟩ := w
    simp only [memWrite]
    split
    · split
      · exact memWfFrom_mono (by omega) w3
      · subst x; exact Bool.and_eq_true_iff.2 ⟨Bool.and_eq_true_iff.2 ⟨decide_eq_true h, bne_iff_ne.2 ‹_›⟩, w3⟩
    · split
      · split
        · exact Bool.and_eq_true_iff.2 ⟨Bool.and_eq_true_iff.2 ⟨decide_eq_true w1, w2⟩, w3⟩
        · simp only [memWfFrom, Bool.and_eq_true, decide_eq_true_eq]
          exact ⟨⟨h, bne_iff_ne.2 ‹_›⟩, ⟨by omega, w2⟩, w3⟩
      · simp only [memWfFrom, Bool.and_eq_true, decide_eq_true_eq]
        exact ⟨⟨w1, w2⟩, ih w3 (by omega)⟩

/-- A write keeps the canonical form. -/
theorem memWrite_wf {m : Mem} (x : Nat) (v : Byte) (w : m.wf = true) : (memWrite m x v).wf = true :=
  memWrite_wfFrom w (Nat.zero_le x)

/-- A write of several bytes keeps the canonical form. -/
theorem memWriteBytes_wf {m : Mem} (x : Nat) (b : Bytes) (w : m.wf = true) : (memWriteBytes m x b).wf = true := by
  induction b generalizing m x with
  | nil => exact w
  | cons v b ih => exact ih (x + 1) (memWrite_wf x v w)

theorem memRead_memWrite_from {lo : Nat} {m : Mem} (x y : Nat) (v : Byte) (w : memWfFrom lo m = true) :
    memRead (memWrite m x v) y = if y = x then v else memRead m y := by
  induction m generalizing lo with
  | nil =>
    simp only [memWrite]
    by_cases hv : v = 0
    · simp only [hv, if_true, memRead]; split <;> rfl
    · simp only [hv, if_false, memRead]; split
      · rfl
      · split <;> rfl
  | cons c m ih =>
    obtain ⟨a, b⟩ := c
    simp only [memWfFrom, Bool.and_eq_true, decide_eq_true_eq] at w
    obtain ⟨⟨w1, w2⟩, w3⟩ := w
    have ih := ih w3
    simp only [memWrite]
    by_cases hx : x = a
    · subst hx
      simp only [if_true]
      by_cases hv : v = 0
      · simp only [hv, if_true, memRead]
        by_cases hy : y = x
        · subst hy; simp [memRead_below w3 (Nat.lt_succ_self y)]
        · simp only [hy, if_false]
          split
          · exact memRead_below w3 (by omega)
          · rfl
      · simp only [hv, if_false, memRead]
        by_cases hy : y = x
        · simp only [hy, if_true]
        · simp only [hy, if_false]
    · simp only [hx, if_false]
      by_cases hlt : x < a
      · simp only [hlt, if_true]
        by_cases hv : v = 0
        · simp only [hv, if_true, memRead]
          by_cases hy : y = x
          · subst hy; simp [hx, hlt]
          · simp [hy]
        · simp only [hv, if_false, memRead]
          by_cases hy : y = x
          · simp [hy]
          · simp only [hy, if_false]
            by_cases hyx : y < x
            · simp only [hyx, if_true]; rw [if_neg (by omega), if_pos (by omega)]
            · simp only [hyx, if_false]
      · simp only [hlt, if_false, memRead]
        by_cases hy : y = a
        · subst hy; rw [if_pos rfl, if_neg (by omega), if_pos rfl]
        · simp only [hy, if_false]
          by_cases hya : y < a
          · simp only [hya, if_true]; rw [if_neg (by omega)]
          · simp only [hya, if_false]; exact ih

/-- A byte read after a write of one byte. -/
theorem memRead_memWrite {m : Mem} (x y : Nat) (v : Byte) (w : m.wf = true) :
    memRead (memWrite m x v) y = if y = x then v else memRead m y := memRead_memWrite_from x y v w

/-- A byte outside the bytes written reads as before. -/
theorem memRead_memWriteBytes_out {m : Mem} (x y : Nat) (b : Bytes) (w : m.wf = true) (h : y < x ∨ x + b.length ≤ y) :
    memRead (memWriteBytes m x b) y = memRead m y := by
  induction b generalizing m x with
  | nil => rfl
  | cons v b ih =>
    simp only [List.length_cons] at h
    simp only [memWriteBytes]
    rw [ih (x + 1) (memWrite_wf x v w) (by omega), memRead_memWrite x y v w, if_neg (by omega)]

/-- The bytes written are read back. -/
theorem memReadBytes_memWriteBytes {m : Mem} (x : Nat) (b : Bytes) (w : m.wf = true) :
    memReadBytes (memWriteBytes m x b) x b.length = b := by
  induction b generalizing m x with
  | nil => rfl
  | cons v b ih =>
    simp only [memWriteBytes, List.length_cons, memReadBytes]
    rw [ih (x + 1) (memWrite_wf x v w), memRead_memWriteBytes_out (x + 1) x b (memWrite_wf x v w) (by omega),
      memRead_memWrite x x v w, if_pos rfl]

/-- Bytes that a write does not meet read as before. -/
theorem memReadBytes_memWriteBytes_out {m : Mem} (x y n : Nat) (b : Bytes) (w : m.wf = true)
    (h : y + n ≤ x ∨ x + b.length ≤ y) : memReadBytes (memWriteBytes m x b) y n = memReadBytes m y n := by
  induction n generalizing y with
  | zero => rfl
  | succ n ih =>
    simp only [memReadBytes]
    rw [ih (y + 1) (by omega), memRead_memWriteBytes_out x y b w (by omega)]

theorem mirrorWrite_wfFrom {lo x : Nat} {v : Word} {l : List (Nat × Word)} (w : mirrorsWfFrom lo l = true) (h : lo ≤ x) :
    mirrorsWfFrom lo (mirrorWrite l x v) = true := by
  induction l generalizing lo with
  | nil =>
    simp only [mirrorWrite]; split
    · rfl
    · exact Bool.and_eq_true_iff.2 ⟨Bool.and_eq_true_iff.2 ⟨decide_eq_true h, bne_iff_ne.2 ‹_›⟩, rfl⟩
  | cons c l ih =>
    simp only [mirrorsWfFrom, Bool.and_eq_true, decide_eq_true_eq] at w
    obtain ⟨⟨w1, w2⟩, w3⟩ := w
    simp only [mirrorWrite]
    split
    · split
      · cases l with
        | nil => rfl
        | cons d l =>
          simp only [mirrorsWfFrom, Bool.and_eq_true, decide_eq_true_eq] at w3 ⊢; exact ⟨⟨by omega, w3.1.2⟩, w3.2⟩
      · subst x; exact Bool.and_eq_true_iff.2 ⟨Bool.and_eq_true_iff.2 ⟨decide_eq_true h, bne_iff_ne.2 ‹_›⟩, w3⟩
    · split
      · split
        · exact Bool.and_eq_true_iff.2 ⟨Bool.and_eq_true_iff.2 ⟨decide_eq_true w1, w2⟩, w3⟩
        · simp only [mirrorsWfFrom, Bool.and_eq_true, decide_eq_true_eq]
          exact ⟨⟨h, bne_iff_ne.2 ‹_›⟩, ⟨by omega, w2⟩, w3⟩
      · simp only [mirrorsWfFrom, Bool.and_eq_true, decide_eq_true_eq]
        exact ⟨⟨w1, w2⟩, ih w3 (by omega)⟩

/-- A stored mirror word keeps the list's form. -/
theorem mirrorWrite_wf {l : List (Nat × Word)} (x : Nat) (v : Word) (w : mirrorsWfFrom 0 l = true) :
    mirrorsWfFrom 0 (mirrorWrite l x v) = true := mirrorWrite_wfFrom w (Nat.zero_le x)

/-- Stored mirror words keep the list's form. -/
theorem mirrorWriteAll_wf {l : List (Nat × Word)} (x : Nat) (vs : List Nat) (w : mirrorsWfFrom 0 l = true) :
    mirrorsWfFrom 0 (mirrorWriteAll l x vs) = true := by
  induction vs generalizing l x with
  | nil => exact w
  | cons v vs ih => exact ih (x + 4) (mirrorWrite_wf x _ w)

end Sys2Proof.Machine
end

