-- ==== Sys2Proof/Laws/State.lean ====
section
/-!
SUPPORT. One lemma per field and per update of the state: an update leaves every field but its own as it was. And what
a numbered family of units reads as after one unit was replaced.
-/
namespace Sys2Proof.Machine

/-- What unit `j` of a family reads as after unit `i` was replaced. -/
theorem getD_upd {α : Type} (l : List α) (i j : Nat) (f : α → α) (d : α) :
    (upd l i f).getD j d = if j = i ∧ i < l.length then f (l.getD i d) else l.getD j d := by
  induction l generalizing i j with
  | nil => simp [upd]
  | cons x l ih =>
    cases i with
    | zero => cases j with
      | zero => simp [upd]
      | succ j => simp [upd]
    | succ i => cases j with
      | zero => simp [upd]
      | succ j => simpa [upd] using ih i j

/-- A family keeps its size. -/
@[simp] theorem length_upd {α : Type} (l : List α) (i : Nat) (f : α → α) : (upd l i f).length = l.length := by
  induction l generalizing i with
  | nil => rfl
  | cons x l ih => cases i <;> simp [upd, ih]

/-- Another unit is unchanged. -/
theorem getD_upd_ne {α : Type} (l : List α) {i j : Nat} (f : α → α) (d : α) (h : j ≠ i) :
    (upd l i f).getD j d = l.getD j d := by rw [getD_upd, if_neg fun e => h e.1]

/-- The unit replaced. -/
theorem getD_upd_eq {α : Type} (l : List α) {i : Nat} (f : α → α) (d : α) (h : i < l.length) :
    (upd l i f).getD i d = f (l.getD i d) := by rw [getD_upd, if_pos ⟨rfl, h⟩]

@[simp] theorem setBg_pending (s : State) : ∀ f, (s.setBg f).pending = s.pending := fun _ => rfl
@[simp] theorem setBg_free (s : State) : ∀ f, (s.setBg f).free = s.free := fun _ => rfl
@[simp] theorem setBg_io (s : State) : ∀ f, (s.setBg f).io = s.io := fun _ => rfl
@[simp] theorem setBg_reg (s : State) : ∀ f, (s.setBg f).reg = s.reg := fun _ => rfl
@[simp] theorem setBg_led (s : State) : ∀ f, (s.setBg f).led = s.led := fun _ => rfl
@[simp] theorem setBg_saf (s : State) : ∀ f, (s.setBg f).saf = s.saf := fun _ => rfl
@[simp] theorem setBg_clk (s : State) : ∀ f, (s.setBg f).clk = s.clk := fun _ => rfl
@[simp] theorem setBg_pwr (s : State) : ∀ f, (s.setBg f).pwr = s.pwr := fun _ => rfl
@[simp] theorem setBg_boot (s : State) : ∀ f, (s.setBg f).boot = s.boot := fun _ => rfl
@[simp] theorem setBg_mot (s : State) : ∀ f, (s.setBg f).mot = s.mot := fun _ => rfl
@[simp] theorem setBg_axs (s : State) : ∀ f, (s.setBg f).axs = s.axs := fun _ => rfl
@[simp] theorem setBg_fb (s : State) : ∀ f, (s.setBg f).fb = s.fb := fun _ => rfl
@[simp] theorem setBg_cle (s : State) : ∀ f, (s.setBg f).cle = s.cle := fun _ => rfl
@[simp] theorem setBg_thm (s : State) : ∀ f, (s.setBg f).thm = s.thm := fun _ => rfl
@[simp] theorem setBg_rim (s : State) : ∀ f, (s.setBg f).rim = s.rim := fun _ => rfl
@[simp] theorem setBg_itk (s : State) : ∀ f, (s.setBg f).itk = s.itk := fun _ => rfl
@[simp] theorem setBg_dma (s : State) : ∀ f, (s.setBg f).dma = s.dma := fun _ => rfl
@[simp] theorem setBg_img (s : State) : ∀ f, (s.setBg f).img = s.img := fun _ => rfl
@[simp] theorem setBg_shs (s : State) : ∀ f, (s.setBg f).shs = s.shs := fun _ => rfl
@[simp] theorem setBg_pair (s : State) : ∀ f, (s.setBg f).pair = s.pair := fun _ => rfl
@[simp] theorem setBootRec_pending (s : State) : ∀ k f, (s.setBootRec k f).pending = s.pending := fun _ _ => rfl
@[simp] theorem setBootRec_free (s : State) : ∀ k f, (s.setBootRec k f).free = s.free := fun _ _ => rfl
@[simp] theorem setBootRec_io (s : State) : ∀ k f, (s.setBootRec k f).io = s.io := fun _ _ => rfl
@[simp] theorem setBootRec_reg (s : State) : ∀ k f, (s.setBootRec k f).reg = s.reg := fun _ _ => rfl
@[simp] theorem setBootRec_led (s : State) : ∀ k f, (s.setBootRec k f).led = s.led := fun _ _ => rfl
@[simp] theorem setBootRec_saf (s : State) : ∀ k f, (s.setBootRec k f).saf = s.saf := fun _ _ => rfl
@[simp] theorem setBootRec_clk (s : State) : ∀ k f, (s.setBootRec k f).clk = s.clk := fun _ _ => rfl
@[simp] theorem setBootRec_pwr (s : State) : ∀ k f, (s.setBootRec k f).pwr = s.pwr := fun _ _ => rfl
@[simp] theorem setBootRec_mot (s : State) : ∀ k f, (s.setBootRec k f).mot = s.mot := fun _ _ => rfl
@[simp] theorem setBootRec_axs (s : State) : ∀ k f, (s.setBootRec k f).axs = s.axs := fun _ _ => rfl
@[simp] theorem setBootRec_fb (s : State) : ∀ k f, (s.setBootRec k f).fb = s.fb := fun _ _ => rfl
@[simp] theorem setBootRec_cle (s : State) : ∀ k f, (s.setBootRec k f).cle = s.cle := fun _ _ => rfl
@[simp] theorem setBootRec_thm (s : State) : ∀ k f, (s.setBootRec k f).thm = s.thm := fun _ _ => rfl
@[simp] theorem setBootRec_rim (s : State) : ∀ k f, (s.setBootRec k f).rim = s.rim := fun _ _ => rfl
@[simp] theorem setBootRec_itk (s : State) : ∀ k f, (s.setBootRec k f).itk = s.itk := fun _ _ => rfl
@[simp] theorem setBootRec_dma (s : State) : ∀ k f, (s.setBootRec k f).dma = s.dma := fun _ _ => rfl
@[simp] theorem setBootRec_img (s : State) : ∀ k f, (s.setBootRec k f).img = s.img := fun _ _ => rfl
@[simp] theorem setBootRec_shs (s : State) : ∀ k f, (s.setBootRec k f).shs = s.shs := fun _ _ => rfl
@[simp] theorem setBootRec_pair (s : State) : ∀ k f, (s.setBootRec k f).pair = s.pair := fun _ _ => rfl
@[simp] theorem setBootRec_bg (s : State) : ∀ k f, (s.setBootRec k f).bg = s.bg := fun _ _ => rfl
@[simp] theorem setClk_pending (s : State) : ∀ f, (s.setClk f).pending = s.pending := fun _ => rfl
@[simp] theorem setClk_free (s : State) : ∀ f, (s.setClk f).free = s.free := fun _ => rfl
@[simp] theorem setClk_io (s : State) : ∀ f, (s.setClk f).io = s.io := fun _ => rfl
@[simp] theorem setClk_reg (s : State) : ∀ f, (s.setClk f).reg = s.reg := fun _ => rfl
@[simp] theorem setClk_led (s : State) : ∀ f, (s.setClk f).led = s.led := fun _ => rfl
@[simp] theorem setClk_saf (s : State) : ∀ f, (s.setClk f).saf = s.saf := fun _ => rfl
@[simp] theorem setClk_pwr (s : State) : ∀ f, (s.setClk f).pwr = s.pwr := fun _ => rfl
@[simp] theorem setClk_boot (s : State) : ∀ f, (s.setClk f).boot = s.boot := fun _ => rfl
@[simp] theorem setClk_mot (s : State) : ∀ f, (s.setClk f).mot = s.mot := fun _ => rfl
@[simp] theorem setClk_axs (s : State) : ∀ f, (s.setClk f).axs = s.axs := fun _ => rfl
@[simp] theorem setClk_fb (s : State) : ∀ f, (s.setClk f).fb = s.fb := fun _ => rfl
@[simp] theorem setClk_cle (s : State) : ∀ f, (s.setClk f).cle = s.cle := fun _ => rfl
@[simp] theorem setClk_thm (s : State) : ∀ f, (s.setClk f).thm = s.thm := fun _ => rfl
@[simp] theorem setClk_rim (s : State) : ∀ f, (s.setClk f).rim = s.rim := fun _ => rfl
@[simp] theorem setClk_itk (s : State) : ∀ f, (s.setClk f).itk = s.itk := fun _ => rfl
@[simp] theorem setClk_dma (s : State) : ∀ f, (s.setClk f).dma = s.dma := fun _ => rfl
@[simp] theorem setClk_img (s : State) : ∀ f, (s.setClk f).img = s.img := fun _ => rfl
@[simp] theorem setClk_shs (s : State) : ∀ f, (s.setClk f).shs = s.shs := fun _ => rfl
@[simp] theorem setClk_pair (s : State) : ∀ f, (s.setClk f).pair = s.pair := fun _ => rfl
@[simp] theorem setClk_bg (s : State) : ∀ f, (s.setClk f).bg = s.bg := fun _ => rfl
@[simp] theorem setPair_pending (s : State) : ∀ f, (s.setPair f).pending = s.pending := fun _ => rfl
@[simp] theorem setPair_free (s : State) : ∀ f, (s.setPair f).free = s.free := fun _ => rfl
@[simp] theorem setPair_io (s : State) : ∀ f, (s.setPair f).io = s.io := fun _ => rfl
@[simp] theorem setPair_reg (s : State) : ∀ f, (s.setPair f).reg = s.reg := fun _ => rfl
@[simp] theorem setPair_led (s : State) : ∀ f, (s.setPair f).led = s.led := fun _ => rfl
@[simp] theorem setPair_saf (s : State) : ∀ f, (s.setPair f).saf = s.saf := fun _ => rfl
@[simp] theorem setPair_clk (s : State) : ∀ f, (s.setPair f).clk = s.clk := fun _ => rfl
@[simp] theorem setPair_pwr (s : State) : ∀ f, (s.setPair f).pwr = s.pwr := fun _ => rfl
@[simp] theorem setPair_boot (s : State) : ∀ f, (s.setPair f).boot = s.boot := fun _ => rfl
@[simp] theorem setPair_mot (s : State) : ∀ f, (s.setPair f).mot = s.mot := fun _ => rfl
@[simp] theorem setPair_axs (s : State) : ∀ f, (s.setPair f).axs = s.axs := fun _ => rfl
@[simp] theorem setPair_fb (s : State) : ∀ f, (s.setPair f).fb = s.fb := fun _ => rfl
@[simp] theorem setPair_cle (s : State) : ∀ f, (s.setPair f).cle = s.cle := fun _ => rfl
@[simp] theorem setPair_thm (s : State) : ∀ f, (s.setPair f).thm = s.thm := fun _ => rfl
@[simp] theorem setPair_rim (s : State) : ∀ f, (s.setPair f).rim = s.rim := fun _ => rfl
@[simp] theorem setPair_itk (s : State) : ∀ f, (s.setPair f).itk = s.itk := fun _ => rfl
@[simp] theorem setPair_dma (s : State) : ∀ f, (s.setPair f).dma = s.dma := fun _ => rfl
@[simp] theorem setPair_img (s : State) : ∀ f, (s.setPair f).img = s.img := fun _ => rfl
@[simp] theorem setPair_shs (s : State) : ∀ f, (s.setPair f).shs = s.shs := fun _ => rfl
@[simp] theorem setPair_bg (s : State) : ∀ f, (s.setPair f).bg = s.bg := fun _ => rfl
@[simp] theorem setDring_pending (s : State) : ∀ n f, (s.setDring n f).pending = s.pending := fun _ _ => rfl
@[simp] theorem setDring_free (s : State) : ∀ n f, (s.setDring n f).free = s.free := fun _ _ => rfl
@[simp] theorem setDring_io (s : State) : ∀ n f, (s.setDring n f).io = s.io := fun _ _ => rfl
@[simp] theorem setDring_reg (s : State) : ∀ n f, (s.setDring n f).reg = s.reg := fun _ _ => rfl
@[simp] theorem setDring_led (s : State) : ∀ n f, (s.setDring n f).led = s.led := fun _ _ => rfl
@[simp] theorem setDring_saf (s : State) : ∀ n f, (s.setDring n f).saf = s.saf := fun _ _ => rfl
@[simp] theorem setDring_clk (s : State) : ∀ n f, (s.setDring n f).clk = s.clk := fun _ _ => rfl
@[simp] theorem setDring_pwr (s : State) : ∀ n f, (s.setDring n f).pwr = s.pwr := fun _ _ => rfl
@[simp] theorem setDring_boot (s : State) : ∀ n f, (s.setDring n f).boot = s.boot := fun _ _ => rfl
@[simp] theorem setDring_mot (s : State) : ∀ n f, (s.setDring n f).mot = s.mot := fun _ _ => rfl
@[simp] theorem setDring_axs (s : State) : ∀ n f, (s.setDring n f).axs = s.axs := fun _ _ => rfl
@[simp] theorem setDring_fb (s : State) : ∀ n f, (s.setDring n f).fb = s.fb := fun _ _ => rfl
@[simp] theorem setDring_cle (s : State) : ∀ n f, (s.setDring n f).cle = s.cle := fun _ _ => rfl
@[simp] theorem setDring_thm (s : State) : ∀ n f, (s.setDring n f).thm = s.thm := fun _ _ => rfl
@[simp] theorem setDring_rim (s : State) : ∀ n f, (s.setDring n f).rim = s.rim := fun _ _ => rfl
@[simp] theorem setDring_itk (s : State) : ∀ n f, (s.setDring n f).itk = s.itk := fun _ _ => rfl
@[simp] theorem setDring_img (s : State) : ∀ n f, (s.setDring n f).img = s.img := fun _ _ => rfl
@[simp] theorem setDring_shs (s : State) : ∀ n f, (s.setDring n f).shs = s.shs := fun _ _ => rfl
@[simp] theorem setDring_pair (s : State) : ∀ n f, (s.setDring n f).pair = s.pair := fun _ _ => rfl
@[simp] theorem setDring_bg (s : State) : ∀ n f, (s.setDring n f).bg = s.bg := fun _ _ => rfl
@[simp] theorem setQe_pending (s : State) : ∀ n f, (s.setQe n f).pending = s.pending := fun _ _ => rfl
@[simp] theorem setQe_free (s : State) : ∀ n f, (s.setQe n f).free = s.free := fun _ _ => rfl
@[simp] theorem setQe_io (s : State) : ∀ n f, (s.setQe n f).io = s.io := fun _ _ => rfl
@[simp] theorem setQe_reg (s : State) : ∀ n f, (s.setQe n f).reg = s.reg := fun _ _ => rfl
@[simp] theorem setQe_led (s : State) : ∀ n f, (s.setQe n f).led = s.led := fun _ _ => rfl
@[simp] theorem setQe_saf (s : State) : ∀ n f, (s.setQe n f).saf = s.saf := fun _ _ => rfl
@[simp] theorem setQe_clk (s : State) : ∀ n f, (s.setQe n f).clk = s.clk := fun _ _ => rfl
@[simp] theorem setQe_pwr (s : State) : ∀ n f, (s.setQe n f).pwr = s.pwr := fun _ _ => rfl
@[simp] theorem setQe_boot (s : State) : ∀ n f, (s.setQe n f).boot = s.boot := fun _ _ => rfl
@[simp] theorem setQe_mot (s : State) : ∀ n f, (s.setQe n f).mot = s.mot := fun _ _ => rfl
@[simp] theorem setQe_axs (s : State) : ∀ n f, (s.setQe n f).axs = s.axs := fun _ _ => rfl
@[simp] theorem setQe_cle (s : State) : ∀ n f, (s.setQe n f).cle = s.cle := fun _ _ => rfl
@[simp] theorem setQe_thm (s : State) : ∀ n f, (s.setQe n f).thm = s.thm := fun _ _ => rfl
@[simp] theorem setQe_rim (s : State) : ∀ n f, (s.setQe n f).rim = s.rim := fun _ _ => rfl
@[simp] theorem setQe_itk (s : State) : ∀ n f, (s.setQe n f).itk = s.itk := fun _ _ => rfl
@[simp] theorem setQe_dma (s : State) : ∀ n f, (s.setQe n f).dma = s.dma := fun _ _ => rfl
@[simp] theorem setQe_img (s : State) : ∀ n f, (s.setQe n f).img = s.img := fun _ _ => rfl
@[simp] theorem setQe_shs (s : State) : ∀ n f, (s.setQe n f).shs = s.shs := fun _ _ => rfl
@[simp] theorem setQe_pair (s : State) : ∀ n f, (s.setQe n f).pair = s.pair := fun _ _ => rfl
@[simp] theorem setQe_bg (s : State) : ∀ n f, (s.setQe n f).bg = s.bg := fun _ _ => rfl
@[simp] theorem setSe_pending (s : State) : ∀ n f, (s.setSe n f).pending = s.pending := fun _ _ => rfl
@[simp] theorem setSe_free (s : State) : ∀ n f, (s.setSe n f).free = s.free := fun _ _ => rfl
@[simp] theorem setSe_io (s : State) : ∀ n f, (s.setSe n f).io = s.io := fun _ _ => rfl
@[simp] theorem setSe_reg (s : State) : ∀ n f, (s.setSe n f).reg = s.reg := fun _ _ => rfl
@[simp] theorem setSe_led (s : State) : ∀ n f, (s.setSe n f).led = s.led := fun _ _ => rfl
@[simp] theorem setSe_saf (s : State) : ∀ n f, (s.setSe n f).saf = s.saf := fun _ _ => rfl
@[simp] theorem setSe_clk (s : State) : ∀ n f, (s.setSe n f).clk = s.clk := fun _ _ => rfl
@[simp] theorem setSe_pwr (s : State) : ∀ n f, (s.setSe n f).pwr = s.pwr := fun _ _ => rfl
@[simp] theorem setSe_boot (s : State) : ∀ n f, (s.setSe n f).boot = s.boot := fun _ _ => rfl
@[simp] theorem setSe_mot (s : State) : ∀ n f, (s.setSe n f).mot = s.mot := fun _ _ => rfl
@[simp] theorem setSe_axs (s : State) : ∀ n f, (s.setSe n f).axs = s.axs := fun _ _ => rfl
@[simp] theorem setSe_cle (s : State) : ∀ n f, (s.setSe n f).cle = s.cle := fun _ _ => rfl
@[simp] theorem setSe_thm (s : State) : ∀ n f, (s.setSe n f).thm = s.thm := fun _ _ => rfl
@[simp] theorem setSe_rim (s : State) : ∀ n f, (s.setSe n f).rim = s.rim := fun _ _ => rfl
@[simp] theorem setSe_itk (s : State) : ∀ n f, (s.setSe n f).itk = s.itk := fun _ _ => rfl
@[simp] theorem setSe_dma (s : State) : ∀ n f, (s.setSe n f).dma = s.dma := fun _ _ => rfl
@[simp] theorem setSe_img (s : State) : ∀ n f, (s.setSe n f).img = s.img := fun _ _ => rfl
@[simp] theorem setSe_shs (s : State) : ∀ n f, (s.setSe n f).shs = s.shs := fun _ _ => rfl
@[simp] theorem setSe_pair (s : State) : ∀ n f, (s.setSe n f).pair = s.pair := fun _ _ => rfl
@[simp] theorem setSe_bg (s : State) : ∀ n f, (s.setSe n f).bg = s.bg := fun _ _ => rfl
@[simp] theorem setPrb_pending (s : State) : ∀ n f, (s.setPrb n f).pending = s.pending := fun _ _ => rfl
@[simp] theorem setPrb_free (s : State) : ∀ n f, (s.setPrb n f).free = s.free := fun _ _ => rfl
@[simp] theorem setPrb_io (s : State) : ∀ n f, (s.setPrb n f).io = s.io := fun _ _ => rfl
@[simp] theorem setPrb_reg (s : State) : ∀ n f, (s.setPrb n f).reg = s.reg := fun _ _ => rfl
@[simp] theorem setPrb_led (s : State) : ∀ n f, (s.setPrb n f).led = s.led := fun _ _ => rfl
@[simp] theorem setPrb_saf (s : State) : ∀ n f, (s.setPrb n f).saf = s.saf := fun _ _ => rfl
@[simp] theorem setPrb_clk (s : State) : ∀ n f, (s.setPrb n f).clk = s.clk := fun _ _ => rfl
@[simp] theorem setPrb_pwr (s : State) : ∀ n f, (s.setPrb n f).pwr = s.pwr := fun _ _ => rfl
@[simp] theorem setPrb_boot (s : State) : ∀ n f, (s.setPrb n f).boot = s.boot := fun _ _ => rfl
@[simp] theorem setPrb_mot (s : State) : ∀ n f, (s.setPrb n f).mot = s.mot := fun _ _ => rfl
@[simp] theorem setPrb_axs (s : State) : ∀ n f, (s.setPrb n f).axs = s.axs := fun _ _ => rfl
@[simp] theorem setPrb_cle (s : State) : ∀ n f, (s.setPrb n f).cle = s.cle := fun _ _ => rfl
@[simp] theorem setPrb_thm (s : State) : ∀ n f, (s.setPrb n f).thm = s.thm := fun _ _ => rfl
@[simp] theorem setPrb_rim (s : State) : ∀ n f, (s.setPrb n f).rim = s.rim := fun _ _ => rfl
@[simp] theorem setPrb_itk (s : State) : ∀ n f, (s.setPrb n f).itk = s.itk := fun _ _ => rfl
@[simp] theorem setPrb_dma (s : State) : ∀ n f, (s.setPrb n f).dma = s.dma := fun _ _ => rfl
@[simp] theorem setPrb_img (s : State) : ∀ n f, (s.setPrb n f).img = s.img := fun _ _ => rfl
@[simp] theorem setPrb_shs (s : State) : ∀ n f, (s.setPrb n f).shs = s.shs := fun _ _ => rfl
@[simp] theorem setPrb_pair (s : State) : ∀ n f, (s.setPrb n f).pair = s.pair := fun _ _ => rfl
@[simp] theorem setPrb_bg (s : State) : ∀ n f, (s.setPrb n f).bg = s.bg := fun _ _ => rfl
@[simp] theorem setCmp_pending (s : State) : ∀ n f, (s.setCmp n f).pending = s.pending := fun _ _ => rfl
@[simp] theorem setCmp_free (s : State) : ∀ n f, (s.setCmp n f).free = s.free := fun _ _ => rfl
@[simp] theorem setCmp_io (s : State) : ∀ n f, (s.setCmp n f).io = s.io := fun _ _ => rfl
@[simp] theorem setCmp_reg (s : State) : ∀ n f, (s.setCmp n f).reg = s.reg := fun _ _ => rfl
@[simp] theorem setCmp_led (s : State) : ∀ n f, (s.setCmp n f).led = s.led := fun _ _ => rfl
@[simp] theorem setCmp_saf (s : State) : ∀ n f, (s.setCmp n f).saf = s.saf := fun _ _ => rfl
@[simp] theorem setCmp_clk (s : State) : ∀ n f, (s.setCmp n f).clk = s.clk := fun _ _ => rfl
@[simp] theorem setCmp_pwr (s : State) : ∀ n f, (s.setCmp n f).pwr = s.pwr := fun _ _ => rfl
@[simp] theorem setCmp_boot (s : State) : ∀ n f, (s.setCmp n f).boot = s.boot := fun _ _ => rfl
@[simp] theorem setCmp_mot (s : State) : ∀ n f, (s.setCmp n f).mot = s.mot := fun _ _ => rfl
@[simp] theorem setCmp_axs (s : State) : ∀ n f, (s.setCmp n f).axs = s.axs := fun _ _ => rfl
@[simp] theorem setCmp_cle (s : State) : ∀ n f, (s.setCmp n f).cle = s.cle := fun _ _ => rfl
@[simp] theorem setCmp_thm (s : State) : ∀ n f, (s.setCmp n f).thm = s.thm := fun _ _ => rfl
@[simp] theorem setCmp_rim (s : State) : ∀ n f, (s.setCmp n f).rim = s.rim := fun _ _ => rfl
@[simp] theorem setCmp_itk (s : State) : ∀ n f, (s.setCmp n f).itk = s.itk := fun _ _ => rfl
@[simp] theorem setCmp_dma (s : State) : ∀ n f, (s.setCmp n f).dma = s.dma := fun _ _ => rfl
@[simp] theorem setCmp_img (s : State) : ∀ n f, (s.setCmp n f).img = s.img := fun _ _ => rfl
@[simp] theorem setCmp_shs (s : State) : ∀ n f, (s.setCmp n f).shs = s.shs := fun _ _ => rfl
@[simp] theorem setCmp_pair (s : State) : ∀ n f, (s.setCmp n f).pair = s.pair := fun _ _ => rfl
@[simp] theorem setCmp_bg (s : State) : ∀ n f, (s.setCmp n f).bg = s.bg := fun _ _ => rfl
@[simp] theorem setStrm_pending (s : State) : ∀ n f, (s.setStrm n f).pending = s.pending := fun _ _ => rfl
@[simp] theorem setStrm_free (s : State) : ∀ n f, (s.setStrm n f).free = s.free := fun _ _ => rfl
@[simp] theorem setStrm_io (s : State) : ∀ n f, (s.setStrm n f).io = s.io := fun _ _ => rfl
@[simp] theorem setStrm_reg (s : State) : ∀ n f, (s.setStrm n f).reg = s.reg := fun _ _ => rfl
@[simp] theorem setStrm_led (s : State) : ∀ n f, (s.setStrm n f).led = s.led := fun _ _ => rfl
@[simp] theorem setStrm_saf (s : State) : ∀ n f, (s.setStrm n f).saf = s.saf := fun _ _ => rfl
@[simp] theorem setStrm_clk (s : State) : ∀ n f, (s.setStrm n f).clk = s.clk := fun _ _ => rfl
@[simp] theorem setStrm_pwr (s : State) : ∀ n f, (s.setStrm n f).pwr = s.pwr := fun _ _ => rfl
@[simp] theorem setStrm_boot (s : State) : ∀ n f, (s.setStrm n f).boot = s.boot := fun _ _ => rfl
@[simp] theorem setStrm_mot (s : State) : ∀ n f, (s.setStrm n f).mot = s.mot := fun _ _ => rfl
@[simp] theorem setStrm_axs (s : State) : ∀ n f, (s.setStrm n f).axs = s.axs := fun _ _ => rfl
@[simp] theorem setStrm_fb (s : State) : ∀ n f, (s.setStrm n f).fb = s.fb := fun _ _ => rfl
@[simp] theorem setStrm_cle (s : State) : ∀ n f, (s.setStrm n f).cle = s.cle := fun _ _ => rfl
@[simp] theorem setStrm_thm (s : State) : ∀ n f, (s.setStrm n f).thm = s.thm := fun _ _ => rfl
@[simp] theorem setStrm_rim (s : State) : ∀ n f, (s.setStrm n f).rim = s.rim := fun _ _ => rfl
@[simp] theorem setStrm_dma (s : State) : ∀ n f, (s.setStrm n f).dma = s.dma := fun _ _ => rfl
@[simp] theorem setStrm_img (s : State) : ∀ n f, (s.setStrm n f).img = s.img := fun _ _ => rfl
@[simp] theorem setStrm_shs (s : State) : ∀ n f, (s.setStrm n f).shs = s.shs := fun _ _ => rfl
@[simp] theorem setStrm_pair (s : State) : ∀ n f, (s.setStrm n f).pair = s.pair := fun _ _ => rfl
@[simp] theorem setStrm_bg (s : State) : ∀ n f, (s.setStrm n f).bg = s.bg := fun _ _ => rfl
@[simp] theorem setPort_pending (s : State) : ∀ n f, (s.setPort n f).pending = s.pending := fun _ _ => rfl
@[simp] theorem setPort_free (s : State) : ∀ n f, (s.setPort n f).free = s.free := fun _ _ => rfl
@[simp] theorem setPort_io (s : State) : ∀ n f, (s.setPort n f).io = s.io := fun _ _ => rfl
@[simp] theorem setPort_reg (s : State) : ∀ n f, (s.setPort n f).reg = s.reg := fun _ _ => rfl
@[simp] theorem setPort_led (s : State) : ∀ n f, (s.setPort n f).led = s.led := fun _ _ => rfl
@[simp] theorem setPort_saf (s : State) : ∀ n f, (s.setPort n f).saf = s.saf := fun _ _ => rfl
@[simp] theorem setPort_clk (s : State) : ∀ n f, (s.setPort n f).clk = s.clk := fun _ _ => rfl
@[simp] theorem setPort_pwr (s : State) : ∀ n f, (s.setPort n f).pwr = s.pwr := fun _ _ => rfl
@[simp] theorem setPort_boot (s : State) : ∀ n f, (s.setPort n f).boot = s.boot := fun _ _ => rfl
@[simp] theorem setPort_mot (s : State) : ∀ n f, (s.setPort n f).mot = s.mot := fun _ _ => rfl
@[simp] theorem setPort_axs (s : State) : ∀ n f, (s.setPort n f).axs = s.axs := fun _ _ => rfl
@[simp] theorem setPort_fb (s : State) : ∀ n f, (s.setPort n f).fb = s.fb := fun _ _ => rfl
@[simp] theorem setPort_cle (s : State) : ∀ n f, (s.setPort n f).cle = s.cle := fun _ _ => rfl
@[simp] theorem setPort_thm (s : State) : ∀ n f, (s.setPort n f).thm = s.thm := fun _ _ => rfl
@[simp] theorem setPort_rim (s : State) : ∀ n f, (s.setPort n f).rim = s.rim := fun _ _ => rfl
@[simp] theorem setPort_dma (s : State) : ∀ n f, (s.setPort n f).dma = s.dma := fun _ _ => rfl
@[simp] theorem setPort_img (s : State) : ∀ n f, (s.setPort n f).img = s.img := fun _ _ => rfl
@[simp] theorem setPort_shs (s : State) : ∀ n f, (s.setPort n f).shs = s.shs := fun _ _ => rfl
@[simp] theorem setPort_pair (s : State) : ∀ n f, (s.setPort n f).pair = s.pair := fun _ _ => rfl
@[simp] theorem setPort_bg (s : State) : ∀ n f, (s.setPort n f).bg = s.bg := fun _ _ => rfl
@[simp] theorem setPage_pending (s : State) : ∀ st n f, (s.setPage st n f).pending = s.pending := fun _ _ _ => rfl
@[simp] theorem setPage_free (s : State) : ∀ st n f, (s.setPage st n f).free = s.free := fun _ _ _ => rfl
@[simp] theorem setPage_io (s : State) : ∀ st n f, (s.setPage st n f).io = s.io := fun _ _ _ => rfl
@[simp] theorem setPage_reg (s : State) : ∀ st n f, (s.setPage st n f).reg = s.reg := fun _ _ _ => rfl
@[simp] theorem setPage_led (s : State) : ∀ st n f, (s.setPage st n f).led = s.led := fun _ _ _ => rfl
@[simp] theorem setPage_saf (s : State) : ∀ st n f, (s.setPage st n f).saf = s.saf := fun _ _ _ => rfl
@[simp] theorem setPage_clk (s : State) : ∀ st n f, (s.setPage st n f).clk = s.clk := fun _ _ _ => rfl
@[simp] theorem setPage_pwr (s : State) : ∀ st n f, (s.setPage st n f).pwr = s.pwr := fun _ _ _ => rfl
@[simp] theorem setPage_boot (s : State) : ∀ st n f, (s.setPage st n f).boot = s.boot := fun _ _ _ => rfl
@[simp] theorem setPage_mot (s : State) : ∀ st n f, (s.setPage st n f).mot = s.mot := fun _ _ _ => rfl
@[simp] theorem setPage_axs (s : State) : ∀ st n f, (s.setPage st n f).axs = s.axs := fun _ _ _ => rfl
@[simp] theorem setPage_fb (s : State) : ∀ st n f, (s.setPage st n f).fb = s.fb := fun _ _ _ => rfl
@[simp] theorem setPage_cle (s : State) : ∀ st n f, (s.setPage st n f).cle = s.cle := fun _ _ _ => rfl
@[simp] theorem setPage_thm (s : State) : ∀ st n f, (s.setPage st n f).thm = s.thm := fun _ _ _ => rfl
@[simp] theorem setPage_rim (s : State) : ∀ st n f, (s.setPage st n f).rim = s.rim := fun _ _ _ => rfl
@[simp] theorem setPage_dma (s : State) : ∀ st n f, (s.setPage st n f).dma = s.dma := fun _ _ _ => rfl
@[simp] theorem setPage_img (s : State) : ∀ st n f, (s.setPage st n f).img = s.img := fun _ _ _ => rfl
@[simp] theorem setPage_shs (s : State) : ∀ st n f, (s.setPage st n f).shs = s.shs := fun _ _ _ => rfl
@[simp] theorem setPage_pair (s : State) : ∀ st n f, (s.setPage st n f).pair = s.pair := fun _ _ _ => rfl
@[simp] theorem setPage_bg (s : State) : ∀ st n f, (s.setPage st n f).bg = s.bg := fun _ _ _ => rfl
@[simp] theorem pulse_pending (s : State) : ∀ l d, (s.pulse l d).pending = s.pending := fun _ _ => rfl
@[simp] theorem pulse_free (s : State) : ∀ l d, (s.pulse l d).free = s.free := fun _ _ => rfl
@[simp] theorem pulse_reg (s : State) : ∀ l d, (s.pulse l d).reg = s.reg := fun _ _ => rfl
@[simp] theorem pulse_led (s : State) : ∀ l d, (s.pulse l d).led = s.led := fun _ _ => rfl
@[simp] theorem pulse_saf (s : State) : ∀ l d, (s.pulse l d).saf = s.saf := fun _ _ => rfl
@[simp] theorem pulse_clk (s : State) : ∀ l d, (s.pulse l d).clk = s.clk := fun _ _ => rfl
@[simp] theorem pulse_pwr (s : State) : ∀ l d, (s.pulse l d).pwr = s.pwr := fun _ _ => rfl
@[simp] theorem pulse_boot (s : State) : ∀ l d, (s.pulse l d).boot = s.boot := fun _ _ => rfl
@[simp] theorem pulse_mot (s : State) : ∀ l d, (s.pulse l d).mot = s.mot := fun _ _ => rfl
@[simp] theorem pulse_axs (s : State) : ∀ l d, (s.pulse l d).axs = s.axs := fun _ _ => rfl
@[simp] theorem pulse_fb (s : State) : ∀ l d, (s.pulse l d).fb = s.fb := fun _ _ => rfl
@[simp] theorem pulse_cle (s : State) : ∀ l d, (s.pulse l d).cle = s.cle := fun _ _ => rfl
@[simp] theorem pulse_thm (s : State) : ∀ l d, (s.pulse l d).thm = s.thm := fun _ _ => rfl
@[simp] theorem pulse_rim (s : State) : ∀ l d, (s.pulse l d).rim = s.rim := fun _ _ => rfl
@[simp] theorem pulse_itk (s : State) : ∀ l d, (s.pulse l d).itk = s.itk := fun _ _ => rfl
@[simp] theorem pulse_dma (s : State) : ∀ l d, (s.pulse l d).dma = s.dma := fun _ _ => rfl
@[simp] theorem pulse_img (s : State) : ∀ l d, (s.pulse l d).img = s.img := fun _ _ => rfl
@[simp] theorem pulse_shs (s : State) : ∀ l d, (s.pulse l d).shs = s.shs := fun _ _ => rfl
@[simp] theorem pulse_pair (s : State) : ∀ l d, (s.pulse l d).pair = s.pair := fun _ _ => rfl
@[simp] theorem pulse_bg (s : State) : ∀ l d, (s.pulse l d).bg = s.bg := fun _ _ => rfl
@[simp] theorem record_pending (s : State) : ∀ r, (s.record r).pending = s.pending := fun _ => rfl
@[simp] theorem record_free (s : State) : ∀ r, (s.record r).free = s.free := fun _ => rfl
@[simp] theorem record_io (s : State) : ∀ r, (s.record r).io = s.io := fun _ => rfl
@[simp] theorem record_reg (s : State) : ∀ r, (s.record r).reg = s.reg := fun _ => rfl
@[simp] theorem record_saf (s : State) : ∀ r, (s.record r).saf = s.saf := fun _ => rfl
@[simp] theorem record_clk (s : State) : ∀ r, (s.record r).clk = s.clk := fun _ => rfl
@[simp] theorem record_pwr (s : State) : ∀ r, (s.record r).pwr = s.pwr := fun _ => rfl
@[simp] theorem record_boot (s : State) : ∀ r, (s.record r).boot = s.boot := fun _ => rfl
@[simp] theorem record_mot (s : State) : ∀ r, (s.record r).mot = s.mot := fun _ => rfl
@[simp] theorem record_axs (s : State) : ∀ r, (s.record r).axs = s.axs := fun _ => rfl
@[simp] theorem record_fb (s : State) : ∀ r, (s.record r).fb = s.fb := fun _ => rfl
@[simp] theorem record_cle (s : State) : ∀ r, (s.record r).cle = s.cle := fun _ => rfl
@[simp] theorem record_thm (s : State) : ∀ r, (s.record r).thm = s.thm := fun _ => rfl
@[simp] theorem record_rim (s : State) : ∀ r, (s.record r).rim = s.rim := fun _ => rfl
@[simp] theorem record_itk (s : State) : ∀ r, (s.record r).itk = s.itk := fun _ => rfl
@[simp] theorem record_dma (s : State) : ∀ r, (s.record r).dma = s.dma := fun _ => rfl
@[simp] theorem record_img (s : State) : ∀ r, (s.record r).img = s.img := fun _ => rfl
@[simp] theorem record_shs (s : State) : ∀ r, (s.record r).shs = s.shs := fun _ => rfl
@[simp] theorem record_pair (s : State) : ∀ r, (s.record r).pair = s.pair := fun _ => rfl
@[simp] theorem record_bg (s : State) : ∀ r, (s.record r).bg = s.bg := fun _ => rfl
@[simp] theorem recordNext_pending (s : State) : ∀ r, (s.recordNext r).pending = s.pending := fun _ => rfl
@[simp] theorem recordNext_free (s : State) : ∀ r, (s.recordNext r).free = s.free := fun _ => rfl
@[simp] theorem recordNext_io (s : State) : ∀ r, (s.recordNext r).io = s.io := fun _ => rfl
@[simp] theorem recordNext_reg (s : State) : ∀ r, (s.recordNext r).reg = s.reg := fun _ => rfl
@[simp] theorem recordNext_saf (s : State) : ∀ r, (s.recordNext r).saf = s.saf := fun _ => rfl
@[simp] theorem recordNext_clk (s : State) : ∀ r, (s.recordNext r).clk = s.clk := fun _ => rfl
@[simp] theorem recordNext_pwr (s : State) : ∀ r, (s.recordNext r).pwr = s.pwr := fun _ => rfl
@[simp] theorem recordNext_boot (s : State) : ∀ r, (s.recordNext r).boot = s.boot := fun _ => rfl
@[simp] theorem recordNext_mot (s : State) : ∀ r, (s.recordNext r).mot = s.mot := fun _ => rfl
@[simp] theorem recordNext_axs (s : State) : ∀ r, (s.recordNext r).axs = s.axs := fun _ => rfl
@[simp] theorem recordNext_fb (s : State) : ∀ r, (s.recordNext r).fb = s.fb := fun _ => rfl
@[simp] theorem recordNext_cle (s : State) : ∀ r, (s.recordNext r).cle = s.cle := fun _ => rfl
@[simp] theorem recordNext_thm (s : State) : ∀ r, (s.recordNext r).thm = s.thm := fun _ => rfl
@[simp] theorem recordNext_rim (s : State) : ∀ r, (s.recordNext r).rim = s.rim := fun _ => rfl
@[simp] theorem recordNext_itk (s : State) : ∀ r, (s.recordNext r).itk = s.itk := fun _ => rfl
@[simp] theorem recordNext_dma (s : State) : ∀ r, (s.recordNext r).dma = s.dma := fun _ => rfl
@[simp] theorem recordNext_img (s : State) : ∀ r, (s.recordNext r).img = s.img := fun _ => rfl
@[simp] theorem recordNext_shs (s : State) : ∀ r, (s.recordNext r).shs = s.shs := fun _ => rfl
@[simp] theorem recordNext_pair (s : State) : ∀ r, (s.recordNext r).pair = s.pair := fun _ => rfl
@[simp] theorem recordNext_bg (s : State) : ∀ r, (s.recordNext r).bg = s.bg := fun _ => rfl
@[simp] theorem protect_pending (s : State) : ∀ a b c d e, (s.protect a b c d e).pending = s.pending := fun _ _ _ _ _ => rfl
@[simp] theorem protect_free (s : State) : ∀ a b c d e, (s.protect a b c d e).free = s.free := fun _ _ _ _ _ => rfl
@[simp] theorem protect_io (s : State) : ∀ a b c d e, (s.protect a b c d e).io = s.io := fun _ _ _ _ _ => rfl
@[simp] theorem protect_reg (s : State) : ∀ a b c d e, (s.protect a b c d e).reg = s.reg := fun _ _ _ _ _ => rfl
@[simp] theorem protect_saf (s : State) : ∀ a b c d e, (s.protect a b c d e).saf = s.saf := fun _ _ _ _ _ => rfl
@[simp] theorem protect_clk (s : State) : ∀ a b c d e, (s.protect a b c d e).clk = s.clk := fun _ _ _ _ _ => rfl
@[simp] theorem protect_pwr (s : State) : ∀ a b c d e, (s.protect a b c d e).pwr = s.pwr := fun _ _ _ _ _ => rfl
@[simp] theorem protect_boot (s : State) : ∀ a b c d e, (s.protect a b c d e).boot = s.boot := fun _ _ _ _ _ => rfl
@[simp] theorem protect_mot (s : State) : ∀ a b c d e, (s.protect a b c d e).mot = s.mot := fun _ _ _ _ _ => rfl
@[simp] theorem protect_axs (s : State) : ∀ a b c d e, (s.protect a b c d e).axs = s.axs := fun _ _ _ _ _ => rfl
@[simp] theorem protect_fb (s : State) : ∀ a b c d e, (s.protect a b c d e).fb = s.fb := fun _ _ _ _ _ => rfl
@[simp] theorem protect_cle (s : State) : ∀ a b c d e, (s.protect a b c d e).cle = s.cle := fun _ _ _ _ _ => rfl
@[simp] theorem protect_thm (s : State) : ∀ a b c d e, (s.protect a b c d e).thm = s.thm := fun _ _ _ _ _ => rfl
@[simp] theorem protect_rim (s : State) : ∀ a b c d e, (s.protect a b c d e).rim = s.rim := fun _ _ _ _ _ => rfl
@[simp] theorem protect_itk (s : State) : ∀ a b c d e, (s.protect a b c d e).itk = s.itk := fun _ _ _ _ _ => rfl
@[simp] theorem protect_dma (s : State) : ∀ a b c d e, (s.protect a b c d e).dma = s.dma := fun _ _ _ _ _ => rfl
@[simp] theorem protect_img (s : State) : ∀ a b c d e, (s.protect a b c d e).img = s.img := fun _ _ _ _ _ => rfl
@[simp] theorem protect_shs (s : State) : ∀ a b c d e, (s.protect a b c d e).shs = s.shs := fun _ _ _ _ _ => rfl
@[simp] theorem protect_pair (s : State) : ∀ a b c d e, (s.protect a b c d e).pair = s.pair := fun _ _ _ _ _ => rfl
@[simp] theorem protect_bg (s : State) : ∀ a b c d e, (s.protect a b c d e).bg = s.bg := fun _ _ _ _ _ => rfl
@[simp] theorem setRail_pending (s : State) : ∀ n f, (s.setRail n f).pending = s.pending := fun _ _ => rfl
@[simp] theorem setRail_free (s : State) : ∀ n f, (s.setRail n f).free = s.free := fun _ _ => rfl
@[simp] theorem setRail_io (s : State) : ∀ n f, (s.setRail n f).io = s.io := fun _ _ => rfl
@[simp] theorem setRail_reg (s : State) : ∀ n f, (s.setRail n f).reg = s.reg := fun _ _ => rfl
@[simp] theorem setRail_led (s : State) : ∀ n f, (s.setRail n f).led = s.led := fun _ _ => rfl
@[simp] theorem setRail_saf (s : State) : ∀ n f, (s.setRail n f).saf = s.saf := fun _ _ => rfl
@[simp] theorem setRail_clk (s : State) : ∀ n f, (s.setRail n f).clk = s.clk := fun _ _ => rfl
@[simp] theorem setRail_boot (s : State) : ∀ n f, (s.setRail n f).boot = s.boot := fun _ _ => rfl
@[simp] theorem setRail_mot (s : State) : ∀ n f, (s.setRail n f).mot = s.mot := fun _ _ => rfl
@[simp] theorem setRail_axs (s : State) : ∀ n f, (s.setRail n f).axs = s.axs := fun _ _ => rfl
@[simp] theorem setRail_fb (s : State) : ∀ n f, (s.setRail n f).fb = s.fb := fun _ _ => rfl
@[simp] theorem setRail_cle (s : State) : ∀ n f, (s.setRail n f).cle = s.cle := fun _ _ => rfl
@[simp] theorem setRail_thm (s : State) : ∀ n f, (s.setRail n f).thm = s.thm := fun _ _ => rfl
@[simp] theorem setRail_rim (s : State) : ∀ n f, (s.setRail n f).rim = s.rim := fun _ _ => rfl
@[simp] theorem setRail_itk (s : State) : ∀ n f, (s.setRail n f).itk = s.itk := fun _ _ => rfl
@[simp] theorem setRail_dma (s : State) : ∀ n f, (s.setRail n f).dma = s.dma := fun _ _ => rfl
@[simp] theorem setRail_img (s : State) : ∀ n f, (s.setRail n f).img = s.img := fun _ _ => rfl
@[simp] theorem setRail_shs (s : State) : ∀ n f, (s.setRail n f).shs = s.shs := fun _ _ => rfl
@[simp] theorem setRail_pair (s : State) : ∀ n f, (s.setRail n f).pair = s.pair := fun _ _ => rfl
@[simp] theorem setRail_bg (s : State) : ∀ n f, (s.setRail n f).bg = s.bg := fun _ _ => rfl
@[simp] theorem setHamper_pending (s : State) : ∀ n f, (s.setHamper n f).pending = s.pending := fun _ _ => rfl
@[simp] theorem setHamper_free (s : State) : ∀ n f, (s.setHamper n f).free = s.free := fun _ _ => rfl
@[simp] theorem setHamper_reg (s : State) : ∀ n f, (s.setHamper n f).reg = s.reg := fun _ _ => rfl
@[simp] theorem setHamper_led (s : State) : ∀ n f, (s.setHamper n f).led = s.led := fun _ _ => rfl
@[simp] theorem setHamper_saf (s : State) : ∀ n f, (s.setHamper n f).saf = s.saf := fun _ _ => rfl
@[simp] theorem setHamper_clk (s : State) : ∀ n f, (s.setHamper n f).clk = s.clk := fun _ _ => rfl
@[simp] theorem setHamper_pwr (s : State) : ∀ n f, (s.setHamper n f).pwr = s.pwr := fun _ _ => rfl
@[simp] theorem setHamper_boot (s : State) : ∀ n f, (s.setHamper n f).boot = s.boot := fun _ _ => rfl
@[simp] theorem setHamper_mot (s : State) : ∀ n f, (s.setHamper n f).mot = s.mot := fun _ _ => rfl
@[simp] theorem setHamper_axs (s : State) : ∀ n f, (s.setHamper n f).axs = s.axs := fun _ _ => rfl
@[simp] theorem setHamper_fb (s : State) : ∀ n f, (s.setHamper n f).fb = s.fb := fun _ _ => rfl
@[simp] theorem setHamper_cle (s : State) : ∀ n f, (s.setHamper n f).cle = s.cle := fun _ _ => rfl
@[simp] theorem setHamper_thm (s : State) : ∀ n f, (s.setHamper n f).thm = s.thm := fun _ _ => rfl
@[simp] theorem setHamper_rim (s : State) : ∀ n f, (s.setHamper n f).rim = s.rim := fun _ _ => rfl
@[simp] theorem setHamper_itk (s : State) : ∀ n f, (s.setHamper n f).itk = s.itk := fun _ _ => rfl
@[simp] theorem setHamper_dma (s : State) : ∀ n f, (s.setHamper n f).dma = s.dma := fun _ _ => rfl
@[simp] theorem setHamper_img (s : State) : ∀ n f, (s.setHamper n f).img = s.img := fun _ _ => rfl
@[simp] theorem setHamper_shs (s : State) : ∀ n f, (s.setHamper n f).shs = s.shs := fun _ _ => rfl
@[simp] theorem setHamper_pair (s : State) : ∀ n f, (s.setHamper n f).pair = s.pair := fun _ _ => rfl
@[simp] theorem setHamper_bg (s : State) : ∀ n f, (s.setHamper n f).bg = s.bg := fun _ _ => rfl
@[simp] theorem setSnap_pending (s : State) : ∀ n f, (s.setSnap n f).pending = s.pending := fun _ _ => rfl
@[simp] theorem setSnap_free (s : State) : ∀ n f, (s.setSnap n f).free = s.free := fun _ _ => rfl
@[simp] theorem setSnap_io (s : State) : ∀ n f, (s.setSnap n f).io = s.io := fun _ _ => rfl
@[simp] theorem setSnap_led (s : State) : ∀ n f, (s.setSnap n f).led = s.led := fun _ _ => rfl
@[simp] theorem setSnap_saf (s : State) : ∀ n f, (s.setSnap n f).saf = s.saf := fun _ _ => rfl
@[simp] theorem setSnap_clk (s : State) : ∀ n f, (s.setSnap n f).clk = s.clk := fun _ _ => rfl
@[simp] theorem setSnap_pwr (s : State) : ∀ n f, (s.setSnap n f).pwr = s.pwr := fun _ _ => rfl
@[simp] theorem setSnap_boot (s : State) : ∀ n f, (s.setSnap n f).boot = s.boot := fun _ _ => rfl
@[simp] theorem setSnap_mot (s : State) : ∀ n f, (s.setSnap n f).mot = s.mot := fun _ _ => rfl
@[simp] theorem setSnap_axs (s : State) : ∀ n f, (s.setSnap n f).axs = s.axs := fun _ _ => rfl
@[simp] theorem setSnap_fb (s : State) : ∀ n f, (s.setSnap n f).fb = s.fb := fun _ _ => rfl
@[simp] theorem setSnap_cle (s : State) : ∀ n f, (s.setSnap n f).cle = s.cle := fun _ _ => rfl
@[simp] theorem setSnap_thm (s : State) : ∀ n f, (s.setSnap n f).thm = s.thm := fun _ _ => rfl
@[simp] theorem setSnap_rim (s : State) : ∀ n f, (s.setSnap n f).rim = s.rim := fun _ _ => rfl
@[simp] theorem setSnap_itk (s : State) : ∀ n f, (s.setSnap n f).itk = s.itk := fun _ _ => rfl
@[simp] theorem setSnap_dma (s : State) : ∀ n f, (s.setSnap n f).dma = s.dma := fun _ _ => rfl
@[simp] theorem setSnap_img (s : State) : ∀ n f, (s.setSnap n f).img = s.img := fun _ _ => rfl
@[simp] theorem setSnap_shs (s : State) : ∀ n f, (s.setSnap n f).shs = s.shs := fun _ _ => rfl
@[simp] theorem setSnap_pair (s : State) : ∀ n f, (s.setSnap n f).pair = s.pair := fun _ _ => rfl
@[simp] theorem setSnap_bg (s : State) : ∀ n f, (s.setSnap n f).bg = s.bg := fun _ _ => rfl
@[simp] theorem setNode_pending (s : State) : ∀ n f, (s.setNode n f).pending = s.pending := fun _ _ => rfl
@[simp] theorem setNode_free (s : State) : ∀ n f, (s.setNode n f).free = s.free := fun _ _ => rfl
@[simp] theorem setNode_io (s : State) : ∀ n f, (s.setNode n f).io = s.io := fun _ _ => rfl
@[simp] theorem setNode_reg (s : State) : ∀ n f, (s.setNode n f).reg = s.reg := fun _ _ => rfl
@[simp] theorem setNode_led (s : State) : ∀ n f, (s.setNode n f).led = s.led := fun _ _ => rfl
@[simp] theorem setNode_saf (s : State) : ∀ n f, (s.setNode n f).saf = s.saf := fun _ _ => rfl
@[simp] theorem setNode_clk (s : State) : ∀ n f, (s.setNode n f).clk = s.clk := fun _ _ => rfl
@[simp] theorem setNode_pwr (s : State) : ∀ n f, (s.setNode n f).pwr = s.pwr := fun _ _ => rfl
@[simp] theorem setNode_boot (s : State) : ∀ n f, (s.setNode n f).boot = s.boot := fun _ _ => rfl
@[simp] theorem setNode_mot (s : State) : ∀ n f, (s.setNode n f).mot = s.mot := fun _ _ => rfl
@[simp] theorem setNode_axs (s : State) : ∀ n f, (s.setNode n f).axs = s.axs := fun _ _ => rfl
@[simp] theorem setNode_fb (s : State) : ∀ n f, (s.setNode n f).fb = s.fb := fun _ _ => rfl
@[simp] theorem setNode_cle (s : State) : ∀ n f, (s.setNode n f).cle = s.cle := fun _ _ => rfl
@[simp] theorem setNode_thm (s : State) : ∀ n f, (s.setNode n f).thm = s.thm := fun _ _ => rfl
@[simp] theorem setNode_itk (s : State) : ∀ n f, (s.setNode n f).itk = s.itk := fun _ _ => rfl
@[simp] theorem setNode_dma (s : State) : ∀ n f, (s.setNode n f).dma = s.dma := fun _ _ => rfl
@[simp] theorem setNode_img (s : State) : ∀ n f, (s.setNode n f).img = s.img := fun _ _ => rfl
@[simp] theorem setNode_shs (s : State) : ∀ n f, (s.setNode n f).shs = s.shs := fun _ _ => rfl
@[simp] theorem setNode_pair (s : State) : ∀ n f, (s.setNode n f).pair = s.pair := fun _ _ => rfl
@[simp] theorem setNode_bg (s : State) : ∀ n f, (s.setNode n f).bg = s.bg := fun _ _ => rfl
@[simp] theorem setStn_pending (s : State) : ∀ n f, (s.setStn n f).pending = s.pending := fun _ _ => rfl
@[simp] theorem setStn_free (s : State) : ∀ n f, (s.setStn n f).free = s.free := fun _ _ => rfl
@[simp] theorem setStn_io (s : State) : ∀ n f, (s.setStn n f).io = s.io := fun _ _ => rfl
@[simp] theorem setStn_reg (s : State) : ∀ n f, (s.setStn n f).reg = s.reg := fun _ _ => rfl
@[simp] theorem setStn_led (s : State) : ∀ n f, (s.setStn n f).led = s.led := fun _ _ => rfl
@[simp] theorem setStn_saf (s : State) : ∀ n f, (s.setStn n f).saf = s.saf := fun _ _ => rfl
@[simp] theorem setStn_clk (s : State) : ∀ n f, (s.setStn n f).clk = s.clk := fun _ _ => rfl
@[simp] theorem setStn_pwr (s : State) : ∀ n f, (s.setStn n f).pwr = s.pwr := fun _ _ => rfl
@[simp] theorem setStn_boot (s : State) : ∀ n f, (s.setStn n f).boot = s.boot := fun _ _ => rfl
@[simp] theorem setStn_mot (s : State) : ∀ n f, (s.setStn n f).mot = s.mot := fun _ _ => rfl
@[simp] theorem setStn_axs (s : State) : ∀ n f, (s.setStn n f).axs = s.axs := fun _ _ => rfl
@[simp] theorem setStn_fb (s : State) : ∀ n f, (s.setStn n f).fb = s.fb := fun _ _ => rfl
@[simp] theorem setStn_cle (s : State) : ∀ n f, (s.setStn n f).cle = s.cle := fun _ _ => rfl
@[simp] theorem setStn_thm (s : State) : ∀ n f, (s.setStn n f).thm = s.thm := fun _ _ => rfl
@[simp] theorem setStn_rim (s : State) : ∀ n f, (s.setStn n f).rim = s.rim := fun _ _ => rfl
@[simp] theorem setStn_itk (s : State) : ∀ n f, (s.setStn n f).itk = s.itk := fun _ _ => rfl
@[simp] theorem setStn_dma (s : State) : ∀ n f, (s.setStn n f).dma = s.dma := fun _ _ => rfl
@[simp] theorem setStn_shs (s : State) : ∀ n f, (s.setStn n f).shs = s.shs := fun _ _ => rfl
@[simp] theorem setStn_pair (s : State) : ∀ n f, (s.setStn n f).pair = s.pair := fun _ _ => rfl
@[simp] theorem setStn_bg (s : State) : ∀ n f, (s.setStn n f).bg = s.bg := fun _ _ => rfl
@[simp] theorem setWvr_pending (s : State) : ∀ n f, (s.setWvr n f).pending = s.pending := fun _ _ => rfl
@[simp] theorem setWvr_free (s : State) : ∀ n f, (s.setWvr n f).free = s.free := fun _ _ => rfl
@[simp] theorem setWvr_io (s : State) : ∀ n f, (s.setWvr n f).io = s.io := fun _ _ => rfl
@[simp] theorem setWvr_reg (s : State) : ∀ n f, (s.setWvr n f).reg = s.reg := fun _ _ => rfl
@[simp] theorem setWvr_led (s : State) : ∀ n f, (s.setWvr n f).led = s.led := fun _ _ => rfl
@[simp] theorem setWvr_saf (s : State) : ∀ n f, (s.setWvr n f).saf = s.saf := fun _ _ => rfl
@[simp] theorem setWvr_clk (s : State) : ∀ n f, (s.setWvr n f).clk = s.clk := fun _ _ => rfl
@[simp] theorem setWvr_pwr (s : State) : ∀ n f, (s.setWvr n f).pwr = s.pwr := fun _ _ => rfl
@[simp] theorem setWvr_boot (s : State) : ∀ n f, (s.setWvr n f).boot = s.boot := fun _ _ => rfl
@[simp] theorem setWvr_mot (s : State) : ∀ n f, (s.setWvr n f).mot = s.mot := fun _ _ => rfl
@[simp] theorem setWvr_axs (s : State) : ∀ n f, (s.setWvr n f).axs = s.axs := fun _ _ => rfl
@[simp] theorem setWvr_fb (s : State) : ∀ n f, (s.setWvr n f).fb = s.fb := fun _ _ => rfl
@[simp] theorem setWvr_cle (s : State) : ∀ n f, (s.setWvr n f).cle = s.cle := fun _ _ => rfl
@[simp] theorem setWvr_thm (s : State) : ∀ n f, (s.setWvr n f).thm = s.thm := fun _ _ => rfl
@[simp] theorem setWvr_rim (s : State) : ∀ n f, (s.setWvr n f).rim = s.rim := fun _ _ => rfl
@[simp] theorem setWvr_itk (s : State) : ∀ n f, (s.setWvr n f).itk = s.itk := fun _ _ => rfl
@[simp] theorem setWvr_dma (s : State) : ∀ n f, (s.setWvr n f).dma = s.dma := fun _ _ => rfl
@[simp] theorem setWvr_shs (s : State) : ∀ n f, (s.setWvr n f).shs = s.shs := fun _ _ => rfl
@[simp] theorem setWvr_pair (s : State) : ∀ n f, (s.setWvr n f).pair = s.pair := fun _ _ => rfl
@[simp] theorem setWvr_bg (s : State) : ∀ n f, (s.setWvr n f).bg = s.bg := fun _ _ => rfl
@[simp] theorem setPoly_pending (s : State) : ∀ n f, (s.setPoly n f).pending = s.pending := fun _ _ => rfl
@[simp] theorem setPoly_free (s : State) : ∀ n f, (s.setPoly n f).free = s.free := fun _ _ => rfl
@[simp] theorem setPoly_io (s : State) : ∀ n f, (s.setPoly n f).io = s.io := fun _ _ => rfl
@[simp] theorem setPoly_reg (s : State) : ∀ n f, (s.setPoly n f).reg = s.reg := fun _ _ => rfl
@[simp] theorem setPoly_led (s : State) : ∀ n f, (s.setPoly n f).led = s.led := fun _ _ => rfl
@[simp] theorem setPoly_saf (s : State) : ∀ n f, (s.setPoly n f).saf = s.saf := fun _ _ => rfl
@[simp] theorem setPoly_clk (s : State) : ∀ n f, (s.setPoly n f).clk = s.clk := fun _ _ => rfl
@[simp] theorem setPoly_pwr (s : State) : ∀ n f, (s.setPoly n f).pwr = s.pwr := fun _ _ => rfl
@[simp] theorem setPoly_boot (s : State) : ∀ n f, (s.setPoly n f).boot = s.boot := fun _ _ => rfl
@[simp] theorem setPoly_mot (s : State) : ∀ n f, (s.setPoly n f).mot = s.mot := fun _ _ => rfl
@[simp] theorem setPoly_axs (s : State) : ∀ n f, (s.setPoly n f).axs = s.axs := fun _ _ => rfl
@[simp] theorem setPoly_fb (s : State) : ∀ n f, (s.setPoly n f).fb = s.fb := fun _ _ => rfl
@[simp] theorem setPoly_cle (s : State) : ∀ n f, (s.setPoly n f).cle = s.cle := fun _ _ => rfl
@[simp] theorem setPoly_thm (s : State) : ∀ n f, (s.setPoly n f).thm = s.thm := fun _ _ => rfl
@[simp] theorem setPoly_rim (s : State) : ∀ n f, (s.setPoly n f).rim = s.rim := fun _ _ => rfl
@[simp] theorem setPoly_itk (s : State) : ∀ n f, (s.setPoly n f).itk = s.itk := fun _ _ => rfl
@[simp] theorem setPoly_dma (s : State) : ∀ n f, (s.setPoly n f).dma = s.dma := fun _ _ => rfl
@[simp] theorem setPoly_shs (s : State) : ∀ n f, (s.setPoly n f).shs = s.shs := fun _ _ => rfl
@[simp] theorem setPoly_pair (s : State) : ∀ n f, (s.setPoly n f).pair = s.pair := fun _ _ => rfl
@[simp] theorem setPoly_bg (s : State) : ∀ n f, (s.setPoly n f).bg = s.bg := fun _ _ => rfl
@[simp] theorem setSheet_pending (s : State) : ∀ n f, (s.setSheet n f).pending = s.pending := fun _ _ => rfl
@[simp] theorem setSheet_free (s : State) : ∀ n f, (s.setSheet n f).free = s.free := fun _ _ => rfl
@[simp] theorem setSheet_io (s : State) : ∀ n f, (s.setSheet n f).io = s.io := fun _ _ => rfl
@[simp] theorem setSheet_reg (s : State) : ∀ n f, (s.setSheet n f).reg = s.reg := fun _ _ => rfl
@[simp] theorem setSheet_led (s : State) : ∀ n f, (s.setSheet n f).led = s.led := fun _ _ => rfl
@[simp] theorem setSheet_saf (s : State) : ∀ n f, (s.setSheet n f).saf = s.saf := fun _ _ => rfl
@[simp] theorem setSheet_clk (s : State) : ∀ n f, (s.setSheet n f).clk = s.clk := fun _ _ => rfl
@[simp] theorem setSheet_pwr (s : State) : ∀ n f, (s.setSheet n f).pwr = s.pwr := fun _ _ => rfl
@[simp] theorem setSheet_boot (s : State) : ∀ n f, (s.setSheet n f).boot = s.boot := fun _ _ => rfl
@[simp] theorem setSheet_mot (s : State) : ∀ n f, (s.setSheet n f).mot = s.mot := fun _ _ => rfl
@[simp] theorem setSheet_axs (s : State) : ∀ n f, (s.setSheet n f).axs = s.axs := fun _ _ => rfl
@[simp] theorem setSheet_fb (s : State) : ∀ n f, (s.setSheet n f).fb = s.fb := fun _ _ => rfl
@[simp] theorem setSheet_cle (s : State) : ∀ n f, (s.setSheet n f).cle = s.cle := fun _ _ => rfl
@[simp] theorem setSheet_thm (s : State) : ∀ n f, (s.setSheet n f).thm = s.thm := fun _ _ => rfl
@[simp] theorem setSheet_rim (s : State) : ∀ n f, (s.setSheet n f).rim = s.rim := fun _ _ => rfl
@[simp] theorem setSheet_itk (s : State) : ∀ n f, (s.setSheet n f).itk = s.itk := fun _ _ => rfl
@[simp] theorem setSheet_dma (s : State) : ∀ n f, (s.setSheet n f).dma = s.dma := fun _ _ => rfl
@[simp] theorem setSheet_img (s : State) : ∀ n f, (s.setSheet n f).img = s.img := fun _ _ => rfl
@[simp] theorem setSheet_pair (s : State) : ∀ n f, (s.setSheet n f).pair = s.pair := fun _ _ => rfl
@[simp] theorem setSheet_bg (s : State) : ∀ n f, (s.setSheet n f).bg = s.bg := fun _ _ => rfl
@[simp] theorem setJob_pending (s : State) : ∀ n f, (s.setJob n f).pending = s.pending := fun _ _ => rfl
@[simp] theorem setJob_free (s : State) : ∀ n f, (s.setJob n f).free = s.free := fun _ _ => rfl
@[simp] theorem setJob_io (s : State) : ∀ n f, (s.setJob n f).io = s.io := fun _ _ => rfl
@[simp] theorem setJob_reg (s : State) : ∀ n f, (s.setJob n f).reg = s.reg := fun _ _ => rfl
@[simp] theorem setJob_led (s : State) : ∀ n f, (s.setJob n f).led = s.led := fun _ _ => rfl
@[simp] theorem setJob_saf (s : State) : ∀ n f, (s.setJob n f).saf = s.saf := fun _ _ => rfl
@[simp] theorem setJob_clk (s : State) : ∀ n f, (s.setJob n f).clk = s.clk := fun _ _ => rfl
@[simp] theorem setJob_pwr (s : State) : ∀ n f, (s.setJob n f).pwr = s.pwr := fun _ _ => rfl
@[simp] theorem setJob_boot (s : State) : ∀ n f, (s.setJob n f).boot = s.boot := fun _ _ => rfl
@[simp] theorem setJob_mot (s : State) : ∀ n f, (s.setJob n f).mot = s.mot := fun _ _ => rfl
@[simp] theorem setJob_axs (s : State) : ∀ n f, (s.setJob n f).axs = s.axs := fun _ _ => rfl
@[simp] theorem setJob_fb (s : State) : ∀ n f, (s.setJob n f).fb = s.fb := fun _ _ => rfl
@[simp] theorem setJob_cle (s : State) : ∀ n f, (s.setJob n f).cle = s.cle := fun _ _ => rfl
@[simp] theorem setJob_thm (s : State) : ∀ n f, (s.setJob n f).thm = s.thm := fun _ _ => rfl
@[simp] theorem setJob_rim (s : State) : ∀ n f, (s.setJob n f).rim = s.rim := fun _ _ => rfl
@[simp] theorem setJob_itk (s : State) : ∀ n f, (s.setJob n f).itk = s.itk := fun _ _ => rfl
@[simp] theorem setJob_dma (s : State) : ∀ n f, (s.setJob n f).dma = s.dma := fun _ _ => rfl
@[simp] theorem setJob_img (s : State) : ∀ n f, (s.setJob n f).img = s.img := fun _ _ => rfl
@[simp] theorem setJob_pair (s : State) : ∀ n f, (s.setJob n f).pair = s.pair := fun _ _ => rfl
@[simp] theorem setJob_bg (s : State) : ∀ n f, (s.setJob n f).bg = s.bg := fun _ _ => rfl
@[simp] theorem setRec_pending (s : State) : ∀ n a b f, (s.setRec n a b f).pending = s.pending := fun _ _ _ _ => rfl
@[simp] theorem setRec_free (s : State) : ∀ n a b f, (s.setRec n a b f).free = s.free := fun _ _ _ _ => rfl
@[simp] theorem setRec_io (s : State) : ∀ n a b f, (s.setRec n a b f).io = s.io := fun _ _ _ _ => rfl
@[simp] theorem setRec_reg (s : State) : ∀ n a b f, (s.setRec n a b f).reg = s.reg := fun _ _ _ _ => rfl
@[simp] theorem setRec_led (s : State) : ∀ n a b f, (s.setRec n a b f).led = s.led := fun _ _ _ _ => rfl
@[simp] theorem setRec_saf (s : State) : ∀ n a b f, (s.setRec n a b f).saf = s.saf := fun _ _ _ _ => rfl
@[simp] theorem setRec_clk (s : State) : ∀ n a b f, (s.setRec n a b f).clk = s.clk := fun _ _ _ _ => rfl
@[simp] theorem setRec_pwr (s : State) : ∀ n a b f, (s.setRec n a b f).pwr = s.pwr := fun _ _ _ _ => rfl
@[simp] theorem setRec_boot (s : State) : ∀ n a b f, (s.setRec n a b f).boot = s.boot := fun _ _ _ _ => rfl
@[simp] theorem setRec_mot (s : State) : ∀ n a b f, (s.setRec n a b f).mot = s.mot := fun _ _ _ _ => rfl
@[simp] theorem setRec_axs (s : State) : ∀ n a b f, (s.setRec n a b f).axs = s.axs := fun _ _ _ _ => rfl
@[simp] theorem setRec_fb (s : State) : ∀ n a b f, (s.setRec n a b f).fb = s.fb := fun _ _ _ _ => rfl
@[simp] theorem setRec_cle (s : State) : ∀ n a b f, (s.setRec n a b f).cle = s.cle := fun _ _ _ _ => rfl
@[simp] theorem setRec_thm (s : State) : ∀ n a b f, (s.setRec n a b f).thm = s.thm := fun _ _ _ _ => rfl
@[simp] theorem setRec_rim (s : State) : ∀ n a b f, (s.setRec n a b f).rim = s.rim := fun _ _ _ _ => rfl
@[simp] theorem setRec_itk (s : State) : ∀ n a b f, (s.setRec n a b f).itk = s.itk := fun _ _ _ _ => rfl
@[simp] theorem setRec_dma (s : State) : ∀ n a b f, (s.setRec n a b f).dma = s.dma := fun _ _ _ _ => rfl
@[simp] theorem setRec_img (s : State) : ∀ n a b f, (s.setRec n a b f).img = s.img := fun _ _ _ _ => rfl
@[simp] theorem setRec_pair (s : State) : ∀ n a b f, (s.setRec n a b f).pair = s.pair := fun _ _ _ _ => rfl
@[simp] theorem setRec_bg (s : State) : ∀ n a b f, (s.setRec n a b f).bg = s.bg := fun _ _ _ _ => rfl
@[simp] theorem setSide_pending (s : State) : ∀ i a b f, (s.setSide i a b f).pending = s.pending := fun _ _ _ _ => rfl
@[simp] theorem setSide_free (s : State) : ∀ i a b f, (s.setSide i a b f).free = s.free := fun _ _ _ _ => rfl
@[simp] theorem setSide_io (s : State) : ∀ i a b f, (s.setSide i a b f).io = s.io := fun _ _ _ _ => rfl
@[simp] theorem setSide_reg (s : State) : ∀ i a b f, (s.setSide i a b f).reg = s.reg := fun _ _ _ _ => rfl
@[simp] theorem setSide_led (s : State) : ∀ i a b f, (s.setSide i a b f).led = s.led := fun _ _ _ _ => rfl
@[simp] theorem setSide_saf (s : State) : ∀ i a b f, (s.setSide i a b f).saf = s.saf := fun _ _ _ _ => rfl
@[simp] theorem setSide_clk (s : State) : ∀ i a b f, (s.setSide i a b f).clk = s.clk := fun _ _ _ _ => rfl
@[simp] theorem setSide_pwr (s : State) : ∀ i a b f, (s.setSide i a b f).pwr = s.pwr := fun _ _ _ _ => rfl
@[simp] theorem setSide_boot (s : State) : ∀ i a b f, (s.setSide i a b f).boot = s.boot := fun _ _ _ _ => rfl
@[simp] theorem setSide_mot (s : State) : ∀ i a b f, (s.setSide i a b f).mot = s.mot := fun _ _ _ _ => rfl
@[simp] theorem setSide_axs (s : State) : ∀ i a b f, (s.setSide i a b f).axs = s.axs := fun _ _ _ _ => rfl
@[simp] theorem setSide_fb (s : State) : ∀ i a b f, (s.setSide i a b f).fb = s.fb := fun _ _ _ _ => rfl
@[simp] theorem setSide_cle (s : State) : ∀ i a b f, (s.setSide i a b f).cle = s.cle := fun _ _ _ _ => rfl
@[simp] theorem setSide_thm (s : State) : ∀ i a b f, (s.setSide i a b f).thm = s.thm := fun _ _ _ _ => rfl
@[simp] theorem setSide_rim (s : State) : ∀ i a b f, (s.setSide i a b f).rim = s.rim := fun _ _ _ _ => rfl
@[simp] theorem setSide_itk (s : State) : ∀ i a b f, (s.setSide i a b f).itk = s.itk := fun _ _ _ _ => rfl
@[simp] theorem setSide_dma (s : State) : ∀ i a b f, (s.setSide i a b f).dma = s.dma := fun _ _ _ _ => rfl
@[simp] theorem setSide_shs (s : State) : ∀ i a b f, (s.setSide i a b f).shs = s.shs := fun _ _ _ _ => rfl
@[simp] theorem setSide_pair (s : State) : ∀ i a b f, (s.setSide i a b f).pair = s.pair := fun _ _ _ _ => rfl
@[simp] theorem setSide_bg (s : State) : ∀ i a b f, (s.setSide i a b f).bg = s.bg := fun _ _ _ _ => rfl
@[simp] theorem setLane_pending (s : State) : ∀ i m f, (s.setLane i m f).pending = s.pending := fun _ _ _ => rfl
@[simp] theorem setLane_free (s : State) : ∀ i m f, (s.setLane i m f).free = s.free := fun _ _ _ => rfl
@[simp] theorem setLane_io (s : State) : ∀ i m f, (s.setLane i m f).io = s.io := fun _ _ _ => rfl
@[simp] theorem setLane_reg (s : State) : ∀ i m f, (s.setLane i m f).reg = s.reg := fun _ _ _ => rfl
@[simp] theorem setLane_led (s : State) : ∀ i m f, (s.setLane i m f).led = s.led := fun _ _ _ => rfl
@[simp] theorem setLane_saf (s : State) : ∀ i m f, (s.setLane i m f).saf = s.saf := fun _ _ _ => rfl
@[simp] theorem setLane_clk (s : State) : ∀ i m f, (s.setLane i m f).clk = s.clk := fun _ _ _ => rfl
@[simp] theorem setLane_pwr (s : State) : ∀ i m f, (s.setLane i m f).pwr = s.pwr := fun _ _ _ => rfl
@[simp] theorem setLane_boot (s : State) : ∀ i m f, (s.setLane i m f).boot = s.boot := fun _ _ _ => rfl
@[simp] theorem setLane_mot (s : State) : ∀ i m f, (s.setLane i m f).mot = s.mot := fun _ _ _ => rfl
@[simp] theorem setLane_axs (s : State) : ∀ i m f, (s.setLane i m f).axs = s.axs := fun _ _ _ => rfl
@[simp] theorem setLane_fb (s : State) : ∀ i m f, (s.setLane i m f).fb = s.fb := fun _ _ _ => rfl
@[simp] theorem setLane_cle (s : State) : ∀ i m f, (s.setLane i m f).cle = s.cle := fun _ _ _ => rfl
@[simp] theorem setLane_thm (s : State) : ∀ i m f, (s.setLane i m f).thm = s.thm := fun _ _ _ => rfl
@[simp] theorem setLane_rim (s : State) : ∀ i m f, (s.setLane i m f).rim = s.rim := fun _ _ _ => rfl
@[simp] theorem setLane_itk (s : State) : ∀ i m f, (s.setLane i m f).itk = s.itk := fun _ _ _ => rfl
@[simp] theorem setLane_dma (s : State) : ∀ i m f, (s.setLane i m f).dma = s.dma := fun _ _ _ => rfl
@[simp] theorem setLane_shs (s : State) : ∀ i m f, (s.setLane i m f).shs = s.shs := fun _ _ _ => rfl
@[simp] theorem setLane_pair (s : State) : ∀ i m f, (s.setLane i m f).pair = s.pair := fun _ _ _ => rfl
@[simp] theorem setLane_bg (s : State) : ∀ i m f, (s.setLane i m f).bg = s.bg := fun _ _ _ => rfl
@[simp] theorem setScreen_pending (s : State) : ∀ i k f, (s.setScreen i k f).pending = s.pending := fun _ _ _ => rfl
@[simp] theorem setScreen_free (s : State) : ∀ i k f, (s.setScreen i k f).free = s.free := fun _ _ _ => rfl
@[simp] theorem setScreen_io (s : State) : ∀ i k f, (s.setScreen i k f).io = s.io := fun _ _ _ => rfl
@[simp] theorem setScreen_reg (s : State) : ∀ i k f, (s.setScreen i k f).reg = s.reg := fun _ _ _ => rfl
@[simp] theorem setScreen_led (s : State) : ∀ i k f, (s.setScreen i k f).led = s.led := fun _ _ _ => rfl
@[simp] theorem setScreen_saf (s : State) : ∀ i k f, (s.setScreen i k f).saf = s.saf := fun _ _ _ => rfl
@[simp] theorem setScreen_clk (s : State) : ∀ i k f, (s.setScreen i k f).clk = s.clk := fun _ _ _ => rfl
@[simp] theorem setScreen_pwr (s : State) : ∀ i k f, (s.setScreen i k f).pwr = s.pwr := fun _ _ _ => rfl
@[simp] theorem setScreen_boot (s : State) : ∀ i k f, (s.setScreen i k f).boot = s.boot := fun _ _ _ => rfl
@[simp] theorem setScreen_mot (s : State) : ∀ i k f, (s.setScreen i k f).mot = s.mot := fun _ _ _ => rfl
@[simp] theorem setScreen_axs (s : State) : ∀ i k f, (s.setScreen i k f).axs = s.axs := fun _ _ _ => rfl
@[simp] theorem setScreen_fb (s : State) : ∀ i k f, (s.setScreen i k f).fb = s.fb := fun _ _ _ => rfl
@[simp] theorem setScreen_cle (s : State) : ∀ i k f, (s.setScreen i k f).cle = s.cle := fun _ _ _ => rfl
@[simp] theorem setScreen_thm (s : State) : ∀ i k f, (s.setScreen i k f).thm = s.thm := fun _ _ _ => rfl
@[simp] theorem setScreen_rim (s : State) : ∀ i k f, (s.setScreen i k f).rim = s.rim := fun _ _ _ => rfl
@[simp] theorem setScreen_itk (s : State) : ∀ i k f, (s.setScreen i k f).itk = s.itk := fun _ _ _ => rfl
@[simp] theorem setScreen_dma (s : State) : ∀ i k f, (s.setScreen i k f).dma = s.dma := fun _ _ _ => rfl
@[simp] theorem setScreen_shs (s : State) : ∀ i k f, (s.setScreen i k f).shs = s.shs := fun _ _ _ => rfl
@[simp] theorem setScreen_pair (s : State) : ∀ i k f, (s.setScreen i k f).pair = s.pair := fun _ _ _ => rfl
@[simp] theorem setScreen_bg (s : State) : ∀ i k f, (s.setScreen i k f).bg = s.bg := fun _ _ _ => rfl
@[simp] theorem setZone_pending (s : State) : ∀ n f, (s.setZone n f).pending = s.pending := fun _ _ => rfl
@[simp] theorem setZone_free (s : State) : ∀ n f, (s.setZone n f).free = s.free := fun _ _ => rfl
@[simp] theorem setZone_io (s : State) : ∀ n f, (s.setZone n f).io = s.io := fun _ _ => rfl
@[simp] theorem setZone_reg (s : State) : ∀ n f, (s.setZone n f).reg = s.reg := fun _ _ => rfl
@[simp] theorem setZone_led (s : State) : ∀ n f, (s.setZone n f).led = s.led := fun _ _ => rfl
@[simp] theorem setZone_saf (s : State) : ∀ n f, (s.setZone n f).saf = s.saf := fun _ _ => rfl
@[simp] theorem setZone_clk (s : State) : ∀ n f, (s.setZone n f).clk = s.clk := fun _ _ => rfl
@[simp] theorem setZone_pwr (s : State) : ∀ n f, (s.setZone n f).pwr = s.pwr := fun _ _ => rfl
@[simp] theorem setZone_boot (s : State) : ∀ n f, (s.setZone n f).boot = s.boot := fun _ _ => rfl
@[simp] theorem setZone_mot (s : State) : ∀ n f, (s.setZone n f).mot = s.mot := fun _ _ => rfl
@[simp] theorem setZone_axs (s : State) : ∀ n f, (s.setZone n f).axs = s.axs := fun _ _ => rfl
@[simp] theorem setZone_fb (s : State) : ∀ n f, (s.setZone n f).fb = s.fb := fun _ _ => rfl
@[simp] theorem setZone_cle (s : State) : ∀ n f, (s.setZone n f).cle = s.cle := fun _ _ => rfl
@[simp] theorem setZone_rim (s : State) : ∀ n f, (s.setZone n f).rim = s.rim := fun _ _ => rfl
@[simp] theorem setZone_itk (s : State) : ∀ n f, (s.setZone n f).itk = s.itk := fun _ _ => rfl
@[simp] theorem setZone_dma (s : State) : ∀ n f, (s.setZone n f).dma = s.dma := fun _ _ => rfl
@[simp] theorem setZone_img (s : State) : ∀ n f, (s.setZone n f).img = s.img := fun _ _ => rfl
@[simp] theorem setZone_shs (s : State) : ∀ n f, (s.setZone n f).shs = s.shs := fun _ _ => rfl
@[simp] theorem setZone_pair (s : State) : ∀ n f, (s.setZone n f).pair = s.pair := fun _ _ => rfl
@[simp] theorem setZone_bg (s : State) : ∀ n f, (s.setZone n f).bg = s.bg := fun _ _ => rfl
@[simp] theorem setTh_pending (s : State) : ∀ n f, (s.setTh n f).pending = s.pending := fun _ _ => rfl
@[simp] theorem setTh_free (s : State) : ∀ n f, (s.setTh n f).free = s.free := fun _ _ => rfl
@[simp] theorem setTh_io (s : State) : ∀ n f, (s.setTh n f).io = s.io := fun _ _ => rfl
@[simp] theorem setTh_reg (s : State) : ∀ n f, (s.setTh n f).reg = s.reg := fun _ _ => rfl
@[simp] theorem setTh_led (s : State) : ∀ n f, (s.setTh n f).led = s.led := fun _ _ => rfl
@[simp] theorem setTh_saf (s : State) : ∀ n f, (s.setTh n f).saf = s.saf := fun _ _ => rfl
@[simp] theorem setTh_clk (s : State) : ∀ n f, (s.setTh n f).clk = s.clk := fun _ _ => rfl
@[simp] theorem setTh_pwr (s : State) : ∀ n f, (s.setTh n f).pwr = s.pwr := fun _ _ => rfl
@[simp] theorem setTh_boot (s : State) : ∀ n f, (s.setTh n f).boot = s.boot := fun _ _ => rfl
@[simp] theorem setTh_mot (s : State) : ∀ n f, (s.setTh n f).mot = s.mot := fun _ _ => rfl
@[simp] theorem setTh_axs (s : State) : ∀ n f, (s.setTh n f).axs = s.axs := fun _ _ => rfl
@[simp] theorem setTh_fb (s : State) : ∀ n f, (s.setTh n f).fb = s.fb := fun _ _ => rfl
@[simp] theorem setTh_cle (s : State) : ∀ n f, (s.setTh n f).cle = s.cle := fun _ _ => rfl
@[simp] theorem setTh_rim (s : State) : ∀ n f, (s.setTh n f).rim = s.rim := fun _ _ => rfl
@[simp] theorem setTh_itk (s : State) : ∀ n f, (s.setTh n f).itk = s.itk := fun _ _ => rfl
@[simp] theorem setTh_dma (s : State) : ∀ n f, (s.setTh n f).dma = s.dma := fun _ _ => rfl
@[simp] theorem setTh_img (s : State) : ∀ n f, (s.setTh n f).img = s.img := fun _ _ => rfl
@[simp] theorem setTh_shs (s : State) : ∀ n f, (s.setTh n f).shs = s.shs := fun _ _ => rfl
@[simp] theorem setTh_pair (s : State) : ∀ n f, (s.setTh n f).pair = s.pair := fun _ _ => rfl
@[simp] theorem setTh_bg (s : State) : ∀ n f, (s.setTh n f).bg = s.bg := fun _ _ => rfl
@[simp] theorem setMotor_pending (s : State) : ∀ n f, (s.setMotor n f).pending = s.pending := fun _ _ => rfl
@[simp] theorem setMotor_free (s : State) : ∀ n f, (s.setMotor n f).free = s.free := fun _ _ => rfl
@[simp] theorem setMotor_io (s : State) : ∀ n f, (s.setMotor n f).io = s.io := fun _ _ => rfl
@[simp] theorem setMotor_reg (s : State) : ∀ n f, (s.setMotor n f).reg = s.reg := fun _ _ => rfl
@[simp] theorem setMotor_led (s : State) : ∀ n f, (s.setMotor n f).led = s.led := fun _ _ => rfl
@[simp] theorem setMotor_saf (s : State) : ∀ n f, (s.setMotor n f).saf = s.saf := fun _ _ => rfl
@[simp] theorem setMotor_clk (s : State) : ∀ n f, (s.setMotor n f).clk = s.clk := fun _ _ => rfl
@[simp] theorem setMotor_pwr (s : State) : ∀ n f, (s.setMotor n f).pwr = s.pwr := fun _ _ => rfl
@[simp] theorem setMotor_boot (s : State) : ∀ n f, (s.setMotor n f).boot = s.boot := fun _ _ => rfl
@[simp] theorem setMotor_axs (s : State) : ∀ n f, (s.setMotor n f).axs = s.axs := fun _ _ => rfl
@[simp] theorem setMotor_fb (s : State) : ∀ n f, (s.setMotor n f).fb = s.fb := fun _ _ => rfl
@[simp] theorem setMotor_cle (s : State) : ∀ n f, (s.setMotor n f).cle = s.cle := fun _ _ => rfl
@[simp] theorem setMotor_thm (s : State) : ∀ n f, (s.setMotor n f).thm = s.thm := fun _ _ => rfl
@[simp] theorem setMotor_rim (s : State) : ∀ n f, (s.setMotor n f).rim = s.rim := fun _ _ => rfl
@[simp] theorem setMotor_itk (s : State) : ∀ n f, (s.setMotor n f).itk = s.itk := fun _ _ => rfl
@[simp] theorem setMotor_dma (s : State) : ∀ n f, (s.setMotor n f).dma = s.dma := fun _ _ => rfl
@[simp] theorem setMotor_img (s : State) : ∀ n f, (s.setMotor n f).img = s.img := fun _ _ => rfl
@[simp] theorem setMotor_shs (s : State) : ∀ n f, (s.setMotor n f).shs = s.shs := fun _ _ => rfl
@[simp] theorem setMotor_pair (s : State) : ∀ n f, (s.setMotor n f).pair = s.pair := fun _ _ => rfl
@[simp] theorem setMotor_bg (s : State) : ∀ n f, (s.setMotor n f).bg = s.bg := fun _ _ => rfl
@[simp] theorem setBus_pending (s : State) : ∀ n f, (s.setBus n f).pending = s.pending := fun _ _ => rfl
@[simp] theorem setBus_free (s : State) : ∀ n f, (s.setBus n f).free = s.free := fun _ _ => rfl
@[simp] theorem setBus_io (s : State) : ∀ n f, (s.setBus n f).io = s.io := fun _ _ => rfl
@[simp] theorem setBus_reg (s : State) : ∀ n f, (s.setBus n f).reg = s.reg := fun _ _ => rfl
@[simp] theorem setBus_led (s : State) : ∀ n f, (s.setBus n f).led = s.led := fun _ _ => rfl
@[simp] theorem setBus_saf (s : State) : ∀ n f, (s.setBus n f).saf = s.saf := fun _ _ => rfl
@[simp] theorem setBus_clk (s : State) : ∀ n f, (s.setBus n f).clk = s.clk := fun _ _ => rfl
@[simp] theorem setBus_pwr (s : State) : ∀ n f, (s.setBus n f).pwr = s.pwr := fun _ _ => rfl
@[simp] theorem setBus_boot (s : State) : ∀ n f, (s.setBus n f).boot = s.boot := fun _ _ => rfl
@[simp] theorem setBus_axs (s : State) : ∀ n f, (s.setBus n f).axs = s.axs := fun _ _ => rfl
@[simp] theorem setBus_fb (s : State) : ∀ n f, (s.setBus n f).fb = s.fb := fun _ _ => rfl
@[simp] theorem setBus_cle (s : State) : ∀ n f, (s.setBus n f).cle = s.cle := fun _ _ => rfl
@[simp] theorem setBus_thm (s : State) : ∀ n f, (s.setBus n f).thm = s.thm := fun _ _ => rfl
@[simp] theorem setBus_rim (s : State) : ∀ n f, (s.setBus n f).rim = s.rim := fun _ _ => rfl
@[simp] theorem setBus_itk (s : State) : ∀ n f, (s.setBus n f).itk = s.itk := fun _ _ => rfl
@[simp] theorem setBus_dma (s : State) : ∀ n f, (s.setBus n f).dma = s.dma := fun _ _ => rfl
@[simp] theorem setBus_img (s : State) : ∀ n f, (s.setBus n f).img = s.img := fun _ _ => rfl
@[simp] theorem setBus_shs (s : State) : ∀ n f, (s.setBus n f).shs = s.shs := fun _ _ => rfl
@[simp] theorem setBus_pair (s : State) : ∀ n f, (s.setBus n f).pair = s.pair := fun _ _ => rfl
@[simp] theorem setBus_bg (s : State) : ∀ n f, (s.setBus n f).bg = s.bg := fun _ _ => rfl
@[simp] theorem setAxis_pending (s : State) : ∀ n f, (s.setAxis n f).pending = s.pending := fun _ _ => rfl
@[simp] theorem setAxis_free (s : State) : ∀ n f, (s.setAxis n f).free = s.free := fun _ _ => rfl
@[simp] theorem setAxis_io (s : State) : ∀ n f, (s.setAxis n f).io = s.io := fun _ _ => rfl
@[simp] theorem setAxis_reg (s : State) : ∀ n f, (s.setAxis n f).reg = s.reg := fun _ _ => rfl
@[simp] theorem setAxis_led (s : State) : ∀ n f, (s.setAxis n f).led = s.led := fun _ _ => rfl
@[simp] theorem setAxis_saf (s : State) : ∀ n f, (s.setAxis n f).saf = s.saf := fun _ _ => rfl
@[simp] theorem setAxis_clk (s : State) : ∀ n f, (s.setAxis n f).clk = s.clk := fun _ _ => rfl
@[simp] theorem setAxis_pwr (s : State) : ∀ n f, (s.setAxis n f).pwr = s.pwr := fun _ _ => rfl
@[simp] theorem setAxis_boot (s : State) : ∀ n f, (s.setAxis n f).boot = s.boot := fun _ _ => rfl
@[simp] theorem setAxis_mot (s : State) : ∀ n f, (s.setAxis n f).mot = s.mot := fun _ _ => rfl
@[simp] theorem setAxis_fb (s : State) : ∀ n f, (s.setAxis n f).fb = s.fb := fun _ _ => rfl
@[simp] theorem setAxis_cle (s : State) : ∀ n f, (s.setAxis n f).cle = s.cle := fun _ _ => rfl
@[simp] theorem setAxis_thm (s : State) : ∀ n f, (s.setAxis n f).thm = s.thm := fun _ _ => rfl
@[simp] theorem setAxis_rim (s : State) : ∀ n f, (s.setAxis n f).rim = s.rim := fun _ _ => rfl
@[simp] theorem setAxis_itk (s : State) : ∀ n f, (s.setAxis n f).itk = s.itk := fun _ _ => rfl
@[simp] theorem setAxis_dma (s : State) : ∀ n f, (s.setAxis n f).dma = s.dma := fun _ _ => rfl
@[simp] theorem setAxis_img (s : State) : ∀ n f, (s.setAxis n f).img = s.img := fun _ _ => rfl
@[simp] theorem setAxis_shs (s : State) : ∀ n f, (s.setAxis n f).shs = s.shs := fun _ _ => rfl
@[simp] theorem setAxis_pair (s : State) : ∀ n f, (s.setAxis n f).pair = s.pair := fun _ _ => rfl
@[simp] theorem setAxis_bg (s : State) : ∀ n f, (s.setAxis n f).bg = s.bg := fun _ _ => rfl
@[simp] theorem setLoop_pending (s : State) : ∀ n f, (s.setLoop n f).pending = s.pending := fun _ _ => rfl
@[simp] theorem setLoop_free (s : State) : ∀ n f, (s.setLoop n f).free = s.free := fun _ _ => rfl
@[simp] theorem setLoop_io (s : State) : ∀ n f, (s.setLoop n f).io = s.io := fun _ _ => rfl
@[simp] theorem setLoop_reg (s : State) : ∀ n f, (s.setLoop n f).reg = s.reg := fun _ _ => rfl
@[simp] theorem setLoop_led (s : State) : ∀ n f, (s.setLoop n f).led = s.led := fun _ _ => rfl
@[simp] theorem setLoop_saf (s : State) : ∀ n f, (s.setLoop n f).saf = s.saf := fun _ _ => rfl
@[simp] theorem setLoop_clk (s : State) : ∀ n f, (s.setLoop n f).clk = s.clk := fun _ _ => rfl
@[simp] theorem setLoop_pwr (s : State) : ∀ n f, (s.setLoop n f).pwr = s.pwr := fun _ _ => rfl
@[simp] theorem setLoop_boot (s : State) : ∀ n f, (s.setLoop n f).boot = s.boot := fun _ _ => rfl
@[simp] theorem setLoop_mot (s : State) : ∀ n f, (s.setLoop n f).mot = s.mot := fun _ _ => rfl
@[simp] theorem setLoop_axs (s : State) : ∀ n f, (s.setLoop n f).axs = s.axs := fun _ _ => rfl
@[simp] theorem setLoop_fb (s : State) : ∀ n f, (s.setLoop n f).fb = s.fb := fun _ _ => rfl
@[simp] theorem setLoop_thm (s : State) : ∀ n f, (s.setLoop n f).thm = s.thm := fun _ _ => rfl
@[simp] theorem setLoop_rim (s : State) : ∀ n f, (s.setLoop n f).rim = s.rim := fun _ _ => rfl
@[simp] theorem setLoop_itk (s : State) : ∀ n f, (s.setLoop n f).itk = s.itk := fun _ _ => rfl
@[simp] theorem setLoop_dma (s : State) : ∀ n f, (s.setLoop n f).dma = s.dma := fun _ _ => rfl
@[simp] theorem setLoop_img (s : State) : ∀ n f, (s.setLoop n f).img = s.img := fun _ _ => rfl
@[simp] theorem setLoop_shs (s : State) : ∀ n f, (s.setLoop n f).shs = s.shs := fun _ _ => rfl
@[simp] theorem setLoop_pair (s : State) : ∀ n f, (s.setLoop n f).pair = s.pair := fun _ _ => rfl
@[simp] theorem setLoop_bg (s : State) : ∀ n f, (s.setLoop n f).bg = s.bg := fun _ _ => rfl
@[simp] theorem setFlight_pending (s : State) : ∀ n a b f, (s.setFlight n a b f).pending = s.pending := fun _ _ _ _ => rfl
@[simp] theorem setFlight_free (s : State) : ∀ n a b f, (s.setFlight n a b f).free = s.free := fun _ _ _ _ => rfl
@[simp] theorem setFlight_reg (s : State) : ∀ n a b f, (s.setFlight n a b f).reg = s.reg := fun _ _ _ _ => rfl
@[simp] theorem setFlight_led (s : State) : ∀ n a b f, (s.setFlight n a b f).led = s.led := fun _ _ _ _ => rfl
@[simp] theorem setFlight_saf (s : State) : ∀ n a b f, (s.setFlight n a b f).saf = s.saf := fun _ _ _ _ => rfl
@[simp] theorem setFlight_clk (s : State) : ∀ n a b f, (s.setFlight n a b f).clk = s.clk := fun _ _ _ _ => rfl
@[simp] theorem setFlight_pwr (s : State) : ∀ n a b f, (s.setFlight n a b f).pwr = s.pwr := fun _ _ _ _ => rfl
@[simp] theorem setFlight_boot (s : State) : ∀ n a b f, (s.setFlight n a b f).boot = s.boot := fun _ _ _ _ => rfl
@[simp] theorem setFlight_mot (s : State) : ∀ n a b f, (s.setFlight n a b f).mot = s.mot := fun _ _ _ _ => rfl
@[simp] theorem setFlight_axs (s : State) : ∀ n a b f, (s.setFlight n a b f).axs = s.axs := fun _ _ _ _ => rfl
@[simp] theorem setFlight_fb (s : State) : ∀ n a b f, (s.setFlight n a b f).fb = s.fb := fun _ _ _ _ => rfl
@[simp] theorem setFlight_cle (s : State) : ∀ n a b f, (s.setFlight n a b f).cle = s.cle := fun _ _ _ _ => rfl
@[simp] theorem setFlight_thm (s : State) : ∀ n a b f, (s.setFlight n a b f).thm = s.thm := fun _ _ _ _ => rfl
@[simp] theorem setFlight_rim (s : State) : ∀ n a b f, (s.setFlight n a b f).rim = s.rim := fun _ _ _ _ => rfl
@[simp] theorem setFlight_itk (s : State) : ∀ n a b f, (s.setFlight n a b f).itk = s.itk := fun _ _ _ _ => rfl
@[simp] theorem setFlight_dma (s : State) : ∀ n a b f, (s.setFlight n a b f).dma = s.dma := fun _ _ _ _ => rfl
@[simp] theorem setFlight_img (s : State) : ∀ n a b f, (s.setFlight n a b f).img = s.img := fun _ _ _ _ => rfl
@[simp] theorem setFlight_shs (s : State) : ∀ n a b f, (s.setFlight n a b f).shs = s.shs := fun _ _ _ _ => rfl
@[simp] theorem setFlight_pair (s : State) : ∀ n a b f, (s.setFlight n a b f).pair = s.pair := fun _ _ _ _ => rfl
@[simp] theorem setFlight_bg (s : State) : ∀ n a b f, (s.setFlight n a b f).bg = s.bg := fun _ _ _ _ => rfl
@[simp] theorem endFlight_pending (s : State) : ∀ n a b, (s.endFlight n a b).pending = s.pending := fun _ _ _ => rfl
@[simp] theorem endFlight_free (s : State) : ∀ n a b, (s.endFlight n a b).free = s.free := fun _ _ _ => rfl
@[simp] theorem endFlight_reg (s : State) : ∀ n a b, (s.endFlight n a b).reg = s.reg := fun _ _ _ => rfl
@[simp] theorem endFlight_led (s : State) : ∀ n a b, (s.endFlight n a b).led = s.led := fun _ _ _ => rfl
@[simp] theorem endFlight_saf (s : State) : ∀ n a b, (s.endFlight n a b).saf = s.saf := fun _ _ _ => rfl
@[simp] theorem endFlight_clk (s : State) : ∀ n a b, (s.endFlight n a b).clk = s.clk := fun _ _ _ => rfl
@[simp] theorem endFlight_pwr (s : State) : ∀ n a b, (s.endFlight n a b).pwr = s.pwr := fun _ _ _ => rfl
@[simp] theorem endFlight_boot (s : State) : ∀ n a b, (s.endFlight n a b).boot = s.boot := fun _ _ _ => rfl
@[simp] theorem endFlight_mot (s : State) : ∀ n a b, (s.endFlight n a b).mot = s.mot := fun _ _ _ => rfl
@[simp] theorem endFlight_axs (s : State) : ∀ n a b, (s.endFlight n a b).axs = s.axs := fun _ _ _ => rfl
@[simp] theorem endFlight_fb (s : State) : ∀ n a b, (s.endFlight n a b).fb = s.fb := fun _ _ _ => rfl
@[simp] theorem endFlight_cle (s : State) : ∀ n a b, (s.endFlight n a b).cle = s.cle := fun _ _ _ => rfl
@[simp] theorem endFlight_thm (s : State) : ∀ n a b, (s.endFlight n a b).thm = s.thm := fun _ _ _ => rfl
@[simp] theorem endFlight_rim (s : State) : ∀ n a b, (s.endFlight n a b).rim = s.rim := fun _ _ _ => rfl
@[simp] theorem endFlight_itk (s : State) : ∀ n a b, (s.endFlight n a b).itk = s.itk := fun _ _ _ => rfl
@[simp] theorem endFlight_dma (s : State) : ∀ n a b, (s.endFlight n a b).dma = s.dma := fun _ _ _ => rfl
@[simp] theorem endFlight_img (s : State) : ∀ n a b, (s.endFlight n a b).img = s.img := fun _ _ _ => rfl
@[simp] theorem endFlight_shs (s : State) : ∀ n a b, (s.endFlight n a b).shs = s.shs := fun _ _ _ => rfl
@[simp] theorem endFlight_pair (s : State) : ∀ n a b, (s.endFlight n a b).pair = s.pair := fun _ _ _ => rfl
@[simp] theorem endFlight_bg (s : State) : ∀ n a b, (s.endFlight n a b).bg = s.bg := fun _ _ _ => rfl
@[simp] theorem respond_pending (s : State) : ∀ n r, (s.respond n r).pending = s.pending := fun _ _ => rfl
@[simp] theorem respond_free (s : State) : ∀ n r, (s.respond n r).free = s.free := fun _ _ => rfl
@[simp] theorem respond_reg (s : State) : ∀ n r, (s.respond n r).reg = s.reg := fun _ _ => rfl
@[simp] theorem respond_led (s : State) : ∀ n r, (s.respond n r).led = s.led := fun _ _ => rfl
@[simp] theorem respond_saf (s : State) : ∀ n r, (s.respond n r).saf = s.saf := fun _ _ => rfl
@[simp] theorem respond_clk (s : State) : ∀ n r, (s.respond n r).clk = s.clk := fun _ _ => rfl
@[simp] theorem respond_pwr (s : State) : ∀ n r, (s.respond n r).pwr = s.pwr := fun _ _ => rfl
@[simp] theorem respond_boot (s : State) : ∀ n r, (s.respond n r).boot = s.boot := fun _ _ => rfl
@[simp] theorem respond_mot (s : State) : ∀ n r, (s.respond n r).mot = s.mot := fun _ _ => rfl
@[simp] theorem respond_axs (s : State) : ∀ n r, (s.respond n r).axs = s.axs := fun _ _ => rfl
@[simp] theorem respond_fb (s : State) : ∀ n r, (s.respond n r).fb = s.fb := fun _ _ => rfl
@[simp] theorem respond_cle (s : State) : ∀ n r, (s.respond n r).cle = s.cle := fun _ _ => rfl
@[simp] theorem respond_thm (s : State) : ∀ n r, (s.respond n r).thm = s.thm := fun _ _ => rfl
@[simp] theorem respond_rim (s : State) : ∀ n r, (s.respond n r).rim = s.rim := fun _ _ => rfl
@[simp] theorem respond_itk (s : State) : ∀ n r, (s.respond n r).itk = s.itk := fun _ _ => rfl
@[simp] theorem respond_dma (s : State) : ∀ n r, (s.respond n r).dma = s.dma := fun _ _ => rfl
@[simp] theorem respond_img (s : State) : ∀ n r, (s.respond n r).img = s.img := fun _ _ => rfl
@[simp] theorem respond_shs (s : State) : ∀ n r, (s.respond n r).shs = s.shs := fun _ _ => rfl
@[simp] theorem respond_pair (s : State) : ∀ n r, (s.respond n r).pair = s.pair := fun _ _ => rfl
@[simp] theorem respond_bg (s : State) : ∀ n r, (s.respond n r).bg = s.bg := fun _ _ => rfl
@[simp] theorem finish_pending (s : State) : ∀ op a b c, (s.finish op a b c).pending = s.pending := fun _ _ _ _ => rfl
@[simp] theorem finish_free (s : State) : ∀ op a b c, (s.finish op a b c).free = s.free := fun _ _ _ _ => rfl
@[simp] theorem finish_reg (s : State) : ∀ op a b c, (s.finish op a b c).reg = s.reg := fun _ _ _ _ => rfl
@[simp] theorem finish_led (s : State) : ∀ op a b c, (s.finish op a b c).led = s.led := fun _ _ _ _ => rfl
@[simp] theorem finish_saf (s : State) : ∀ op a b c, (s.finish op a b c).saf = s.saf := fun _ _ _ _ => rfl
@[simp] theorem finish_clk (s : State) : ∀ op a b c, (s.finish op a b c).clk = s.clk := fun _ _ _ _ => rfl
@[simp] theorem finish_pwr (s : State) : ∀ op a b c, (s.finish op a b c).pwr = s.pwr := fun _ _ _ _ => rfl
@[simp] theorem finish_boot (s : State) : ∀ op a b c, (s.finish op a b c).boot = s.boot := fun _ _ _ _ => rfl
@[simp] theorem finish_mot (s : State) : ∀ op a b c, (s.finish op a b c).mot = s.mot := fun _ _ _ _ => rfl
@[simp] theorem finish_axs (s : State) : ∀ op a b c, (s.finish op a b c).axs = s.axs := fun _ _ _ _ => rfl
@[simp] theorem finish_fb (s : State) : ∀ op a b c, (s.finish op a b c).fb = s.fb := fun _ _ _ _ => rfl
@[simp] theorem finish_cle (s : State) : ∀ op a b c, (s.finish op a b c).cle = s.cle := fun _ _ _ _ => rfl
@[simp] theorem finish_thm (s : State) : ∀ op a b c, (s.finish op a b c).thm = s.thm := fun _ _ _ _ => rfl
@[simp] theorem finish_rim (s : State) : ∀ op a b c, (s.finish op a b c).rim = s.rim := fun _ _ _ _ => rfl
@[simp] theorem finish_itk (s : State) : ∀ op a b c, (s.finish op a b c).itk = s.itk := fun _ _ _ _ => rfl
@[simp] theorem finish_dma (s : State) : ∀ op a b c, (s.finish op a b c).dma = s.dma := fun _ _ _ _ => rfl
@[simp] theorem finish_img (s : State) : ∀ op a b c, (s.finish op a b c).img = s.img := fun _ _ _ _ => rfl
@[simp] theorem finish_shs (s : State) : ∀ op a b c, (s.finish op a b c).shs = s.shs := fun _ _ _ _ => rfl
@[simp] theorem finish_pair (s : State) : ∀ op a b c, (s.finish op a b c).pair = s.pair := fun _ _ _ _ => rfl
@[simp] theorem finish_bg (s : State) : ∀ op a b c, (s.finish op a b c).bg = s.bg := fun _ _ _ _ => rfl
@[simp] theorem finishAny_pending (s : State) : ∀ op b c, (s.finishAny op b c).pending = s.pending := fun _ _ _ => rfl
@[simp] theorem finishAny_free (s : State) : ∀ op b c, (s.finishAny op b c).free = s.free := fun _ _ _ => rfl
@[simp] theorem finishAny_reg (s : State) : ∀ op b c, (s.finishAny op b c).reg = s.reg := fun _ _ _ => rfl
@[simp] theorem finishAny_led (s : State) : ∀ op b c, (s.finishAny op b c).led = s.led := fun _ _ _ => rfl
@[simp] theorem finishAny_saf (s : State) : ∀ op b c, (s.finishAny op b c).saf = s.saf := fun _ _ _ => rfl
@[simp] theorem finishAny_clk (s : State) : ∀ op b c, (s.finishAny op b c).clk = s.clk := fun _ _ _ => rfl
@[simp] theorem finishAny_pwr (s : State) : ∀ op b c, (s.finishAny op b c).pwr = s.pwr := fun _ _ _ => rfl
@[simp] theorem finishAny_boot (s : State) : ∀ op b c, (s.finishAny op b c).boot = s.boot := fun _ _ _ => rfl
@[simp] theorem finishAny_mot (s : State) : ∀ op b c, (s.finishAny op b c).mot = s.mot := fun _ _ _ => rfl
@[simp] theorem finishAny_axs (s : State) : ∀ op b c, (s.finishAny op b c).axs = s.axs := fun _ _ _ => rfl
@[simp] theorem finishAny_fb (s : State) : ∀ op b c, (s.finishAny op b c).fb = s.fb := fun _ _ _ => rfl
@[simp] theorem finishAny_cle (s : State) : ∀ op b c, (s.finishAny op b c).cle = s.cle := fun _ _ _ => rfl
@[simp] theorem finishAny_thm (s : State) : ∀ op b c, (s.finishAny op b c).thm = s.thm := fun _ _ _ => rfl
@[simp] theorem finishAny_rim (s : State) : ∀ op b c, (s.finishAny op b c).rim = s.rim := fun _ _ _ => rfl
@[simp] theorem finishAny_itk (s : State) : ∀ op b c, (s.finishAny op b c).itk = s.itk := fun _ _ _ => rfl
@[simp] theorem finishAny_dma (s : State) : ∀ op b c, (s.finishAny op b c).dma = s.dma := fun _ _ _ => rfl
@[simp] theorem finishAny_img (s : State) : ∀ op b c, (s.finishAny op b c).img = s.img := fun _ _ _ => rfl
@[simp] theorem finishAny_shs (s : State) : ∀ op b c, (s.finishAny op b c).shs = s.shs := fun _ _ _ => rfl
@[simp] theorem finishAny_pair (s : State) : ∀ op b c, (s.finishAny op b c).pair = s.pair := fun _ _ _ => rfl
@[simp] theorem finishAny_bg (s : State) : ∀ op b c, (s.finishAny op b c).bg = s.bg := fun _ _ _ => rfl
@[simp] theorem setGuard_pending (s : State) : ∀ b f, (s.setGuard b f).pending = s.pending := by intro b f; cases b <;> rfl
@[simp] theorem setGuard_free (s : State) : ∀ b f, (s.setGuard b f).free = s.free := by intro b f; cases b <;> rfl
@[simp] theorem setGuard_io (s : State) : ∀ b f, (s.setGuard b f).io = s.io := by intro b f; cases b <;> rfl
@[simp] theorem setGuard_led (s : State) : ∀ b f, (s.setGuard b f).led = s.led := by intro b f; cases b <;> rfl
@[simp] theorem setGuard_saf (s : State) : ∀ b f, (s.setGuard b f).saf = s.saf := by intro b f; cases b <;> rfl
@[simp] theorem setGuard_clk (s : State) : ∀ b f, (s.setGuard b f).clk = s.clk := by intro b f; cases b <;> rfl
@[simp] theorem setGuard_pwr (s : State) : ∀ b f, (s.setGuard b f).pwr = s.pwr := by intro b f; cases b <;> rfl
@[simp] theorem setGuard_boot (s : State) : ∀ b f, (s.setGuard b f).boot = s.boot := by intro b f; cases b <;> rfl
@[simp] theorem setGuard_mot (s : State) : ∀ b f, (s.setGuard b f).mot = s.mot := by intro b f; cases b <;> rfl
@[simp] theorem setGuard_axs (s : State) : ∀ b f, (s.setGuard b f).axs = s.axs := by intro b f; cases b <;> rfl
@[simp] theorem setGuard_fb (s : State) : ∀ b f, (s.setGuard b f).fb = s.fb := by intro b f; cases b <;> rfl
@[simp] theorem setGuard_cle (s : State) : ∀ b f, (s.setGuard b f).cle = s.cle := by intro b f; cases b <;> rfl
@[simp] theorem setGuard_thm (s : State) : ∀ b f, (s.setGuard b f).thm = s.thm := by intro b f; cases b <;> rfl
@[simp] theorem setGuard_rim (s : State) : ∀ b f, (s.setGuard b f).rim = s.rim := by intro b f; cases b <;> rfl
@[simp] theorem setGuard_itk (s : State) : ∀ b f, (s.setGuard b f).itk = s.itk := by intro b f; cases b <;> rfl
@[simp] theorem setGuard_dma (s : State) : ∀ b f, (s.setGuard b f).dma = s.dma := by intro b f; cases b <;> rfl
@[simp] theorem setGuard_img (s : State) : ∀ b f, (s.setGuard b f).img = s.img := by intro b f; cases b <;> rfl
@[simp] theorem setGuard_shs (s : State) : ∀ b f, (s.setGuard b f).shs = s.shs := by intro b f; cases b <;> rfl
@[simp] theorem setGuard_pair (s : State) : ∀ b f, (s.setGuard b f).pair = s.pair := by intro b f; cases b <;> rfl
@[simp] theorem setGuard_bg (s : State) : ∀ b f, (s.setGuard b f).bg = s.bg := by intro b f; cases b <;> rfl
@[simp] theorem setCounter_pending (s : State) : ∀ x f, (s.setCounter x f).pending = s.pending := by intro x f; unfold State.setCounter; split <;> rfl
@[simp] theorem setCounter_free (s : State) : ∀ x f, (s.setCounter x f).free = s.free := by intro x f; unfold State.setCounter; split <;> rfl
@[simp] theorem setCounter_io (s : State) : ∀ x f, (s.setCounter x f).io = s.io := by intro x f; unfold State.setCounter; split <;> rfl
@[simp] theorem setCounter_reg (s : State) : ∀ x f, (s.setCounter x f).reg = s.reg := by intro x f; unfold State.setCounter; split <;> rfl
@[simp] theorem setCounter_led (s : State) : ∀ x f, (s.setCounter x f).led = s.led := by intro x f; unfold State.setCounter; split <;> rfl
@[simp] theorem setCounter_saf (s : State) : ∀ x f, (s.setCounter x f).saf = s.saf := by intro x f; unfold State.setCounter; split <;> rfl
@[simp] theorem setCounter_clk (s : State) : ∀ x f, (s.setCounter x f).clk = s.clk := by intro x f; unfold State.setCounter; split <;> rfl
@[simp] theorem setCounter_pwr (s : State) : ∀ x f, (s.setCounter x f).pwr = s.pwr := by intro x f; unfold State.setCounter; split <;> rfl
@[simp] theorem setCounter_boot (s : State) : ∀ x f, (s.setCounter x f).boot = s.boot := by intro x f; unfold State.setCounter; split <;> rfl
@[simp] theorem setCounter_mot (s : State) : ∀ x f, (s.setCounter x f).mot = s.mot := by intro x f; unfold State.setCounter; split <;> rfl
@[simp] theorem setCounter_axs (s : State) : ∀ x f, (s.setCounter x f).axs = s.axs := by intro x f; unfold State.setCounter; split <;> rfl
@[simp] theorem setCounter_cle (s : State) : ∀ x f, (s.setCounter x f).cle = s.cle := by intro x f; unfold State.setCounter; split <;> rfl
@[simp] theorem setCounter_thm (s : State) : ∀ x f, (s.setCounter x f).thm = s.thm := by intro x f; unfold State.setCounter; split <;> rfl
@[simp] theorem setCounter_rim (s : State) : ∀ x f, (s.setCounter x f).rim = s.rim := by intro x f; unfold State.setCounter; split <;> rfl
@[simp] theorem setCounter_itk (s : State) : ∀ x f, (s.setCounter x f).itk = s.itk := by intro x f; unfold State.setCounter; split <;> rfl
@[simp] theorem setCounter_dma (s : State) : ∀ x f, (s.setCounter x f).dma = s.dma := by intro x f; unfold State.setCounter; split <;> rfl
@[simp] theorem setCounter_img (s : State) : ∀ x f, (s.setCounter x f).img = s.img := by intro x f; unfold State.setCounter; split <;> rfl
@[simp] theorem setCounter_shs (s : State) : ∀ x f, (s.setCounter x f).shs = s.shs := by intro x f; unfold State.setCounter; split <;> rfl
@[simp] theorem setCounter_pair (s : State) : ∀ x f, (s.setCounter x f).pair = s.pair := by intro x f; unfold State.setCounter; split <;> rfl
@[simp] theorem setCounter_bg (s : State) : ∀ x f, (s.setCounter x f).bg = s.bg := by intro x f; unfold State.setCounter; split <;> rfl
@[simp] theorem setCtrl_pending (s : State) : ∀ c, (s.setCtrl c).pending = s.pending := by intro c; unfold State.setCtrl; split <;> rfl
@[simp] theorem setCtrl_free (s : State) : ∀ c, (s.setCtrl c).free = s.free := by intro c; unfold State.setCtrl; split <;> rfl
@[simp] theorem setCtrl_reg (s : State) : ∀ c, (s.setCtrl c).reg = s.reg := by intro c; unfold State.setCtrl; split <;> rfl
@[simp] theorem setCtrl_led (s : State) : ∀ c, (s.setCtrl c).led = s.led := by intro c; unfold State.setCtrl; split <;> rfl
@[simp] theorem setCtrl_clk (s : State) : ∀ c, (s.setCtrl c).clk = s.clk := by intro c; unfold State.setCtrl; split <;> rfl
@[simp] theorem setCtrl_pwr (s : State) : ∀ c, (s.setCtrl c).pwr = s.pwr := by intro c; unfold State.setCtrl; split <;> rfl
@[simp] theorem setCtrl_boot (s : State) : ∀ c, (s.setCtrl c).boot = s.boot := by intro c; unfold State.setCtrl; split <;> rfl
@[simp] theorem setCtrl_mot (s : State) : ∀ c, (s.setCtrl c).mot = s.mot := by intro c; unfold State.setCtrl; split <;> rfl
@[simp] theorem setCtrl_axs (s : State) : ∀ c, (s.setCtrl c).axs = s.axs := by intro c; unfold State.setCtrl; split <;> rfl
@[simp] theorem setCtrl_fb (s : State) : ∀ c, (s.setCtrl c).fb = s.fb := by intro c; unfold State.setCtrl; split <;> rfl
@[simp] theorem setCtrl_cle (s : State) : ∀ c, (s.setCtrl c).cle = s.cle := by intro c; unfold State.setCtrl; split <;> rfl
@[simp] theorem setCtrl_thm (s : State) : ∀ c, (s.setCtrl c).thm = s.thm := by intro c; unfold State.setCtrl; split <;> rfl
@[simp] theorem setCtrl_rim (s : State) : ∀ c, (s.setCtrl c).rim = s.rim := by intro c; unfold State.setCtrl; split <;> rfl
@[simp] theorem setCtrl_itk (s : State) : ∀ c, (s.setCtrl c).itk = s.itk := by intro c; unfold State.setCtrl; split <;> rfl
@[simp] theorem setCtrl_dma (s : State) : ∀ c, (s.setCtrl c).dma = s.dma := by intro c; unfold State.setCtrl; split <;> rfl
@[simp] theorem setCtrl_img (s : State) : ∀ c, (s.setCtrl c).img = s.img := by intro c; unfold State.setCtrl; split <;> rfl
@[simp] theorem setCtrl_shs (s : State) : ∀ c, (s.setCtrl c).shs = s.shs := by intro c; unfold State.setCtrl; split <;> rfl
@[simp] theorem setCtrl_pair (s : State) : ∀ c, (s.setCtrl c).pair = s.pair := by intro c; unfold State.setCtrl; split <;> rfl
@[simp] theorem setCtrl_bg (s : State) : ∀ c, (s.setCtrl c).bg = s.bg := by intro c; unfold State.setCtrl; split <;> rfl
@[simp] theorem advanceFree_pending (s : State) : (advanceFree s).pending = s.pending := rfl
@[simp] theorem advanceFree_io (s : State) : (advanceFree s).io = s.io := rfl
@[simp] theorem advanceFree_reg (s : State) : (advanceFree s).reg = s.reg := rfl
@[simp] theorem advanceFree_led (s : State) : (advanceFree s).led = s.led := rfl
@[simp] theorem advanceFree_saf (s : State) : (advanceFree s).saf = s.saf := rfl
@[simp] theorem advanceFree_clk (s : State) : (advanceFree s).clk = s.clk := rfl
@[simp] theorem advanceFree_pwr (s : State) : (advanceFree s).pwr = s.pwr := rfl
@[simp] theorem advanceFree_boot (s : State) : (advanceFree s).boot = s.boot := rfl
@[simp] theorem advanceFree_mot (s : State) : (advanceFree s).mot = s.mot := rfl
@[simp] theorem advanceFree_axs (s : State) : (advanceFree s).axs = s.axs := rfl
@[simp] theorem advanceFree_fb (s : State) : (advanceFree s).fb = s.fb := rfl
@[simp] theorem advanceFree_cle (s : State) : (advanceFree s).cle = s.cle := rfl
@[simp] theorem advanceFree_thm (s : State) : (advanceFree s).thm = s.thm := rfl
@[simp] theorem advanceFree_rim (s : State) : (advanceFree s).rim = s.rim := rfl
@[simp] theorem advanceFree_itk (s : State) : (advanceFree s).itk = s.itk := rfl
@[simp] theorem advanceFree_dma (s : State) : (advanceFree s).dma = s.dma := rfl
@[simp] theorem advanceFree_img (s : State) : (advanceFree s).img = s.img := rfl
@[simp] theorem advanceFree_shs (s : State) : (advanceFree s).shs = s.shs := rfl
@[simp] theorem advanceFree_pair (s : State) : (advanceFree s).pair = s.pair := rfl
@[simp] theorem advanceFree_bg (s : State) : (advanceFree s).bg = s.bg := rfl
@[simp] theorem takeSlot_pending (s : State) : ∀ n, (takeSlot n s).pending = s.pending := fun _ => rfl
@[simp] theorem addFlight_pending (s : State) : ∀ x, (addFlight x s).pending = s.pending := fun _ => rfl
@[simp] theorem deliver_pending (s : State) : ∀ f b, (deliver f b s).pending = s.pending := by intro f b; unfold deliver; split <;> rfl
@[simp] theorem takeSlot_free (s : State) : ∀ n, (takeSlot n s).free = s.free := fun _ => rfl
@[simp] theorem addFlight_free (s : State) : ∀ x, (addFlight x s).free = s.free := fun _ => rfl
@[simp] theorem deliver_free (s : State) : ∀ f b, (deliver f b s).free = s.free := by intro f b; unfold deliver; split <;> rfl
@[simp] theorem takeSlot_reg (s : State) : ∀ n, (takeSlot n s).reg = s.reg := fun _ => rfl
@[simp] theorem addFlight_reg (s : State) : ∀ x, (addFlight x s).reg = s.reg := fun _ => rfl
@[simp] theorem deliver_reg (s : State) : ∀ f b, (deliver f b s).reg = s.reg := by intro f b; unfold deliver; split <;> rfl
@[simp] theorem takeSlot_led (s : State) : ∀ n, (takeSlot n s).led = s.led := fun _ => rfl
@[simp] theorem addFlight_led (s : State) : ∀ x, (addFlight x s).led = s.led := fun _ => rfl
@[simp] theorem deliver_led (s : State) : ∀ f b, (deliver f b s).led = s.led := by intro f b; unfold deliver; split <;> rfl
@[simp] theorem takeSlot_saf (s : State) : ∀ n, (takeSlot n s).saf = s.saf := fun _ => rfl
@[simp] theorem addFlight_saf (s : State) : ∀ x, (addFlight x s).saf = s.saf := fun _ => rfl
@[simp] theorem deliver_saf (s : State) : ∀ f b, (deliver f b s).saf = s.saf := by intro f b; unfold deliver; split <;> rfl
@[simp] theorem takeSlot_clk (s : State) : ∀ n, (takeSlot n s).clk = s.clk := fun _ => rfl
@[simp] theorem addFlight_clk (s : State) : ∀ x, (addFlight x s).clk = s.clk := fun _ => rfl
@[simp] theorem deliver_clk (s : State) : ∀ f b, (deliver f b s).clk = s.clk := by intro f b; unfold deliver; split <;> rfl
@[simp] theorem takeSlot_pwr (s : State) : ∀ n, (takeSlot n s).pwr = s.pwr := fun _ => rfl
@[simp] theorem addFlight_pwr (s : State) : ∀ x, (addFlight x s).pwr = s.pwr := fun _ => rfl
@[simp] theorem deliver_pwr (s : State) : ∀ f b, (deliver f b s).pwr = s.pwr := by intro f b; unfold deliver; split <;> rfl
@[simp] theorem takeSlot_boot (s : State) : ∀ n, (takeSlot n s).boot = s.boot := fun _ => rfl
@[simp] theorem addFlight_boot (s : State) : ∀ x, (addFlight x s).boot = s.boot := fun _ => rfl
@[simp] theorem deliver_boot (s : State) : ∀ f b, (deliver f b s).boot = s.boot := by intro f b; unfold deliver; split <;> rfl
@[simp] theorem takeSlot_mot (s : State) : ∀ n, (takeSlot n s).mot = s.mot := fun _ => rfl
@[simp] theorem addFlight_mot (s : State) : ∀ x, (addFlight x s).mot = s.mot := fun _ => rfl
@[simp] theorem deliver_mot (s : State) : ∀ f b, (deliver f b s).mot = s.mot := by intro f b; unfold deliver; split <;> rfl
@[simp] theorem takeSlot_axs (s : State) : ∀ n, (takeSlot n s).axs = s.axs := fun _ => rfl
@[simp] theorem addFlight_axs (s : State) : ∀ x, (addFlight x s).axs = s.axs := fun _ => rfl
@[simp] theorem deliver_axs (s : State) : ∀ f b, (deliver f b s).axs = s.axs := by intro f b; unfold deliver; split <;> rfl
@[simp] theorem takeSlot_fb (s : State) : ∀ n, (takeSlot n s).fb = s.fb := fun _ => rfl
@[simp] theorem addFlight_fb (s : State) : ∀ x, (addFlight x s).fb = s.fb := fun _ => rfl
@[simp] theorem deliver_fb (s : State) : ∀ f b, (deliver f b s).fb = s.fb := by intro f b; unfold deliver; split <;> rfl
@[simp] theorem takeSlot_cle (s : State) : ∀ n, (takeSlot n s).cle = s.cle := fun _ => rfl
@[simp] theorem addFlight_cle (s : State) : ∀ x, (addFlight x s).cle = s.cle := fun _ => rfl
@[simp] theorem deliver_cle (s : State) : ∀ f b, (deliver f b s).cle = s.cle := by intro f b; unfold deliver; split <;> rfl
@[simp] theorem takeSlot_thm (s : State) : ∀ n, (takeSlot n s).thm = s.thm := fun _ => rfl
@[simp] theorem addFlight_thm (s : State) : ∀ x, (addFlight x s).thm = s.thm := fun _ => rfl
@[simp] theorem deliver_thm (s : State) : ∀ f b, (deliver f b s).thm = s.thm := by intro f b; unfold deliver; split <;> rfl
@[simp] theorem takeSlot_rim (s : State) : ∀ n, (takeSlot n s).rim = s.rim := fun _ => rfl
@[simp] theorem addFlight_rim (s : State) : ∀ x, (addFlight x s).rim = s.rim := fun _ => rfl
@[simp] theorem deliver_rim (s : State) : ∀ f b, (deliver f b s).rim = s.rim := by intro f b; unfold deliver; split <;> rfl
@[simp] theorem takeSlot_itk (s : State) : ∀ n, (takeSlot n s).itk = s.itk := fun _ => rfl
@[simp] theorem addFlight_itk (s : State) : ∀ x, (addFlight x s).itk = s.itk := fun _ => rfl
@[simp] theorem deliver_itk (s : State) : ∀ f b, (deliver f b s).itk = s.itk := by intro f b; unfold deliver; split <;> rfl
@[simp] theorem takeSlot_dma (s : State) : ∀ n, (takeSlot n s).dma = s.dma := fun _ => rfl
@[simp] theorem addFlight_dma (s : State) : ∀ x, (addFlight x s).dma = s.dma := fun _ => rfl
@[simp] theorem deliver_dma (s : State) : ∀ f b, (deliver f b s).dma = s.dma := by intro f b; unfold deliver; split <;> rfl
@[simp] theorem takeSlot_img (s : State) : ∀ n, (takeSlot n s).img = s.img := fun _ => rfl
@[simp] theorem addFlight_img (s : State) : ∀ x, (addFlight x s).img = s.img := fun _ => rfl
@[simp] theorem deliver_img (s : State) : ∀ f b, (deliver f b s).img = s.img := by intro f b; unfold deliver; split <;> rfl
@[simp] theorem takeSlot_shs (s : State) : ∀ n, (takeSlot n s).shs = s.shs := fun _ => rfl
@[simp] theorem addFlight_shs (s : State) : ∀ x, (addFlight x s).shs = s.shs := fun _ => rfl
@[simp] theorem deliver_shs (s : State) : ∀ f b, (deliver f b s).shs = s.shs := by intro f b; unfold deliver; split <;> rfl
@[simp] theorem takeSlot_pair (s : State) : ∀ n, (takeSlot n s).pair = s.pair := fun _ => rfl
@[simp] theorem addFlight_pair (s : State) : ∀ x, (addFlight x s).pair = s.pair := fun _ => rfl
@[simp] theorem deliver_pair (s : State) : ∀ f b, (deliver f b s).pair = s.pair := by intro f b; unfold deliver; split <;> rfl
@[simp] theorem takeSlot_bg (s : State) : ∀ n, (takeSlot n s).bg = s.bg := fun _ => rfl
@[simp] theorem addFlight_bg (s : State) : ∀ x, (addFlight x s).bg = s.bg := fun _ => rfl
@[simp] theorem deliver_bg (s : State) : ∀ f b, (deliver f b s).bg = s.bg := by intro f b; unfold deliver; split <;> rfl
@[simp] theorem setPtp_pending (s : State) : ∀ f, (s.setPtp f).pending = s.pending := fun _ => rfl
@[simp] theorem setPtp_free (s : State) : ∀ f, (s.setPtp f).free = s.free := fun _ => rfl
@[simp] theorem setPtp_io (s : State) : ∀ f, (s.setPtp f).io = s.io := fun _ => rfl
@[simp] theorem setPtp_reg (s : State) : ∀ f, (s.setPtp f).reg = s.reg := fun _ => rfl
@[simp] theorem setPtp_led (s : State) : ∀ f, (s.setPtp f).led = s.led := fun _ => rfl
@[simp] theorem setPtp_saf (s : State) : ∀ f, (s.setPtp f).saf = s.saf := fun _ => rfl
@[simp] theorem setPtp_clk (s : State) : ∀ f, (s.setPtp f).clk = s.clk := fun _ => rfl
@[simp] theorem setPtp_pwr (s : State) : ∀ f, (s.setPtp f).pwr = s.pwr := fun _ => rfl
@[simp] theorem setPtp_boot (s : State) : ∀ f, (s.setPtp f).boot = s.boot := fun _ => rfl
@[simp] theorem setPtp_mot (s : State) : ∀ f, (s.setPtp f).mot = s.mot := fun _ => rfl
@[simp] theorem setPtp_axs (s : State) : ∀ f, (s.setPtp f).axs = s.axs := fun _ => rfl
@[simp] theorem setPtp_fb (s : State) : ∀ f, (s.setPtp f).fb = s.fb := fun _ => rfl
@[simp] theorem setPtp_cle (s : State) : ∀ f, (s.setPtp f).cle = s.cle := fun _ => rfl
@[simp] theorem setPtp_thm (s : State) : ∀ f, (s.setPtp f).thm = s.thm := fun _ => rfl
@[simp] theorem setPtp_rim (s : State) : ∀ f, (s.setPtp f).rim = s.rim := fun _ => rfl
@[simp] theorem setPtp_dma (s : State) : ∀ f, (s.setPtp f).dma = s.dma := fun _ => rfl
@[simp] theorem setPtp_img (s : State) : ∀ f, (s.setPtp f).img = s.img := fun _ => rfl
@[simp] theorem setPtp_shs (s : State) : ∀ f, (s.setPtp f).shs = s.shs := fun _ => rfl
@[simp] theorem setPtp_pair (s : State) : ∀ f, (s.setPtp f).pair = s.pair := fun _ => rfl
@[simp] theorem setPtp_bg (s : State) : ∀ f, (s.setPtp f).bg = s.bg := fun _ => rfl
@[simp] theorem dropFinals_pending (s : State) : ∀ n g h, (dropFinals n g h s).pending = s.pending := fun _ _ _ => rfl
@[simp] theorem dropFinals_free (s : State) : ∀ n g h, (dropFinals n g h s).free = s.free := fun _ _ _ => rfl
@[simp] theorem dropFinals_reg (s : State) : ∀ n g h, (dropFinals n g h s).reg = s.reg := fun _ _ _ => rfl
@[simp] theorem dropFinals_led (s : State) : ∀ n g h, (dropFinals n g h s).led = s.led := fun _ _ _ => rfl
@[simp] theorem dropFinals_saf (s : State) : ∀ n g h, (dropFinals n g h s).saf = s.saf := fun _ _ _ => rfl
@[simp] theorem dropFinals_clk (s : State) : ∀ n g h, (dropFinals n g h s).clk = s.clk := fun _ _ _ => rfl
@[simp] theorem dropFinals_pwr (s : State) : ∀ n g h, (dropFinals n g h s).pwr = s.pwr := fun _ _ _ => rfl
@[simp] theorem dropFinals_boot (s : State) : ∀ n g h, (dropFinals n g h s).boot = s.boot := fun _ _ _ => rfl
@[simp] theorem dropFinals_mot (s : State) : ∀ n g h, (dropFinals n g h s).mot = s.mot := fun _ _ _ => rfl
@[simp] theorem dropFinals_axs (s : State) : ∀ n g h, (dropFinals n g h s).axs = s.axs := fun _ _ _ => rfl
@[simp] theorem dropFinals_fb (s : State) : ∀ n g h, (dropFinals n g h s).fb = s.fb := fun _ _ _ => rfl
@[simp] theorem dropFinals_cle (s : State) : ∀ n g h, (dropFinals n g h s).cle = s.cle := fun _ _ _ => rfl
@[simp] theorem dropFinals_thm (s : State) : ∀ n g h, (dropFinals n g h s).thm = s.thm := fun _ _ _ => rfl
@[simp] theorem dropFinals_rim (s : State) : ∀ n g h, (dropFinals n g h s).rim = s.rim := fun _ _ _ => rfl
@[simp] theorem dropFinals_itk (s : State) : ∀ n g h, (dropFinals n g h s).itk = s.itk := fun _ _ _ => rfl
@[simp] theorem dropFinals_dma (s : State) : ∀ n g h, (dropFinals n g h s).dma = s.dma := fun _ _ _ => rfl
@[simp] theorem dropFinals_img (s : State) : ∀ n g h, (dropFinals n g h s).img = s.img := fun _ _ _ => rfl
@[simp] theorem dropFinals_shs (s : State) : ∀ n g h, (dropFinals n g h s).shs = s.shs := fun _ _ _ => rfl
@[simp] theorem dropFinals_pair (s : State) : ∀ n g h, (dropFinals n g h s).pair = s.pair := fun _ _ _ => rfl
@[simp] theorem dropFinals_bg (s : State) : ∀ n g h, (dropFinals n g h s).bg = s.bg := fun _ _ _ => rfl
@[simp] theorem reserveUnit_pending (s : State) : (reserveUnit s).pending = s.pending := rfl
@[simp] theorem reserveUnit_free (s : State) : (reserveUnit s).free = s.free := rfl
@[simp] theorem reserveUnit_io (s : State) : (reserveUnit s).io = s.io := rfl
@[simp] theorem reserveUnit_reg (s : State) : (reserveUnit s).reg = s.reg := rfl
@[simp] theorem reserveUnit_saf (s : State) : (reserveUnit s).saf = s.saf := rfl
@[simp] theorem reserveUnit_clk (s : State) : (reserveUnit s).clk = s.clk := rfl
@[simp] theorem reserveUnit_pwr (s : State) : (reserveUnit s).pwr = s.pwr := rfl
@[simp] theorem reserveUnit_boot (s : State) : (reserveUnit s).boot = s.boot := rfl
@[simp] theorem reserveUnit_mot (s : State) : (reserveUnit s).mot = s.mot := rfl
@[simp] theorem reserveUnit_axs (s : State) : (reserveUnit s).axs = s.axs := rfl
@[simp] theorem reserveUnit_fb (s : State) : (reserveUnit s).fb = s.fb := rfl
@[simp] theorem reserveUnit_cle (s : State) : (reserveUnit s).cle = s.cle := rfl
@[simp] theorem reserveUnit_thm (s : State) : (reserveUnit s).thm = s.thm := rfl
@[simp] theorem reserveUnit_rim (s : State) : (reserveUnit s).rim = s.rim := rfl
@[simp] theorem reserveUnit_itk (s : State) : (reserveUnit s).itk = s.itk := rfl
@[simp] theorem reserveUnit_dma (s : State) : (reserveUnit s).dma = s.dma := rfl
@[simp] theorem reserveUnit_img (s : State) : (reserveUnit s).img = s.img := rfl
@[simp] theorem reserveUnit_shs (s : State) : (reserveUnit s).shs = s.shs := rfl
@[simp] theorem reserveUnit_pair (s : State) : (reserveUnit s).pair = s.pair := rfl
@[simp] theorem reserveUnit_bg (s : State) : (reserveUnit s).bg = s.bg := rfl

end Sys2Proof.Machine
end

