-- ==== Sys2Proof/Laws/Velov.lean ====
section
/-!
SUPPORT. What the Velov engine does with a command that passes its checks: the path from the request slot to the start
of its flight, once for every opcode.
-/
namespace Sys2Proof.Machine

/-- Hamper `n` after it was replaced. -/
theorem hamper_setHamper (io : Io) (n : Nat) (f : Hamper → Hamper) (h : n < io.hampers.length) :
    (io.setHamper n f).hamper n = f (io.hamper n) := getD_upd_eq _ _ _ h

/-- The number of hampers does not change. -/
@[simp] theorem setHamper_length (io : Io) (n : Nat) (f : Hamper → Hamper) :
    (io.setHamper n f).hampers.length = io.hampers.length := length_upd _ _ _

theorem orElse_none {a b : Option (Nat × Nat)} : orElse a b = none ↔ a = none ∧ b = none := by
  cases a <;> simp [orElse]

/-- A session's end replaces the sessions and nothing else of the host interface. -/
theorem acceptSeq_hampers (f : Frame) (s : State) (h : f.seq ≠ 0xFFFFFFFF) :
    (acceptSeq f s).io.hampers = s.io.hampers := by
  unfold acceptSeq
  split
  · rfl
  · simp only [h, if_false]

/-- Accepting a SEQ other than the last one changes the sessions only. -/
theorem acceptSeq_rest (f : Frame) (s : State) (h : f.seq ≠ 0xFFFFFFFF) :
    ∃ l, acceptSeq f s = { s with io := { s.io with sessions := l } } := by
  unfold acceptSeq
  split
  · exact ⟨s.io.sessions, rfl⟩
  · simp only [h, if_false]; exact ⟨_, rfl⟩

/-- The parts of `passes`. -/
theorem passes_iff (op : Op) (f : Frame) (s : State) : passes op f s = true ↔
    s.ready = true ∧ s.shs.lateDue = false ∧ (s.io.hamper f.hamper.val).flights = [] ∧ f.seq ≠ 0xFFFFFFFF
      ∧ f.hamper.val < s.io.hampers.length
      ∧ orElse (earlyFault f (takeSlot f.hamper.val s)) (sessionFault (specOf op) f (takeSlot f.hamper.val s)) = none
      ∧ lateFault op (heldFlight op f s).cmd (acceptSeq f (takeSlot f.hamper.val s)) = none
      ∧ (specOf op).post (heldFlight op f s).cmd (heldState op f s) = none
      ∧ sizeBad op (heldFlight op f s).cmd (heldState op f s) = false := by
  simp [passes, and_assoc]

/-- The flights of the hamper of a held command that passes: that one alone. -/
theorem heldState_hamper {op : Op} {f : Frame} {s : State} (h : passes op f s = true) :
    ((heldState op f s).io.hamper f.hamper.val).flights = [heldFlight op f s] := by
  obtain ⟨-, -, h3, h4, h5, -⟩ := (passes_iff op f s).1 h
  have hx : (heldFlight op f s).f = f := rfl
  unfold heldState addFlight
  rw [hx]
  obtain ⟨l, hl⟩ := acceptSeq_rest f (takeSlot f.hamper.val s) h4
  rw [hl]
  simp only [State.setHamper]
  rw [hamper_setHamper]
  · show ((takeSlot f.hamper.val s).io.hamper f.hamper.val).flights ++ [heldFlight op f s] = _
    unfold takeSlot State.setHamper
    simp only
    rw [hamper_setHamper _ _ _ h5]
    simp [h3]
  · simpa [takeSlot, State.setHamper] using h5

/-- A command that passes is held and its hamper pumps. -/
theorem consume_passes {op : Op} {f : Frame} {s : State} (h : passes op f s = true) :
    consume op f s = pump f.hamper.val (heldState op f s) := by
  obtain ⟨h1, -, -, -, -, h6, h7, -⟩ := (passes_iff op f s).1 h
  unfold consume
  simp only [h1, Bool.not_true, Bool.false_eq_true, if_false]
  rw [h6]
  simp only
  have : (newFlight op f (takeSlot f.hamper.val s)) = heldFlight op f s := rfl
  rw [this, h7]
  rfl

/-- The one flight of a hamper starts. -/
theorem pumpGo_one {k n : Nat} {s : State} {x : Flight} (h : (s.io.hamper n).flights = [x]) (hs : x.stage = .held) :
    pumpGo (k + 1) n s = pumpGo k n (startFlight x s) := by
  have : nextStart [] (s.io.hamper n).flights = some x := by
    rw [h]; simp [nextStart, hs, mayStart]
  simp only [pumpGo, this]

/-- A hamper whose flights are past their start does nothing. -/
theorem pumpGo_idle {k n : Nat} {s : State} (h : nextStart [] (s.io.hamper n).flights = none) : pumpGo k n s = s := by
  cases k with
  | zero => rfl
  | succ k => simp only [pumpGo, h]

theorem nextStart_none : ∀ (a l : List Flight), (∀ x ∈ l, x.stage ≠ .held) → nextStart a l = none
  | _, [], _ => rfl
  | a, x :: xs, h => by
    have hx : x.stage ≠ .held := h x (by simp)
    simp [nextStart, hx]
    exact nextStart_none _ xs fun y hy => h y (by simp [hy])

/-- A flight whose last checks pass starts: a change is recorded, a query answers. -/
theorem startFlight_go {x : Flight} {s : State} (h8 : (specOf x.op).post x.cmd s = none)
    (h9 : sizeBad x.op x.cmd s = false) :
    startFlight x s = if x.change then
      (s.setFlight x.f.hamper.val x.f.tag.toNat x.gone fun y => { y with stage := .recording }).record (commandRec x s)
    else answerQuery x s := by
  simp only [startFlight, h8, h9, Bool.false_eq_true, if_false]

/-- The hamper of a held command is one of the eight. -/
theorem heldState_length {op : Op} {f : Frame} {s : State} (h : passes op f s = true) :
    f.hamper.val < (heldState op f s).io.hampers.length := by
  obtain ⟨-, -, -, h4, h5, -⟩ := (passes_iff op f s).1 h
  unfold heldState addFlight State.setHamper
  simp only [setHamper_length]
  rw [acceptSeq_hampers _ _ h4]
  simpa [takeSlot, State.setHamper] using h5

/-- A command that passes starts. -/
theorem consume_start {op : Op} {f : Frame} {s : State} (h : passes op f s = true) :
    consume op f s = pumpGo 127 f.hamper.val (startFlight (heldFlight op f s) (heldState op f s)) := by
  rw [consume_passes h]
  exact pumpGo_one (k := 127) (heldState_hamper h) rfl

/-- A change that passes is recorded. -/
theorem consume_change {op : Op} {f : Frame} {s : State} (h : passes op f s = true) (hc : isChange op = true) :
    consume op f s = recordedState op f s := by
  obtain ⟨-, -, -, -, -, -, -, h8, h9⟩ := (passes_iff op f s).1 h
  have hs : startFlight (heldFlight op f s) (heldState op f s) = recordedState op f s := by
    rw [startFlight_go h8 h9, if_pos (show (heldFlight op f s).change = true from hc)]
    rfl
  rw [consume_start h, hs]
  apply pumpGo_idle
  apply nextStart_none
  intro x hx
  unfold recordedState at hx
  simp only [record_io, State.setFlight, State.setHamper] at hx
  rw [hamper_setHamper _ _ _ (heldState_length h)] at hx
  simp only [heldState_hamper h, List.map_cons, List.map_nil, List.mem_singleton] at hx
  subst hx
  simp [heldFlight, newFlight]

end Sys2Proof.Machine
end

