-- ==== Sys2Proof/Laws/Ops.lean ====
section
/-!
SUPPORT. What the shared operations over event lines, responses and faults can do, said once: a pulse touches lines,
message counts, event rings and host memory; a NOTE or SPOIL raise touches the fault list, the recorder's queue and one
line.
-/
namespace Sys2Proof.Machine

/-- What an event on a line may change of the host interface: lines, MSI-X counts, host memory and the hampers' event
rings. -/
structure PulseOnly (io io' : Io) : Prop where
  time : io'.time = io.time
  sessions : io'.sessions = io.sessions
  usedIds : io'.usedIds = io.usedIds
  windows : io'.windows = io.windows
  finals : io'.finals = io.finals
  size : io'.hampers.length = io.hampers.length
  hampers : ∀ n, ∃ r, io'.hamper n = { io.hamper n with ring := r }

theorem PulseOnly.refl (io : Io) : PulseOnly io io :=
  ⟨rfl, rfl, rfl, rfl, rfl, rfl, fun n => ⟨(io.hamper n).ring, rfl⟩⟩

theorem PulseOnly.trans {a b c : Io} (h : PulseOnly a b) (k : PulseOnly b c) : PulseOnly a c where
  time := k.time.trans h.time
  sessions := k.sessions.trans h.sessions
  usedIds := k.usedIds.trans h.usedIds
  windows := k.windows.trans h.windows
  finals := k.finals.trans h.finals
  size := k.size.trans h.size
  hampers n := by
    obtain ⟨r, hr⟩ := h.hampers n
    obtain ⟨q, hq⟩ := k.hampers n
    exact ⟨q, by rw [hq, hr]⟩

/-- Host memory may change. -/
theorem PulseOnly.withHost {a b : Io} (h : PulseOnly a b) (m : Mem) : PulseOnly a { b with host := m } :=
  ⟨h.time, h.sessions, h.usedIds, h.windows, h.finals, h.size, h.hampers⟩

/-- Replacing the event ring of a hamper. -/
theorem setRing_only (io : Io) (n : Nat) (f : EvRing → EvRing) :
    PulseOnly io (io.setHamper n fun h => { h with ring := f h.ring }) where
  time := rfl
  sessions := rfl
  usedIds := rfl
  windows := rfl
  finals := rfl
  size := setHamper_length _ _ _
  hampers m := by
    show ∃ r, (upd io.hampers n _).getD m {} = _
    rw [getD_upd]
    split
    · rename_i h; obtain ⟨rfl, -⟩ := h; exact ⟨_, rfl⟩
    · exact ⟨_, rfl⟩

theorem writeEntry_only (n k l t o st c tm sq d : Nat) (io : Io) :
    PulseOnly io (writeEntry n k l t o st c tm sq d io) := by
  unfold writeEntry
  exact (setRing_only io n fun r => { r with pi := ((io.hamper n).ring.pi + 1) % (2 * (io.hamper n).ring.size) }).withHost _

theorem sinkInto_only (line d code : Nat) (io : Io) : PulseOnly io (sinkInto line d code io).1 := by
  unfold sinkInto
  split
  · exact ⟨rfl, rfl, rfl, rfl, rfl, rfl, fun _ => ⟨_, rfl⟩⟩
  · split
    · simp only
      split
      · exact .refl io
      · split
        · exact setRing_only io _ fun r => { r with lost := r.lost + 1 }
        · exact writeEntry_only _ _ _ _ _ _ _ _ _ _ io
    · exact .refl io

theorem markLine_only (line : Nat) (io : Io) : PulseOnly io (markLine line io) :=
  ⟨rfl, rfl, rfl, rfl, rfl, rfl, fun _ => ⟨_, rfl⟩⟩

theorem pulseGo_only : ∀ (k line d : Nat) (io : Io), PulseOnly io (pulseGo k line d io)
  | 0, line, _, io => markLine_only line io
  | k + 1, line, d, io => by
    have ih := pulseGo_only k
    simp only [pulseGo]
    generalize (io.lines.getD line {}).sinks = l
    have key : ∀ (l : List Nat) (x : Io), PulseOnly io x → PulseOnly io (l.foldl (fun io code =>
        match sinkInto line d code io with
        | (io', none) => io'
        | (io', some l) => pulseGo k l 0 io') x) := by
      intro l
      induction l with
      | nil => intro x h; exact h
      | cons c l il =>
        intro x h
        apply il
        have hs := sinkInto_only line d c x
        dsimp only
        split
        · rename_i io' e; rw [e] at hs; exact h.trans hs
        · rename_i io' l' e; rw [e] at hs; exact (h.trans hs).trans (ih l' 0 io')
    exact key l _ (markLine_only line io)

/-- A pulse of an event line. -/
theorem pulse_only (line d : Nat) (io : Io) : PulseOnly io (pulse line d io) := pulseGo_only _ _ _ _

/-- What an event and a NOTE may change: the host interface as a pulse does, the fault list, the recorder's queue. -/
structure NoteOnly (s t : State) : Prop where
  same : t = { s with io := t.io, saf := t.saf, led := t.led }
  io : PulseOnly s.io t.io
  saf : t.saf = { s.saf with faults := t.saf.faults, overflow := t.saf.overflow, firstFault := t.saf.firstFault }
  led : t.led = { s.led with queue := t.led.queue, low := t.led.low, full := t.led.full }

theorem NoteOnly.refl (s : State) : NoteOnly s s := ⟨rfl, .refl _, rfl, rfl⟩

theorem NoteOnly.trans {a b c : State} (h : NoteOnly a b) (k : NoteOnly b c) : NoteOnly a c where
  same := by rw [k.same, h.same]
  io := h.io.trans k.io
  saf := by rw [k.saf, h.saf]
  led := by rw [k.led, h.led]

theorem NoteOnly.head {s t : State} (h : NoteOnly s t) : t.led.head = s.led.head := by rw [h.led]

theorem NoteOnly.ctrl {s t : State} (h : NoteOnly s t) : t.saf.ctrl = s.saf.ctrl := by rw [h.saf]
theorem NoteOnly.ilk {s t : State} (h : NoteOnly s t) : t.saf.ilk = s.saf.ilk := by rw [h.saf]

theorem State.pulse_note (s : State) (line d : Nat) : NoteOnly s (s.pulse line d) :=
  ⟨rfl, pulse_only _ _ _, rfl, rfl⟩

theorem setCtrl_same (s : State) : s.setCtrl s.saf.ctrl = s := by simp [State.setCtrl]

/-- A NOTE that is none of the faults with which an ACTIVE declares itself. -/
theorem raise_note (s : State) (line index cause : Nat) (h : declares line index cause = false) :
    NoteOnly s (s.raise .note line index cause) := by
  unfold State.raise
  simp only [h, Bool.false_eq_true, if_false, classEffect, classState, setCtrl_same]
  split
  · exact ⟨rfl, .refl _, rfl, rfl⟩
  · split
    · exact ⟨rfl, pulse_only _ _ _, rfl, rfl⟩
    · exact ⟨rfl, .refl _, rfl, rfl⟩

/-- The levels of R369 after a change of the free space. -/
theorem ledgerLevels_note (s : State) : NoteOnly s (ledgerLevels s) := by
  unfold ledgerLevels
  simp only
  split
  · exact .refl s
  · have h1 : ∀ l : Ledger, l = { s.led with low := l.low, full := l.full } →
        NoteOnly s (({ s with led := l } : State).pulse 245 0) := fun l h =>
      ⟨rfl, pulse_only _ _ _, rfl, by simp only [pulse_led]; rw [h]⟩
    split
    · exact (h1 _ rfl).trans (raise_note _ _ _ _ rfl)
    · exact h1 _ rfl

end Sys2Proof.Machine
end

