-- ==== Sys2Proof/Laws/Change.lean ====
section
/-!
SUPPORT. The path of a change that applies: recorded, committed, in effect, answered. A statement about one opcode rests
on these and on that opcode's effect alone.
-/
namespace Sys2Proof.Machine

/-- What stays of a state when a frame's command is held: all but the hampers and the sessions. -/
theorem heldState_same (op : Op) (f : Frame) (s : State) (h : f.seq ≠ 0xFFFFFFFF) :
    ∃ hs ss, heldState op f s = { s with io := { s.io with hampers := hs, sessions := ss } } := by
  obtain ⟨l, hl⟩ := acceptSeq_rest f (takeSlot f.hamper.val s) h
  unfold heldState
  rw [hl]
  exact ⟨_, _, rfl⟩

/-- The parts of `applies`. -/
theorem applies_iff (op : Op) (f : Frame) (s : State) : applies op f s = true ↔
    isChange op = true ∧ op ≠ .cmdAbort ∧ passes op f s = true ∧ s.led.queue = [] ∧ ckptDue s = false
      ∧ s.pwr.resetDue ≠ some 5 ∧ spaceFor .ordinary (recordedState op f s) = true
      ∧ applyFault op (heldFlight op f s).cmd (committedState op f s) = none := by
  simp [applies, and_assoc]

/-- The state in which a change has been recorded. -/
theorem recordedState_eq (op : Op) (f : Frame) (s : State) (h : f.seq ≠ 0xFFFFFFFF) (hq : s.led.queue = []) :
    ∃ hs ss, recordedState op f s = { s with
      io := { s.io with hampers := hs, sessions := ss }
      led := { s.led with queue := [recordOf op f s] } } := by
  obtain ⟨hs, ss, he⟩ := heldState_same op f s h
  refine ⟨((heldState op f s).setFlight f.hamper.val f.tag.toNat 0 fun y => { y with stage := .recording }).io.hampers, ss, ?_⟩
  unfold recordedState
  rw [State.record]
  simp only [he, State.setFlight, State.setHamper, Io.setHamper, hq, insertRec]

/-- A record alone is chained and the levels follow: what stays. -/
theorem entered_note (r : Rec) (t : State) : NoteOnly (enteredState r t) (ledgerLevels (enteredState r t)) :=
  ledgerLevels_note _

theorem enteredState_same (r : Rec) (t : State) : enteredState r t = { t with led := (enteredState r t).led } := rfl

theorem enteredState_io (r : Rec) (t : State) : (enteredState r t).io = t.io := rfl

theorem enteredState_saf (r : Rec) (t : State) : (enteredState r t).saf = t.saf := rfl

theorem enteredState_head (r : Rec) (t : State) : (enteredState r t).led.head = t.led.head + 1 := rfl

/-- A state with another host interface, other safety data and another ledger. -/
def withParts (a : State) (i : Io) (f : Safety) (l : Ledger) : State := { a with io := i, saf := f, led := l }

theorem withParts_self (a : State) : a = withParts a a.io a.saf a.led := rfl
theorem withParts_withParts (a : State) (i j : Io) (f g : Safety) (l m : Ledger) :
    withParts (withParts a i f l) j g m = withParts a j g m := rfl
theorem withParts_entered (r : Rec) (t : State) (i : Io) (f : Safety) (l : Ledger) :
    withParts (enteredState r t) i f l = withParts t i f l := rfl

/-- What a NOTE leaves, in these terms. -/
theorem NoteOnly.parts {a b : State} (h : NoteOnly a b) : b = withParts a b.io b.saf b.led := h.same

/-- The state right before a change takes effect: the host interface, the fault list and the ledger are all that its
entry has touched. -/
theorem committedState_parts (op : Op) (f : Frame) (s : State) (h : f.seq ≠ 0xFFFFFFFF) (hq : s.led.queue = []) :
    committedState op f s
      = withParts s (committedState op f s).io (committedState op f s).saf (committedState op f s).led := by
  obtain ⟨hs, ss, he⟩ := recordedState_eq op f s h hq
  have hr : ∀ i g l, withParts (recordedState op f s) i g l = withParts s i g l := fun i g l =>
    (congrArg (fun a => withParts a i g l) he).trans rfl
  unfold committedState
  have hn := (entered_note (recordOf op f s) (recordedState op f s)).parts
  rw [withParts_entered, hr] at hn
  exact hn

/-- What the entry of a change leaves of the host interface and of the safety data, and the head it writes. -/
theorem committedState_kept (op : Op) (f : Frame) (s : State) (h : f.seq ≠ 0xFFFFFFFF) (hq : s.led.queue = []) :
    (committedState op f s).io.time = s.io.time ∧ (committedState op f s).io.finals = s.io.finals
      ∧ (committedState op f s).io.windows = s.io.windows ∧ (committedState op f s).io.usedIds = s.io.usedIds
      ∧ (committedState op f s).saf.ctrl = s.saf.ctrl ∧ (committedState op f s).saf.ilk = s.saf.ilk
      ∧ (committedState op f s).led.head = s.led.head + 1 := by
  obtain ⟨hs, ss, he⟩ := recordedState_eq op f s h hq
  have hn := entered_note (recordOf op f s) (recordedState op f s)
  have e1 : (recordedState op f s).io.time = s.io.time := by rw [he]
  have e2 : (recordedState op f s).io.finals = s.io.finals := by rw [he]
  have e3 : (recordedState op f s).io.windows = s.io.windows := by rw [he]
  have e4 : (recordedState op f s).io.usedIds = s.io.usedIds := by rw [he]
  have e5 : (recordedState op f s).saf = s.saf := by rw [he]
  have e6 : (recordedState op f s).led.head = s.led.head := by rw [he]
  unfold committedState
  refine ⟨?_, ?_, ?_, ?_, ?_, ?_, ?_⟩
  · rw [hn.io.time, enteredState_io, e1]
  · rw [hn.io.finals, enteredState_io, e2]
  · rw [hn.io.windows, enteredState_io, e3]
  · rw [hn.io.usedIds, enteredState_io, e4]
  · rw [hn.ctrl, enteredState_saf, e5]
  · rw [hn.ilk, enteredState_saf, e5]
  · rw [hn.head, enteredState_head, e6]

/-- The flight of a change while its entry is on the way. -/
def recordingFlight (op : Op) (f : Frame) (s : State) : Flight := { heldFlight op f s with stage := .recording }

theorem recordingFlight_f (op : Op) (f : Frame) (s : State) : (recordingFlight op f s).f = f := rfl

/-- The hamper of a recorded change holds its flight alone. -/
theorem recordedState_flights {op : Op} {f : Frame} {s : State} (h : passes op f s = true) :
    ((recordedState op f s).io.hamper f.hamper.val).flights = [recordingFlight op f s] := by
  unfold recordedState
  simp only [record_io, State.setFlight, State.setHamper]
  rw [hamper_setHamper _ _ _ (heldState_length h)]
  simp only [heldState_hamper h, List.map_cons, List.map_nil]
  simp [recordingFlight, heldFlight, newFlight]

theorem recordedState_length {op : Op} {f : Frame} {s : State} (h : passes op f s = true) :
    f.hamper.val < (recordedState op f s).io.hampers.length := by
  unfold recordedState
  simpa [State.setFlight, State.setHamper] using heldState_length h

/-- The same once its entry is committed. -/
theorem committedState_flights {op : Op} {f : Frame} {s : State} (h : passes op f s = true) :
    ((committedState op f s).io.hamper f.hamper.val).flights = [recordingFlight op f s] := by
  obtain ⟨r, hr⟩ := (entered_note (recordOf op f s) (recordedState op f s)).io.hampers f.hamper.val
  unfold committedState
  rw [hr, enteredState_io]
  exact recordedState_flights h

/-- The hampers are all there. -/
theorem committedState_length {op : Op} {f : Frame} {s : State} (h : passes op f s = true) :
    f.hamper.val < (committedState op f s).io.hampers.length := by
  unfold committedState
  rw [(entered_note (recordOf op f s) (recordedState op f s)).io.size, enteredState_io]
  exact recordedState_length h

/-- What a committed change leaves: its effect, then its answer, then what may start on its hamper. -/
def afterChange (op : Op) (f : Frame) (s : State) : State :=
  dueReset (pump f.hamper.val (applyChange (recordingFlight op f s) (s.led.head + 1) (committedState op f s)))

/-- An ordinary record of a change is chained. -/
theorem chainRecord_command (r : Rec) (t : State) (hd : r.draw = .ordinary) (hk : r.kind = .command) :
    chainRecord r { t with led := { t.led with queue := [] } }
      = afterEntry r.act (t.led.head + 1) (ledgerLevels (enteredState r t)) := by
  unfold chainRecord enteredState
  simp only [hd, hk, reduceCtorEq, if_false, entryFlags]

theorem recordOf_draw (op : Op) (f : Frame) (s : State) : (recordOf op f s).draw = .ordinary := rfl
theorem recordOf_kind (op : Op) (f : Frame) (s : State) : (recordOf op f s).kind = .command := rfl
theorem recordOf_act (op : Op) (f : Frame) (s : State) : (recordOf op f s).act = .command op f := rfl

/-- The entry of a change is in MRAM: its flight applies. -/
theorem afterEntry_eq {op : Op} {f : Frame} {n : Nat} {k : State} {x : Flight} (h : recordedFlight op f k = some x) :
    afterEntry (.command op f) n k = dueReset (pump x.f.hamper.val (applyChange x n k)) := by
  show (match recordedFlight op f k with
    | some x => dueReset (pump x.f.hamper.val (applyChange x n k))
    | none => k) = _
  rw [h]

theorem committedState_flight {op : Op} {f : Frame} {s : State} (h : passes op f s = true) :
    recordedFlight op f (committedState op f s) = some (recordingFlight op f s) := by
  unfold recordedFlight
  rw [committedState_flights h]
  simp [recordingFlight, heldFlight, newFlight]

/-- The entry of a recorded change is in, and the change applies. -/
theorem afterEntry_command {op : Op} {f : Frame} {s : State} (h : passes op f s = true) :
    afterEntry (.command op f) (s.led.head + 1) (committedState op f s) = afterChange op f s := by
  rw [afterEntry_eq (committedState_flight h), recordingFlight_f]
  rfl

/-- The two rows by which a change runs. -/
theorem change_runs {op : Op} {f : Frame} {s : State} (h : applies op f s = true) :
    command op f s = .next (recordedState op f s)
      ∧ exec .ledgerEntryCommit (recordedState op f s) = .next (lateSpoils (afterChange op f s)) := by
  obtain ⟨h1, -, h3, h4, h5, -, h6, -⟩ := (applies_iff op f s).1 h
  obtain ⟨p1, p2, -, p4, -⟩ := (passes_iff op f s).1 h3
  obtain ⟨hs, ss, he⟩ := recordedState_eq op f s p4 h4
  have hlate : (recordedState op f s).shs.lateDue = false := by rw [he]; exact p2
  have hready : (recordedState op f s).ready = true := by rw [he]; exact p1
  have hreset : (recordedState op f s).saf.internalReset = false := by
    simp only [State.ready, Bool.and_eq_true, Bool.not_eq_true'] at hready; exact hready.2
  have hck : ckptDue (recordedState op f s) = false := by rw [he]; exact h5
  have hqq : (recordedState op f s).led.queue = [recordOf op f s] := by rw [he]
  have hhead : (recordedState op f s).led.head = s.led.head := by rw [he]
  constructor
  · unfold command anyTime
    rw [consume_change h3 h1]
    unfold lateSpoils
    rw [hlate]
    rfl
  · have hc : ledgerCommit (recordedState op f s) = afterChange op f s := by
      unfold ledgerCommit
      rw [hready, hck, hqq]
      simp only [Bool.not_true, Bool.false_and, Bool.false_eq_true, if_false, recordOf_draw, h6, if_true]
      rw [chainRecord_command _ _ (recordOf_draw op f s) (recordOf_kind op f s), recordOf_act, hhead]
      exact afterEntry_command h3
    show onChip ledgerCommit (recordedState op f s) = _
    unfold onChip
    rw [hreset, hc]
    rfl

end Sys2Proof.Machine
end

