-- ==== Sys2Proof/Laws/Answer.lean ====
section
/-!
SUPPORT. What posting a response leaves, and with it the end of a change: its effect with another host interface.
-/
namespace Sys2Proof.Machine

/-- No flight of hamper `n` waits to start. -/
def NoneHeld (n : Nat) (io : Io) : Prop := ∀ x ∈ (io.hamper n).flights, x.stage ≠ .held

theorem NoneHeld.pulse {n : Nat} {a b : Io} (h : NoneHeld n a) (p : PulseOnly a b) : NoneHeld n b := by
  obtain ⟨r, hr⟩ := p.hampers n
  unfold NoneHeld
  rw [hr]
  exact h

/-- A hamper is replaced by one whose flights are among the old ones, or do not wait either. -/
theorem NoneHeld.setHamper {n m : Nat} {io : Io} {f : Hamper → Hamper} (h : NoneHeld n io)
    (hf : ∀ g : Hamper, (∀ x ∈ g.flights, x.stage ≠ .held) → ∀ x ∈ (f g).flights, x.stage ≠ .held) :
    NoneHeld n (io.setHamper m f) := by
  unfold NoneHeld Io.hamper Io.setHamper at *
  simp only
  rw [getD_upd]
  split
  · rename_i e; rw [e.1] at h; exact hf _ h
  · exact h

theorem NoneHeld.dropFlight {n m t : Nat} {io : Io} (h : NoneHeld n io) : NoneHeld n (dropFlight m t io) :=
  h.setHamper fun _ hg x hx => hg x ((List.mem_filter.1 hx).1)

/-- Windows, hosts and message counts do not matter. -/
theorem NoneHeld.windows {n : Nat} {io : Io} (h : NoneHeld n io) (w : Mem) : NoneHeld n { io with windows := w } := h

theorem NoneHeld.putResponse {n m : Nat} {io : Io} (h : NoneHeld n io) (r : Resp) : NoneHeld n (putResponse m r io) := by
  unfold Machine.putResponse
  simp only
  have h1 : NoneHeld n { io.setHamper m (fun h => { h with rspPi := (h.rspPi + 1) % 128 }) with
      windows := memWriteBytes io.windows (m * 0x2000 + 0x1000 + 64 * ((io.hamper m).rspPi % 64))
        (r.slot (if (io.hamper m).rspPi < 64 then 1 else 0)) } :=
    NoneHeld.windows (NoneHeld.setHamper (f := fun h => { h with rspPi := (h.rspPi + 1) % 128 }) h fun _ hg => hg) _
  generalize ({ io.setHamper m (fun h => { h with rspPi := (h.rspPi + 1) % 128 }) with
      windows := memWriteBytes io.windows (m * 0x2000 + 0x1000 + 64 * ((io.hamper m).rspPi % 64))
        (r.slot (if (io.hamper m).rspPi < 64 then 1 else 0)) } : Io) = io1 at h1
  have h2 : NoneHeld n (if r.closes then Machine.dropFlight m r.tag io1 else io1) := by
    split
    · exact h1.dropFlight
    · exact h1
  generalize (if r.closes then Machine.dropFlight m r.tag io1 else io1) = io2 at h2
  have h3 := h2.pulse (pulse_only (16 + m) 0 io2)
  split
  · split
    · exact h3.setHamper fun _ hg => hg
    · exact (h3.pulse (writeEntry_only _ _ _ _ _ _ _ _ _ _ _)).pulse (pulse_only _ _ _)
  · exact h3

theorem NoneHeld.postResponse {n m : Nat} {io : Io} (h : NoneHeld n io) (r : Resp) : NoneHeld n (postResponse m r io) := by
  unfold Machine.postResponse
  simp only
  split
  · exact h.putResponse r
  · exact h.setHamper fun _ hg => hg

/-- A hamper without a waiting flight starts nothing. -/
theorem pump_noneHeld {n : Nat} {s : State} (h : NoneHeld n s.io) : pump n s = s := by
  unfold pump
  exact pumpGo_idle (nextStart_none _ _ h)

/-- The answer of a flight: nothing but the host interface, and no flight left to start where none but itself waited. -/
theorem finishFlight_io (x : Flight) (st d q : Nat) (b : Bytes) (s : State)
    (h : ∀ y ∈ (s.io.hamper x.f.hamper.val).flights, y.stage = .held → x.gone = 0 ∧ y.f.tag = x.f.tag ∧ y.gone = 0) :
    ∃ io, finishFlight x st d q b s = { s with io := io } ∧ NoneHeld x.f.hamper.val io := by
  unfold finishFlight
  simp only
  split
  · rename_i hg
    have h0 : NoneHeld x.f.hamper.val s.io := fun y hy he => hg (h y hy he).1
    exact ⟨_, rfl, NoneHeld.setHamper (io := s.io) h0 fun _ hg y hy => hg y ((List.mem_filter.1 hy).1)⟩
  · have h1 : NoneHeld x.f.hamper.val
        ((s.setFlight x.f.hamper.val x.f.tag.toNat 0 fun y => { y with stage := .final, seq := q }).io) := by
      unfold NoneHeld State.setFlight State.setHamper Io.setHamper Io.hamper
      simp only
      rw [getD_upd]
      have key : ∀ z ∈ (s.io.hamper x.f.hamper.val).flights,
          (if (z.f.tag.toNat == x.f.tag.toNat && z.gone == 0) = true then ({ z with stage := .final, seq := q } : Flight) else z).stage
            ≠ .held := by
        intro z hz
        split
        · simp
        · rename_i hn; intro hs; obtain ⟨-, e1, e2⟩ := h z hz hs; simp [e1, e2] at hn
      split
      · intro y hy
        simp only [List.mem_map] at hy
        obtain ⟨z, hz, rfl⟩ := hy
        exact key z hz
      · rename_i hn
        have hlen : ¬ x.f.hamper.val < s.io.hampers.length := fun hl => hn ⟨rfl, hl⟩
        intro y hy
        rw [List.getD_eq_getElem?_getD, List.getElem?_eq_none (by omega)] at hy
        simp at hy
    have h2 : ∃ io, deliver x.f b (s.setFlight x.f.hamper.val x.f.tag.toNat 0 fun y => { y with stage := .final, seq := q })
        = { s with io := io } ∧ NoneHeld x.f.hamper.val io := by
      unfold deliver
      split
      · exact ⟨_, rfl, h1⟩
      · exact ⟨_, rfl, h1⟩
    obtain ⟨io, e, h3⟩ := h2
    rw [e]
    exact ⟨_, rfl, h3.postResponse _⟩

/-- The command of a recorded change. -/
theorem recordingFlight_cmd (op : Op) (f : Frame) (s : State) : (recordingFlight op f s).cmd = (heldFlight op f s).cmd := rfl

/-- The flights after an effect that leaves the host interface alone. -/
theorem eff_flights {op : Op} {f : Frame} {s e : State} (h : passes op f s = true)
    (he : e.io = (committedState op f s).io) :
    ∀ y ∈ (e.io.hamper f.hamper.val).flights, y.stage ≠ .held := by
  rw [he, committedState_flights h]
  intro y hy
  simp only [List.mem_singleton] at hy
  subst hy
  simp [recordingFlight]

/-- A change whose checks pass again and which answers at once. -/
theorem applyChange_done {x : Flight} {n : Nat} {k : State} (ha : x.aborted = false) (ho : x.op ≠ .cmdAbort)
    (hf : applyFault x.op x.cmd k = none) (hs : ((specOf x.op).ans x.cmd k).status ≠ stAccepted) :
    applyChange x n k = finishFlight x ((specOf x.op).ans x.cmd k).status ((specOf x.op).ans x.cmd k).detail n
      ((specOf x.op).ans x.cmd k).result ((specOf x.op).eff x.cmd k) := by
  unfold applyChange
  simp only [ha, Bool.false_eq_true, if_false, ho, hf, hs]

/-- The state in which a long-running change has started. -/
def runningState (x : Flight) (n : Nat) (k : State) : State :=
  k.setFlight x.f.hamper.val x.f.tag.toNat x.gone fun y => { y with stage := .running, seq := n }

/-- A change whose checks pass again and which is accepted. -/
theorem applyChange_accepted {x : Flight} {n : Nat} {k : State} (ha : x.aborted = false) (ho : x.op ≠ .cmdAbort)
    (hf : applyFault x.op x.cmd k = none) (hs : ((specOf x.op).ans x.cmd k).status = stAccepted) (hg : x.gone = 0) :
    applyChange x n k = ((specOf x.op).eff x.cmd (runningState x n k)).respond x.f.hamper.val
      (respOf x.op.code x.f stAccepted 0 0 n [] false ((specOf x.op).eff x.cmd (runningState x n k))) := by
  unfold applyChange runningState
  simp only [ha, Bool.false_eq_true, if_false, ho, hf, hs, if_true, hg]

/-- The same with the parts of the flight named. -/
theorem applyChange_done' {op : Op} {c : Cmd} {x : Flight} {n : Nat} {k e : State} (h1 : x.op = op) (h2 : x.cmd = c)
    (ha : x.aborted = false) (ho : op ≠ .cmdAbort) (hf : applyFault op c k = none)
    (hs : ((specOf op).ans c k).status ≠ stAccepted) (he : (specOf op).eff c k = e) :
    applyChange x n k = finishFlight x ((specOf op).ans c k).status ((specOf op).ans c k).detail n
      ((specOf op).ans c k).result e := by
  subst h1; subst h2; subst he
  exact applyChange_done ha ho hf hs

theorem applyChange_accepted' {op : Op} {c : Cmd} {x : Flight} {n : Nat} {k e : State} (h1 : x.op = op) (h2 : x.cmd = c)
    (ha : x.aborted = false) (ho : op ≠ .cmdAbort) (hf : applyFault op c k = none)
    (hs : ((specOf op).ans c k).status = stAccepted) (hg : x.gone = 0)
    (he : (specOf op).eff c (runningState x n k) = e) :
    applyChange x n k = e.respond x.f.hamper.val (respOf op.code x.f stAccepted 0 0 n [] false e) := by
  subst h1; subst h2; subst he
  exact applyChange_accepted ha ho hf hs hg

theorem dueReset_none {e : State} (h : e.pwr.resetDue ≠ some 5) : dueReset e = e := by
  unfold dueReset; exact if_neg h

theorem lateSpoils_none {e : State} (h : e.shs.lateDue = false) : lateSpoils e = e := by
  unfold lateSpoils; exact if_neg (by simp [h])

/-- What follows an effect and its answer: nothing, where no flight waits and nothing is due. -/
theorem after_quiet {n : Nat} {e a : State} (ha : ∃ io, a = { e with io := io } ∧ NoneHeld n io)
    (hl : e.shs.lateDue = false) (hr : e.pwr.resetDue ≠ some 5) :
    ∃ io, lateSpoils (dueReset (pump n a)) = { e with io := io } := by
  obtain ⟨io, rfl, h⟩ := ha
  refine ⟨io, ?_⟩
  rw [pump_noneHeld h, dueReset_none, lateSpoils_none]
  · exact hl
  · exact hr

theorem recordingFlight_op (op : Op) (f : Frame) (s : State) : (recordingFlight op f s).op = op := rfl
theorem recordingFlight_aborted (op : Op) (f : Frame) (s : State) : (recordingFlight op f s).aborted = false := rfl
theorem recordingFlight_stage (op : Op) (f : Frame) (s : State) : (recordingFlight op f s).stage = .recording := rfl
theorem recordingFlight_gone (op : Op) (f : Frame) (s : State) : (recordingFlight op f s).gone = 0 := rfl

/-- The two rows of a change with the state after both given another name. -/
theorem change_runs' {op : Op} {f : Frame} {s a : State} (h : applies op f s = true)
    (ha : applyChange (recordingFlight op f s) (s.led.head + 1) (committedState op f s) = a) :
    command op f s = .next (recordedState op f s)
      ∧ exec .ledgerEntryCommit (recordedState op f s) = .next (lateSpoils (dueReset (pump f.hamper.val a))) := by
  obtain ⟨r1, r2⟩ := change_runs h
  refine ⟨r1, ?_⟩
  rw [r2]
  unfold afterChange
  rw [ha]

/-- A change that applies and answers at once leaves its effect, with another host interface. -/
theorem change_done {op : Op} {f : Frame} {s e : State} (h : applies op f s = true)
    (ha : ((specOf op).ans (heldFlight op f s).cmd (committedState op f s)).status ≠ stAccepted)
    (he : (specOf op).eff (heldFlight op f s).cmd (committedState op f s) = e)
    (hf : ∀ y ∈ (e.io.hamper f.hamper.val).flights, y.stage ≠ .held)
    (hl : e.shs.lateDue = false) (hr : e.pwr.resetDue ≠ some 5) :
    ∃ io, command op f s = .next (recordedState op f s)
      ∧ exec .ledgerEntryCommit (recordedState op f s) = .next { e with io := io } := by
  obtain ⟨-, h2, -, -, -, -, -, h7⟩ := (applies_iff op f s).1 h
  have h1 := applyChange_done' (n := s.led.head + 1) (recordingFlight_op op f s) (recordingFlight_cmd op f s)
    (recordingFlight_aborted op f s) h2 h7 ha he
  obtain ⟨r1, r2⟩ := change_runs' h h1
  obtain ⟨io, r3⟩ := after_quiet (n := f.hamper.val) (finishFlight_io (recordingFlight op f s) _ _ _ _ e fun y hy he => absurd he (hf y hy)) hl hr
  exact ⟨io, r1, r2.trans (congrArg _ r3)⟩

/-- A flight of a recorded change runs: only the hampers change. -/
theorem runningState_same (x : Flight) (n : Nat) (k : State) :
    ∃ hs, runningState x n k = { k with io := { k.io with hampers := hs } } := ⟨_, rfl⟩

/-- The flights after an effect of a running change that leaves the host interface alone. -/
theorem running_flights {op : Op} {f : Frame} {s e : State} {n : Nat} (h : passes op f s = true)
    (he : e.io = (runningState (recordingFlight op f s) n (committedState op f s)).io) :
    ∀ y ∈ (e.io.hamper f.hamper.val).flights, y.stage ≠ .held := by
  rw [he]
  unfold runningState State.setFlight State.setHamper
  simp only [recordingFlight_f]
  rw [hamper_setHamper _ _ _ (committedState_length h)]
  simp only [committedState_flights h, List.map_cons, List.map_nil, List.mem_singleton]
  intro y hy
  subst hy
  simp [recordingFlight, heldFlight, newFlight]

/-- A change that applies and is accepted leaves what its start does, with another host interface. -/
theorem change_accepted {op : Op} {f : Frame} {s e : State} (h : applies op f s = true)
    (ha : ((specOf op).ans (heldFlight op f s).cmd (committedState op f s)).status = stAccepted)
    (he : (specOf op).eff (heldFlight op f s).cmd
      (runningState (recordingFlight op f s) (s.led.head + 1) (committedState op f s)) = e)
    (hf : ∀ y ∈ (e.io.hamper f.hamper.val).flights, y.stage ≠ .held)
    (hl : e.shs.lateDue = false) (hr : e.pwr.resetDue ≠ some 5) :
    ∃ io, command op f s = .next (recordedState op f s)
      ∧ exec .ledgerEntryCommit (recordedState op f s) = .next { e with io := io } := by
  obtain ⟨-, h2, -, -, -, -, -, h7⟩ := (applies_iff op f s).1 h
  have h1 := applyChange_accepted' (n := s.led.head + 1) (recordingFlight_op op f s) (recordingFlight_cmd op f s)
    (recordingFlight_aborted op f s) h2 h7 ha (recordingFlight_gone op f s) he
  obtain ⟨r1, r2⟩ := change_runs' h h1
  have h0 : NoneHeld f.hamper.val e.io := hf
  obtain ⟨io, r3⟩ := after_quiet (n := f.hamper.val) (e := e)
    ⟨_, rfl, h0.postResponse (respOf op.code f stAccepted 0 0 (s.led.head + 1) [] false e)⟩ hl hr
  exact ⟨io, r1, r2.trans (congrArg _ r3)⟩

end Sys2Proof.Machine
end

