-- ==== Sys2Proof/Laws/Query.lean ====
section
/-!
SUPPORT. The path of a query that answers at once: its response slot, and its RBUF buffer where no event goes into host
memory.
-/
namespace Sys2Proof.Machine

/-! ## Quiet lines -/

/-- No sink of a line is an event ring. -/
def QuietLines (io : Io) : Prop := (io.lines.all fun l => l.sinks.all fun c => !(decide (0x40 ≤ c) && decide (c < 0x48))) = true

theorem QuietLines.sinks {io : Io} (h : QuietLines io) (line : Nat) : ∀ c ∈ (io.lines.getD line {}).sinks, ¬ (0x40 ≤ c ∧ c < 0x48) := by
  intro c hc
  rcases Nat.lt_or_ge line io.lines.length with hl | hl
  · unfold QuietLines at h
    rw [List.all_eq_true] at h
    have hm : io.lines.getD line {} ∈ io.lines := by
      rw [List.getD_eq_getElem?_getD, List.getElem?_eq_getElem hl]
      exact List.getElem_mem hl
    have := List.all_eq_true.1 (h _ hm) c hc
    simp at this
    omega
  · rw [List.getD_eq_getElem?_getD, List.getElem?_eq_none hl] at hc
    simp at hc
    omega

theorem mem_upd_cases {α : Type} {f : α → α} {y : α} : ∀ {l : List α} {n : Nat}, y ∈ upd l n f → y ∈ l ∨ ∃ x ∈ l, y = f x
  | [], _, h => by simp [upd] at h
  | x :: xs, 0, h => by
    simp only [upd, List.mem_cons] at h
    rcases h with h | h
    · exact Or.inr ⟨x, by simp, h⟩
    · exact Or.inl (by simp [h])
  | x :: xs, n + 1, h => by
    simp only [upd, List.mem_cons] at h
    rcases h with h | h
    · exact Or.inl (by simp [h])
    · rcases mem_upd_cases h with h | ⟨z, hz, e⟩
      · exact Or.inl (by simp [h])
      · exact Or.inr ⟨z, by simp [hz], e⟩

theorem QuietLines.mark {io : Io} (h : QuietLines io) (line : Nat) : QuietLines (markLine line io) := by
  unfold QuietLines markLine at *
  rw [List.all_eq_true] at *
  intro y hy
  rcases mem_upd_cases hy with hy | ⟨x, hx, rfl⟩
  · exact h y hy
  · exact h x hx

/-- A quiet pulse writes no host memory. -/
theorem pulseGo_quiet : ∀ (k line d : Nat) (io : Io), QuietLines io → (pulseGo k line d io).host = io.host
  | 0, _, _, _, _ => rfl
  | k + 1, line, d, io, h => by
    simp only [pulseGo]
    have hs := h.sinks line
    generalize (io.lines.getD line {}).sinks = l at hs
    have key : ∀ (l : List Nat) (x : Io), (∀ c ∈ l, ¬ (0x40 ≤ c ∧ c < 0x48)) → x.host = io.host →
        (l.foldl (fun io code => match sinkInto line d code io with
          | (io', none) => io'
          | (io', some l) => pulseGo k l 0 io') x).host = io.host := by
      intro l
      induction l with
      | nil => intro x _ hx; exact hx
      | cons c l il =>
        intro x hc hx
        refine il _ (fun c' h' => hc c' (by simp [h'])) ?_
        have h1 := hc c (by simp)
        have h2 : ∃ j, sinkInto line d c x = (j, none) ∧ j.host = x.host := by
          unfold sinkInto
          rw [if_neg h1]
          split
          · exact ⟨_, rfl, rfl⟩
          · exact ⟨_, rfl, rfl⟩
        obtain ⟨j, e, hj⟩ := h2
        simp only [e]
        exact hj.trans hx
    exact key l _ hs rfl

theorem pulse_quiet {line d : Nat} {io : Io} (h : QuietLines io) : (pulse line d io).host = io.host :=
  pulseGo_quiet _ _ _ _ h

/-! ## A response -/

/-- What a response written at once leaves of the windows, and of the host memory where the lines are quiet. -/
theorem putResponse_windows (n : Nat) (r : Resp) (io : Io) :
    (putResponse n r io).windows = memWriteBytes io.windows (n * 0x2000 + 0x1000 + 64 * ((io.hamper n).rspPi % 64))
      (r.slot (if (io.hamper n).rspPi < 64 then 1 else 0)) := by
  unfold putResponse
  simp only
  generalize he : ({ io.setHamper n (fun h => { h with rspPi := (h.rspPi + 1) % 128 }) with
      windows := memWriteBytes io.windows (n * 0x2000 + 0x1000 + 64 * ((io.hamper n).rspPi % 64))
        (r.slot (if (io.hamper n).rspPi < 64 then 1 else 0)) } : Io) = io1
  have h0 : io1.windows = memWriteBytes io.windows (n * 0x2000 + 0x1000 + 64 * ((io.hamper n).rspPi % 64))
      (r.slot (if (io.hamper n).rspPi < 64 then 1 else 0)) := by rw [← he]
  rw [← h0]
  generalize he2 : (if r.closes then dropFlight n r.tag io1 else io1) = io2
  have h1 : io2.windows = io1.windows := by rw [← he2]; split <;> rfl
  rw [← h1, ← (pulse_only (16 + n) 0 io2).windows]
  generalize pulse (16 + n) 0 io2 = io3
  split
  · split
    · rfl
    · rw [(pulse_only _ _ _).windows, (writeEntry_only _ _ _ _ _ _ _ _ _ _ _).windows]
  · rfl

theorem putResponse_host {n : Nat} {r : Resp} {io : Io} (h : QuietLines io) (hc : r.evcopy = false) :
    (putResponse n r io).host = io.host := by
  unfold putResponse
  simp only [hc, Bool.false_and, Bool.false_eq_true, if_false]
  generalize he : ({ io.setHamper n (fun h => { h with rspPi := (h.rspPi + 1) % 128 }) with
      windows := memWriteBytes io.windows (n * 0x2000 + 0x1000 + 64 * ((io.hamper n).rspPi % 64))
        (r.slot (if (io.hamper n).rspPi < 64 then 1 else 0)) } : Io) = io1
  have h0 : io1.host = io.host := by rw [← he]; rfl
  have hl0 : io1.lines = io.lines := by rw [← he]; rfl
  generalize he2 : (if r.closes then dropFlight n r.tag io1 else io1) = io2
  have h1 : io2.host = io1.host := by rw [← he2]; split <;> rfl
  have hl1 : io2.lines = io1.lines := by rw [← he2]; split <;> rfl
  rw [pulse_quiet (by unfold QuietLines; rw [hl1, hl0]; exact h), h1, h0]

theorem le_length (n v : Nat) : (le n v).length = n := by
  induction n generalizing v with
  | zero => rfl
  | succ n ih => simp [le, ih]

theorem fit_length (n : Nat) (b : Bytes) : (fit n b).length = n := by
  unfold fit zeros
  simp only [List.length_append, List.length_take, List.length_replicate]
  omega

theorem slot_length (r : Resp) (p : Nat) : (r.slot p).length = 64 := by
  unfold Resp.slot
  simp only [List.length_append, le_length, fit_length]

/-! ## A query -/

/-- A flight whose answer is at hand answers it. -/
theorem answerQuery_done {x : Flight} {k e : State} {a : Ans} (ha : (specOf x.op).ans x.cmd k = a)
    (hs : a.status ≠ stAccepted) (he : (specOf x.op).eff x.cmd k = e) :
    answerQuery x k = finishFlight x a.status a.detail 0 a.result e := by
  subst ha; subst he
  unfold answerQuery
  simp only [if_neg hs]

/-- The state in which a command that passes has been held, in its parts. -/
theorem heldState_io {op : Op} {f : Frame} {s : State} (h : passes op f s = true) :
    (heldState op f s).io.windows = s.io.windows ∧ (heldState op f s).io.host = s.io.host
      ∧ (heldState op f s).io.lines = s.io.lines ∧ (heldState op f s).io.time = s.io.time
      ∧ ((heldState op f s).io.hamper f.hamper.val).rspPi = (s.io.hamper f.hamper.val).rspPi
      ∧ ((heldState op f s).io.hamper f.hamper.val).rspUsed = (s.io.hamper f.hamper.val).rspUsed
      ∧ ((heldState op f s).io.hamper f.hamper.val).rspWait = (s.io.hamper f.hamper.val).rspWait := by
  obtain ⟨-, -, -, h4, h5, -⟩ := (passes_iff op f s).1 h
  obtain ⟨l, hl⟩ := acceptSeq_rest f (takeSlot f.hamper.val s) h4
  have hx : (heldFlight op f s).f = f := rfl
  unfold heldState addFlight
  rw [hx, hl]
  have e : ((takeSlot f.hamper.val s).io.hamper f.hamper.val).rspPi = (s.io.hamper f.hamper.val).rspPi
      ∧ ((takeSlot f.hamper.val s).io.hamper f.hamper.val).rspUsed = (s.io.hamper f.hamper.val).rspUsed
      ∧ ((takeSlot f.hamper.val s).io.hamper f.hamper.val).rspWait = (s.io.hamper f.hamper.val).rspWait := by
    unfold takeSlot State.setHamper
    simp only
    rw [hamper_setHamper _ _ _ h5]
    exact ⟨rfl, rfl, rfl⟩
  refine ⟨rfl, rfl, rfl, rfl, ?_⟩
  simp only [State.setHamper]
  rw [hamper_setHamper]
  · exact e
  · simpa [takeSlot, State.setHamper] using h5

theorem hamper_setHamper_other {io : Io} {n : Nat} {f : Hamper → Hamper} {P : Hamper → Prop}
    (h : P (io.hamper n)) (hf : ∀ g, P g → P (f g)) : P ((io.setHamper n f).hamper n) := by
  unfold Io.hamper Io.setHamper at *
  simp only
  rw [getD_upd]
  split
  · exact hf _ h
  · exact h

/-- The response of a finished flight: where it stands and what of the state stays. -/
theorem finishFlight_writes {x : Flight} {st d q : Nat} {b : Bytes} {k : State} (hg : x.gone = 0)
    (hr : hasRoom x.f.hamper.val k = true) (hw : k.io.windows.wf = true) (hh : k.io.host.wf = true) :
    ∃ io, finishFlight x st d q b k = { k with io := io }
      ∧ nextSlot x.f.hamper.val k { k with io := io }
        = (respOf x.op.code x.f st d b.length q b true k).slot (nextPhase x.f.hamper.val k)
      ∧ (QuietLines k.io → x.f.evcopy = false → x.f.rbuf = true → 40 < b.length → b.length ≤ x.f.rbufSize →
          memReadBytes io.host x.f.rbufAddr b.length = b) := by
  unfold finishFlight
  simp only [hg, ne_eq, not_true_eq_false, if_false]
  generalize hj : deliver x.f b (k.setFlight x.f.hamper.val x.f.tag.toNat 0 fun y => { y with stage := .final, seq := q }) = j
  have hj1 : ∃ io, j = { k with io := io } ∧ io.windows = k.io.windows ∧ io.lines = k.io.lines ∧ io.time = k.io.time
      ∧ (io.hamper x.f.hamper.val).rspPi = (k.io.hamper x.f.hamper.val).rspPi
      ∧ (io.hamper x.f.hamper.val).rspUsed = (k.io.hamper x.f.hamper.val).rspUsed
      ∧ (io.hamper x.f.hamper.val).rspWait = (k.io.hamper x.f.hamper.val).rspWait
      ∧ (x.f.rbuf = true → 40 < b.length → b.length ≤ x.f.rbufSize → io.host = memWriteBytes k.io.host x.f.rbufAddr b) := by
    have hp := hamper_setHamper_other (io := k.io) (n := x.f.hamper.val)
      (f := fun h => { h with flights := h.flights.map fun y => if y.f.tag.toNat == x.f.tag.toNat && y.gone == 0
        then { y with stage := .final, seq := q } else y })
      (P := fun g => g.rspPi = (k.io.hamper x.f.hamper.val).rspPi ∧ g.rspUsed = (k.io.hamper x.f.hamper.val).rspUsed
        ∧ g.rspWait = (k.io.hamper x.f.hamper.val).rspWait) ⟨rfl, rfl, rfl⟩ (fun _ h => h)
    subst hj
    unfold deliver
    split
    · exact ⟨_, rfl, rfl, rfl, rfl, hp.1, hp.2.1, hp.2.2, fun _ _ _ => rfl⟩
    · rename_i hn
      refine ⟨_, rfl, rfl, rfl, rfl, hp.1, hp.2.1, hp.2.2, fun h1 h2 h3 => ?_⟩
      simp [h1, h2, h3] at hn
  obtain ⟨io, rfl, w1, w2, w3, w4, w5, w6, w7⟩ := hj1
  have hroom : (io.hamper x.f.hamper.val).rspWait = [] ∧ (io.hamper x.f.hamper.val).rspUsed < 64 := by
    rw [w5, w6]; simpa [hasRoom] using hr
  refine ⟨postResponse x.f.hamper.val (respOf x.op.code x.f st d b.length q b true { k with io := io }) io, rfl, ?_, ?_⟩
  · unfold nextSlot slotAddr postResponse
    simp only [if_pos hroom]
    rw [putResponse_windows, w4, w1]
    have := slot_length (respOf x.op.code x.f st d b.length q b true { k with io := io })
      (if (k.io.hamper x.f.hamper.val).rspPi < 64 then 1 else 0)
    have e := memReadBytes_memWriteBytes (x.f.hamper.val * 0x2000 + 0x1000 + 64 * ((k.io.hamper x.f.hamper.val).rspPi % 64))
      ((respOf x.op.code x.f st d b.length q b true { k with io := io }).slot
        (if (k.io.hamper x.f.hamper.val).rspPi < 64 then 1 else 0)) hw
    rw [this] at e
    rw [e]
    have er : respOf x.op.code x.f st d b.length q b true { k with io := io }
        = respOf x.op.code x.f st d b.length q b true k := by
      unfold respOf
      simp only [w3]
    rw [er]
    rfl
  · intro q1 q2 q3 q4 q5
    unfold postResponse
    simp only [if_pos hroom]
    rw [putResponse_host (by unfold QuietLines; rw [w2]; exact q1) q2, w7 q3 q4 q5]
    exact memReadBytes_memWriteBytes _ _ hh

theorem nextSlot_congr {n : Nat} {a b t : State} (h : (a.io.hamper n).rspPi = (b.io.hamper n).rspPi) :
    nextSlot n a t = nextSlot n b t := by unfold nextSlot slotAddr; rw [h]

theorem nextPhase_congr {n : Nat} {a b : State} (h : (a.io.hamper n).rspPi = (b.io.hamper n).rspPi) :
    nextPhase n a = nextPhase n b := by unfold nextPhase; rw [h]

theorem respOf_congr {o : Nat} {f : Frame} {st d l q : Nat} {b : Bytes} {z : Bool} {x y : State} (h : x.io.time = y.io.time) :
    respOf o f st d l q b z x = respOf o f st d l q b z y := by unfold respOf; rw [h]

/-- A query that passes and answers DONE: the state after its effect with another host interface, its response slot, and
its result in host memory. -/
theorem query_done {op : Op} {f : Frame} {s e : State} {b : Bytes} (h : passes op f s = true)
    (hq : isChange op = false) (hr : hasRoom f.hamper.val s = true) (hw : s.io.windows.wf = true)
    (hh : s.io.host.wf = true) (ha : (specOf op).ans (heldFlight op f s).cmd (heldState op f s) = { result := b })
    (he : (specOf op).eff (heldFlight op f s).cmd (heldState op f s) = e) (hi : e.io = (heldState op f s).io)
    (hl : e.shs.lateDue = false) :
    ∃ t, command op f s = .next t ∧ t = { e with io := t.io }
      ∧ nextSlot f.hamper.val s t = (respOf op.code f stDone 0 b.length 0 b true s).slot (nextPhase f.hamper.val s)
      ∧ (quietLines s = true → f.evcopy = false → f.rbuf = true → 40 < b.length →
          b.length ≤ f.rbufSize → memReadBytes t.io.host f.rbufAddr b.length = b) := by
  obtain ⟨i1, i2, i3, i4, i5, i6, i7⟩ := heldState_io h
  obtain ⟨-, -, -, -, h5, -, -, h8, h9⟩ := (passes_iff op f s).1 h
  have hx : answerQuery (heldFlight op f s) (heldState op f s) = finishFlight (heldFlight op f s) stDone 0 0 b e :=
    answerQuery_done (x := heldFlight op f s) (a := { result := b }) ha (show stDone ≠ stAccepted by decide) he
  have hroom : hasRoom f.hamper.val e = true := by
    unfold hasRoom at *
    rw [hi, i6, i7]; exact hr
  have hhe : (e.io.hamper f.hamper.val).flights = [heldFlight op f s] := by rw [hi]; exact heldState_hamper h
  have hpi : (e.io.hamper f.hamper.val).rspPi = (s.io.hamper f.hamper.val).rspPi := by rw [hi, i5]
  have htm : e.io.time = s.io.time := by rw [hi, i4]
  have hf : ∃ io, finishFlight (heldFlight op f s) stDone 0 0 b e = { e with io := io } ∧ NoneHeld f.hamper.val io := by
    refine finishFlight_io _ _ _ _ _ _ fun y hy _ => ?_
    have hy' : y = heldFlight op f s := by
      rw [show (heldFlight op f s).f.hamper.val = f.hamper.val from rfl, hhe] at hy; simpa using hy
    subst hy'; exact ⟨rfl, rfl, rfl⟩
  obtain ⟨io, f1, f2, f3⟩ := finishFlight_writes (x := heldFlight op f s) (st := stDone) (d := 0) (q := 0) (b := b) (k := e) rfl hroom
    (by rw [hi, i1]; exact hw) (by rw [hi, i2]; exact hh)
  obtain ⟨io', g1, g2⟩ := hf
  have hio : io' = io := by rw [f1] at g1; exact (congrArg State.io g1).symm
  subst hio
  have hsf : startFlight (heldFlight op f s) (heldState op f s) = { e with io := io' } := by
    rw [startFlight_go h8 h9, if_neg (by rw [show (heldFlight op f s).change = isChange op from rfl, hq]; simp), hx, f1]
  refine ⟨{ e with io := io' }, ?_, rfl, ?_, ?_⟩
  · unfold command anyTime
    rw [consume_start h, hsf, pumpGo_idle (n := f.hamper.val) (s := ({ e with io := io' } : State)) (nextStart_none _ _ g2), lateSpoils_none (e := ({ e with io := io' } : State)) hl]
  · rw [← nextSlot_congr (t := ({ e with io := io' } : State)) hpi, ← nextPhase_congr hpi, ← respOf_congr htm]
    exact f2
  · intro q1 q2 q3 q4 q5
    exact f3 (by unfold QuietLines; rw [hi, i3]; exact q1) q2 q3 q4 q5

/-- A query whose answer is the same in the state in which its command is held, and which changes nothing. -/
theorem answers_of {row : Frame → Instr} {op : Op} {result : Frame → State → Bytes} (hr : ∀ f s, exec (row f) s = command op f s)
    (hq : isChange op = false)
    (ha : ∀ f s, passes op f s = true → ∀ io, (specOf op).ans (heldFlight op f s).cmd { s with io := io } = { result := result f s })
    (he : ∀ c k, (specOf op).eff c k = k) : AnswersDone row op result := by
  intro f s h hrm hw hh
  obtain ⟨-, p2, -, p4, -⟩ := (passes_iff op f s).1 h
  obtain ⟨hs, ss, e⟩ := heldState_same op f s p4
  have a := ha f s h (heldState op f s).io
  have e' : heldState op f s = { s with io := (heldState op f s).io } := by rw [e]
  rw [← e'] at a
  obtain ⟨t, r1, r2, r3, r4⟩ := query_done (op := op) (e := heldState op f s) h hq hrm hw hh a (he _ _) rfl (by rw [e]; exact p2)
  refine ⟨t, (hr f s).trans r1, ?_, r3, r4⟩
  rw [r2, e]

end Sys2Proof.Machine
end

