-- ==== Sys2Proof/Laws/Sets.lean ====
section
/-!
SUPPORT. What a change that applies leaves of the host interface, and from it the whole state after a change whose effect
lies outside the host interface, the fault list and the ledger.
-/
namespace Sys2Proof.Machine

/-! ## What stays of the host interface -/

/-- Host interface `b` comes from `a` by events, and by commands that are held, recorded and given their final status:
time, session numbers and windows stay, and quiet lines stay quiet and write no host memory. -/
structure IoKept (n : Nat) (a b : Io) : Prop where
  time : b.time = a.time
  usedIds : b.usedIds = a.usedIds
  windows : b.windows = a.windows
  rspPi : (b.hamper n).rspPi = (a.hamper n).rspPi
  quiet : QuietLines a → QuietLines b ∧ b.host = a.host

theorem IoKept.refl (n : Nat) (a : Io) : IoKept n a a := ⟨rfl, rfl, rfl, rfl, fun h => ⟨h, rfl⟩⟩

theorem IoKept.trans {n : Nat} {a b c : Io} (h : IoKept n a b) (k : IoKept n b c) : IoKept n a c where
  time := k.time.trans h.time
  usedIds := k.usedIds.trans h.usedIds
  windows := k.windows.trans h.windows
  rspPi := k.rspPi.trans h.rspPi
  quiet q := ⟨(k.quiet (h.quiet q).1).1, (k.quiet (h.quiet q).1).2.trans (h.quiet q).2⟩

theorem pulseGo_lines : ∀ (k line d : Nat) (io : Io), QuietLines io → QuietLines (pulseGo k line d io)
  | 0, line, _, _, h => h.mark line
  | k + 1, line, d, io, h => by
    simp only [pulseGo]
    have hs := h.sinks line
    generalize (io.lines.getD line {}).sinks = l at hs
    have key : ∀ (l : List Nat) (x : Io), (∀ c ∈ l, ¬ (0x40 ≤ c ∧ c < 0x48)) → QuietLines x →
        QuietLines (l.foldl (fun io code => match sinkInto line d code io with
          | (io', none) => io'
          | (io', some l) => pulseGo k l 0 io') x) := by
      intro l
      induction l with
      | nil => intro x _ hx; exact hx
      | cons c l il =>
        intro x hc hx
        refine il _ (fun c' h' => hc c' (by simp [h'])) ?_
        have h1 := hc c (by simp)
        have h2 : ∃ j, sinkInto line d c x = (j, none) ∧ j.lines = x.lines := by
          unfold sinkInto
          rw [if_neg h1]
          split
          · exact ⟨_, rfl, rfl⟩
          · exact ⟨_, rfl, rfl⟩
        obtain ⟨j, e, hj⟩ := h2
        simp only [e]
        unfold QuietLines
        rw [hj]
        exact hx
    exact key l _ hs (h.mark line)

theorem IoKept.pulse (n line d : Nat) (io : Io) : IoKept n io (pulse line d io) where
  time := (pulse_only line d io).time
  usedIds := (pulse_only line d io).usedIds
  windows := (pulse_only line d io).windows
  rspPi := by obtain ⟨r, hr⟩ := (pulse_only line d io).hampers n; rw [hr]
  quiet q := ⟨pulseGo_lines _ _ _ _ q, pulse_quiet q⟩

/-- Final statuses, hampers with the same response index and other sessions do not matter. -/
theorem IoKept.finals (n : Nat) (io : Io) (l : List Final) : IoKept n io { io with finals := l } :=
  ⟨rfl, rfl, rfl, rfl, fun h => ⟨h, rfl⟩⟩

theorem IoKept.sessions {n : Nat} {a b : Io} (h : IoKept n a b) (l : List (Option Session)) : IoKept n a { b with sessions := l } :=
  ⟨h.time, h.usedIds, h.windows, h.rspPi, h.quiet⟩

theorem IoKept.setHamper (n m : Nat) (io : Io) (f : Hamper → Hamper) (hf : ∀ h, (f h).rspPi = h.rspPi) :
    IoKept n io (io.setHamper m f) := by
  refine ⟨rfl, rfl, rfl, ?_, fun h => ⟨h, rfl⟩⟩
  unfold Io.hamper Io.setHamper
  simp only
  rw [getD_upd]
  split
  · rename_i h; rw [hf, h.1]
  · rfl

theorem IoKept.finish (n : Nat) (op : Op) (p : Frame → Bool) (a b : Nat) (r : Bytes) (io : Io) :
    IoKept n io (finishAll op p a b r io) := IoKept.finals n io _

/-- A NOTE and the levels of the ledger. -/
theorem raise_note_kept (n : Nat) (s : State) (line index cause : Nat) (h : declares line index cause = false) :
    IoKept n s.io (s.raise .note line index cause).io := by
  unfold State.raise
  simp only [h, Bool.false_eq_true, if_false, classEffect, classState, setCtrl_same]
  split
  · exact .refl _ _
  · split
    · exact .pulse _ _ _ _
    · exact .refl _ _

theorem ledgerLevels_kept (n : Nat) (s : State) : IoKept n s.io (ledgerLevels s).io := by
  unfold ledgerLevels
  simp only
  split
  · exact .refl _ _
  · split
    · exact IoKept.trans (b := (({ s with led := { s.led with
          low := decide (ledgerSpare s < areaUnits s * s.led.lowMark / 100)
          full := s.led.full && decide (ledgerSpare s < areaUnits s * s.led.lowMark / 100) } } : State).pulse 245 0).io)
        (.pulse n 245 0 s.io) (raise_note_kept n _ _ _ _ rfl)
    · exact .pulse n 245 0 s.io

/-- The state of a change that has just been recorded. -/
theorem recordedState_kept {op : Op} {f : Frame} {s : State} (h : passes op f s = true) :
    IoKept f.hamper.val s.io (recordedState op f s).io := by
  obtain ⟨i1, i2, i3, i4, i5, -, -⟩ := heldState_io h
  obtain ⟨-, -, -, h4, -⟩ := (passes_iff op f s).1 h
  have hu : (heldState op f s).io.usedIds = s.io.usedIds := by
    obtain ⟨hs, ss, he⟩ := heldState_same op f s h4
    rw [he]
  have h0 : IoKept f.hamper.val s.io (heldState op f s).io :=
    ⟨i4, hu, i1, i5, fun q => ⟨by unfold QuietLines; rw [i3]; exact q, i2⟩⟩
  have h1 : (recordedState op f s).io = ((heldState op f s).setFlight f.hamper.val f.tag.toNat 0 fun y =>
      { y with stage := .recording }).io := record_io _ _
  rw [h1]
  exact h0.trans (IoKept.setHamper _ _ _ _ fun _ => rfl)

/-- The state right before a change takes effect. -/
theorem committedState_io_kept {op : Op} {f : Frame} {s : State} (h : passes op f s = true) :
    IoKept f.hamper.val s.io (committedState op f s).io := by
  have h1 := ledgerLevels_kept f.hamper.val (enteredState (recordOf op f s) (recordedState op f s))
  rw [enteredState_io] at h1
  exact (recordedState_kept h).trans h1

/-- Of the safety data only the fault list and what it counts has changed. -/
theorem committedState_saf (op : Op) (f : Frame) (s : State) (h : f.seq ≠ 0xFFFFFFFF) (hq : s.led.queue = []) :
    (committedState op f s).saf = { s.saf with
      faults := (committedState op f s).saf.faults, overflow := (committedState op f s).saf.overflow
      firstFault := (committedState op f s).saf.firstFault } := by
  obtain ⟨hs, ss, he⟩ := recordedState_eq op f s h hq
  have hn := (entered_note (recordOf op f s) (recordedState op f s)).saf
  have e5 : (recordedState op f s).saf = s.saf := by rw [he]
  rw [enteredState_saf, e5] at hn
  exact hn

/-! ## The answer -/

/-- Host interface `b` comes from `a` by one response on hamper `n`: it may write the next response slot. -/
structure Answered (n : Nat) (a b : Io) : Prop where
  time : b.time = a.time
  usedIds : b.usedIds = a.usedIds
  windows : a.windows.wf = true → ∀ x, (x < n * 0x2000 + 0x1000 + 64 * ((a.hamper n).rspPi % 64)
    ∨ n * 0x2000 + 0x1000 + 64 * ((a.hamper n).rspPi % 64) + 64 ≤ x) → memRead b.windows x = memRead a.windows x

theorem putResponse_time (n : Nat) (r : Resp) (io : Io) :
    (putResponse n r io).time = io.time ∧ (putResponse n r io).usedIds = io.usedIds := by
  unfold putResponse
  simp only
  generalize he : ({ io.setHamper n (fun h => { h with rspPi := (h.rspPi + 1) % 128 }) with
      windows := memWriteBytes io.windows (n * 0x2000 + 0x1000 + 64 * ((io.hamper n).rspPi % 64))
        (r.slot (if (io.hamper n).rspPi < 64 then 1 else 0)) } : Io) = io1
  have h0 : io1.time = io.time ∧ io1.usedIds = io.usedIds := by rw [← he]; exact ⟨rfl, rfl⟩
  generalize he2 : (if r.closes then dropFlight n r.tag io1 else io1) = io2
  have h1 : io2.time = io1.time ∧ io2.usedIds = io1.usedIds := by rw [← he2]; split <;> exact ⟨rfl, rfl⟩
  have h2 := pulse_only (16 + n) 0 io2
  rw [← h0.1, ← h0.2, ← h1.1, ← h1.2, ← h2.time, ← h2.usedIds]
  generalize Machine.pulse (16 + n) 0 io2 = io3
  split
  · split
    · exact ⟨rfl, rfl⟩
    · have a := pulse_only (24 + n) 0 (writeEntry n 2 0 r.tag r.opcode r.status 0 r.time r.seq r.detail io3)
      have b := writeEntry_only n 2 0 r.tag r.opcode r.status 0 r.time r.seq r.detail io3
      exact ⟨a.time.trans b.time, a.usedIds.trans b.usedIds⟩
  · exact ⟨rfl, rfl⟩

theorem postResponse_answered (n : Nat) (r : Resp) (io : Io) :
    Answered n io (postResponse n r io)
      ∧ (QuietLines io → r.evcopy = false → (postResponse n r io).host = io.host) := by
  unfold postResponse
  simp only
  split
  · refine ⟨⟨(putResponse_time n r io).1, (putResponse_time n r io).2, fun w x hx => ?_⟩, fun q e => putResponse_host q e⟩
    rw [putResponse_windows]
    exact memRead_memWriteBytes_out _ _ _ w (by rw [slot_length]; exact hx)
  · exact ⟨⟨rfl, rfl, fun _ _ _ => rfl⟩, fun _ _ => rfl⟩

/-- An answered flight: the response, and host memory untouched where the lines are quiet and no RBUF is asked for. -/
theorem finishFlight_answered (x : Flight) (st d q : Nat) (b : Bytes) (s : State) :
    Answered x.f.hamper.val s.io (finishFlight x st d q b s).io
      ∧ (QuietLines s.io → x.f.evcopy = false → x.f.rbuf = false → (finishFlight x st d q b s).io.host = s.io.host) := by
  unfold finishFlight
  simp only
  split
  · exact ⟨⟨rfl, rfl, fun _ _ _ => rfl⟩, fun _ _ _ => rfl⟩
  · generalize hj : deliver x.f b (s.setFlight x.f.hamper.val x.f.tag.toNat 0 fun y => { y with stage := .final, seq := q }) = j
    have hk : IoKept x.f.hamper.val s.io
        (s.setFlight x.f.hamper.val x.f.tag.toNat 0 fun y => { y with stage := .final, seq := q }).io :=
      IoKept.setHamper _ _ s.io _ fun _ => rfl
    have h1 : j.io.time = s.io.time ∧ j.io.usedIds = s.io.usedIds ∧ j.io.windows = s.io.windows
        ∧ (j.io.hamper x.f.hamper.val).rspPi = (s.io.hamper x.f.hamper.val).rspPi ∧ j.io.lines = s.io.lines
        ∧ (x.f.rbuf = false → j.io.host = s.io.host) := by
      subst hj
      unfold deliver
      split
      · rename_i hd
        exact ⟨rfl, rfl, rfl, hk.rspPi, rfl, fun h => by simp [h] at hd⟩
      · exact ⟨rfl, rfl, rfl, hk.rspPi, rfl, fun _ => rfl⟩
    obtain ⟨h1, h2, h3, h4, h5, h6⟩ := h1
    obtain ⟨a1, a2⟩ := postResponse_answered x.f.hamper.val (respOf x.op.code x.f st d b.length q b true j) j.io
    refine ⟨⟨a1.time.trans h1, a1.usedIds.trans h2, fun w y hy => ?_⟩, fun q e r => ?_⟩
    · rw [← h3]
      exact a1.windows (by rw [h3]; exact w) y (by rw [h4]; exact hy)
    · rw [← h6 r]
      exact a2 (by unfold QuietLines; rw [h5]; exact q) e

/-! ## A change -/

/-- The host interface, safety data and ledger with which a change of state `s` takes effect. -/
structure Before (n : Nat) (s : State) (i : Io) (g : Safety) (l : Ledger) : Prop where
  io : IoKept n s.io i
  saf : g = { s.saf with faults := g.faults, overflow := g.overflow, firstFault := g.firstFault }
  head : l.head = s.led.head + 1

/-- An effect that leaves everything but the host interface, the fault list and the ledger as in `e`, and of those what
`Leaves` says. -/
def EffectIs (n : Nat) (eff : State → State) (s e : State) : Prop :=
  ∀ (i : Io) (g : Safety) (l : Ledger), Before n s i g l →
    ∃ i' g' l', eff (withParts s i g l) = withParts e i' g' l' ∧ IoKept n i i'
      ∧ (∀ m, (i'.hamper m).flights = (i.hamper m).flights) ∧ g'.ctrl = g.ctrl ∧ g'.ilk = g.ilk ∧ l'.head = l.head

/-- One that leaves those three alone. -/
theorem EffectIs.rfl {n : Nat} {eff : State → State} {s e : State} (h : ∀ i g l, eff (withParts s i g l) = withParts e i g l) :
    EffectIs n eff s e := fun i g l _ =>
  ⟨i, g, l, h i g l, .refl _ _, fun _ => Eq.refl _, Eq.refl _, Eq.refl _, Eq.refl _⟩

/-- What an answer on top of an effect leaves. -/
theorem leaves_of {f : Frame} {s e : State} {i io : Io} {g : Safety} {l : Ledger} (c5 : g.ctrl = s.saf.ctrl)
    (c6 : g.ilk = s.saf.ilk) (c7 : l.head = s.led.head + 1) (kk : IoKept f.hamper.val s.io i) (an : Answered f.hamper.val i io)
    (hq : QuietLines i → f.evcopy = false → f.rbuf = false → io.host = i.host) :
    Leaves f s (withParts e io g l) e := by
  refine ⟨Eq.refl _, c5, c6, an.time.trans kk.time, an.usedIds.trans kk.usedIds, c7, fun w => ⟨fun x hx => ?_, fun q ev rb => ?_⟩⟩
  · have := an.windows (by rw [kk.windows]; exact w) x (by rw [kk.rspPi]; exact hx)
    rw [kk.windows] at this
    exact this
  · exact (hq (kk.quiet q).1 ev rb).trans (kk.quiet q).2

/-- The flights of a hamper that has one flight, once that runs. -/
theorem running_noneHeld {x : Flight} {n : Nat} {K : State} (hl : x.f.hamper.val < K.io.hampers.length)
    (hf : (K.io.hamper x.f.hamper.val).flights = [x]) (hg : x.gone = 0) :
    NoneHeld x.f.hamper.val (runningState x n K).io := by
  unfold NoneHeld runningState State.setFlight State.setHamper
  simp only
  rw [hamper_setHamper _ _ _ hl]
  simp only [hf, List.map_cons, List.map_nil, List.mem_singleton]
  intro y hy
  subst hy
  simp [hg]

/-- The application of a change over any state before it. -/
theorem apply_leaves {op : Op} {c : Cmd} {x : Flight} {n : Nat} {f : Frame} {s K e : State} (h1 : x.op = op)
    (h2 : x.cmd = c) (hxf : x.f = f) (hst : x.stage = .recording) (hab : x.aborted = false) (hg : x.gone = 0)
    (ho : op ≠ .cmdAbort) (h7 : applyFault op c K = none) (hp : K = withParts s K.io K.saf K.led)
    (bf : Before f.hamper.val s K.io K.saf K.led) (hfl : (K.io.hamper f.hamper.val).flights = [x])
    (hlen : f.hamper.val < K.io.hampers.length) (he : EffectIs f.hamper.val ((specOf op).eff c) s e) :
    ∃ io g l, applyChange x n K = withParts e io g l ∧ NoneHeld f.hamper.val io ∧ Leaves f s (withParts e io g l) e := by
  subst hxf
  have c5 : K.saf.ctrl = s.saf.ctrl := by rw [bf.saf]
  have c6 : K.saf.ilk = s.saf.ilk := by rw [bf.saf]
  have ck := bf.io
  by_cases hs : ((specOf op).ans c K).status = stAccepted
  · have rk : IoKept x.f.hamper.val K.io (runningState x n K).io := IoKept.setHamper _ _ _ _ fun _ => rfl
    have e2 : runningState x n K = withParts s (runningState x n K).io K.saf K.led := by
      obtain ⟨hs1, e1⟩ := runningState_same x n K
      have : runningState x n K = withParts K (runningState x n K).io K.saf K.led := by rw [e1]; rfl
      rw [hp] at this ⊢
      exact this
    obtain ⟨i', g', l', q1, q2, q3, q4, q5, q6⟩ := he (runningState x n K).io K.saf K.led ⟨ck.trans rk, bf.saf, bf.head⟩
    rw [← e2] at q1
    have hap := applyChange_accepted' (n := n) h1 h2 hab ho h7 hs hg q1
    have hn : NoneHeld x.f.hamper.val i' := by
      intro y hy
      rw [q3] at hy
      exact running_noneHeld hlen hfl hg y hy
    obtain ⟨a1, a2⟩ := postResponse_answered x.f.hamper.val (respOf op.code x.f stAccepted 0 0 n [] false (withParts e i' g' l')) i'
    exact ⟨_, g', l', hap, hn.postResponse _, leaves_of (q4.trans c5) (q5.trans c6) (q6.trans bf.head) ((ck.trans rk).trans q2) a1
      fun q ev _ => a2 q ev⟩
  · obtain ⟨i', g', l', q1, q2, q3, q4, q5, q6⟩ := he K.io K.saf K.led bf
    rw [← hp] at q1
    have hap := applyChange_done' (n := n) h1 h2 hab ho h7 hs q1
    have hn : ∀ y ∈ (i'.hamper x.f.hamper.val).flights, y.stage ≠ .held := by
      intro y hy
      rw [q3, hfl] at hy
      simp only [List.mem_singleton] at hy
      subst hy
      simp [hst]
    obtain ⟨io, i1, i2⟩ := finishFlight_io x ((specOf op).ans c K).status ((specOf op).ans c K).detail n
      ((specOf op).ans c K).result (withParts e i' g' l') fun y hy k => absurd k (hn y hy)
    obtain ⟨a1, a2⟩ := finishFlight_answered x ((specOf op).ans c K).status ((specOf op).ans c K).detail n
      ((specOf op).ans c K).result (withParts e i' g' l')
    rw [i1] at a1 a2 hap
    exact ⟨io, g', l', hap, i2, leaves_of (q4.trans c5) (q5.trans c6) (q6.trans bf.head) (ck.trans q2) a1 a2⟩

/-- What follows the application of a change, where nothing is due. -/
theorem after_withParts {n : Nat} {e : State} {io : Io} {g : Safety} {l : Ledger} (hn : NoneHeld n io)
    (hl : e.shs.lateDue = false) (hr : e.pwr.resetDue ≠ some 5) :
    lateSpoils (dueReset (pump n (withParts e io g l))) = withParts e io g l := by
  rw [pump_noneHeld (s := withParts e io g l) hn, dueReset_none (e := withParts e io g l) hr, lateSpoils_none (e := withParts e io g l) hl]

theorem after_withParts' {n : Nat} {e : State} {io : Io} (hn : NoneHeld n io)
    (hl : e.shs.lateDue = false) (hr : e.pwr.resetDue ≠ some 5) :
    lateSpoils (dueReset (pump n { e with io := io })) = { e with io := io } :=
  after_withParts (e := e) (io := io) (g := e.saf) (l := e.led) hn hl hr

/-- A change whose effect is `e` on the state before it, whether it is answered at once or accepted. -/
theorem change_sets {op : Op} {f : Frame} {s e : State} (h : applies op f s = true)
    (he : EffectIs f.hamper.val ((specOf op).eff (heldFlight op f s).cmd) s e)
    (hl : e.shs = s.shs ∨ e.shs.lateDue = false) (hr : e.pwr = s.pwr ∨ e.pwr.resetDue ≠ some 5) :
    command op f s = .next (recordedState op f s)
      ∧ ∃ u, exec .ledgerEntryCommit (recordedState op f s) = .next u ∧ Leaves f s u e := by
  obtain ⟨-, h2, h3, h4, -, h6, -, h7⟩ := (applies_iff op f s).1 h
  obtain ⟨-, p2, -, p4, -⟩ := (passes_iff op f s).1 h3
  have hp := committedState_parts op f s p4 h4
  obtain ⟨-, -, -, -, -, -, c7⟩ := committedState_kept op f s p4 h4
  have bf : Before f.hamper.val s (committedState op f s).io (committedState op f s).saf (committedState op f s).led :=
    ⟨committedState_io_kept h3, committedState_saf op f s p4 h4, c7⟩
  have fl := committedState_flights h3
  have ln := committedState_length h3
  have key : ∀ a, applyChange (recordingFlight op f s) (s.led.head + 1) (committedState op f s) = a →
      command op f s = .next (recordedState op f s)
        ∧ exec .ledgerEntryCommit (recordedState op f s) = .next (lateSpoils (dueReset (pump f.hamper.val a))) :=
    fun a ha => change_runs' h ha
  generalize committedState op f s = K at *
  have hl' : e.shs.lateDue = false := by
    rcases hl with hl | hl
    · rw [hl]; exact p2
    · exact hl
  have hr' : e.pwr.resetDue ≠ some 5 := by
    rcases hr with hr | hr
    · rw [hr]; exact h6
    · exact hr
  obtain ⟨io, g, l, a1, a2, a3⟩ := apply_leaves (n := s.led.head + 1) (recordingFlight_op op f s) (recordingFlight_cmd op f s)
    (recordingFlight_f op f s) (recordingFlight_stage op f s) (recordingFlight_aborted op f s) (recordingFlight_gone op f s)
    h2 h7 hp bf fl ln he
  obtain ⟨r1, r2⟩ := key _ a1
  exact ⟨r1, _, r2.trans (congrArg _ (after_withParts a2 hl' hr')), a3⟩

/-- The same said of a state `k` before the effect, whatever the effect does. -/
theorem apply_takes {op : Op} {c : Cmd} {x : Flight} {n : Nat} {f : Frame} {s K : State} {E : State → State} (h1 : x.op = op)
    (h2 : x.cmd = c) (hxf : x.f = f) (hst : x.stage = .recording) (hab : x.aborted = false) (hg : x.gone = 0)
    (ho : op ≠ .cmdAbort) (h7 : applyFault op c K = none) (hp : K = withParts s K.io K.saf K.led)
    (bf : Before f.hamper.val s K.io K.saf K.led) (hfl : (K.io.hamper f.hamper.val).flights = [x])
    (hlen : f.hamper.val < K.io.hampers.length) (hE : (specOf op).eff c = E)
    (hn : ∀ i, NoneHeld f.hamper.val i → Before f.hamper.val s i K.saf K.led →
      NoneHeld f.hamper.val (E (withParts s i K.saf K.led)).io) :
    ∃ i io, applyChange x n K = { E (withParts s i K.saf K.led) with io := io } ∧ NoneHeld f.hamper.val io
      ∧ Before f.hamper.val s i K.saf K.led ∧ NoneHeld f.hamper.val i := by
  subst hxf
  subst hE
  by_cases hs : ((specOf op).ans c K).status = stAccepted
  · have rk : IoKept x.f.hamper.val K.io (runningState x n K).io := IoKept.setHamper _ _ _ _ fun _ => rfl
    have e2 : runningState x n K = withParts s (runningState x n K).io K.saf K.led := by
      obtain ⟨hs1, e1⟩ := runningState_same x n K
      have : runningState x n K = withParts K (runningState x n K).io K.saf K.led := by rw [e1]; rfl
      rw [hp] at this ⊢
      exact this
    have h0 := running_noneHeld (n := n) hlen hfl hg
    have b0 : Before x.f.hamper.val s (runningState x n K).io K.saf K.led := ⟨bf.io.trans rk, bf.saf, bf.head⟩
    have hap := applyChange_accepted' (n := n) h1 h2 hab ho h7 hs hg (Eq.refl _)
    rw [e2] at hap
    exact ⟨_, _, hap, (hn _ h0 b0).postResponse _, b0, h0⟩
  · have h0 : NoneHeld x.f.hamper.val K.io := by
      intro y hy
      rw [hfl] at hy
      simp only [List.mem_singleton] at hy
      subst hy
      simp [hst]
    have hap := applyChange_done' (n := n) h1 h2 hab ho h7 hs (Eq.refl _)
    have h3 := hn _ h0 bf
    rw [← hp] at h3
    obtain ⟨io, i1, i2⟩ := finishFlight_io x ((specOf op).ans c K).status ((specOf op).ans c K).detail n
      ((specOf op).ans c K).result ((specOf op).eff c K) fun y hy k => absurd k (h3 y hy)
    rw [i1] at hap
    exact ⟨K.io, io, by rw [← hp]; exact hap, i2, bf, h0⟩

/-- The rows of a change put together. -/
theorem takes_of {op : Op} {f : Frame} {s t : State} {E : State → State} {i io : Io} {g : Safety} {l : Ledger}
    (r1 : command op f s = .next t)
    (r2 : exec .ledgerEntryCommit t
      = .next (lateSpoils (dueReset (pump f.hamper.val { E (withParts s i g l) with io := io }))))
    (a2 : NoneHeld f.hamper.val io) (a3 : Before f.hamper.val s i g l)
    (hl : (E (withParts s i g l)).shs.lateDue = false) (hr : (E (withParts s i g l)).pwr.resetDue ≠ some 5) :
    command op f s = .next t ∧ ∃ u k, exec .ledgerEntryCommit t = .next u
      ∧ k = { s with io := k.io, saf := k.saf, led := k.led }
      ∧ k.saf = { s.saf with faults := k.saf.faults, overflow := k.saf.overflow, firstFault := k.saf.firstFault }
      ∧ k.led.head = s.led.head + 1 ∧ k.io.time = s.io.time
      ∧ u = { E k with io := u.io } := by
  rw [after_withParts' a2 hl hr] at r2
  generalize hk : withParts s i g l = k at *
  have k1 : k = { s with io := k.io, saf := k.saf, led := k.led } := by rw [← hk]; rfl
  have k2 : k.saf = g := by rw [← hk]; rfl
  have k3 : k.led = l := by rw [← hk]; rfl
  have k4 : k.io = i := by rw [← hk]; rfl
  generalize hy : E k = y at *
  exact ⟨r1, { y with io := io }, k, r2, k1, by rw [k2]; exact a3.saf, by rw [k3]; exact a3.head, by rw [k4]; exact a3.io.time, by simp only [hy]⟩

/-- A change in a state `k` that differs from the one before in the host interface, the fault list and the ledger. -/
theorem change_takes {op : Op} {f : Frame} {s : State} {E : State → State} (h : applies op f s = true)
    (hE : (specOf op).eff (heldFlight op f s).cmd = E)
    (hn : ∀ i g l, NoneHeld f.hamper.val i → Before f.hamper.val s i g l → NoneHeld f.hamper.val (E (withParts s i g l)).io)
    (hl : ∀ i g l, Before f.hamper.val s i g l → s.shs.lateDue = false → (E (withParts s i g l)).shs.lateDue = false)
    (hr : ∀ i g l, Before f.hamper.val s i g l → s.pwr.resetDue ≠ some 5 → (E (withParts s i g l)).pwr.resetDue ≠ some 5) :
    command op f s = .next (recordedState op f s) ∧ ∃ u k, exec .ledgerEntryCommit (recordedState op f s) = .next u
      ∧ k = { s with io := k.io, saf := k.saf, led := k.led }
      ∧ k.saf = { s.saf with faults := k.saf.faults, overflow := k.saf.overflow, firstFault := k.saf.firstFault }
      ∧ k.led.head = s.led.head + 1 ∧ k.io.time = s.io.time
      ∧ u = { E k with io := u.io } := by
  obtain ⟨-, h2, h3, h4, -, h6, -, h7⟩ := (applies_iff op f s).1 h
  obtain ⟨-, p2, -, p4, -⟩ := (passes_iff op f s).1 h3
  have hp := committedState_parts op f s p4 h4
  obtain ⟨-, -, -, -, -, -, c7⟩ := committedState_kept op f s p4 h4
  have bf : Before f.hamper.val s (committedState op f s).io (committedState op f s).saf (committedState op f s).led :=
    ⟨committedState_io_kept h3, committedState_saf op f s p4 h4, c7⟩
  have fl := committedState_flights h3
  have ln := committedState_length h3
  have key : ∀ a, applyChange (recordingFlight op f s) (s.led.head + 1) (committedState op f s) = a →
      command op f s = .next (recordedState op f s)
        ∧ exec .ledgerEntryCommit (recordedState op f s) = .next (lateSpoils (dueReset (pump f.hamper.val a))) :=
    fun a ha => change_runs' h ha
  clear h h3 h4 p4
  generalize committedState op f s = K at *
  obtain ⟨i, io, a1, a2, a3, a4⟩ := apply_takes (n := s.led.head + 1) (recordingFlight_op op f s) (recordingFlight_cmd op f s)
    (recordingFlight_f op f s) (recordingFlight_stage op f s) (recordingFlight_aborted op f s) (recordingFlight_gone op f s)
    h2 h7 hp bf fl ln hE (fun i => hn i K.saf K.led)
  obtain ⟨r1, r2⟩ := key _ a1
  exact takes_of r1 r2 a2 a3 (hl _ _ _ a3 p2) (hr _ _ _ a3 h6)

/-! ## Rows -/

/-- A row whose effect is `e`. -/
theorem sets_of {row : Frame → Instr} {op : Op} {e : Frame → State → State} (hr : ∀ f s, exec (row f) s = command op f s)
    (he : ∀ f s, applies op f s = true → EffectIs f.hamper.val ((specOf op).eff (heldFlight op f s).cmd) s (e f s))
    (hl : ∀ f s, (e f s).shs = s.shs ∨ (s.shs.lateDue = false → (e f s).shs.lateDue = false))
    (hw : ∀ f s, (e f s).pwr = s.pwr ∨ (s.pwr.resetDue ≠ some 5 → (e f s).pwr.resetDue ≠ some 5)) : Sets row op e := by
  intro f s h
  have h' := (applies_iff op f s).1 h
  have h'' := (passes_iff op f s).1 h'.2.2.1
  rw [hr]
  exact change_sets h (he f s h) ((hl f s).imp id fun k => k h''.2.1) ((hw f s).imp id fun k => k h'.2.2.2.2.2.1)

/-- An effect that reads the SEQ of its entry. -/
theorem EffectIs.head {n : Nat} {eff : State → State} {s e : State}
    (h : ∀ i g l, l.head = s.led.head + 1 → eff (withParts s i g l) = withParts e i g l) : EffectIs n eff s e :=
  fun i g l b => ⟨i, g, l, h i g l b.head, .refl _ _, fun _ => Eq.refl _, Eq.refl _, Eq.refl _, Eq.refl _⟩

/-- An effect that makes final statuses due. -/
theorem EffectIs.finals {n : Nat} {eff : State → State} {s e : State}
    (h : ∀ i g l, ∃ fs, eff (withParts s i g l) = withParts e { i with finals := fs } g l) : EffectIs n eff s e := by
  intro i g l _
  obtain ⟨fs, hf⟩ := h i g l
  exact ⟨_, g, l, hf, .finals _ _ _, fun _ => Eq.refl _, Eq.refl _, Eq.refl _, Eq.refl _⟩

/-- Events and final statuses keep the flights. -/
structure IoQuiet (n : Nat) (a b : Io) : Prop where
  kept : IoKept n a b
  flights : ∀ m, (b.hamper m).flights = (a.hamper m).flights

theorem IoQuiet.refl (n : Nat) (a : Io) : IoQuiet n a a := ⟨.refl n a, fun _ => Eq.refl _⟩
theorem IoQuiet.trans {n : Nat} {a b c : Io} (h : IoQuiet n a b) (k : IoQuiet n b c) : IoQuiet n a c :=
  ⟨h.kept.trans k.kept, fun m => (k.flights m).trans (h.flights m)⟩
theorem IoQuiet.pulse (n line d : Nat) (io : Io) : IoQuiet n io (pulse line d io) :=
  ⟨.pulse n line d io, fun m => by obtain ⟨r, hr⟩ := (pulse_only line d io).hampers m; rw [hr]⟩
theorem IoQuiet.finish (n : Nat) (op : Op) (p : Frame → Bool) (a b : Nat) (r : Bytes) (io : Io) :
    IoQuiet n io (finishAll op p a b r io) := ⟨.finish n op p a b r io, fun _ => Eq.refl _⟩

/-- An effect that delivers events or makes final statuses due. -/
theorem EffectIs.io {n : Nat} {eff : State → State} {s e : State}
    (h : ∀ i g l, Before n s i g l → ∃ i', eff (withParts s i g l) = withParts e i' g l ∧ IoQuiet n i i') : EffectIs n eff s e := by
  intro i g l b
  obtain ⟨i', h1, h2⟩ := h i g l b
  exact ⟨i', g, l, h1, h2.kept, h2.flights, Eq.refl _, Eq.refl _, Eq.refl _⟩

theorem finishOne_io (s : State) (n t a b : Nat) (r : Bytes) :
    ∃ l, s.finishOne n t a b r = { s with io := { s.io with finals := l } } := by
  unfold State.finishOne
  split
  · exact ⟨s.io.finals, Eq.refl _⟩
  · exact ⟨_, Eq.refl _⟩

/-- Two replacements of one element. -/
theorem upd_upd {α : Type} (f g : α → α) : ∀ (l : List α) (n : Nat), upd (upd l n f) n g = upd l n fun x => g (f x)
  | [], _ => Eq.refl _
  | _ :: _, 0 => Eq.refl _
  | x :: xs, n + 1 => congrArg (x :: ·) (upd_upd f g xs n)

end Sys2Proof.Machine
end

