-- ==== Sys2Proof/Machine/Balls.lean ====
section
/-!
DEFINITION. What the balls of the part show where no unit's own rule drives them (chapter 24): banks without supply, the
reset states, the inhibited level of the outputs of R441, and the sequencer's own outputs.
-/
namespace Sys2Proof.Machine

/-- What an output ball shows; a differential pair in its idle state or electrical idle is `idle`. -/
inductive Level where
  | low | high | highZ | idle
deriving DecidableEq, Repr

/-- Banks with a supply that decides whether their balls are driven (R476). -/
inductive Bank where
  | aon | b18 | b33 | sd | dq
deriving DecidableEq, Repr

/-- The rail slots whose supplies a bank needs; AON has VAON (R476, rail-slots table). -/
def Bank.rails : Bank → List Nat
  | .aon => [] | .b18 => [3] | .b33 => [4] | .sd => [2] | .dq => [5, 6]

/-- The bank has its supply. -/
def bankOn (b : Bank) (s : State) : Bool := b.rails.all fun n => (s.rail n).en

/-- Output groups of the signal tables of R478, without those of the sequencer and the clock outputs. -/
inductive Balls where
  | inhOut | serdesTx | sfpI2c | xspiClk | xspiCs | xspiDq | tdo | ddrControl | ddrDq | stb | backChannel | pairHb | own
  | motorGate | sdmClk | chop | stepperGate | stepDir | seClk | hvpwm | htr | gpio
deriving DecidableEq, Repr

/-- The bank of a group (R478). -/
def Balls.bank : Balls → Bank
  | .inhOut => .aon
  | .serdesTx => .sd
  | .xspiClk | .xspiCs | .xspiDq | .tdo | .stb => .b18
  | .ddrControl | .ddrDq => .dq
  | _ => .b33

/-- The reset state of a group (R478). -/
def Balls.resetLevel : Balls → Level
  | .inhOut | .xspiCs => .high
  | .serdesTx | .seClk => .idle
  | .sfpI2c | .xspiDq | .tdo | .ddrDq | .backChannel | .gpio => .highZ
  | _ => .low

/-- The groups that the inhibit drives low (R441); of STEP and DIR only STEP0 to STEP7 are listed, so `step` tells them
apart. -/
def Balls.inhibited (step : Bool) : Balls → Bool
  | .stb | .motorGate | .stepperGate | .hvpwm | .htr => true
  | .stepDir => step
  | _ => false

/-- The flash balls are released in BOOT_FAIL (R391). -/
def Balls.flash : Balls → Bool
  | .xspiClk | .xspiCs | .xspiDq => true
  | _ => false

/-- The level that a group has whatever its unit would drive, none where the unit's own rule decides (R391, R441, R443,
R477, R478). -/
def ballLevel (b : Balls) (step : Bool) (s : State) : Option Level :=
  if b = .inhOut then some (if s.saf.inhibit then .high else .low)
  else if bankOn b.bank s = false then some .highZ
  else if s.boot.bootFail && b.flash then some .highZ
  else if s.saf.internalReset || s.saf.ctrl == .clockHold then some b.resetLevel
  else if s.saf.inhibit && b.inhibited step then some .low
  else none

/-- EN of a rail slot: high impedance until the rail parameters are read, else its level with EN_LOW (R420, R479). -/
def enLevel (n : Nat) (s : State) : Level :=
  let r := s.rail n
  if !r.driven then .highZ
  else if (r.en != (if r.en then r.used.enLow else r.stored.enLow)) then .high else .low

/-- nRSTOUT (R434). -/
def rstoutLevel (s : State) : Level :=
  if s.pwr.rstoutHigh && !s.saf.internalReset && s.saf.ctrl != .clockHold then .high else .low

end Sys2Proof.Machine
end

