-- ==== Sys2Proof/Machine/Slot.lean ====
section
/-!
DEFINITION. A request slot as bytes (R33, R35 to R37): the 64 bytes of a command frame, the frame that they spell, and the
row of the table with which a hamper goes on when it takes its next slot out of its window.
-/
namespace Sys2Proof.Machine

/-- The 64 bytes of a request slot that holds a command frame: the header of R35 and the 48-byte payload area. -/
def slotBytes (opcode : Nat) (f : Frame) : Bytes :=
  le 4 (opcode % 2 ^ 16 + f.flags.toNat * 2 ^ 16 + f.tag.toNat * 2 ^ 24 + f.rsvd.toNat * 2 ^ 30)
    ++ le 4 (f.length.toNat + f.target.toNat * 2 ^ 16) ++ le 4 f.session.toNat ++ le 4 f.seq.toNat ++ fit 48 f.inl

/-- OPCODE of a slot: word 0 [15:0] (R35). -/
def slotOpcode (b : Bytes) : Nat := fld (u32At b 0) 15 0

/-- The frame that the bytes of a slot of hamper `n` spell (R35); `fetch` is what a payload read in host memory returns
(R37). -/
def slotFrame (n : Fin 8) (b : Bytes) (fetch : Fetch) : Frame where
  hamper := n
  flags := BitVec.ofNat 8 (fld (u32At b 0) 23 16)
  tag := BitVec.ofNat 6 (fld (u32At b 0) 29 24)
  rsvd := BitVec.ofNat 2 (fld (u32At b 0) 31 30)
  length := BitVec.ofNat 16 (fld (u32At b 4) 15 0)
  target := BitVec.ofNat 16 (fld (u32At b 4) 31 16)
  session := BitVec.ofNat 32 (u32At b 8)
  seq := BitVec.ofNat 32 (u32At b 12)
  inl := sub b 16 48
  fetch := fetch

/-- The row of a command of Velov. -/
def rowOf (op : Op) (f : Frame) : Instr := match op with
  | .cmdAbort => .cmdAbort f
  | .evringSet => .evringSet f
  | .eventRoute => .eventRoute f
  | .faultList => .faultList f
  | .faultClear => .faultClear f
  | .sessionChallenge => .sessionChallenge f
  | .sessionOpen => .sessionOpen f
  | .sessionClose => .sessionClose f
  | .ledgerStatus => .ledgerStatus f
  | .ledgerRead => .ledgerRead f
  | .ledgerIdent => .ledgerIdent f
  | .ledgerSeal => .ledgerSeal f
  | .ledgerRelease => .ledgerRelease f
  | .timeAnchor => .timeAnchor f
  | .streamStatus => .streamStatus f
  | .pageStatus => .pageStatus f
  | .portSet => .portSet f
  | .streamOpen => .streamOpen f
  | .streamRekey => .streamRekey f
  | .streamClose => .streamClose f
  | .pageRelease => .pageRelease f
  | .launchStatus => .launchStatus f
  | .jobStatus => .jobStatus f
  | .sheetGet => .sheetGet f
  | .jobOpen => .jobOpen f
  | .sheetAdd => .sheetAdd f
  | .jobClose => .jobClose f
  | .jobHold => .jobHold f
  | .sheetAbort => .sheetAbort f
  | .jobAbort => .jobAbort f
  | .jobRelease => .jobRelease f
  | .pathSet => .pathSet f
  | .launchControl => .launchControl f
  | .calResult => .calResult f
  | .calRun => .calRun f
  | .calApply => .calApply f
  | .regSet => .regSet f
  | .screenInfo => .screenInfo f
  | .ecmRead => .ecmRead f
  | .profileGet => .profileGet f
  | .screenLoad => .screenLoad f
  | .ecmLoad => .ecmLoad f
  | .profileSet => .profileSet f
  | .linkStatus => .linkStatus f
  | .apcRead => .apcRead f
  | .historyLoad => .historyLoad f
  | .delayLoad => .delayLoad f
  | .apcTarget => .apcTarget f
  | .linkSet => .linkSet f
  | .polygonSet => .polygonSet f
  | .scanSet => .scanSet f
  | .facetLoad => .facetLoad f
  | .scanStart => .scanStart f
  | .scanStop => .scanStop f
  | .facetLearn => .facetLearn f
  | .scanPlan => .scanPlan f
  | .motorGet => .motorGet f
  | .busGet => .busGet f
  | .motorSet => .motorSet f
  | .motorStart => .motorStart f
  | .motorStop => .motorStop f
  | .motorSpeed => .motorSpeed f
  | .motorClear => .motorClear f
  | .busSet => .busSet f
  | .axisGet => .axisGet f
  | .axisSet => .axisSet f
  | .axisEnable => .axisEnable f
  | .axisMove => .axisMove f
  | .axisStop => .axisStop f
  | .axisHome => .axisHome f
  | .axisClear => .axisClear f
  | .fbGet => .fbGet f
  | .prbRead => .prbRead f
  | .qeSet => .qeSet f
  | .seSet => .seSet f
  | .prbSet => .prbSet f
  | .cmpSet => .cmpSet f
  | .posSet => .posSet f
  | .fbClear => .fbClear f
  | .loopGet => .loopGet f
  | .loopLoad => .loopLoad f
  | .loopSet => .loopSet f
  | .loopStart => .loopStart f
  | .loopStop => .loopStop f
  | .loopSp => .loopSp f
  | .loopClear => .loopClear f
  | .thermalGet => .thermalGet f
  | .zoneSet => .zoneSet f
  | .thSet => .thSet f
  | .curveLoad => .curveLoad f
  | .dieSet => .dieSet f
  | .thermalClear => .thermalClear f
  | .rimStatus => .rimStatus f
  | .nodeGet => .nodeGet f
  | .nodeRead => .nodeRead f
  | .rimConfig => .rimConfig f
  | .nodeWrite => .nodeWrite f
  | .rimEnum => .rimEnum f
  | .powerStatus => .powerStatus f
  | .railGet => .railGet f
  | .railSet => .railSet f
  | .powerSet => .powerSet f
  | .enginePower => .enginePower f
  | .powerControl => .powerControl f
  | .clockStatus => .clockStatus f
  | .clockSet => .clockSet f
  | .clockOutSet => .clockOutSet f
  | .pairStatus => .pairStatus f
  | .pairSet => .pairSet f
  | .pairHandover => .pairHandover f
  | .bgStatus => .bgStatus f
  | .telemetryRead => .telemetryRead f
  | .lifeGet => .lifeGet f
  | .bgSet => .bgSet f
  | .bootStatus => .bootStatus f
  | .fwStage => .fwStage f
  | .fwActivate => .fwActivate f
  | .fwCommit => .fwCommit f
  | .lifecycleSet => .lifecycleSet f
  | .debugUnlock => .debugUnlock f
  | .debugLock => .debugLock f

/-- The row of the command that a slot spells; `none` where its OPCODE is none of the specification's, which is the row
UNKNOWN_OPCODE with that opcode and the frame `slotFrame` reads (R35, R40). -/
def slotRow (n : Fin 8) (b : Bytes) (fetch : Fetch) : Option Instr :=
  (opOf (slotOpcode b)).map (fun op => rowOf op (slotFrame n b fetch))

/-- The bytes of the request slot that hamper `n` consumes next (R31, R33). -/
def requestSlot (n : Nat) (s : State) : Bytes :=
  memReadBytes s.io.windows (n * 0x2000 + 64 * ((s.io.hamper n).ci % 64)) 64

/-- The row with which hamper `n` goes on, where the host has submitted a slot that is not consumed yet (R31, R33). The
queue of the model takes its rows from outside: this says which one the window spells. -/
def submittedRow (n : Fin 8) (fetch : Fetch) (s : State) : Option Instr :=
  if s.ready && (s.io.hamper n.val).pi != (s.io.hamper n.val).ci then slotRow n (requestSlot n.val s) fetch else none

end Sys2Proof.Machine
end

