-- ==== Sys2Proof/Tests/Slice0.lean ====
section
/-!
SUPPORT. The model's own tests: ill-formed commands that the check refuses, the spec's worked examples, and for every
statement with premises states and operands that meet them.
-/
set_option maxRecDepth 8000
set_option Elab.async false
set_option linter.unusedVariables false
open Sys2Proof Sys2Proof.Machine
namespace Sys2Proof.Tests

/-! ## Small states and frames -/

/-- A running controller in IDLE, its ledger keyed and at head 1, with a session 7 of a role on hamper `n`. -/
def wS (r : Role) (n : Nat) : State :=
  { State.reset with
    saf := { State.reset.saf with ctrl := .idle, internalReset := false }
    led := { State.reset.led with head := 1, headHash := [1], keyed := true }
    io := { State.reset.io with
      sessions := upd State.reset.io.sessions (2 * n) fun _ => some { id := 7, hamper := n, role := r } } }

/-- A frame of session 7 with a payload, inline up to 48 bytes and by reference beyond. -/
def wF (n : Fin 8) (t : BitVec 16) (p : Bytes) : Frame :=
  if p.length ≤ 48 then { hamper := n, length := BitVec.ofNat 16 p.length, target := t, session := 7, seq := 1, inl := fit 48 p }
  else { hamper := n, flags := 1, length := BitVec.ofNat 16 p.length, target := t, session := 7, seq := 1, fetch := .bytes p }

/-- A payload of up to 24 bytes with an RBUF buffer of `m` bytes at 0x1000. -/
def wR (n : Fin 8) (t : BitVec 16) (p : Bytes) (m : Nat) : Frame :=
  { hamper := n, flags := 2, length := BitVec.ofNat 16 p.length, target := t, session := 7, seq := 1
    inl := fit 24 p ++ le 8 0x1000 ++ le 4 m ++ zeros 12 }

/-- A payload of `n` bytes with (offset, bytes, value) fields. -/
def wP (n : Nat) (l : List (Nat × Nat × Nat)) : Bytes := l.foldl (fun p x => putLe p x.1 x.2.1 x.2.2) (zeros n)

/-- That state with another controller state. -/
def wC (c : CState) (s : State) : State := { s with saf := { s.saf with ctrl := c } }
def sOpen (st : StrState) : State :=
  (wS .operator 2).setStrm 3 fun x => { x with state := st, cur := some { epoch := 1, salt := zeros 3, key := zeros 32 } }
def sPage : State := { wS .operator 2 with itk := { (wS .operator 2).itk with pages := [{ stream := 3, id := 5, manGrans := [0], state := .complete }] } }
def jobPay : Bytes := wP 16 [(0,1,0xFF),(1,1,0xFF),(2,1,0xFF),(3,1,0),(4,1,0xFF),(10,2,1600)]
def sJob (st : JState) (l : List Sheet) : State :=
  { wS .operator 7 with shs := { (wS .operator 7).shs with jobs := [{ num := 9, set := jobPay, state := st, sheets := l.map (·.id) }], sheets := l } }
def sh (st : ShState) : Sheet := { id := 11, job := 9, jobSeq := 0, stream := 3, page := 5, len := 1400, duplex := false, addSeq := 1, state := st }
def svc : State := { wS .service 0 with boot := { (wS .service 0).boot with berrilOk := true, settings := upd (wS .service 0).boot.settings 14 fun _ => 31 } }
def pathPay : Bytes := wP 48 [(2,2,5),(4,2,100),(6,1,20),(8,4,1024),(12,4,1024),(16,4,2600),(20,4,2600),(24,4,2600),(28,4,2600),(32,4,2^30)]
def calPay : Bytes := wP 24 [(0,1,1),(1,1,8),(2,1,3),(12,4,1),(16,4,2),(20,4,31199)]
def scrPay : Bytes := [1,1,0,0] ++ zeros 12 ++ (List.range 15).map (fun k => BitVec.ofNat 8 k)
def polyPay : Bytes := wP 48 [(0,1,8),(1,1,1),(4,4,0x4000),(8,2,40000),(10,1,16),(11,1,40),(12,2,4)] |> fun p => (List.range 8).foldl (fun p k => putLe p (24+2*k) 2 4096) p
def scanPay : Bytes := wP 24 [(0,4,120000*4096),(4,4,25600),(10,2,1),(12,2,2),(14,1,1),(15,1,60),(16,2,768),(18,1,64)]
def motPay : Bytes := wP 80 [(0,1,1),(2,1,4),(20,2,1000),(22,2,1001),(40,2,500),(44,2,500),(48,2,1000),(55,1,4),(62,2,1000),(68,2,40000)]
def polyS : State :=
  let s := svc.setMotor 2 fun m => { m with set := some (motorFill 2 motPay) }
  let s := s.setPoly 2 fun y => { y with set := some (fit 48 polyPay) }
  s.setStn 4 fun x => { x with weaver := { x.weaver with set := some (fit 24 scanPay) } }
def lockS : State := polyS.setStn 4 fun x => { x with weaver := { x.weaver with state := .locked } }
def oper : State := wS .operator 7
def auxPay : Bytes := wP 80 [(2,1,16),(20,2,1000),(22,2,60000),(40,2,1000),(44,2,1000),(48,2,1000),(55,1,2),(68,2,60000)]
def smS (st : MState) : State :=
  (svc.setMotor 15 fun m => { m with set := some (motorFill 15 auxPay), state := st }).setBus 0 fun b => { b with armed := true }
def lmPay : Bytes := wP 80 [(1,1,3),(2,1,4),(20,2,1000),(22,2,1001),(40,2,500),(44,2,500),(48,2,1000),(55,1,1),(62,2,1000),(68,2,40000)]
def lmS : State :=
  (svc.setMotor 5 fun m => { m with set := some (motorFill 5 lmPay) }).setBus 3 fun b => { b with armed := true }
def busPay : Bytes := wP 24 [(0,4,24000),(4,4,65536)]
def axPay : Bytes := wP 64 [(4,2,8000),(8,2,10000),(32,6,0),(38,6,2^40),(44,4,100),(48,4,4000000000),(55,1,0xFF)]
def axS (st : AState) : State := svc.setAxis 11 fun a => { a with set := some (axisFill 11 axPay), state := st }
def sdPay : Bytes := wP 64 [(0,1,1),(38,6,2^40),(44,4,100),(48,4,4000000000),(55,1,31)]
def segPay : Bytes := wP 24 [(0,6,2^40),(6,1,2),(8,4,4194304),(12,4,1000000000),(16,4,4000000000)]
def sePay : Bytes := wP 32 [(0,1,1),(1,1,32),(4,2,1000),(6,2,10),(8,1,40),(10,2,10),(12,1,0xFF),(20,4,2^31-1),(28,2,10000)]
def loPay : Bytes := wP 96 [(0,1,3),(1,1,3),(2,2,0),(5,1,63),(6,1,13),(8,2,8191),(36,4,0),(40,4,65536),(52,4,1),(56,4,1),(60,4,1),(64,2,1),(66,1,1),(88,4,1)]
def loS (n : Nat) (st : LState) : State := svc.setLoop n fun l => { l with set := some (loopFill loPay), state := st, u := 5 }
def zoPay : Bytes := wP 64 [(0,1,1),(4,2,100),(6,2,100),(12,2,100),(14,2,200),(16,2,300),(18,2,400)]
def rimPay : Bytes := wP 48 [(0,2,2),(16,2,5),(18,1,255),(32,2,1023),(34,1,127),(35,1,4)]
def upNode : RimNode := { addr := 1023, cls := 4, ident := zeros 24, fast := 7, state := .operational, roleOk := true }
def nodeS : State := { svc with rim := { svc.rim with nodes := [upNode], state := .run } }
def pairS : State := wC .run { oper with pair := { oper.pair with role := .active, link := true, peerHb := true, peerRole := .standby } }
def vend : State := wS .vendor 0
def onS (q : Seq) : State := { svc with pwr := { svc.pwr with seq := q } }
def faultS : State := wC .halted { svc with saf := { svc.saf with faults := [{ cls := .halt, line := 236, index := 0, cause := 0x21, time := 0 }], ilk := upd svc.saf.ilk 0 fun x => { x with latch := true } } }
def aud : State := { wS .auditor 1 with led := { (wS .auditor 1).led with signatures := [(1, [], [])], exported := 1 } }
def bandB : Bytes := (compressBand 1 1 0 (List.replicate 64 0) [] fun _ => false).1
def manB : Bytes := wP 56 [(0,4,5),(4,1,1),(5,1,1),(8,4,56),(16,1,0),(17,1,1),(18,2,1),(20,2,1)] |> fun p => p.take 40 ++ bandHash bandB
def loS2 : State := svc.setLoop 60 fun l => { l with set := some (loopFill (putLe (putLe loPay 1 1 2) 5 1 7)) }
def stuckS : State := wC .halted { svc.setStn 0 fun x => { x with screenOut := true } with
  saf := { svc.saf with faults := [{ cls := .halt, line := 236, index := 0, cause := 0x15, time := 0 }] } }
def bandSymbols : List Nat := (List.replicate 64 [3, 3, 3, 3, 3, 3, 7, 10]).flatten
def bandExample : Bytes := (compressBand 4 8 0 bandSymbols [] fun _ => false).1
def dotClass : Bytes := (((svc.stn 0).hist.getD 0 {}).classes.getD 1 []).set (40 + 0x9A) 0x27
def dotCodes : List (List Nat) :=
  [List.replicate 500 0 ++ [10], List.replicate 500 0 ++ [12], List.replicate 498 0 ++ [6, 15, 9]]
def dotTail : List (List Nat) := [[], [], List.replicate 500 0 ++ [0], List.replicate 500 0 ++ [4]]
def scanS2 : Weaver :=
  { set := some (wP 24 [(0,4,173397333),(4,4,64000),(10,2,2048),(12,2,16),(14,1,4),(15,1,20),(16,2,31200),(18,1,8)]) }
def scanPoly : Polygon := { set := some polyPay }
def trackS : State :=
  (svc.setPoly 1 fun y => { y with set := some (fit 48 polyPay), tNom := 16256000, rpmNom := 1771654, q := 65536, k := 1 }).setStn 2
    fun x => { x with weaver := { x.weaver with set := scanS2.set } }
def lm1 : Bytes := motorFill 1 (wP 80 [(4,2,200),(6,2,500),(60,1,2),(61,1,25)])
def revolution : Seg := { pos := 51200, mark := false, blend := false, vmax := 102400, acc := 1024000, jerk := 20480000 }
def cmpS : State :=
  (svc.setQe 3 fun q => { q with set := putLe (putLe q.set 6 1 4) 8 4 0, ctr := { q.ctr with pos := 9999 } }).setCmp 2
    fun c => { c with set := wP 24 [(0,1,3),(1,1,1),(2,2,4),(4,6,10000)], live := true, armed := true }
def hvPay : Bytes := wP 96 [(20,4,131),(24,4,7),(28,4,0),(32,4,8),(36,4,0),(40,4,52429),(44,4,1311),(52,4,1000000),(60,4,80*65536),(64,2,9),(56,4,5*65536)]
def fz2 : Bytes := wP 64 [(24,4,716),(28,4,35791),(36,4,429497),(40,2,250)]

/-- The marks of a node in lists of given lengths. -/
def marks5 (a b c : Nat) : StakeMarks :=
  { node := 0, edge := 0, bar := List.replicate a 0, sep := List.replicate b 0, rho := List.replicate c [] }

/-- The logic runs, from two flags. -/
theorem runs_of {s : State} (h : (!s.saf.internalReset && !s.shs.lateDue) = true) : Runs s := by
  simpa [Runs] using h

/-- A result without an error, from a check of it. -/
theorem ok_of {α : Type} [DecidableEq α] {r : Except Nat α} {a : α}
    (h : (match r with | .ok x => decide (x = a) | .error _ => false) = true) : r = .ok a := by
  cases r with
  | ok x => simpa using h
  | error _ => cases h
/-- A property of every band of a page, from the page's list of bands. -/
theorem bands_of {p : Page} {f : Nat → BandBuf → Nat} {st sd : Nat}
    (h : ∀ x ∈ p.bands, f x.band x = 0) : ∀ b x, p.band st sd b = some x → f b x = 0 := by
  intro b x hx
  have hm := List.mem_of_find?_eq_some hx
  have hp := List.find?_some hx
  simp only [Bool.and_eq_true, beq_iff_eq] at hp
  have := h x hm
  rwa [hp.2] at this

/-- A property of every place of a list. -/
theorem idx_of {α : Type} {l : List α} {P : Nat → α → Prop}
    (h : ∀ x ∈ l.zipIdx, P x.2 x.1) : ∀ p n, l[p]? = some n → P p n := by
  intro p n hp
  exact h (n, p) (by simpa [List.mk_mem_zipIdx_iff_getElem?] using hp)
/-- A property of an option's value. -/
theorem opt_of {α : Type} {o : Option α} {P : α → Prop} [DecidablePred P]
    (h : (match o with | some x => decide (P x) | none => true) = true) : ∀ x, o = some x → P x := by
  intro x hx; subst hx; simpa using h

/-! ## Ill-formed commands and events, one for each check, beside a well-formed neighbour -/

/-- A request slot's payload area of 47 bytes. -/
theorem test_wf_frame : (Instr.faultList { wF 0 0 [] with inl := zeros 47 }).wf = false
    ∧ (Instr.faultList (wF 0 0 [])).wf = true := by decide
/-- The marks of a calibration stake without the fifth station in each of their lists. -/
theorem test_wf_proposal :
    (Instr.calProposalReady { latches := [], target := [], marks := [marks5 4 5 5] }).wf = false
    ∧ (Instr.calProposalReady { latches := [], target := [], marks := [marks5 5 4 5] }).wf = false
    ∧ (Instr.calProposalReady { latches := [], target := [], marks := [marks5 5 5 4] }).wf = false
    ∧ (Instr.calProposalReady { latches := [], target := [], marks := [marks5 5 5 5] }).wf = true := by
  decide
/-- A path move of no segment, of a segment and a byte, of 17 segments. -/
theorem test_wf_pathMove : (Instr.pathMove 0 []).wf = false ∧ (Instr.pathMove 0 (zeros 25)).wf = false
    ∧ (Instr.pathMove 0 (zeros 408)).wf = false ∧ (Instr.pathMove 0 (zeros 384)).wf = true := by decide
/-- An Ethernet frame without a whole header. -/
theorem test_wf_ethFrame : (Instr.ethFrameRx 0 true (zeros 13)).wf = false ∧ (Instr.ethFrameRx 0 true (zeros 14)).wf = true := by
  decide
/-- A sweep of more slot groups than the link has. -/
theorem test_wf_sweepEnd : (Instr.sweepEnd 0 4096 [] [] false).wf = false ∧ (Instr.sweepEnd 0 4095 [] [] false).wf = true := by
  decide
/-- A back-channel frame of 19 bytes. -/
theorem test_wf_backchannel : (Instr.backchannelFrameRx 0 (zeros 19)).wf = false
    ∧ (Instr.backchannelFrameRx 0 (zeros 20)).wf = true := by decide
/-- A loop tick without the last input; one that is late for a loop 64. -/
theorem test_wf_loopTick : (Instr.loopTick (List.replicate 63 0) []).wf = false
    ∧ (Instr.loopTick (List.replicate 64 0) [64]).wf = false ∧ (Instr.loopTick (List.replicate 64 0) [63]).wf = true := by decide
/-- A tap 64 of a pixel PLL. -/
theorem test_wf_ppllCal : (Instr.ppllCal 0 [(64, 0)]).wf = false ∧ (Instr.ppllCal 0 [(63, 0)]).wf = true := by decide
/-- Band counts of a wrong number. -/
theorem test_wf_counts : (Instr.rpllLock (List.replicate 63 0)).wf = false ∧ (Instr.rpllLock (List.replicate 64 0)).wf = true
    ∧ (Instr.rpllRelockAttempt (List.replicate 65 0) true).wf = false
    ∧ (Instr.rpllRelockAttempt (List.replicate 64 0) true).wf = true := by decide
/-- A digest, a hash, a signature and a serial number of a wrong length. -/
theorem test_wf_pair : (Instr.reportRx true 0 0 0 (zeros 15)).wf = false ∧ (Instr.reportRx true 0 0 0 (zeros 16)).wf = true
    ∧ (Instr.ckptRx true 0 (zeros 47) (zeros 96)).wf = false ∧ (Instr.ckptRx true 0 (zeros 48) (zeros 95)).wf = false
    ∧ (Instr.ckptRx true 0 (zeros 48) (zeros 96)).wf = true
    ∧ (Instr.pairLinkUp (zeros 17) 0 0).wf = false ∧ (Instr.pairLinkUp (zeros 16) 0 0).wf = true := by decide

/-! ## The spec's worked examples -/

/-- Chapter 00: round_half_up with s = 4. -/
theorem test_roundHalfUp : [24, -24, 40, -40, 23].map (fun x => roundHalfUp x 4) = [2, -1, 3, -2, 1] := by decide
/-- Chapter 02: the header of the abort on H2 in bytes, and its OPCODE. -/
theorem test_slot : let b := slotBytes 0x0180 { hamper := 2, tag := 5, target := 17, session := 0x0A31, seq := 42 }
    b = [0x80, 0x01, 0, 5, 0, 0, 0x11, 0, 0x31, 0x0A, 0, 0, 0x2A, 0, 0, 0] ++ zeros 48 ∧ slotOpcode b = 0x0180
      ∧ (slotFrame 2 b (.bytes [])).target = 17 ∧ (slotFrame 2 b (.bytes [])).seq = 42 := by decide +kernel
/-- Chapter 03: D3 as set up by the example reads back its base and configuration, and its doorbell reads 0. -/
theorem test_ring_read : let s := { State.reset with dma := { State.reset.dma with rings := upd State.reset.dma.rings 3 fun r =>
      { r with base := 0x001234567000, log2n := 8, weight := 32, enable := true } } }
    regRead 0x200C0 s = 0x34567000 ∧ regRead 0x200C4 s = 0x12 ∧ regRead 0x200C8 s = 0x12008 ∧ regRead 0x200CC s = 0 := by
  decide +kernel
/-- Chapter 06: a map of 2 px and 37/64 px everywhere splits into a shift of 2 and a phase of 37. -/
theorem test_split : let p := placeSplit 2 fun _ _ => 165
    p.phase = [37, 37] ∧ p.delay = List.replicate 64 0 ∧ p.shift = List.replicate 64 [2, 2] ∧ p.residual = 0 := by decide +kernel
/-- The check value of the CRC-32 of IEEE 802.3. -/
theorem test_crc32 : crc32 (ascii "123456789") = 0xCBF43926 := by decide +kernel
/-- The cosine of 60 degrees is a half, and the angle of the diagonal is an eighth of a turn. -/
theorem test_trig : cosTurn (turn / 6) = 32768 ∧ (atan2 1 1).map (fun a => roundHalfUp a 16) = some 24576
    ∧ (atan2 (-1) (-1)).map (fun a => roundHalfUp a 16) = some (-73728) := by decide +kernel
/-- Chapter 05: the 31 bytes of a small 4-bit band. -/
theorem test_band_bytes : bandExample = [0x1B, 0x7C, 1, 4, 8, 0, 0x40, 0, 1, 0, 0, 0, 0, 0, 0, 0, 0, 2, 0, 0, 7, 0, 0, 4,
    0x45, 0x03, 0x81, 0xA7, 0xFD, 0xBB, 0x00] := by decide +kernel
/-- Chapter 05: that band decodes to its 512 symbols with T = 4 and costs 32 clocks. -/
theorem test_band_decodes : (match decodeBand bandExample 4 8 with
    | .ok l t => decide (l = bandSymbols) && t == 4 && bandCost 8 t == 32 | .fail _ => false) = true := by decide +kernel
/-- Chapter 07: the driver code of beam B02 at x = 500 is 0x27, and it stands in bits 5 to 0 of byte 15 of its group. -/
theorem test_dot : driverCode dotClass dotCodes dotTail 2 500 = 0x27
    ∧ byteAt (groupBytes dotClass dotCodes dotTail 62 0) 15 % 64 = 0x27 := by decide +kernel
/-- Chapter 08: the plan of S2 at 1.6 m/s. -/
theorem test_plan : planCond scanPoly scanS2 1 1600000 = none ∧ rpmNomOf 8 1 1600000 = 1771654 ∧ tNomOf 1600000 = 16256000
    ∧ planKhz scanS2 1 1600000 = 100000 ∧ pixelPeriod scanPoly scanS2 130048000 = 160000 := by decide +kernel
/-- Chapter 08: the regulation after a 1/4-line lead. -/
theorem test_track : let y := (trackPolygon 2 1028 16256000 trackS).poly 1
    y.qb = 65792 ∧ y.perr = 4 ∧ y.q = 65563 ∧ y.rpmSet = 1772384 := by decide +kernel
/-- Chapter 10: T_PWM and wq of LM1. -/
theorem test_lm1 : tPwm lm1 = 10000 ∧ wqOf lm1 = 8258 := by decide +kernel
/-- Chapter 11: one revolution takes 650 ms, with 7,680 usteps of acceleration in 150 ms. -/
theorem test_move : peakSpeed 0 0 revolution 51200 = 102400 ∧ transNs 0 102400 1024000 20480000 = 150000000
    ∧ transDist 0 102400 1024000 20480000 = 7680 * 65536 ∧ segNs 0 102400 0 revolution 51200 = 650000000 := by decide +kernel
/-- Chapter 12: CMP2 fires at 10,000 and disarms; two counts back it stays disarmed. -/
theorem test_compare : let s := cmpS.moveCounter 3 1
    (s.cmpUnit 2).fires = 1 ∧ (s.cmpUnit 2).firePos = 10000 ∧ (s.cmpUnit 2).armed = false
      ∧ ((s.moveCounter 3 (-2)).cmpUnit 2).armed = false ∧ ((s.moveCounter 3 (-2)).counter 3).dir = 1 := by decide +kernel
/-- Chapter 13: one period of the loop of a charge roller. -/
theorem test_loop : let r := loopStep hvPay 39157760 { r := 39321600, sp := 39321600, i := 9000, u := 14020, y := 39157760, fe := 3 }
    r.1.u = 14146 ∧ r.1.i = 9018 ∧ r.2 = 163840 ∧ r.1.fe = 2 := by decide +kernel
/-- Chapter 14: one model step of FZ2. -/
theorem test_model : modelTm fz2 773094113280 12000 false (some 11763712) = (773097157675, 773096942622) := by decide +kernel

/-! ## Published vectors -/

/-- SHA-256 of "abc" (FIPS 180-4). -/
theorem test_sha256 : sha256 (ascii "abc") = be 32 0xba7816bf8f01cfea414140de5dae2223b00361a396177a9cb410ff61f20015ad := by
  decide +kernel
/-- SHA-384 of "abc" (FIPS 180-4). -/
theorem test_sha384 : sha384 (ascii "abc")
    = be 48 0xcb00753f45a35e8bb5a03d699ac65007272c32ab0eded1631a8b605a43ff5bed8086072ba1e7cc2358baeca134c825a7 := by
  decide +kernel

/-! ## Commands of Velov -/

/-- Frames and states that meet the premises of `Obligations.IntakeChangesTakeEffect`, command by command. -/
theorem witness_IntakeChangesTakeEffect :
    applies .portSet (wF 0 1 (wP 32 [(2,2,4094),(4,2,1280),(6,2,1024),(12,1,30),(13,1,16)])) (wS .service 0) = true
    ∧ applies .streamOpen (wF 2 255 (wP 80 [(1,1,3),(4,1,1),(8,4,1)])) (wS .operator 2) = true
    ∧ applies .streamRekey (wF 2 3 (wP 40 [(0,2,2)])) (sOpen .opened) = true
    ∧ applies .streamClose (wF 2 3 []) (sOpen .opened) = true
    ∧ applies .streamClose (wF 2 3 []) (wS .operator 2) = true
    ∧ applies .pageRelease (wF 2 3 (le 4 5)) sPage = true :=
  by and_intros <;> decide +kernel

/-- Frames and states that meet the premises of `Obligations.JobChangesTakeEffect`, command by command. -/
theorem witness_JobChangesTakeEffect :
    applies .jobOpen (wF 7 0 jobPay) (wS .operator 7) = true
    ∧ applies .jobHold (wF 7 9 [1]) (sJob .opened []) = true
    ∧ applies .jobRelease (wF 7 9 []) (sJob .ended [sh .delivered]) = true
    ∧ applies .pathSet (wF 0 0 pathPay) svc = true
    ∧ applies .regSet (wF 0 4 (leI 2 (-8192) ++ zeros 2 ++ leI 4 998400)) svc = true
    ∧ applies .sheetAdd (wF 7 9 (wP 16 [(0,2,3),(2,4,5),(6,2,13000),(8,1,1),(9,1,2)])) (sJob .opened []) = true
    ∧ applies .jobClose (wF 7 9 []) (sJob .opened []) = true
    ∧ applies .sheetAbort (wF 7 11 []) (sJob .opened [sh .planned]) = true
    ∧ applies .jobAbort (wF 7 9 []) (sJob .opened [sh .planned]) = true
    ∧ applies .launchControl (wF 7 0 [1]) (wC .ready (wS .operator 7)) = true
    ∧ applies .launchControl (wF 7 0 [2]) (wC .run (wS .operator 7)) = true
    ∧ applies .calRun (wF 0 0 calPay) (wC .ready svc) = true
    ∧ applies .calApply (wF 0 0 []) { svc with boot := { svc.boot with settings := upd svc.boot.settings 14 fun _ => 1 }, shs := { svc.shs with proposal := some { kind := 1, regs := List.replicate 5 (0,0), ecms := List.replicate 5 [], apcs := [], clamped := false } } } = true
    ∧ applies .calApply (wF 0 0 []) svc = true :=
  by and_intros <;> decide +kernel

/-- Frames and states that meet the premises of `Obligations.StationChangesTakeEffect`, command by command. -/
theorem witness_StationChangesTakeEffect :
    applies .screenLoad (wF 0 20 scrPay) svc = true
    ∧ applies .profileSet (wF 0 (BitVec.ofNat 16 (8*15+2)) [4,4,15,3,0,3,0,0]) svc = true
    ∧ applies .historyLoad (wF 0 9 (zeros 296)) svc = true
    ∧ applies .delayLoad (wF 0 2 (List.replicate 64 63)) svc = true
    ∧ applies .apcTarget (wF 0 2 (wP 136 [(0,2,4095),(128,1,1),(129,1,255),(130,2,4095)])) svc = true
    ∧ applies .linkSet (wF 0 2 [15,1,0xE8,3,0,0,0,0]) svc = true :=
  by and_intros <;> decide +kernel

/-- Frames and states that meet the premises of `Obligations.ScanChangesTakeEffect`, command by command. -/
theorem witness_ScanChangesTakeEffect :
    applies .polygonSet (wF 0 2 polyPay) svc = true
    ∧ applies .scanSet (wF 0 4 scanPay) svc = true
    ∧ applies .facetLoad (wF 0 4 (wP 16 [(0,1,0xE0),(11,1,31)])) svc = true
    ∧ applies .facetLearn (wF 0 2 []) lockS = true
    ∧ applies .scanStart (wF 0 2 (le 4 300000)) polyS = true
    ∧ applies .scanStop (wF 0 2 []) lockS = true :=
  by and_intros <;> decide +kernel

/-- Frames and states that meet the premises of `Obligations.MotorChangesTakeEffect`, command by command. -/
theorem witness_MotorChangesTakeEffect :
    applies .motorSet (wF 0 25 auxPay) svc = true
    ∧ applies .motorSet (wF 0 2 motPay) svc = true
    ∧ applies .motorSet (wF 0 5 lmPay) svc = true
    ∧ applies .motorSpeed (wF 0 25 (leI 4 (-6000000))) (smS .off) = true
    ∧ applies .busSet (wF 0 3 busPay) svc = true
    ∧ applies .motorStop (wF 0 25 [1]) (smS .closed) = true
    ∧ applies .motorStop (wF 0 25 [0]) (smS .closed) = true
    ∧ applies .motorClear (wF 0 25 []) (smS .fault) = true
    ∧ applies .motorStart (wF 0 25 (le 4 6000000)) (smS .off) = true
    ∧ applies .motorStart (wF 0 5 (le 4 4000000)) lmS = true :=
  by and_intros <;> decide +kernel

/-- Frames and states that meet the premises of `Obligations.AxisChangesTakeEffect`, command by command. -/
theorem witness_AxisChangesTakeEffect :
    applies .axisSet (wF 0 11 axPay) svc = true
    ∧ applies .axisSet (wF 0 23 sdPay) svc = true
    ∧ applies .axisEnable (wF 0 11 [1]) (axS .off) = true
    ∧ applies .axisEnable (wF 0 11 [0]) (axS .hold) = true
    ∧ applies .axisMove (wF 0 11 segPay) (axS .hold) = true
    ∧ applies .axisStop (wF 0 11 []) (axS .hold) = true
    ∧ applies .axisStop (wF 0 11 []) (axS .moving) = true
    ∧ applies .axisHome (wF 0 11 (wP 16 [(0,1,7),(1,1,3),(4,4,1)])) (axS .hold) = true
    ∧ applies .axisClear (wF 0 11 []) (axS .fault) = true :=
  by and_intros <;> decide +kernel

/-- Frames and states that meet the premises of `Obligations.FeedbackChangesTakeEffect`, command by command. -/
theorem witness_FeedbackChangesTakeEffect :
    applies .qeSet (wF 0 7 (wP 24 [(0,1,3),(4,2,5),(8,4,4096),(12,4,4095),(16,4,1024),(20,2,1)])) svc = true
    ∧ applies .seSet (wF 0 19 sePay) svc = true
    ∧ applies .prbSet (wF 0 39 (wP 8 [(0,1,3),(1,1,200),(2,1,0xFF)])) svc = true
    ∧ applies .cmpSet (wF 7 55 (wP 16 [(1,1,7),(4,6,100),(10,1,31),(11,1,100)])) oper = true
    ∧ applies .cmpSet (wF 7 55 (wP 16 [(1,1,3),(4,6,100),(10,1,0xFF),(11,1,1)])) oper = true
    ∧ applies .posSet (wF 0 19 (leI 6 (-5) ++ zeros 2)) svc = true
    ∧ applies .posSet (wF 0 7 (leI 6 (-5) ++ zeros 2)) svc = true
    ∧ applies .fbClear (wF 0 7 []) (svc.setQe 7 fun q => { q with fault := 1 }) = true
    ∧ applies .fbClear (wF 0 19 []) (svc.setSe 3 fun q => { q with fault := 8, fallback := true, goodRun := 1000 }) = true :=
  by and_intros <;> decide +kernel

/-- Frames and states that meet the premises of `Obligations.ControlChangesTakeEffect`, command by command. -/
theorem witness_ControlChangesTakeEffect :
    applies .loopSet (wF 0 62 loPay) svc = true
    ∧ applies .loopSp (wF 0 62 (leI 4 (-1))) (loS 62 .off) = true
    ∧ applies .loopStart (wF 0 62 []) (loS 62 .off) = true
    ∧ applies .loopStart (wF 0 60 []) { loS2 with thm := { loS2.thm with zones := upd loS2.thm.zones 7 fun z => { z with set := some (fillDefaults zoneFields zoPay), enabled := true } } } = true
    ∧ applies .loopStop (wF 0 62 [0]) (loS 62 .regulating) = true
    ∧ applies .loopStop (wF 0 62 [1]) (loS 62 .regulating) = true
    ∧ applies .loopClear (wF 0 62 []) (loS 62 .fault) = true
    ∧ applies .loopClear (wF 0 62 []) (loS 62 .regulating) = true
    ∧ applies .zoneSet (wF 0 7 zoPay) svc = true
    ∧ applies .thSet (wF 0 23 (wP 16 [(0,1,2),(1,1,7),(2,2,1023),(4,1,14),(5,1,3),(10,2,100)])) svc = true
    ∧ applies .curveLoad (wF 0 3 ((List.range 33).flatMap fun (k : Nat) => leI 4 (100 - (k : Int)))) svc = true
    ∧ applies .dieSet (wF 0 0 (wP 8 [(0,1,108)])) svc = true
    ∧ applies .thermalClear (wF 0 16 []) { svc with thm := { svc.thm with dieFault := 0x10 } } = true
    ∧ applies .thermalClear (wF 0 7 []) (svc.setZone 7 fun z => { z with fault := 1 }) = true :=
  by and_intros <;> decide +kernel

/-- Frames and states that meet the premises of `Obligations.RimAndPairChangesTakeEffect`, command by command. -/
theorem witness_RimAndPairChangesTakeEffect :
    applies .rimConfig (wF 0 0 rimPay) svc = true
    ∧ applies .nodeWrite (wF 0 1023 (wP 12 [(0,1,0x82),(2,2,4)])) nodeS = true
    ∧ applies .rimEnum (wF 0 0 []) nodeS = true
    ∧ applies .pairHandover (wF 7 0 []) pairS = true :=
  by and_intros <;> decide +kernel

/-- Frames and states that meet the premises of `Obligations.ServiceSettingsTakeEffect`, command by command. -/
theorem witness_ServiceSettingsTakeEffect :
    applies .railSet (wF 0 15 (wP 16 [(0,1,9),(2,2,10000),(4,2,1),(6,2,5000),(8,2,1000),(10,2,1)])) svc = true
    ∧ applies .powerSet (wF 0 0 (wP 16 [(0,1,10),(1,1,1),(2,2,100),(4,2,100),(6,2,600),(8,2,1000)])) svc = true
    ∧ applies .clockSet (wF 0 0 (wP 8 [(0,1,2),(1,1,1),(2,2,100)])) svc = true
    ∧ applies .clockSet (wF 0 0 (wP 8 [])) svc = true
    ∧ applies .clockOutSet (wF 0 3 [0,1,4,0]) svc = true
    ∧ applies .pairSet (wF 0 0 (wP 24 [(0,8,1),(16,1,1)])) svc = true
    ∧ applies .bgSet (wF 0 0 (wP 24 [(0,4,10),(4,4,86400),(16,4,1),(20,2,7),(22,2,10000)])) svc = true
    ∧ applies .fwCommit (wF 0 2 []) vend = true
    ∧ applies .fwCommit (wF 0 1 []) (vend.setBootRec 0 fun r => { r with trial := 2, booted := 2 }) = true :=
  by and_intros <;> decide +kernel

/-- Frames and states that meet the premises of `Obligations.PowerChangesTakeEffect`, command by command. -/
theorem witness_PowerChangesTakeEffect :
    applies .enginePower (wF 0 0 [1]) (onS .chipOn) = true
    ∧ applies .enginePower (wF 0 0 [0]) (onS .chipOn) = true
    ∧ applies .enginePower (wF 0 0 [1]) (wC .warm (onS .engineOn)) = true
    ∧ applies .powerControl (wF 0 0 [1]) (onS .chipOn) = true
    ∧ applies .powerControl (wF 0 0 [2]) (wC .ready (onS .engineOn)) = true
    ∧ applies .powerControl (wF 0 0 [3]) (wC .ready (onS .engineOn)) = true :=
  by and_intros <;> decide +kernel

/-- Frames and states that meet the premises of `Obligations.BootChangesTakeEffect`, command by command. -/
theorem witness_BootChangesTakeEffect :
    applies .fwStage (wF 0 1 (wP 4104 [(8,4,5)])) vend = true
    ∧ applies .fwStage (wF 0 2 (wP 9 [(0,4,4096)])) vend = true
    ∧ applies .lifecycleSet (wF 0 0 (wP 298 [(0,1,1)])) vend = true
    ∧ applies .lifecycleSet (wF 0 0 (wP 8 [(0,1,2)])) { vend with boot := { vend.boot with life := .provisioned } } = true
    ∧ applies .lifecycleSet (wF 0 0 (wP 8 [(0,1,3)])) { vend with boot := { vend.boot with life := .field } } = true
    ∧ applies .debugUnlock (wF 0 0 []) vend = true
    ∧ applies .debugLock (wF 0 0 []) vend = true :=
  by and_intros <;> decide +kernel

/-- Frames and states that meet the premises of `Obligations.HostChangesTakeEffect`, command by command. -/
theorem witness_HostChangesTakeEffect :
    applies .evringSet (wF 7 0 (wP 12 [(0,8,2^63),(8,1,12),(9,1,1)])) oper = true
    ∧ applies .eventRoute (wF 0 255 [0x47,0]) svc = true
    ∧ applies .sessionClose (wF 7 0 []) oper = true
    ∧ applies .faultClear (wF 0 0 []) svc = true
    ∧ applies .faultClear (wF 0 0 []) faultS = true
    ∧ applies .ledgerRelease (wF 1 0 (le 8 1)) aud = true
    ∧ applies .timeAnchor (wF 1 0 (wP 16 [(0,8,2^63),(8,4,999999999)])) aud = true :=
  by and_intros <;> decide +kernel

/-- Frames and states that meet the premises of `Obligations.HostAndSheetQueriesAnswer`, command by command. -/
theorem witness_HostAndSheetQueriesAnswer :
    (passes .faultList (wR 0 0 [] 40) svc && hasRoom 0 svc && (State.io svc).windows.wf && (State.io svc).host.wf) = true
    ∧ (passes .ledgerStatus (wF 0 0 []) svc && hasRoom 0 svc && (State.io svc).windows.wf && (State.io svc).host.wf) = true
    ∧ (passes .streamStatus (wF 2 3 []) (sOpen .opened) && hasRoom 2 (sOpen .opened) && (State.io (sOpen .opened)).windows.wf && (State.io (sOpen .opened)).host.wf) = true
    ∧ (passes .pageStatus (wR 2 3 (le 4 5) 216) sPage && hasRoom 2 sPage && (State.io sPage).windows.wf && (State.io sPage).host.wf) = true
    ∧ (passes .jobStatus (wF 7 9 []) (sJob .opened [sh .planned]) && hasRoom 7 (sJob .opened [sh .planned]) && (State.io (sJob .opened [sh .planned])).windows.wf && (State.io (sJob .opened [sh .planned])).host.wf) = true
    ∧ (passes .sheetGet (wR 7 11 [] 512) (sJob .opened [sh .planned]) && hasRoom 7 (sJob .opened [sh .planned]) && (State.io (sJob .opened [sh .planned])).windows.wf && (State.io (sJob .opened [sh .planned])).host.wf) = true
    ∧ (passes .launchStatus (wF 7 0 []) (wS .operator 7) && hasRoom 7 (wS .operator 7) && (State.io (wS .operator 7)).windows.wf && (State.io (wS .operator 7)).host.wf) = true
    ∧ (passes .calResult (wF 7 0 []) (wS .operator 7) && hasRoom 7 (wS .operator 7) && (State.io (wS .operator 7)).windows.wf && (State.io (wS .operator 7)).host.wf) = true :=
  by and_intros <;> decide +kernel

/-- Frames and states that meet the premises of `Obligations.ImagingQueriesAnswer`, command by command. -/
theorem witness_ImagingQueriesAnswer :
    (passes .screenInfo (wF 0 28 []) svc && hasRoom 0 svc && (State.io svc).windows.wf && (State.io svc).host.wf) = true
    ∧ (passes .ecmRead (wR 0 12 [] 24672) svc && hasRoom 0 svc && (State.io svc).windows.wf && (State.io svc).host.wf) = true
    ∧ (passes .profileGet (wF 0 124 []) svc && hasRoom 0 svc && (State.io svc).windows.wf && (State.io svc).host.wf) = true
    ∧ (passes .linkStatus (wF 0 4 []) svc && hasRoom 0 svc && (State.io svc).windows.wf && (State.io svc).host.wf) = true
    ∧ (passes .apcRead (wR 0 4 [] 512) svc && hasRoom 0 svc && (State.io svc).windows.wf && (State.io svc).host.wf) = true
    ∧ (passes .scanPlan (wF 0 2 (le 4 300000)) polyS && hasRoom 0 polyS && (State.io polyS).windows.wf && (State.io polyS).host.wf) = true :=
  by and_intros <;> decide +kernel

/-- Frames and states that meet the premises of `Obligations.MotionQueriesAnswer`, command by command. -/
theorem witness_MotionQueriesAnswer :
    (passes .motorGet (wR 0 25 [] 80) (smS .off) && hasRoom 0 (smS .off) && (State.io (smS .off)).windows.wf && (State.io (smS .off)).host.wf) = true
    ∧ (passes .busGet (wF 0 3 []) svc && hasRoom 0 svc && (State.io svc).windows.wf && (State.io svc).host.wf) = true
    ∧ (passes .axisGet (wR 0 11 [] 80) (axS .hold) && hasRoom 0 (axS .hold) && (State.io (axS .hold)).windows.wf && (State.io (axS .hold)).host.wf) = true
    ∧ (passes .fbGet (wF 0 7 []) svc && hasRoom 0 svc && (State.io svc).windows.wf && (State.io svc).host.wf) = true
    ∧ (passes .loopGet (wR 0 62 [] 96) (loS 62 .off) && hasRoom 0 (loS 62 .off) && (State.io (loS 62 .off)).windows.wf && (State.io (loS 62 .off)).host.wf) = true
    ∧ (passes .loopLoad (wF 0 0 []) (loS 62 .off) && hasRoom 0 (loS 62 .off) && (State.io (loS 62 .off)).windows.wf && (State.io (loS 62 .off)).host.wf) = true
    ∧ (passes .thermalGet (wR 0 7 [] 64) svc && hasRoom 0 svc && (State.io svc).windows.wf && (State.io svc).host.wf) = true :=
  by and_intros <;> decide +kernel

/-- Frames and states that meet the premises of `Obligations.SystemQueriesAnswer`, command by command. -/
theorem witness_SystemQueriesAnswer :
    (passes .rimStatus (wF 0 0 []) nodeS && hasRoom 0 nodeS && (State.io nodeS).windows.wf && (State.io nodeS).host.wf) = true
    ∧ (passes .nodeGet (wF 0 1023 []) nodeS && hasRoom 0 nodeS && (State.io nodeS).windows.wf && (State.io nodeS).host.wf) = true
    ∧ (passes .powerStatus (wF 0 0 []) svc && hasRoom 0 svc && (State.io svc).windows.wf && (State.io svc).host.wf) = true
    ∧ (passes .railGet (wF 0 15 []) svc && hasRoom 0 svc && (State.io svc).windows.wf && (State.io svc).host.wf) = true
    ∧ (passes .clockStatus (wF 0 0 []) svc && hasRoom 0 svc && (State.io svc).windows.wf && (State.io svc).host.wf) = true
    ∧ (passes .pairStatus (wF 0 0 []) svc && hasRoom 0 svc && (State.io svc).windows.wf && (State.io svc).host.wf) = true
    ∧ (passes .bgStatus (wF 0 0 []) svc && hasRoom 0 svc && (State.io svc).windows.wf && (State.io svc).host.wf) = true
    ∧ (passes .telemetryRead (wR 0 0 (zeros 8) 72) svc && hasRoom 0 svc && (State.io svc).windows.wf && (State.io svc).host.wf) = true
    ∧ (passes .lifeGet (wR 0 0 [] 568) svc && hasRoom 0 svc && (State.io svc).windows.wf && (State.io svc).host.wf) = true
    ∧ (passes .bootStatus (wF 0 0 []) svc && hasRoom 0 svc && (State.io svc).windows.wf && (State.io svc).host.wf) = true :=
  by and_intros <;> decide +kernel

/-! ## Events -/

namespace HostInterfaceEvents
def hS : State := svc
def finS : State :=
  { svc with io := { svc.io with
      finals := [{ hamper := 0, tag := 5, gone := 0, status := 0, detail := 0, result := [] }]
      hampers := upd svc.io.hampers 0 fun h => { h with flights := [{ op := .scanStart, f := { wF 0 4 [] with tag := 5 }, change := true, stage := .running, seq := 9 }] } } }

/-- States and operands that meet the premises of `Obligations.HostInterfaceEvents`, clause by clause. -/
theorem witness_HostInterfaceEvents :
    (∃ (slot : Fin 16) (s : State) (x : Session), Runs s ∧ s.ready = true ∧ s.io.sessions.getD slot.val none = some x ∧ (∀ y ∈ (s.io.hamper x.hamper).flights, y.f.session.toNat ≠ x.id ∨ y.gone ≠ 0))
    ∧ (∃ (n : Fin 8) (s : State), Runs s)
    ∧ (∃ (n : Fin 8) (v : Word) (s : State), Runs s ∧ s.ready = true ∧ (v.toNat % 128 + 128 - (s.io.hamper n.val).ci) % 128 ≤ 64)
    ∧ (∃ (n : Fin 8) (v : Word) (s : State), Runs s ∧ s.ready = true ∧ n.val < s.io.hampers.length ∧ (v.toNat % 128 + 128 - (s.io.hamper n.val).rspCons) % 128 ≤ ((s.io.hamper n.val).rspPi + 128 - (s.io.hamper n.val).rspCons) % 128 ∧ (s.io.hamper n.val).rspWait = [])
    ∧ (∃ (n : Fin 8) (v : Word) (s : State), Runs s ∧ s.ready = true ∧ n.val < s.io.hampers.length ∧ ((s.io.hamper n.val).rspPi + 128 - (s.io.hamper n.val).rspCons) % 128 < (v.toNat % 128 + 128 - (s.io.hamper n.val).rspCons) % 128)
    ∧ (∃ (s : State) (z : Final) (zs : List Final) (x : Flight), Runs s ∧ s.io.finals = z :: zs ∧ (s.io.hamper z.hamper).flights = [x] ∧ x.f.tag.toNat = z.tag ∧ x.f.hamper.val = z.hamper ∧ x.gone = 0 ∧ z.gone = 0 ∧ x.stage = .running ∧ (specOf x.op).late = none ∧ (s.io.hamper z.hamper).ring.enabled = false ∧ hasRoom z.hamper s = true ∧ s.io.windows.wf = true ∧ z.hamper < s.io.hampers.length)
    ∧ (∃ (i : Fin 8) (mask : Word) (hit : Word) (s : State), Runs s)
    ∧ (∃ (o : BitVec 16) (f : Frame) (s : State), Runs s ∧ s.ready = true ∧ opOf o.toNat = none ∧ o.toNat ≠ 0x01F0 ∧ o.toNat ≠ 0x1281 ∧ earlyFault f (takeSlot f.hamper.val s) = none ∧ hasRoom f.hamper.val s = true ∧ s.io.windows.wf = true ∧ f.hamper.val < s.io.hampers.length)
    ∧ (∃ (s : State), Runs s)
    ∧ (∃ (n : Fin 8) (v : Word) (s : State), Runs s ∧ s.ready = true ∧ n.val < s.io.hampers.length ∧ v.toNat % 8192 < 2 * (s.io.hamper n.val).ring.size ∧ (v.toNat % 8192 + 2 * (s.io.hamper n.val).ring.size - (s.io.hamper n.val).ring.ci) % (2 * (s.io.hamper n.val).ring.size) ≤ ((s.io.hamper n.val).ring.pi + 2 * (s.io.hamper n.val).ring.size - (s.io.hamper n.val).ring.ci) % (2 * (s.io.hamper n.val).ring.size) ∧ (s.io.hamper n.val).ring.lost = 0 ∧ (s.io.hamper n.val).complWait = [])
    ∧ (∃ (n : Fin 8) (v : Word) (s : State), Runs s ∧ s.ready = true ∧ n.val < s.io.hampers.length ∧ (v.toNat % 8192 < 2 * (s.io.hamper n.val).ring.size ∧ ((s.io.hamper n.val).ring.pi + 2 * (s.io.hamper n.val).ring.size - (s.io.hamper n.val).ring.ci) % (2 * (s.io.hamper n.val).ring.size) < (v.toNat % 8192 + 2 * (s.io.hamper n.val).ring.size - (s.io.hamper n.val).ring.ci) % (2 * (s.io.hamper n.val).ring.size)))
    ∧ (∃ (n : Fin 8) (v : Word) (s : State), Runs s ∧ s.ready = true ∧ n.val < s.io.hampers.length ∧ 2 * (s.io.hamper n.val).ring.size ≤ v.toNat % 8192)
    ∧ (∃ (o : BitVec 16) (f : Frame) (s : State), Runs s ∧ s.ready = true ∧ opOf o.toNat = none ∧ earlyFault f (takeSlot f.hamper.val s) = none ∧ hasRoom f.hamper.val s = true ∧ s.io.windows.wf = true ∧ f.hamper.val < s.io.hampers.length ∧ (o.toNat = 0x01F0 ∨ o.toNat = 0x1281)) :=
  ⟨⟨((0 : Fin 16)), svc, ({ id := 7, hamper := 0, role := .service }), runs_of (by decide +kernel), by decide +kernel⟩,
   ⟨((3 : Fin 8)), svc, runs_of (by decide +kernel)⟩,
   ⟨((3 : Fin 8)), 64, svc, runs_of (by decide +kernel), by decide +kernel⟩,
   ⟨((3 : Fin 8)), 10, ({ svc with io := svc.io.setHamper 3 fun h => { h with rspPi := 10 } }), runs_of (by decide +kernel), by decide +kernel⟩,
   ⟨((3 : Fin 8)), 11, ({ svc with io := svc.io.setHamper 3 fun h => { h with rspPi := 10 } }), runs_of (by decide +kernel), by decide +kernel⟩,
   ⟨finS, ({ hamper := 0, tag := 5, gone := 0, status := 0, detail := 0, result := [] }), ([]), ({ op := .scanStart, f := { wF 0 4 [] with tag := 5 }, change := true, stage := .running, seq := 9 }), runs_of (by decide +kernel), by decide +kernel⟩,
   ⟨((7 : Fin 8)), 0x80000001, 1, svc, runs_of (by decide +kernel)⟩,
   ⟨0x01F1, (wF 0 0 []), svc, runs_of (by decide +kernel), by decide +kernel⟩,
   ⟨svc, runs_of (by decide +kernel)⟩,
   ⟨((3 : Fin 8)), 10, ({ svc with io := svc.io.setHamper 3 fun h => { h with ring := { h.ring with log2n := 6, pi := 10 } } }), runs_of (by decide +kernel), by decide +kernel⟩,
   ⟨((3 : Fin 8)), 11, ({ svc with io := svc.io.setHamper 3 fun h => { h with ring := { h.ring with log2n := 6, pi := 10 } } }), runs_of (by decide +kernel), by decide +kernel⟩,
   ⟨((3 : Fin 8)), 128, ({ svc with io := svc.io.setHamper 3 fun h => { h with ring := { h.ring with log2n := 6, pi := 10 } } }), runs_of (by decide +kernel), by decide +kernel⟩,
   ⟨0x1281, (wF 0 0 []), svc, runs_of (by decide +kernel), by decide +kernel⟩⟩

end HostInterfaceEvents

namespace GuardedRegisterEvents
def openD : State := { svc with reg := { svc.reg with dma := { svc.reg.dma with isOpen := true } } }
def openV : State := { svc with reg := { svc.reg with svc := { svc.reg.svc with isOpen := true } } }
def heldD : State := { svc with reg := { svc.reg with dma := { svc.reg.dma with held := [{ reg := .ring 3 .cfg, value := 0x1F, origin := 2, detail := 1, seq := some 8 }] } } }
def heldV (v : Nat) : State := { svc with reg := { svc.reg with svc := { svc.reg.svc with held := [{ reg := .svcInh, value := v, origin := 2, detail := 1, seq := some 8 }] } }, saf := { svc.saf with inhForce := true } }

/-- States and operands that meet the premises of `Obligations.GuardedRegisterEvents`, clause by clause. -/
theorem witness_GuardedRegisterEvents :
    (∃ (b : Block) (v : Word) (s : State), Runs s)
    ∧ (∃ (r : Fin 8) (k : DmaReg) (v : Word) (q : BitVec 16) (s : State), Runs s ∧ s.reg.dma.isOpen = true ∧ setupBad (.ring r k) v.toNat s = false ∧ s.saf.ctrl.serving = true ∧ capturePlaces s < 24)
    ∧ (∃ (s : State) (r : Fin 8) (k : DmaReg) (v : Nat) (n : Nat) (hs : List HeldWrite) (o : Nat) (d : Nat), Runs s ∧ s.reg.dma.held = { reg := .ring r k, value := v, origin := o, detail := d, seq := some (n + 1) } :: hs ∧ (s.dring r.val).doorHeld = false ∧ (s.dring r.val).stopHeld = false)
    ∧ (∃ (w : Writer) (s : State), Runs s ∧ s.reg.svc.isOpen = true ∧ capturePlaces s < 32)
    ∧ (∃ (halt : Bool) (w : Writer) (s : State), Runs s ∧ s.reg.svc.isOpen = true ∧ capturePlaces s < 32)
    ∧ (∃ (w : Writer) (s : State), Runs s ∧ s.reg.svc.isOpen = true ∧ s.saf.inhForce = false)
    ∧ (∃ (q : BitVec 16) (s : State), Runs s ∧ s.reg.svc.isOpen = true ∧ s.saf.ctrl.serving = true ∧ capturePlaces s < 24)
    ∧ (∃ (s : State) (v : Nat) (n : Nat) (hs : List HeldWrite) (o : Nat) (d : Nat), Runs s ∧ s.reg.svc.held = { reg := .svcInh, value := v, origin := o, detail := d, seq := some (n + 1) } :: hs) :=
  ⟨⟨.dma, 0x7E1A, svc, runs_of (by decide +kernel)⟩,
   ⟨((7 : Fin 8)), .cfg, 0x0105, 0xFFFF, openD, runs_of (by decide +kernel), by decide +kernel⟩,
   ⟨heldD, ((3 : Fin 8)), .cfg, 0x1F, 7, ([]), 2, 1, runs_of (by decide +kernel), by decide +kernel⟩,
   ⟨(.host 5), openV, runs_of (by decide +kernel), by decide +kernel⟩,
   ⟨true, .debug, (wC .run openV), runs_of (by decide +kernel), by decide +kernel⟩,
   ⟨(.host 5), (wC .run openV), runs_of (by decide +kernel), by decide +kernel⟩,
   ⟨0xFFFF, ({ openV with saf := { openV.saf with inhForce := true } }), runs_of (by decide +kernel), by decide +kernel⟩,
   ⟨(heldV 0), 0, 7, ([]), 2, 1, runs_of (by decide +kernel), by decide +kernel⟩⟩

end GuardedRegisterEvents

namespace RegisterWindowEvents

/-- States and operands that meet the premises of `Obligations.RegisterWindowEvents`, clause by clause. -/
theorem witness_RegisterWindowEvents :
    (∃ (w : Fin 4) (v : Word) (s : State) (l : List Nat), Runs s ∧ snapValue (v.toNat % 65536) s = some l)
    ∧ (∃ (w : Fin 4) (v : Word) (s : State), Runs s ∧ snapValue (v.toNat % 65536) s = none)
    ∧ (∃ (w : Fin 4) (s : State), Runs s)
    ∧ (∃ (s : State), Runs s)
    ∧ (∃ (o : BitVec 20) (v : Word) (be : BitVec 4) (w : Writer) (s : State), Runs s ∧ 0x10000 ≤ o.toNat ∧ o.toNat < 0x20000)
    ∧ (∃ (k : Fin 4) (v : Word) (w : Writer) (s : State), Runs s)
    ∧ (∃ (o : BitVec 20) (s : State) (ws : List Nat), Runs s ∧ o.toNat ≠ 0x81000 ∧ blockWords o.toNat s = some ws ∧ mirrorsWfFrom 0 s.reg.mirrors = true)
    ∧ (∃ (o : BitVec 20) (v : Word) (be : BitVec 4) (w : Writer) (s : State), Runs s ∧ (o.toNat < 0x10000 ∨ 0x20000 ≤ o.toNat) ∧ o.toNat % 4 = 0 ∧ be ≠ 0xF) :=
  ⟨⟨((3 : Fin 4)), 0xABCD0001, svc, ((snapValue 1 svc).getD []), runs_of (by decide +kernel), by decide +kernel⟩,
   ⟨((3 : Fin 4)), 0xFFFF, svc, runs_of (by decide +kernel), by decide +kernel⟩,
   ⟨((3 : Fin 4)), svc, runs_of (by decide +kernel)⟩,
   ⟨svc, runs_of (by decide +kernel)⟩,
   ⟨0x10000, 0x04030201, 0x5, (.host 1), svc, runs_of (by decide +kernel), by decide +kernel⟩,
   ⟨((3 : Fin 4)), 0x00FF1234, (.host 1), ({ svc with reg := { svc.reg with scratch := [0,0,0,0xABCD] } }), runs_of (by decide +kernel)⟩,
   ⟨0x80000, svc, ((blockWords 0x80000 svc).getD []), runs_of (by decide +kernel), by decide +kernel⟩,
   ⟨0x20008, 0x105, 0x7, (.host 1), svc, runs_of (by decide +kernel), by decide +kernel⟩⟩

end RegisterWindowEvents

namespace DmaEvents
def ringS (x : DmaRing) : State := { svc with dma := { svc.dma with rings := upd svc.dma.rings 7 fun _ => x } }
def fillD (fl : Nat) : Bytes := wP 32 [(0,8,0x0807060504030201),(8,8,2^40),(16,4,13),(20,1,1),(22,1,fl),(31,1,1)]
def jobHead : Bytes := wP 32 [(0,1,0)]
/-- A job that compresses 64 lines of one symbol. -/
def codB : Bytes := wP 40 [(0,1,1),(1,1,1),(2,2,1),(4,4,8),(12,4,100)]
def codD : DmaDesc := { index := 31, bytes := wP 32 [(8,8,2^40),(16,4,40),(20,1,3),(31,1,1)], read := .data codB, started := true, codec := true }
def codS : State :=
  let s := ringS { enable := true, run := true, ci := 0, base := 4096, fetched := [codD] }
  { s with dma := { s.dma with jobs := [7] } }

/-- States and operands that meet the premises of `Obligations.DmaEvents`, clause by clause. -/
theorem witness_DmaEvents :
    (∃ (r : Fin 8) (s : State), Runs s ∧ ringWriteHeld r.val s = false ∧ (s.dring r.val).enable = true ∧ (s.dring r.val).run = false)
    ∧ (∃ (r : Fin 8) (s : State), Runs s ∧ ringWriteHeld r.val s = false ∧ (s.dring r.val).enable = false)
    ∧ (∃ (r : Fin 8) (s : State), Runs s ∧ ringWriteHeld r.val s = false ∧ (s.dring r.val).run = true ∧ (s.dring r.val).fetched = [])
    ∧ (∃ (r : Fin 8) (b : Bytes) (rd : DmaRead) (s : State), Runs s ∧ (s.dring r.val).run = true ∧ (s.dring r.val).idle = false ∧ (s.dring r.val).stopErr = 0 ∧ (s.dring r.val).fetched = [] ∧ (s.dring r.val).wake = false ∧ byteAt (fit 32 b) 31 % 2 = 0)
    ∧ (∃ (r : Fin 8) (d : Bytes) (s : State), Runs s ∧ (s.dring r.val).run = true ∧ (s.dring r.val).idle = false ∧ (s.dring r.val).stopErr = 0 ∧ (s.dring r.val).fetched = [] ∧ r.val < s.dma.rings.length ∧ d.length = 32 ∧ byteAt d 31 % 2 = 1 ∧ descOp d = 1 ∧ descBad d (fit (descLen d) []) = false ∧ descAddrBad d = none ∧ descDstCtrl d = false)
    ∧ (∃ (r : Fin 8) (s : State) (e : DmaDesc), Runs s ∧ (s.dring r.val).fetched = [e] ∧ e.started = true ∧ e.codec = false ∧ (s.dring r.val).stopErr = 0 ∧ (s.dring r.val).idle = false ∧ byteAt e.bytes 22 % 2 = 0)
    ∧ (∃ (r : Fin 8) (s : State) (e : DmaDesc) (es : List DmaDesc), Runs s ∧ (s.dring r.val).fetched = e :: es ∧ e.started = true ∧ e.codec = false)
    ∧ (∃ (bc : List Nat) (br : List Nat) (s : State) (n : Nat) (js : List Nat) (e : DmaDesc) (es : List DmaDesc), Runs s ∧ (∃ b, e.read = .data b) ∧ s.dma.jobs = n :: js ∧ (s.dring n).fetched = e :: es ∧ e.codec = true ∧ descDstCtrl e.bytes = false ∧ (engineJob (match e.read with | .data b => fit (descLen e.bytes) b | .fail _ _ => []) bc br).undef = false ∧ (engineJob (match e.read with | .data b => fit (descLen e.bytes) b | .fail _ _ => []) bc br).rawBad = false)
    ∧ (∃ (r : Fin 8) (s : State), Runs s ∧ ringWriteHeld r.val s = true) :=
  ⟨⟨((7 : Fin 8)), (ringS { enable := true, halted := true, err := 6 }), runs_of (by decide +kernel), by decide +kernel⟩,
   ⟨((7 : Fin 8)), (ringS {}), runs_of (by decide +kernel), by decide +kernel⟩,
   ⟨((7 : Fin 8)), (ringS { enable := true, run := true, ci := 3 }), runs_of (by decide +kernel), by decide +kernel⟩,
   ⟨((7 : Fin 8)), (zeros 32), (.data []), (ringS { enable := true, run := true, ci := 31 }), runs_of (by decide +kernel), by decide +kernel⟩,
   ⟨((7 : Fin 8)), (fillD 0), (ringS { enable := true, run := true, ci := 31 }), runs_of (by decide +kernel), by decide +kernel⟩,
   ⟨((7 : Fin 8)), (ringS { enable := true, run := true, ci := 0, base := 4096, fetched := [{ index := 31, bytes := fillD 0, read := .data [], started := true }] }), ({ index := 31, bytes := fillD 0, read := .data [], started := true }), runs_of (by decide +kernel), by decide +kernel⟩,
   ⟨((7 : Fin 8)), (ringS { enable := true, run := true, ci := 0, base := 4096, fetched := [{ index := 31, bytes := fillD 0, read := .data [], started := true }] }), ({ index := 31, bytes := fillD 0, read := .data [], started := true }), ([]), runs_of (by decide +kernel), by decide +kernel⟩,
   ⟨([]), ([]), codS, 7, ([]), codD, ([]), runs_of (by decide +kernel), ⟨codB, rfl⟩, by decide +kernel⟩,
   ⟨((3 : Fin 8)), GuardedRegisterEvents.heldD, runs_of (by decide +kernel), by decide +kernel⟩⟩

end DmaEvents

namespace LedgerEvents
def rec1 : Rec := { kind := .protect, time := 5, origin := 7, detail := 236, subject := 0, body := zeros 12, draw := .protective }
def qS : State := { svc with led := { svc.led with queue := [rec1] } }
def ckS : State := { svc with led := { svc.led with head := 1023, captures := [[1,2]], queue := [rec1] } }
def ent (n : Nat) : Entry := { seq := n, kind := .protect, bytes := zeros 96 }
def jS : State := { svc with led := { svc.led with journal := [ent 1, ent 2, ent 3] } }
def unS : State := { svc with led := { svc.led with unsigned := [(1024, [3])] } }

/-- States and operands that meet the premises of `Obligations.LedgerEvents`, clause by clause. -/
theorem witness_LedgerEvents :
    (∃ (w : Writer) (a : Word) (old : Word) (new : Word) (n : BitVec 64) (s : State), s.shs.lateDue = false)
    ∧ (∃ (w : Writer) (a : Word) (old : Word) (new : Word) (s : State), s.shs.lateDue = false ∧ w ≠ .bootRom ∧ captureWaits s < 256)
    ∧ (∃ (a : Word) (old : Word) (new : Word) (s : State), s.shs.lateDue = false)
    ∧ (∃ (s : State) (r : Rec) (rest : List Rec), Runs s ∧ s.ready = true ∧ ckptDue s = false ∧ s.led.queue = r :: rest ∧ r.kind ≠ .sheet ∧ r.draw ≠ .sheet ∧ r.act = .none ∧ spaceFor r.draw s = true)
    ∧ (∃ (s : State), Runs s ∧ s.ready = true ∧ (s.led.head + 1) % 1024 = 0 ∧ 1 ≤ ledgerU s)
    ∧ (∃ (n : Nat) (s : State), Runs s ∧ s.ready = true ∧ s.led.journal ≠ [] ∧ 0 < n)
    ∧ (∃ (n : Nat) (s : State), Runs s ∧ s.ready = true ∧ s.led.journal ≠ [] ∧ 0 < n)
    ∧ (∃ (s : State) (n : Nat) (h : Bytes) (rest : List (Nat × Bytes)), Runs s ∧ s.ready = true ∧ s.led.keyed = true ∧ s.led.unsigned = (n, h) :: rest ∧ (∀ r ∈ s.led.queue, r.kind ≠ .signature))
    ∧ (∃ (s : State), Runs s ∧ s.ready = true ∧ s.led.keyed = true ∧ s.led.unsigned ≠ [])
    ∧ (∃ (s : State), Runs s ∧ s.ready = true ∧ 0 < s.led.gapCount ∧ s.reg.lostWrites = 0 ∧ ledgerU s ≠ 0)
    ∧ (∃ (s : State) (r : Rec) (rest : List Rec), Runs s ∧ s.ready = true ∧ ckptDue s = false ∧ s.led.queue = r :: rest ∧ r.kind ≠ .sheet ∧ r.draw ≠ .sheet ∧ r.act = .none ∧ spaceFor r.draw s = true ∧ s.pair.role = .active ∧ s.pair.link = true ∧ (r.kind = .command ∨ r.kind = .register ∨ r.kind = .capture)) :=
  ⟨⟨(.rambler 3), 0x1234, 1, 2, 77, svc, by decide +kernel⟩,
   ⟨(.rambler 3), 0x1234, 1, 2, svc, by decide +kernel⟩,
   ⟨0x1234, 1, 2, svc, by decide +kernel⟩,
   ⟨qS, rec1, ([]), runs_of (by decide +kernel), by decide +kernel⟩,
   ⟨ckS, runs_of (by decide +kernel), by decide +kernel⟩,
   ⟨2, jS, runs_of (by decide +kernel), by decide +kernel⟩,
   ⟨1, jS, runs_of (by decide +kernel), by decide +kernel⟩,
   ⟨unS, 1024, ([3]), ([]), runs_of (by decide +kernel), by decide +kernel⟩,
   ⟨unS, runs_of (by decide +kernel), by decide +kernel⟩,
   ⟨({ svc with led := { svc.led with gapCount := 3, gapFirst := 1, gapLast := 2 } }), runs_of (by decide +kernel), by decide +kernel⟩,
   ⟨({ qS with pair := { svc.pair with role := .active, link := true }, led := { svc.led with queue := [{ rec1 with kind := .register }] } }), ({ rec1 with kind := .register }), ([]), runs_of (by decide +kernel), by decide +kernel⟩⟩

end LedgerEvents

namespace IntakeEvents
def dataP : Bytes := wP 49 [(0,1,0x11),(2,2,3),(4,2,1),(6,2,1),(8,8,1024),(16,4,5),(20,1,9),(22,2,1919),(24,4,0),(28,4,1)]
def be2 (n : Nat) : Bytes := (le 2 n).reverse
def ipP (b : Bytes) : Bytes := [0x45, 0] ++ be2 (28 + b.length) ++ zeros 4 ++ [64, 17, 0, 0] ++ [10,0,0,1] ++ [10,0,0,2] ++ be2 1111 ++ be2 47240 ++ be2 (8 + b.length) ++ [0,0] ++ b
def ethF (b : Bytes) : Bytes := zeros 6 ++ [2,0,0,0,0,1] ++ [8,0] ++ ipP b
def inS : State :=
  let s := svc.setPort 1 fun p => { p with set := p.set.take 8 ++ [10,0,0,2] ++ p.set.drop 12 }
  s.setStrm 3 fun x => { x with state := .opened, ports := 2, peerUdp := 1111, peer := zeros 10 ++ [0xFF,0xFF,10,0,0,1], quota := 1, cur := some { epoch := 1, salt := zeros 3, key := zeros 32 } }
def data17 : Bytes := wP 65 [(0,1,0x11),(2,2,3),(4,2,1),(6,2,1),(8,8,1024),(16,4,5),(20,1,9),(22,2,1919),(24,4,0),(28,4,17)]
def inQ17 : State := inS.setStrm 3 fun x => { x with queue := [(1, data17)] }
def gapS : State := inS.setStrm 3 fun x => { x with high := 9, marks := [9], lastPort := 1 }
def ackS : State := inS.setStrm 3 fun x => { x with ackDue := true, lastPort := 1 }
def pcS : State := svc.setStrm 3 fun x => { x with state := .opened, pcie := true, marks := [7] }
def pgS : State := { inS with itk := { inS.itk with pages := [{ stream := 3, id := 5, manGrans := [0], manifest := some manB, bands := [{ station := 0, side := 0, band := 0, len := bandB.length, units := [(0, bandB)] }] }] } }
def pgP : Page := (pgS.page 3 5).getD { stream := 0, id := 0 }
def ptpS : State := { svc with itk := { svc.itk with master := some { dataset := zeros 16, port := 1 } } }

/-- States and operands that meet the premises of `Obligations.IntakeEvents`, clause by clause. -/
theorem witness_IntakeEvents :
    (∃ (p : Fin 2) (f : Bytes) (s : State), Runs s)
    ∧ (∃ (p : Fin 2) (f : Bytes) (s : State) (src : Bytes) (udp : Nat) (b : Bytes), Runs s ∧ s.shadow = false ∧ frameUse (s.port p.val) f = .trt src udp b ∧ trtWellFormed b = true ∧ (s.strm (u16At b 2)).state = .opened ∧ (s.strm (u16At b 2)).pcie = false ∧ (s.strm (u16At b 2)).peer = src ∧ (s.strm (u16At b 2)).peerUdp = udp ∧ bit (s.strm (u16At b 2)).ports p.val = true ∧ (keyFor (s.strm (u16At b 2)) (u16At b 4) (u64At b 8)).isSome = true ∧ seqMarked (s.strm (u16At b 2)) (u64At b 8) = false ∧ u64At b 8 ≤ (s.strm (u16At b 2)).low + 1023 ∧ (s.strm (u16At b 2)).queue.length < 64)
    ∧ (∃ (p : Fin 2) (up : Bool) (s : State), Runs s)
    ∧ (∃ (n : Fin 256) (seqs : List Nat) (s : State) (k : StreamKey), Runs s ∧ n.val < s.itk.streams.length ∧ (s.strm n.val).state = .opened ∧ (s.strm n.val).pcie = false ∧ (s.strm n.val).cur = some k ∧ mayAnswer n.val s = true ∧ seqs.filter (isGap (s.strm n.val)) ≠ [] ∧ (∀ q ∈ seqs.filter (isGap (s.strm n.val)), gapRequests (s.strm n.val) q < s.boot.settings.getD 6 64))
    ∧ (∃ (n : Fin 256) (s : State) (k : StreamKey), Runs s ∧ (s.strm n.val).state ≠ .closed ∧ (s.strm n.val).pcie = false ∧ (s.strm n.val).ackDue = true ∧ (s.strm n.val).cur = some k ∧ mayAnswer n.val s = true ∧ n.val < s.itk.streams.length ∧ (s.strm n.val).lastPort < s.itk.ports.length)
    ∧ (∃ (n : Fin 256) (s : State), Runs s ∧ (s.strm n.val).state = .opened ∧ (s.strm n.val).pcie = true ∧ (s.strm n.val).marks ≠ [])
    ∧ (∃ (n : Fin 256) (pg : Word) (p : Page) (m : Bytes) (s : State), Runs s ∧ s.page n.val pg.toNat = some p ∧ p.manifest = some m ∧ p.state = .receiving ∧ pageFull p = true)
    ∧ (∃ (n : Fin 256) (pg : Word) (p : Page) (m : Bytes) (s : State), Runs s ∧ (∀ pl ∈ manPlanes m, ∀ b x, p.band pl.station pl.side b = some x → (verifyBand m pl b x).1 = 0) ∧ s.page n.val pg.toNat = some p ∧ p.manifest = some m ∧ p.state = .receiving ∧ pageFull p = true)
    ∧ (∃ (s : State) (m : PtpMaster), Runs s ∧ s.itk.master = some m)
    ∧ (∃ (sec : Nat) (ns : Nat) (u : Nat) (r : Int) (s : State) (m : PtpMaster), Runs s ∧ s.itk.master = some m)
    ∧ (∃ (n : Fin 256) (s : State), Runs s ∧ cryptoNext s ≠ some n.val) :=
  ⟨⟨((1 : Fin 2)), ([]), svc, runs_of (by decide +kernel)⟩,
   ⟨((1 : Fin 2)), (ethF dataP), inS, (zeros 10 ++ [0xFF,0xFF,10,0,0,1]), 1111, dataP, runs_of (by decide +kernel), by decide +kernel⟩,
   ⟨((1 : Fin 2)), true, svc, runs_of (by decide +kernel)⟩,
   ⟨((3 : Fin 256)), ([1, 8, 9, 10]), gapS, ({ epoch := 1, salt := zeros 3, key := zeros 32 }), runs_of (by decide +kernel), by decide +kernel⟩,
   ⟨((3 : Fin 256)), ackS, ({ epoch := 1, salt := zeros 3, key := zeros 32 }), runs_of (by decide +kernel), by decide +kernel⟩,
   ⟨((3 : Fin 256)), pcS, runs_of (by decide +kernel), by decide +kernel⟩,
   ⟨((3 : Fin 256)), 5, pgP, manB, pgS, runs_of (by decide +kernel), by decide +kernel⟩,
   ⟨((3 : Fin 256)), 5, pgP, manB, pgS, runs_of (by decide +kernel), fun pl hp => bands_of (f := fun b x => (verifyBand manB pl b x).1) (by revert pl; decide +kernel), by decide +kernel⟩,
   ⟨ptpS, ({ dataset := zeros 16, port := 1 }), runs_of (by decide +kernel), by decide +kernel⟩,
   ⟨1, 2, 3, (-4), ptpS, ({ dataset := zeros 16, port := 1 }), runs_of (by decide +kernel), by decide +kernel⟩,
   ⟨((3 : Fin 256)), svc, runs_of (by decide +kernel), by decide +kernel⟩⟩

end IntakeEvents

namespace PipelineEvents
def sd : Side := { sheet := 11, side := 0, stream := 3, page := 5, n0 := 0, placeY := 0, x0 := 0, bands := 2, bits := 1, width := 1, wa := 9, profile := [2,1,15,0,0xE4,0,0,0], ecm := 0, hist := 0 }
def decS : State :=
  let s : State := { svc with itk := { svc.itk with pages := [{ stream := 3, id := 5, manGrans := [0], state := .complete, manifest := some manB, bands := [{ station := 0, side := 0, band := 0, len := bandB.length, units := [(0, bandB)] }] }] } }
  s.setStn 0 fun x => { x with sides := [{ sd with decoding := [0, 1] }] }
def badS : State :=
  let s : State := { svc with itk := { svc.itk with pages := [{ stream := 3, id := 5, manGrans := [0], state := .complete, manifest := some manB, bands := [{ station := 0, side := 0, band := 0, len := 1, units := [(0, [7])] }] }] } }
  s.setStn 0 fun x => { x with sides := [{ sd with decoding := [0, 1] }] }
def upLanes : List Lane := [{ state := .up }, { state := .down }, { state := .up }, { state := .up }]
def swS : State := svc.setStn 4 fun x => { x with
  sides := [sd], sweep := some { n := 0 }, lanes := upLanes
  slots := bandSlots 11 0 0 1 sd.profile x.screens (List.replicate 64 1) ++ bandSlots 11 0 1 1 sd.profile x.screens (List.replicate 64 1) }
def swL := sweepLines (swS.stn 4) sd 0
def sentS (g : Nat) : State := svc.setStn 4 fun x => { x with
  sides := [sd], lanes := upLanes, sweep := some { n := 0, sent := true, codes := List.replicate 64 [1], groups := List.replicate g (zeros 384) } }
def sentY (g : Nat) : Sweep := { n := 0, sent := true, codes := List.replicate 64 [1], groups := List.replicate g (zeros 384) }
def symsOf (b : Bytes) (bits w : Nat) : List Nat × Nat := match decodeBand b bits w with | .ok l t => (l, t) | _ => ([], 0)

/-- States and operands that meet the premises of `Obligations.PipelineEvents`, clause by clause. -/
theorem witness_PipelineEvents :
    (∃ (i : Fin 5) (s : State) (d : Side) (k : Nat) (ks : List Nat) (b : Bytes) (syms : List Nat) (cost : Nat), Runs s ∧ i.val < s.img.stations.length ∧ ((s.stn i.val).sides.find? fun d => d.decoding != []) = some d ∧ d.decoding = k :: ks ∧ fetchBand i.val d k s = some b ∧ decodeBand b d.bits d.width = .ok syms cost)
    ∧ (∃ (i : Fin 5) (s : State) (d : Side) (k : Nat) (ks : List Nat) (b : Bytes) (c : Nat), Runs s ∧ i.val < s.img.stations.length ∧ ((s.stn i.val).sides.find? fun d => d.decoding != []) = some d ∧ d.decoding = k :: ks ∧ fetchBand i.val d k s = some b ∧ decodeBand b d.bits d.width = .fail c)
    ∧ (∃ (i : Fin 5) (s : State) (y : Sweep) (d : Side) (lines : List (List Nat)) (trims : Nat), Runs s ∧ i.val < s.img.stations.length ∧ (s.stn i.val).sweep = some y ∧ (s.stn i.val).sides.head? = some d ∧ y.sent = false ∧ y.groups = [] ∧ s.saf.inhibit = false ∧ sweepLines (s.stn i.val) d y.n = (lines, [], 0, 0, trims))
    ∧ (∃ (i : Fin 5) (s : State) (y : Sweep) (d : Side), Runs s ∧ i.val < s.img.stations.length ∧ (s.stn i.val).sweep = some y ∧ (s.stn i.val).sides.head? = some d ∧ y.sent = true ∧ y.groups.length < groupCount d.wa)
    ∧ (∃ (i : Fin 5) (n : Nat) (bad : List Nat) (raw : List Nat) (e : Bool) (s : State) (y : Sweep) (d : Side), Runs s ∧ i.val < s.img.stations.length ∧ (s.stn i.val).sweep = some y ∧ (s.stn i.val).sides = [d] ∧ y.sent = true ∧ y.stop = false ∧ y.groups.length = groupCount d.wa ∧ d.capset = none ∧ d.done + 1 ≠ d.bands)
    ∧ (∃ (i : Fin 5) (s : State), Runs s ∧ i.val < s.img.stations.length ∧ (s.stn i.val).sweep = none ∧ (s.stn i.val).apcNext = none ∧ (∀ l ∈ (s.stn i.val).lanes, l.state ≠ .lpi))
    ∧ (∃ (i : Fin 5) (s : State) (d : Side) (k : Nat) (ks : List Nat), Runs s ∧ i.val < s.img.stations.length ∧ ((s.stn i.val).sides.find? fun d => d.decoding != []) = some d ∧ d.decoding = k :: ks ∧ fetchBand i.val d k s = none)
    ∧ (∃ (i : Fin 5) (s : State) (p : Bytes), Runs s ∧ i.val < s.img.stations.length ∧ (s.stn i.val).sweep = none ∧ (s.stn i.val).judged = none ∧ (s.stn i.val).apcNext = some p) :=
  ⟨⟨((0 : Fin 5)), decS, ({ sd with decoding := [0, 1] }), 0, ([1]), bandB, ((symsOf bandB 1 1).1), ((symsOf bandB 1 1).2), runs_of (by decide +kernel), by decide +kernel⟩,
   ⟨((0 : Fin 5)), badS, ({ sd with decoding := [0, 1] }), 0, ([1]), ([7]), dcLength, runs_of (by decide +kernel), by decide +kernel⟩,
   ⟨((4 : Fin 5)), swS, ({ n := 0 }), sd, swL.1, swL.2.2.2.2, runs_of (by decide +kernel), by decide +kernel⟩,
   ⟨((4 : Fin 5)), (sentS 1), (sentY 1), sd, runs_of (by decide +kernel), by decide +kernel⟩,
   ⟨((4 : Fin 5)), 0, ([]), ([]), false, (sentS 2), (sentY 2), sd, runs_of (by decide +kernel), by decide +kernel⟩,
   ⟨((4 : Fin 5)), (svc.setStn 4 fun x => { x with lanes := upLanes, apc := List.replicate 136 7, apcK := 15 }), runs_of (by decide +kernel), by decide +kernel⟩,
   ⟨((0 : Fin 5)), (svc.setStn 0 fun x => { x with sides := [{ sd with decoding := [0, 1] }] }), ({ sd with decoding := [0, 1] }), 0, ([1]), runs_of (by decide +kernel), by decide +kernel⟩,
   ⟨((4 : Fin 5)), (svc.setStn 4 fun x => { x with apcRuns := true, apcNext := some (zeros 136) }), (zeros 136), runs_of (by decide +kernel), by decide +kernel⟩⟩

end PipelineEvents

namespace LinkEvents
def lnk (l : List Lane) (p : List Poll) : State := svc.setStn 4 fun x => { x with lanes := l, polls := p }
def mkF (b : Bytes) : Bytes := let c := crc16 (b.take 18); (b.take 18) ++ le 2 c
def jud : Judged := { sheet := 1, side := 0, causes := [] }
def cfgP : Poll := { lane := 3, kind := 1, seq := 9, round := false }
def idP : Poll := { lane := 3, kind := 2, seq := 9, round := false }
def f1 : Bytes := mkF (wP 20 [(0,1,0xA5),(1,1,4+24),(2,1,1),(3,1,9),(4,1,3),(9,1,0xFE)])
def f2 : Bytes := mkF (wP 20 [(0,1,0xA5),(1,1,4+24),(2,1,2),(3,1,9),(4,2,0x1234),(6,2,0x77),(8,1,1),(9,1,16),(10,2,4095)])
def ln3 (l : Lane) : List Lane := [{ state := .up }, { state := .down }, { state := .lpi }, l]

/-- States and operands that meet the premises of `Obligations.LinkEvents`, clause by clause. -/
theorem witness_LinkEvents :
    (∃ (i : Fin 5) (s : State) (j : Judged), Runs s ∧ i.val < s.img.stations.length ∧ (s.stn i.val).judged = some j ∧ j.causes = [] ∧ (∀ p ∈ (s.stn i.val).polls, p.round = false) ∧ linkBusy (s.stn i.val) = false)
    ∧ (∃ (i : Fin 5) (b : Bytes) (s : State) (p : Poll) (rest : List Poll), Runs s ∧ i.val < s.img.stations.length ∧ (s.stn i.val).polls = p :: rest ∧ frameValid i.val p b = true ∧ p.kind = 1 ∧ p.round = false ∧ p.lane < (s.stn i.val).lanes.length ∧ (s.lane i.val p.lane).state = .config ∧ (s.wvr i.val).state ≠ .acquire ∧ byteAt b 4 = 3 ∧ bit (byteAt b 5) 4 = false)
    ∧ (∃ (i : Fin 5) (b : Bytes) (s : State) (p : Poll) (rest : List Poll), Runs s ∧ i.val < s.img.stations.length ∧ (s.stn i.val).polls = p :: rest ∧ frameValid i.val p b = true ∧ p.kind = 2 ∧ p.lane < (s.stn i.val).lanes.length ∧ (s.lane i.val p.lane).state = .ident ∧ byteAt b 8 = 1 ∧ byteAt b 9 = 16)
    ∧ (∃ (i : Fin 5) (s : State) (p : Poll) (rest : List Poll), Runs s ∧ i.val < s.img.stations.length ∧ (s.stn i.val).polls = p :: rest ∧ p.again = false)
    ∧ (∃ (i : Fin 5) (m : Fin 4) (s : State), Runs s ∧ i.val < s.img.stations.length ∧ m.val < (s.stn i.val).lanes.length ∧ (s.lane i.val m.val).state = .locking ∧ s.shadow = false)
    ∧ (∃ (i : Fin 5) (m : Fin 4) (s : State), Runs s ∧ i.val < s.img.stations.length ∧ m.val < (s.stn i.val).lanes.length ∧ ((s.lane i.val m.val).state = .ident ∨ (s.lane i.val m.val).state = .config) ∧ (s.lane i.val m.val).bad = 2)
    ∧ (∃ (i : Fin 5) (s : State), Runs s ∧ i.val < s.img.stations.length ∧ (s.stn i.val).lpiMin ≠ 0 ∧ (s.stn i.val).sweep = none ∧ (s.stn i.val).judged = none ∧ lights (s.wvr i.val).state = false)
    ∧ (∃ (i : Fin 5) (s : State), Runs s ∧ i.val < s.img.stations.length ∧ (s.stn i.val).lanes.length = 4)
    ∧ (∃ (i : Fin 5) (s : State), Runs s ∧ i.val < s.img.stations.length ∧ (s.stn i.val).delaySend = true ∧ (s.stn i.val).sweep = none)
    ∧ (∃ (i : Fin 5) (b : Bytes) (s : State) (p : Poll) (rest : List Poll) (j : Judged), Runs s ∧ i.val < s.img.stations.length ∧ (s.stn i.val).polls = p :: rest ∧ frameValid i.val p b = true ∧ p.round = true ∧ p.again = false ∧ (s.stn i.val).judged = some j ∧ u16At b 6 ≠ j.sweep % 65536) :=
  ⟨⟨((4 : Fin 5)), ((lnk (ln3 { state := .up }) [cfgP]).setStn 4 fun x => { x with judged := some jud }), jud, runs_of (by decide +kernel), by decide +kernel⟩,
   ⟨((4 : Fin 5)), f1, (lnk (ln3 { state := .config }) [cfgP]), cfgP, ([]), runs_of (by decide +kernel), by decide +kernel⟩,
   ⟨((4 : Fin 5)), f2, (lnk (ln3 { state := .ident }) [idP, cfgP]), idP, ([cfgP]), runs_of (by decide +kernel), by decide +kernel⟩,
   ⟨((4 : Fin 5)), (lnk (ln3 { state := .ident }) [idP, cfgP]), idP, ([cfgP]), runs_of (by decide +kernel), by decide +kernel⟩,
   ⟨((4 : Fin 5)), ((3 : Fin 4)), (lnk (ln3 { state := .locking }) [cfgP]), runs_of (by decide +kernel), by decide +kernel⟩,
   ⟨((4 : Fin 5)), ((3 : Fin 4)), (lnk (ln3 { state := .ident, bad := 2 }) [cfgP]), runs_of (by decide +kernel), by decide +kernel⟩,
   ⟨((4 : Fin 5)), (lnk (ln3 { state := .up }) []), runs_of (by decide +kernel), by decide +kernel⟩,
   ⟨((4 : Fin 5)), (lnk (ln3 { state := .up }) []), runs_of (by decide +kernel), by decide +kernel⟩,
   ⟨((4 : Fin 5)), ((lnk (ln3 { state := .up }) []).setStn 4 fun x => { x with delaySend := true, delays := List.replicate 64 63 }), runs_of (by decide +kernel), by decide +kernel⟩,
   ⟨((4 : Fin 5)), f1, ((lnk (ln3 { state := .up }) [{ cfgP with round := true }]).setStn 4 fun x => { x with judged := some { jud with sweep := 65537 } }), ({ cfgP with round := true }), ([]), ({ jud with sweep := 65537 }), runs_of (by decide +kernel), by decide +kernel⟩⟩

end LinkEvents

namespace WeaverEvents
def wv (w : Weaver) : State := (polyS.setPoly 2 fun y => { y with tNom := 16256000, k := 1 }).setStn 4 fun x => { x with weaver := { w with set := some (fit 24 scanPay) }, lanes := [{ state := .up }, { state := .up }, { state := .up }, { state := .up, driveMax := 50 }] }
def stF : Flight := { op := .scanStart, f := wF 0 2 (le 4 300000), change := true, stage := .running, seq := 9 }

/-- States and operands that meet the premises of `Obligations.WeaverEvents`, clause by clause. -/
theorem witness_WeaverEvents :
    (∃ (i : Fin 5) (t : Nat) (up : Bool) (hold : Nat) (s : State), Runs s ∧ i.val < s.img.stations.length ∧ imgGated i.val s = false ∧ bdActive i.val up s = true ∧ minWidth i.val s ≤ hold ∧ (s.wvr i.val).state = .acquire ∧ (s.stn i.val).sides = [] ∧ 1 < (s.poly (polyOf i.val)).n)
    ∧ (∃ (i : Fin 5) (t : Nat) (up : Bool) (hold : Nat) (th : Nat) (s : State), Runs s ∧ imgGated i.val s = false ∧ bdActive i.val up s = true ∧ ((s.wvr i.val).state = .tracking ∨ (s.wvr i.val).state = .locked) ∧ (s.wvr i.val).that = some th ∧ (hold < minWidth i.val s ∨ inWindow i.val (t % 2 ^ 48) th s = false))
    ∧ (∃ (i : Fin 5) (th : Nat) (s : State), Runs s ∧ i.val < s.img.stations.length ∧ (s.wvr i.val).state = .tracking ∧ (s.wvr i.val).that = some th)
    ∧ (∃ (i : Fin 5) (t0 : Nat) (s : State), Runs s ∧ i.val < s.img.stations.length ∧ (s.wvr i.val).lastStart = some t0 ∧ (s.wvr i.val).wasLocked = true ∧ (s.wvr i.val).state ≠ .off ∧ (s.wvr i.val).state ≠ .locked ∧ (s.stn i.val).sides = [] ∧ (s.stn i.val).sweep = none ∧ s.shs.sheets = [])
    ∧ (∃ (i : Fin 5) (s : State), Runs s ∧ i.val < s.img.stations.length ∧ ((s.wvr i.val).state = .tracking ∨ (s.wvr i.val).state = .locked) ∧ (s.wvr i.val).that.isSome = true ∧ bdLane (s.wvr i.val) < (s.stn i.val).lanes.length ∧ (s.lane i.val (bdLane (s.wvr i.val))).state = .up)
    ∧ (∃ (i : Fin 5) (s : State), Runs s ∧ i.val < s.img.stations.length ∧ (s.wvr i.val).state = .acquire ∧ (s.stn i.val).sides = [] ∧ (s.wvr i.val).lit = true ∧ (s.wvr i.val).acqFails + 1 < 10 ∧ bdLane (s.wvr i.val) < (s.stn i.val).lanes.length ∧ (s.lane i.val (bdLane (s.wvr i.val))).state = .up ∧ linkBusy (s.stn i.val) = false)
    ∧ (∃ (i : Fin 5) (s : State), Runs s ∧ i.val < s.img.stations.length ∧ (s.wvr i.val).state = .acquire ∧ (s.wvr i.val).lit = true ∧ (s.wvr i.val).acqFails = 9)
    ∧ (∃ (p : Fin 3) (s : State) (x : Flight), Runs s ∧ s.io.finals = [] ∧ s.io.hampers.flatMap (·.flights) = [x] ∧ x.op = .scanStart ∧ x.stage = .running ∧ x.f.target.toNat = p.val)
    ∧ (∃ (i : Fin 5) (t : Nat) (up : Bool) (hold : Nat) (s : State), Runs s ∧ imgGated i.val s = false ∧ bdActive i.val up s = true ∧ (s.wvr i.val).state = .spinup)
    ∧ (∃ (i : Fin 5) (t : Nat) (up : Bool) (hold : Nat) (s : State), Runs s ∧ imgGated i.val s = false ∧ bdActive i.val up s = true ∧ (s.wvr i.val).state = .acquire ∧ hold < minWidth i.val s)
    ∧ (∃ (i : Fin 5) (t : Nat) (up : Bool) (hold : Nat) (s : State), Runs s ∧ imgGated i.val s = true)
    ∧ (∃ (i : Fin 5) (t : Nat) (up : Bool) (hold : Nat) (s : State), Runs s ∧ bdActive i.val up s = false)
    ∧ (∃ (i : Fin 5) (s : State), Runs s ∧ (s.wvr i.val).state = .acquire ∧ (s.wvr i.val).lit = false ∧ ((s.stn i.val).sides ≠ [] ∨ (s.lane i.val (bdLane (s.wvr i.val))).state ≠ .up)) :=
  ⟨⟨((4 : Fin 5)), 123456, true, 135, (wv { state := .acquire }), runs_of (by decide +kernel), by decide +kernel⟩,
   ⟨((4 : Fin 5)), 1000000, true, 135, 5, ((wv { state := .locked, that := some 5 }).setMotor 2 fun m => { m with speed := 1771654 }), runs_of (by decide +kernel), by decide +kernel⟩,
   ⟨((4 : Fin 5)), 5, (wv { state := .tracking, that := some 5, edges := [1] }), runs_of (by decide +kernel), by decide +kernel⟩,
   ⟨((4 : Fin 5)), 77, (wv { state := .acquire, lastStart := some 77, wasLocked := true, sweep := 2 ^ 27 - 1 }), runs_of (by decide +kernel), by decide +kernel⟩,
   ⟨((4 : Fin 5)), (wv { state := .locked, that := some 5 }), runs_of (by decide +kernel), by decide +kernel⟩,
   ⟨((4 : Fin 5)), (wv { state := .acquire, acqFails := 8, lit := true }), runs_of (by decide +kernel), by decide +kernel⟩,
   ⟨((4 : Fin 5)), (wv { state := .acquire, acqFails := 9, lit := true }), runs_of (by decide +kernel), by decide +kernel⟩,
   ⟨((2 : Fin 3)), ({ polyS with io := { polyS.io with hampers := upd polyS.io.hampers 0 fun h => { h with flights := [stF] } } }), stF, runs_of (by decide +kernel), by decide +kernel⟩,
   ⟨((4 : Fin 5)), 1, true, 0, (wv { state := .spinup }), runs_of (by decide +kernel), by decide +kernel⟩,
   ⟨((4 : Fin 5)), 1, true, 134, (wv { state := .acquire }), runs_of (by decide +kernel), by decide +kernel⟩,
   ⟨((4 : Fin 5)), 1, true, 0, (wv { state := .off }), runs_of (by decide +kernel), by decide +kernel⟩,
   ⟨((4 : Fin 5)), 1, false, 0, (wv { state := .locked }), runs_of (by decide +kernel), by decide +kernel⟩,
   ⟨((4 : Fin 5)), ((wv { state := .acquire, acqFails := 9 }).setStn 4 fun x => { x with sides := [PipelineEvents.sd] }), runs_of (by decide +kernel), by decide +kernel⟩⟩

end WeaverEvents

namespace SheetEvents
def man4 : Bytes := wP 56 [(0,4,5),(4,1,1),(5,1,1),(8,4,56),(16,1,4),(17,1,1),(18,2,1),(20,2,1)] |> fun p => p.take 40 ++ bandHash bandB
def job4 : Job := { num := 9, set := wP 16 [(0,1,0xFF),(1,1,0xFF),(2,1,0xFF),(3,1,0xFF),(10,2,200)], sheets := [11], added := 1 }
def gS (st : ShState) : State :=
  let s := polyS.setPoly 2 fun y => { y with v := 300000 }
  let s := s.setStn 4 fun x => { x with profiles := [1,1,15,0,0xE4,0,0,0] :: x.profiles.drop 1, lanes := List.replicate 4 { state := .up }, weaver := { x.weaver with state := .locked, ident := some 0, speedRun := 64 } }
  { s with
    boot := { s.boot with settings := upd s.boot.settings 14 fun _ => 16 }
    pwr := { s.pwr with seq := .engineOn }
    saf := { s.saf with ctrl := .run }
    itk := { s.itk with pages := [{ stream := 3, id := 5, manGrans := [0], state := .complete, manifest := some man4, costs := [(40, 4)], bands := [{ station := 4, side := 0, band := 0, len := bandB.length, units := [(0, bandB)] }] }] }
    shs := { s.shs with path := some pathPay, jobs := [job4], sheets := [{ sh st with state := st }] } }
def rS (x : Sheet) : State := { gS .staged with shs := { (gS .staged).shs with sheets := [x] } }
def sd4 : List SideRec := [{ station := 4, side := 0, bands := 1 }]
def noTok (x : Sheet) : State := (rS x).setStn 4 fun y => { y with corrOut := true }
def admY : Sheet := match admitTry (sh .staged) job4 (restage (gS .staged)) with | .ok y => y | .error c => { sh .lost with wait := c }
def holdS (v : Nat) (x : Sheet) : State := let s := rS x; (s.setPoly 2 fun y => { y with v := v }) |> fun s => { s with shs := { s.shs with speedHold := true } }

/-- States and operands that meet the premises of `Obligations.SheetEvents`, clause by clause. -/
theorem witness_SheetEvents :
    (∃ (m : Measured) (s : State) (p : Bytes), Runs s ∧ s.shs.calRun = some p)
    ∧ (∃ (s : State) (k : State) (x : Sheet) (rest : List Sheet) (j : Job) (y : Sheet), Runs s ∧ admitTry x j k = .ok y ∧ restage s = k ∧ k.saf.ctrl = .run ∧ k.pwr.grace = false ∧ candidates k = x :: rest ∧ k.job x.job = some j ∧ stageFail x j k = none)
    ∧ (∃ (id : BitVec 16) (s : State) (x : Sheet), Runs s ∧ s.sheet id.toNat = some x ∧ x.state = .admitted ∧ x.gate - feed16 s ≤ belt16 s)
    ∧ (∃ (id : BitVec 16) (s : State) (x : Sheet), Runs s ∧ s.sheet id.toNat = some x ∧ x.state = .launched ∧ x.frontEdge = false ∧ x.cause = 0 ∧ x.gate + gtol16 s < belt16 s)
    ∧ (∃ (id : BitVec 16) (s : State) (x : Sheet), Runs s ∧ s.sheet id.toNat = some x ∧ (x.state = .launched ∨ x.state = .committed ∨ x.state = .imaged ∨ x.state = .fused) ∧ x.route = none ∧ x.gate + divert16 s ≤ belt16 s)
    ∧ (∃ (id : BitVec 16) (s : State) (x : Sheet), Runs s ∧ s.sheet id.toNat = some x ∧ x.state = .imaged)
    ∧ (∃ (id : BitVec 16) (s : State) (x : Sheet), Runs s ∧ s.sheet id.toNat = some x ∧ x.state = .fused ∧ x.route = some false ∧ x.spoil = false)
    ∧ (∃ (id : BitVec 16) (s : State) (x : Sheet), Runs s ∧ s.sheet id.toNat = some x ∧ x.state = .fused ∧ x.route = some true)
    ∧ (∃ (s : State) (x : Sheet), Runs s ∧ s.shs.sheets = [x] ∧ (tokenFail x.stations s).isSome = true ∧ x.state = .admitted)
    ∧ (∃ (s : State) (x : Sheet), Runs s ∧ s.shs.sheets = [x] ∧ (tokenFail x.stations s).isSome = true ∧ x.state = .launched ∧ x.blank = false ∧ x.cause = 0)
    ∧ (∃ (s : State) (v : Nat), Runs s ∧ s.shs.speedHold = true ∧ (∀ x ∈ s.shs.sheets, x.state.code < 4 ∨ 6 < x.state.code) ∧ plannedV s = some v ∧ minV s < v)
    ∧ (∃ (s : State) (v : Nat), Runs s ∧ s.shs.speedHold = true ∧ (∀ x ∈ s.shs.sheets, x.state.code < 4 ∨ 6 < x.state.code) ∧ plannedV s = some v ∧ v ≤ minV s)
    ∧ (∃ (s : State), Runs s ∧ s.saf.ctrl = .drain ∧ noneRunning s = true)
    ∧ (∃ (s : State), Runs s ∧ s.saf.ctrl = .warm ∧ readyHolds s = true)
    ∧ (∃ (s : State), Runs s ∧ s.saf.ctrl = .ready ∧ readyHolds s = false) :=
  ⟨⟨(⟨[], [], []⟩), ({ polyS with shs := { polyS.shs with calRun := some calPay } }), calPay, runs_of (by decide +kernel), by decide +kernel⟩,
   ⟨(gS .staged), (restage (gS .staged)), ({ sh .staged with wait := 0 }), ([]), job4, admY, runs_of (by decide +kernel), ok_of (by decide +kernel), by decide +kernel⟩,
   ⟨11, (rS { sh .admitted with gate := 1024 }), ({ sh .admitted with gate := 1024 }), runs_of (by decide +kernel), by decide +kernel⟩,
   ⟨11, (rS { sh .launched with gate := -10000 }), ({ sh .launched with gate := -10000 }), runs_of (by decide +kernel), by decide +kernel⟩,
   ⟨11, (rS { sh .imaged with gate := -1024, spoil := true }), ({ sh .imaged with gate := -1024, spoil := true }), runs_of (by decide +kernel), by decide +kernel⟩,
   ⟨11, (rS (sh .imaged)), (sh .imaged), runs_of (by decide +kernel), by decide +kernel⟩,
   ⟨11, (rS { sh .fused with route := some false }), ({ sh .fused with route := some false }), runs_of (by decide +kernel), by decide +kernel⟩,
   ⟨11, (rS { sh .fused with route := some true, cause := 0x10 }), ({ sh .fused with route := some true, cause := 0x10 }), runs_of (by decide +kernel), by decide +kernel⟩,
   ⟨(noTok { sh .admitted with sides := sd4 }), ({ sh .admitted with sides := sd4 }), runs_of (by decide +kernel), by decide +kernel⟩,
   ⟨(noTok { sh .launched with sides := sd4 }), ({ sh .launched with sides := sd4 }), runs_of (by decide +kernel), by decide +kernel⟩,
   ⟨(holdS 300000 (sh .admitted)), 300000, runs_of (by decide +kernel), by decide +kernel⟩,
   ⟨(holdS 200000 (sh .admitted)), 200000, runs_of (by decide +kernel), by decide +kernel⟩,
   ⟨(wC .drain (rS (sh .admitted))), runs_of (by decide +kernel), by decide +kernel⟩,
   ⟨(wC .warm (gS .staged)), runs_of (by decide +kernel), by decide +kernel⟩,
   ⟨(wC .ready svc), runs_of (by decide +kernel), by decide +kernel⟩⟩

end SheetEvents

namespace ChannelPeriodEvents
def lmP : Bytes := motorFill 5 lmPay
def smP : Bytes := motorFill 15 auxPay
def lm (f : Motor → Motor) : State := lmS.setMotor 5 f
def sm (f : Motor → Motor) : State := (smS .off).setMotor 15 f

/-- States and operands that meet the premises of `Obligations.ChannelPeriodEvents`, clause by clause. -/
theorem witness_ChannelPeriodEvents :
    (∃ (n : Fin 6) (ia : Int) (ib : Int) (ic : Int) (va : Int) (vb : Int) (vc : Int) (vbus : Int) (s : State) (p : Bytes) (d : Int × Int) (q : Int × Int) (v : Int × Int × Int), Runs s ∧ d = piStep p ((largeRefs p (s.motor n.val) (s.bus (mBus p)).regenFree 0).1 * 65536 - (park 0 ia ib ic).1) (s.motor n.val).intDq.1 (5 * tPwm p) ∧ q = piStep p ((largeRefs p (s.motor n.val) (s.bus (mBus p)).regenFree 0).2 * 65536 - (park 0 ia ib ic).2) (s.motor n.val).intDq.2 (5 * tPwm p) ∧ v = unpark 0 (d.1, q.1) ∧ n.val < s.mot.chs.length ∧ (s.motor n.val).set = some p ∧ (s.motor n.val).state = .align ∧ (s.motor n.val).startNs = none ∧ (s.motor n.val).stopping = false ∧ (s.motor n.val).wait = [] ∧ (10 * (ia + ib + ic)).natAbs ≤ mIMax p ∧ 0 < vbus)
    ∧ (∃ (n : Fin 6) (ia : Int) (ib : Int) (ic : Int) (va : Int) (vb : Int) (vc : Int) (vbus : Int) (s : State) (p : Bytes), Runs s ∧ n.val < s.mot.chs.length ∧ (s.motor n.val).set = some p ∧ (s.motor n.val).state ≠ .off ∧ (s.motor n.val).state ≠ .fault ∧ (s.motor n.val).caught = none ∧ (s.motor n.val).wait = [] ∧ (s.motor n.val).sumBad = 2 ∧ mIMax p < (10 * (ia + ib + ic)).natAbs)
    ∧ (∃ (n : Fin 10) (ia : Int) (ib : Int) (s : State) (p : Bytes) (y : Int × Int), Runs s ∧ y = fluxStep p (s.motor (6 + n.val)).vector (s.bus (mBus p)).v ia ib (s.motor (6 + n.val)).psi ∧ 6 + n.val < s.mot.chs.length ∧ (s.motor (6 + n.val)).set = some p ∧ (s.motor (6 + n.val)).state = .align ∧ (s.motor (6 + n.val)).startNs = none ∧ (s.motor (6 + n.val)).stopping = false ∧ (s.motor (6 + n.val)).wait = [] ∧ ia.natAbs ≤ u16At p 22 ∧ ib.natAbs ≤ u16At p 22 ∧ (-ia - ib).natAbs ≤ u16At p 22)
    ∧ (∃ (n : Fin 10) (ia : Int) (ib : Int) (s : State) (p : Bytes), Runs s ∧ 6 + n.val < s.mot.chs.length ∧ (s.motor (6 + n.val)).set = some p ∧ (s.motor (6 + n.val)).state.floated = false ∧ (s.motor (6 + n.val)).wait = [] ∧ u16At p 22 < ia.natAbs)
    ∧ (∃ (m : Fin 16) (s : State) (p : Bytes) (r : Int × Nat) (dt : Nat) (lim : Nat) (raw : Int), Runs s ∧ lim = (if m.val < 6 then mIMax p * 65536 else torqueMax p) ∧ raw = floorDiv ((u32At p 32 : Nat) * (r.1 - (s.motor m.val).speed)) 100 + (s.motor m.val).intW ∧ dt = byteAt p 54 * (if m.val < 6 then 5 * tPwm p else 1000 * u16At p 4) ∧ r = slewStep p (decMilli p (s.bus (mBus p))) false (match (s.bus (mBus p)).set with | some q => decide (bThr q 14 < (s.bus (mBus p)).v * 100) | none => false) (s.motor m.val).slew (s.motor m.val).target (s.motor m.val).slewRem dt ∧ m.val < s.mot.chs.length ∧ (s.motor m.val).set = some p ∧ (s.motor m.val).state = .closed ∧ (s.motor m.val).stopping = false ∧ (s.motor m.val).direct = false ∧ mHand p * 100 ≤ r.1.natAbs)
    ∧ (∃ (n : Fin 6) (ia : Int) (ib : Int) (ic : Int) (va : Int) (vb : Int) (vc : Int) (vbus : Int) (s : State) (p : Bytes), Runs s ∧ n.val < s.mot.chs.length ∧ 3 ≤ n.val ∧ (s.motor n.val).set = some p ∧ (s.motor n.val).state = .closed ∧ (s.motor n.val).startNs = none ∧ (s.motor n.val).stopping = false ∧ (s.motor n.val).wait = [] ∧ (10 * (ia + ib + ic)).natAbs ≤ mIMax p ∧ u16At p 52 * 4 ≤ (s.motor n.val).conf * 3 ∧ (s.motor n.val).conf ≤ 65535)
    ∧ (∃ (n : Fin 6) (ia : Int) (ib : Int) (ic : Int) (va : Int) (vb : Int) (vc : Int) (vbus : Int) (s : State) (p : Bytes) (w : Int), Runs s ∧ n.val < s.mot.chs.length ∧ 3 ≤ n.val ∧ (s.motor n.val).set = some p ∧ (s.motor n.val).state = .catching ∧ (s.motor n.val).caught = some w ∧ (s.motor n.val).startNs = none ∧ (s.motor n.val).stopping = false ∧ (s.motor n.val).wait = [] ∧ (10 * (ia + ib + ic)).natAbs ≤ mIMax p ∧ u16At p 52 * 4 ≤ (s.motor n.val).conf * 3 ∧ (s.motor n.val).conf ≤ 65535)
    ∧ (∃ (n : Fin 10) (ia : Int) (ib : Int) (s : State) (p : Bytes) (v : Int), Runs s ∧ 6 + n.val < s.mot.chs.length ∧ (s.motor (6 + n.val)).set = some p ∧ (s.motor (6 + n.val)).state = .off ∧ (s.motor (6 + n.val)).wait = [.start v] ∧ (s.motor (6 + n.val)).startNs = some 0 ∧ (s.motor (6 + n.val)).torqueAt = none ∧ ia.natAbs ≤ u16At p 22 ∧ ib.natAbs ≤ u16At p 22 ∧ (-ia - ib).natAbs ≤ u16At p 22)
    ∧ (∃ (n : Fin 10) (ia : Int) (ib : Int) (s : State) (p : Bytes), Runs s ∧ 6 + n.val < s.mot.chs.length ∧ (s.motor (6 + n.val)).set = some p ∧ (s.motor (6 + n.val)).state = .closed ∧ (s.motor (6 + n.val)).wait = [.stop 1] ∧ (s.motor (6 + n.val)).startNs = none) :=
  ⟨⟨((5 : Fin 6)), 10, 20, 70, 1, 2, 3, 24000, (lm fun m => { m with state := .align }), lmP, _, _, _, runs_of (by decide +kernel), rfl, rfl, rfl, by decide +kernel⟩,
   ⟨((5 : Fin 6)), 10, 20, 71, 1, 2, 3, 24000, (lm fun m => { m with state := .align, sumBad := 2 }), lmP, runs_of (by decide +kernel), by decide +kernel⟩,
   ⟨((9 : Fin 10)), 60000, (-60000), (sm fun m => { m with state := .align }), smP, _, runs_of (by decide +kernel), rfl, by decide +kernel⟩,
   ⟨((9 : Fin 10)), 60001, (-60000), (sm fun m => { m with state := .align }), smP, runs_of (by decide +kernel), by decide +kernel⟩,
   ⟨((15 : Fin 16)), (sm fun m => { m with state := .closed, slew := 5000000, target := 5500000 }), smP, (slewStep smP (decMilli smP ((smS .off).bus 0)) false false 5000000 5500000 0 160000), 160000, _, _, runs_of (by decide +kernel), rfl, rfl, rfl, rfl, by decide +kernel⟩,
   ⟨((5 : Fin 6)), 10, 20, 70, 1, 2, 3, 24000, (lm fun m => { m with state := .closed, conf := 65535 }), lmP, runs_of (by decide +kernel), by decide +kernel⟩,
   ⟨((5 : Fin 6)), 10, 20, 70, 1, 2, 3, 24000, (lm fun m => { m with state := .catching, caught := some 7, conf := 65535 }), lmP, 7, runs_of (by decide +kernel), by decide +kernel⟩,
   ⟨((9 : Fin 10)), 1, 2, (sm fun m => { m with wait := [.start 6000000], startNs := some 0 }), smP, 6000000, runs_of (by decide +kernel), by decide +kernel⟩,
   ⟨((9 : Fin 10)), 1, 2, (sm fun m => { m with state := .closed, wait := [.stop 1] }), smP, runs_of (by decide +kernel), by decide +kernel⟩⟩

end ChannelPeriodEvents

namespace ChannelEvents
def lmP : Bytes := motorFill 5 lmPay
def lm (f : Motor → Motor) : State := lmS.setMotor 5 f
def sm (f : Motor → Motor) : State := (smS .off).setMotor 15 f
def es5 : List (Nat × Bool × Nat) := [(2,true,5000000),(0,false,4000000),(1,true,3000000),(2,false,2000000),(0,true,1000000)]
def es6 : List (Nat × Bool × Nat) := (1,false,6000000) :: es5

/-- States and operands that meet the premises of `Obligations.ChannelEvents`, clause by clause. -/
theorem witness_ChannelEvents :
    (∃ (m : Fin 16) (s : State), Runs s ∧ m.val < s.mot.chs.length ∧ (s.motor m.val).state ≠ .fault)
    ∧ (∃ (m : Fin 16) (s : State), s.shs.lateDue = false)
    ∧ (∃ (n : Fin 6) (s : State), Runs s ∧ n.val < s.mot.chs.length ∧ (s.motor n.val).state ≠ .off ∧ (s.motor n.val).state ≠ .fault)
    ∧ (∃ (m : Fin 16) (i : Nat) (s : State) (p : Bytes), Runs s ∧ m.val < s.mot.chs.length ∧ (s.motor m.val).state = .align ∧ (s.motor m.val).set = some p ∧ u16At p 40 ≤ i * 2)
    ∧ (∃ (m : Fin 16) (i : Nat) (s : State) (p : Bytes), Runs s ∧ m.val < s.mot.chs.length ∧ (s.motor m.val).state = .align ∧ (s.motor m.val).set = some p ∧ i * 2 < u16At p 40)
    ∧ (∃ (m : Fin 16) (s : State), Runs s ∧ m.val < s.mot.chs.length ∧ ((s.motor m.val).state = .align ∨ (s.motor m.val).state = .ramp))
    ∧ (∃ (n : Fin 6) (f : Fin 3) (r : Bool) (a : Nat) (s : State) (p : Bytes) (es : List (Nat × Bool × Nat)), Runs s ∧ es = ((f.val, r, a) :: (s.motor n.val).edges).take 6 ∧ n.val < s.mot.chs.length ∧ (s.motor n.val).state = .catching ∧ (s.motor n.val).set = some p ∧ es.length = 6 ∧ edgeDir es ≠ 0 ∧ gapsAgree (edgeGaps es) = true ∧ (s.motor n.val).opposite = false ∧ (s.motor n.val).caught = none ∧ 0 ≤ edgeDir es * edgeSpeed p (edgeGaps es) * (s.motor n.val).target)
    ∧ (∃ (n : Fin 6) (f : Fin 3) (r : Bool) (a : Nat) (s : State) (p : Bytes) (es : List (Nat × Bool × Nat)), Runs s ∧ es = ((f.val, r, a) :: (s.motor n.val).edges).take 6 ∧ n.val < s.mot.chs.length ∧ (s.motor n.val).state = .catching ∧ (s.motor n.val).set = some p ∧ es.length = 6 ∧ edgeDir es ≠ 0 ∧ gapsAgree (edgeGaps es) = true ∧ (s.motor n.val).opposite = false ∧ (s.motor n.val).caught = none ∧ edgeDir es * edgeSpeed p (edgeGaps es) * (s.motor n.val).target < 0)
    ∧ (∃ (n : Fin 6) (s : State), Runs s ∧ n.val < s.mot.chs.length ∧ (s.motor n.val).state = .catching ∧ (s.motor n.val).probe = false ∧ (s.motor n.val).opposite = false ∧ (s.motor n.val).caught = none)
    ∧ (∃ (n : Fin 6) (s : State), Runs s ∧ n.val < s.mot.chs.length ∧ (s.motor n.val).state = .catching ∧ (s.motor n.val).caught = none ∧ ((s.motor n.val).probe = true ∨ (s.motor n.val).opposite = true))
    ∧ (∃ (n : Fin 10) (s : State), Runs s ∧ 6 + n.val < s.mot.chs.length ∧ (s.motor (6 + n.val)).state = .float)
    ∧ (∃ (m : Fin 16) (s : State), Runs s ∧ m.val < s.mot.chs.length ∧ (s.motor m.val).state ≠ .off ∧ (s.motor m.val).state ≠ .fault)
    ∧ (∃ (m : Fin 16) (s : State), Runs s ∧ m.val < s.mot.chs.length ∧ (s.motor m.val).state = .catching ∧ ((s.motor m.val).probe = true ∨ (s.motor m.val).opposite = true)) :=
  ⟨⟨((15 : Fin 16)), (smS .closed), runs_of (by decide +kernel), by decide +kernel⟩,
   ⟨((15 : Fin 16)), (smS .fault), by decide +kernel⟩,
   ⟨((5 : Fin 6)), (lm fun m => { m with state := .closed }), runs_of (by decide +kernel), by decide +kernel⟩,
   ⟨((15 : Fin 16)), 500, (sm fun m => { m with state := .align }), (motorFill 15 auxPay), runs_of (by decide +kernel), by decide +kernel⟩,
   ⟨((15 : Fin 16)), 499, (sm fun m => { m with state := .align }), (motorFill 15 auxPay), runs_of (by decide +kernel), by decide +kernel⟩,
   ⟨((15 : Fin 16)), (sm fun m => { m with state := .ramp }), runs_of (by decide +kernel), by decide +kernel⟩,
   ⟨((5 : Fin 6)), ((1 : Fin 3)), false, 6000000, (lm (fun m => { m with state := .catching, edges := es5, target := 1 })), lmP, es6, runs_of (by decide +kernel), rfl, by decide +kernel⟩,
   ⟨((5 : Fin 6)), ((1 : Fin 3)), false, 6000000, (lm (fun m => { m with state := .catching, edges := es5, target := -1 })), lmP, es6, runs_of (by decide +kernel), rfl, by decide +kernel⟩,
   ⟨((5 : Fin 6)), (lm (fun m => { m with state := .catching })), runs_of (by decide +kernel), by decide +kernel⟩,
   ⟨((5 : Fin 6)), (lm (fun m => { m with state := .catching, probe := true })), runs_of (by decide +kernel), by decide +kernel⟩,
   ⟨((9 : Fin 10)), (sm fun m => { m with state := .float }), runs_of (by decide +kernel), by decide +kernel⟩,
   ⟨((15 : Fin 16)), (sm fun m => { m with state := .float }), runs_of (by decide +kernel), by decide +kernel⟩,
   ⟨((5 : Fin 16)), (lm (fun m => { m with state := .catching, opposite := true })), runs_of (by decide +kernel), by decide +kernel⟩⟩

end ChannelEvents

namespace BusAndAxisEvents
def busP : Bytes := busFill busPay
def bs (f : Bus → Bus) : State := (lmS.setBus 3 fun b => f { b with set := some busP }).setMotor 5 fun m => { m with state := .closed }
def axP : Bytes := axisFill 11 axPay
def ax (f : Axis → Axis) : State := svc.setAxis 11 fun a => f { a with set := some axP }
def paP : Bytes := axisFill 11 (putLe axPay 0 1 1)
def pa : State := svc.setAxis 11 fun a => { a with set := some paP, state := .hold }
def sg : Seg := { pos := 2 ^ 30, mark := false, blend := false, vmax := 1000, acc := 1000000, jerk := 4000000000 }

/-- States and operands that meet the premises of `Obligations.BusAndAxisEvents`, clause by clause. -/
theorem witness_BusAndAxisEvents :
    (∃ (n : Fin 4) (mv : Nat) (ma : Nat) (s : State) (p : Bytes), Runs s ∧ n.val < s.mot.buses.length ∧ (s.bus n.val).set = some p ∧ (s.bus n.val).regenFree = false ∧ (s.bus n.val).chop = false ∧ (s.bus n.val).ons = [] ∧ bThr p 15 ≤ mv * 100 ∧ mv * 100 < bThr p 16 ∧ bThr p 12 ≤ mv * 100)
    ∧ (∃ (n : Fin 4) (mv : Nat) (ma : Nat) (s : State) (p : Bytes) (i : Nat), Runs s ∧ n.val < s.mot.buses.length ∧ (s.bus n.val).set = some p ∧ (s.bus n.val).ovpRun = 1 ∧ bThr p 16 ≤ mv * 100 ∧ i ∈ s.onBus n.val ∧ i < s.mot.chs.length ∧ (s.motor i).state ≠ .off)
    ∧ (∃ (n : Fin 4) (s : State) (i : Nat), Runs s ∧ (s.bus n.val).armed = true ∧ i < s.mot.chs.length ∧ i ∈ s.onBus n.val ∧ (s.motor i).state ≠ .off)
    ∧ (∃ (n : Fin 4) (s : State), Runs s ∧ n.val < s.mot.buses.length)
    ∧ (∃ (n : Fin 4) (s : State) (p : Bytes), Runs s ∧ n.val < s.mot.buses.length ∧ (s.bus n.val).set = some p ∧ (s.bus n.val).chopSeen = false ∧ (s.bus n.val).chopFault = false)
    ∧ (∃ (a : Fin 20) (b : Bytes) (s : State) (p : Bytes), Runs s ∧ a.val < s.axs.axs.length ∧ (s.axis a.val).set = some p ∧ aPath p = true ∧ (s.axis a.val).state = .hold ∧ (s.axis a.val).queue = [] ∧ 24 ≤ b.length ∧ firstFault (segFaults a.val p (min 16 (b.length / 24)) b 0 (s.axis a.val).pos) = none)
    ∧ (∃ (s : State) (i : Nat) (p : Bytes) (g : Seg) (rest : List Seg), Runs s ∧ i < 20 ∧ s.axs.axs.length = 20 ∧ (∀ k < 20, (s.axis k).state ≠ .homing) ∧ (s.axis i).set = some p ∧ (s.axis i).state = .moving ∧ (s.axis i).queue = g :: rest ∧ (s.axis i).segT + 20000 < segNs (s.axis i).vIn (s.axis i).vPeak (s.axis i).vOut g (g.len ((s.axis i).start / 65536)))
    ∧ (∃ (a : Fin 12) (ia : Int) (ib : Int) (qs : List (Int × Int)) (s : State) (p : Bytes), Runs s ∧ a.val < s.axs.axs.length ∧ (s.axis a.val).set = some p ∧ (s.axis a.val).drive = true ∧ (s.axis a.val).strong = false ∧ ia.natAbs ≤ u16At p 8 ∧ ib.natAbs ≤ u16At p 8 ∧ (s.axis a.val).lowRun.1 < 63 ∧ (s.axis a.val).lowRun.2 < 63 ∧ boundaryMet (s.axis a.val).lastPos (s.axis a.val).pos = false)
    ∧ (∃ (a : Fin 12) (ia : Int) (ib : Int) (qs : List (Int × Int)) (s : State) (p : Bytes), Runs s ∧ a.val < s.axs.axs.length ∧ (s.axis a.val).set = some p ∧ (s.axis a.val).drive = true ∧ (s.axis a.val).state ≠ .fault ∧ u16At p 8 < ia.natAbs)
    ∧ (∃ (a : Fin 12) (s : State), Runs s ∧ (s.axis a.val).state = .hold)
    ∧ (∃ (a : Fin 8) (s : State), Runs s ∧ 12 + a.val < s.axs.axs.length ∧ (s.axis (12 + a.val)).state ≠ .off ∧ (s.axis (12 + a.val)).state ≠ .fault)
    ∧ (∃ (a : Fin 8) (s : State), s.shs.lateDue = false)
    ∧ (∃ (a : Fin 12) (ia : Int) (ib : Int) (qs : List (Int × Int)) (s : State) (p : Bytes), Runs s ∧ a.val < s.axs.axs.length ∧ (s.axis a.val).set = some p ∧ (s.axis a.val).drive = true ∧ (s.axis a.val).state = .moving ∧ (s.axis a.val).strong = false ∧ ia.natAbs ≤ u16At p 8 ∧ ib.natAbs ≤ u16At p 8 ∧ (s.axis a.val).lowRun.1 < 63 ∧ (s.axis a.val).lowRun.2 < 63 ∧ aOption p 1 = false ∧ aOption p 2 = false ∧ u16At p 24 * 256 ≤ (s.axis a.val).vel.natAbs ∧ boundaryMet (s.axis a.val).lastPos (s.axis a.val).pos = true)
    ∧ (∃ (a : Fin 12) (ia : Int) (ib : Int) (qs : List (Int × Int)) (s : State), Runs s ∧ (s.axis a.val).drive = false)
    ∧ (∃ (s : State) (i : Nat) (p : Bytes) (l : List (Int × Nat)), Runs s ∧ l = stopPhases (s.axis i).vIn ((if (s.axis i).vel < 0 then -1 else 1) * (s.axis i).accel) (u32At p 44) (u32At p 48) ∧ i < 20 ∧ s.axs.axs.length = 20 ∧ (∀ k < 20, (s.axis k).state ≠ .homing) ∧ (s.axis i).set = some p ∧ (s.axis i).state = .stopping ∧ (s.axis i).queue = [] ∧ (s.axis i).homeHit = false ∧ phasesNs l ≤ (s.axis i).segT + 20000)
    ∧ (∃ (s : State) (i : Nat) (p : Bytes) (l : List (Int × Nat)), Runs s ∧ l = stopPhases (s.axis i).vIn ((if (s.axis i).vel < 0 then -1 else 1) * (s.axis i).accel) (u32At p 44) (u32At p 48) ∧ i < 20 ∧ s.axs.axs.length = 20 ∧ (∀ k < 20, (s.axis k).state ≠ .homing) ∧ (s.axis i).set = some p ∧ (s.axis i).state = .stopping ∧ (s.axis i).queue = [] ∧ (s.axis i).homeHit = false ∧ (s.axis i).segT + 20000 < phasesNs l) :=
  ⟨⟨((3 : Fin 4)), 28800, 0, (bs id), busP, runs_of (by decide +kernel), by decide +kernel⟩,
   ⟨((3 : Fin 4)), 31200, 0, (bs fun b => { b with ovpRun := 1 }), busP, 5, runs_of (by decide +kernel), by decide +kernel⟩,
   ⟨((3 : Fin 4)), (bs fun b => { b with armed := true }), 5, runs_of (by decide +kernel), by decide +kernel⟩,
   ⟨((3 : Fin 4)), (bs id), runs_of (by decide +kernel), by decide +kernel⟩,
   ⟨((3 : Fin 4)), (bs fun b => { b with chop := true }), busP, runs_of (by decide +kernel), by decide +kernel⟩,
   ⟨((11 : Fin 20)), segPay, pa, paP, runs_of (by decide +kernel), by decide +kernel⟩,
   ⟨(ax fun a => { a with state := .moving, queue := [sg], vPeak := 1000, segT := 1000000000 }), 11, axP, sg, ([]), runs_of (by decide +kernel), by decide +kernel⟩,
   ⟨((11 : Fin 12)), 10000, (-10000), ([]), (ax fun a => { a with state := .hold, drive := true, lowRun := (62, 62) }), axP, runs_of (by decide +kernel), by decide +kernel⟩,
   ⟨((11 : Fin 12)), 10001, (-10000), ([]), (ax fun a => { a with state := .moving, drive := true }), axP, runs_of (by decide +kernel), by decide +kernel⟩,
   ⟨((11 : Fin 12)), (ax fun a => { a with state := .hold, running := true }), runs_of (by decide +kernel), by decide +kernel⟩,
   ⟨((7 : Fin 8)), (svc.setAxis 19 fun a => { a with set := some (axisFill 19 sdPay), state := .hold }), runs_of (by decide +kernel), by decide +kernel⟩,
   ⟨((7 : Fin 8)), (svc.setAxis 19 fun a => { a with gpioLow := true }), by decide +kernel⟩,
   ⟨((11 : Fin 12)), 10000, (-10000), ([]), (ax fun a => { a with state := .moving, drive := true, vel := 25600000, lastPos := 255, pos := 256 }), axP, runs_of (by decide +kernel), by decide +kernel⟩,
   ⟨((11 : Fin 12)), 10001, 0, ([]), (ax id), runs_of (by decide +kernel), by decide +kernel⟩,
   ⟨(ax fun a => { a with state := .stopping, vIn := 1000, segT := 10 ^ 11 }), 11, axP, _, runs_of (by decide +kernel), rfl, by decide +kernel⟩,
   ⟨(ax fun a => { a with state := .stopping, vIn := 1000000, segT := 0 }), 11, axP, _, runs_of (by decide +kernel), rfl, by decide +kernel⟩⟩

end BusAndAxisEvents

namespace FeedbackEvents
def qePay : Bytes := wP 24 [(0,1,2),(3,1,3),(4,2,5),(7,1,2),(8,4,4096),(12,4,4095),(16,4,1024),(20,2,1)]
def qs (f : Qe → Qe) : State := svc.setQe 7 fun q => f { q with set := qePay }
def ss (f : Se → Se) : State := svc.setSe 3 fun e => f { e with set := sePay }
def cr : SeRead := { raw := 2 ^ 32 - 1, nE := true, nW := true, crc := 63 - crc6 32 (2 ^ 32 - 1) true true, delay := 0 }
def ps (f : Prb → Prb) : State := svc.setPrb 7 fun p => f { p with set := [3, 5, 19, 0, 0, 0, 0, 0] }

/-- States and operands that meet the premises of `Obligations.FeedbackEvents`, clause by clause. -/
theorem witness_FeedbackEvents :
    (∃ (n : Fin 8) (a : Bool) (b : Bool) (s : State) (q : Qe) (d : Int), Runs s ∧ q = s.qe n.val ∧ d = (if ((grayPlace a b + 4 - grayPlace q.a q.b) % 4 == 1) != bit (byteAt q.set 0) 0 then (1 : Int) else -1) ∧ n.val < s.fb.qe.length ∧ q.wire.getD 0 false = false ∧ q.wire.getD 1 false = false ∧ ((a ≠ q.a ∧ b = q.b) ∨ (a = q.a ∧ b ≠ q.b)))
    ∧ (∃ (n : Fin 8) (a : Bool) (b : Bool) (s : State), Runs s ∧ n.val < s.fb.qe.length ∧ (s.qe n.val).wire.getD 0 false = false ∧ (s.qe n.val).wire.getD 1 false = false ∧ a ≠ (s.qe n.val).a ∧ b ≠ (s.qe n.val).b ∧ (s.qe n.val).raised.contains 1 = false)
    ∧ (∃ (n : Fin 8) (a : Bool) (b : Bool) (s : State), s.saf.internalReset = true ∧ s.shs.lateDue = false)
    ∧ (∃ (n : Fin 8) (p : Fin 3) (s : State), Runs s ∧ n.val < s.fb.qe.length ∧ p.val < (s.qe n.val).wire.length ∧ (s.qe n.val).raised.contains 2 = false)
    ∧ (∃ (n : Fin 8) (p : Fin 3) (s : State), Runs s)
    ∧ (∃ (n : Fin 8) (s : State) (q : Qe), Runs s ∧ q = s.qe n.val ∧ n.val < s.fb.qe.length ∧ bit (byteAt q.set 0) 1 = true ∧ u32At q.set 8 ≠ 0 ∧ q.wire.getD 2 false = false ∧ b2n q.a + 2 * b2n q.b = byteAt q.set 3 ∧ q.indexed = false)
    ∧ (∃ (n : Fin 8) (s : State) (q : Qe), Runs s ∧ q = s.qe n.val ∧ n.val < s.fb.qe.length ∧ bit (byteAt q.set 0) 1 = true ∧ u32At q.set 8 ≠ 0 ∧ q.wire.getD 2 false = false ∧ b2n q.a + 2 * b2n q.b = byteAt q.set 3 ∧ q.indexed = true ∧ q.idxArmed = true ∧ (cmpDist (u32At q.set 8) (u32At q.set 12) q.ctr.pos).natAbs ≤ u32At q.set 16 ∧ (cmpDist (u32At q.set 8) (u32At q.set 12) q.ctr.pos).natAbs ≤ byteAt q.set 7)
    ∧ (∃ (n : Fin 8) (s : State) (q : Qe), Runs s ∧ q = s.qe n.val ∧ n.val < s.fb.qe.length ∧ bit (byteAt q.set 0) 1 = true ∧ u32At q.set 8 ≠ 0 ∧ q.wire.getD 2 false = false ∧ b2n q.a + 2 * b2n q.b = byteAt q.set 3 ∧ q.indexed = true ∧ q.idxArmed = true ∧ (cmpDist (u32At q.set 8) (u32At q.set 12) q.ctr.pos).natAbs ≤ u32At q.set 16 ∧ byteAt q.set 7 < (cmpDist (u32At q.set 8) (u32At q.set 12) q.ctr.pos).natAbs ∧ q.raised.contains 3 = false)
    ∧ (∃ (n : Fin 8) (s : State) (q : Qe), Runs s ∧ q = s.qe n.val ∧ n.val < s.fb.qe.length ∧ bit (byteAt q.set 0) 1 = true ∧ u32At q.set 8 ≠ 0 ∧ q.wire.getD 2 false = false ∧ b2n q.a + 2 * b2n q.b = byteAt q.set 3 ∧ q.indexed = true ∧ q.idxArmed = false)
    ∧ (∃ (n : Fin 4) (s : State) (e : Se), Runs s ∧ e = s.se n.val ∧ n.val < s.fb.se.length ∧ byteAt e.set 0 ≠ 0 ∧ e.fallback = false ∧ e.fault = 0 ∧ e.failRun < byteAt e.set 9)
    ∧ (∃ (n : Fin 4) (s : State) (e : Se), Runs s ∧ e = s.se n.val ∧ n.val < s.fb.se.length ∧ byteAt e.set 0 ≠ 0 ∧ e.fallback = false ∧ e.fault = 0 ∧ byteAt e.set 9 ≤ e.failRun ∧ e.raised.contains 8 = false)
    ∧ (∃ (n : Fin 4) (s : State) (e : Se) (x : SeRead) (w : Nat) (l : Nat) (d : Int) (g : Int), Runs s ∧ e = s.se n.val ∧ w = (if byteAt e.set 0 = 3 then grayToBin (byteAt e.set 1) (x.raw % 2 ^ byteAt e.set 1) else x.raw % 2 ^ byteAt e.set 1) ∧ d = toSigned (byteAt e.set 1) ((w + 2 ^ byteAt e.set 1 - l) % 2 ^ byteAt e.set 1) ∧ g = (if bit (byteAt e.set 3) 0 then -d else d) ∧ n.val < s.fb.se.length ∧ byteAt e.set 0 ≠ 0 ∧ e.fallback = false ∧ e.fault = 0 ∧ (byteAt e.set 0 = 1 → x.crc = 63 - crc6 (byteAt e.set 1) w x.nE x.nW ∧ x.nE = true) ∧ e.last = some l ∧ d.natAbs ≤ u32At e.set 20)
    ∧ (∃ (u : Fin 12) (s : State), Runs s)
    ∧ (∃ (k : Fin 8) (r : Bool) (a : Nat) (s : State) (x : Prb), Runs s ∧ x = s.prb k.val ∧ k.val < s.fb.prb.length ∧ probeOwner k.val s = 0 ∧ probeTakes k.val r s = true ∧ x.fifo.length < 8)
    ∧ (∃ (k : Fin 8) (r : Bool) (a : Nat) (s : State) (x : Prb), Runs s ∧ x = s.prb k.val ∧ k.val < s.fb.prb.length ∧ probeOwner k.val s = 0 ∧ probeTakes k.val r s = true ∧ 8 ≤ x.fifo.length)
    ∧ (∃ (k : Fin 8) (r : Bool) (a : Nat) (s : State) (x : Prb), Runs s ∧ x = s.prb k.val ∧ k.val < s.fb.prb.length ∧ probeOwner k.val s = 0 ∧ probeTakes k.val r s = true ∧ byteAt x.set 1 ≠ 0) :=
  ⟨⟨((7 : Fin 8)), true, false, (qs (fun q => { q with ctr := { q.ctr with pos := 4095 } })), ((qs fun q => { q with ctr := { q.ctr with pos := 4095 } }).qe 7), (-1), runs_of (by decide +kernel), rfl, by decide +kernel, by decide +kernel⟩,
   ⟨((7 : Fin 8)), true, true, (qs id), runs_of (by decide +kernel), by decide +kernel⟩,
   ⟨((7 : Fin 8)), true, true, State.reset, by decide +kernel⟩,
   ⟨((7 : Fin 8)), ((2 : Fin 3)), (qs id), runs_of (by decide +kernel), by decide +kernel⟩,
   ⟨((7 : Fin 8)), ((2 : Fin 3)), (qs fun q => { q with wire := [true,true,true] }), runs_of (by decide +kernel)⟩,
   ⟨((7 : Fin 8)), (qs (fun q => { q with a := true, b := true })), ((qs fun q => { q with a := true, b := true }).qe 7), runs_of (by decide +kernel), rfl, by decide +kernel⟩,
   ⟨((7 : Fin 8)), (qs (fun q => { q with a := true, b := true, indexed := true, idxArmed := true, ctr := { q.ctr with pos := 1 } })), ((qs fun q => { q with a := true, b := true, indexed := true, idxArmed := true, ctr := { q.ctr with pos := 1 } }).qe 7), runs_of (by decide +kernel), rfl, by decide +kernel⟩,
   ⟨((7 : Fin 8)), (qs (fun q => { q with a := true, b := true, indexed := true, idxArmed := true, ctr := { q.ctr with pos := 2 }, fault := 1, raised := [1] })), ((qs fun q => { q with a := true, b := true, indexed := true, idxArmed := true, ctr := { q.ctr with pos := 2 }, fault := 1, raised := [1] }).qe 7), runs_of (by decide +kernel), rfl, by decide +kernel⟩,
   ⟨((7 : Fin 8)), (qs (fun q => { q with a := true, b := true, indexed := true })), ((qs fun q => { q with a := true, b := true, indexed := true }).qe 7), runs_of (by decide +kernel), rfl, by decide +kernel⟩,
   ⟨((3 : Fin 4)), (svc.setSe 3 (fun e => { e with set := putLe sePay 9 1 4, failRun := 3, d := -7 })), ((svc.setSe 3 (fun e => { e with set := putLe sePay 9 1 4, failRun := 3, d := -7 })).se 3), runs_of (by decide +kernel), rfl, by decide +kernel⟩,
   ⟨((3 : Fin 4)), (ss id), ((ss id).se 3), runs_of (by decide +kernel), rfl, by decide +kernel⟩,
   ⟨((3 : Fin 4)), (ss (fun e => { e with last := some 5 })), ((ss fun e => { e with last := some 5 }).se 3), cr, (2 ^ 32 - 1), 5, (-6), (-6), runs_of (by decide +kernel), rfl, by decide +kernel, by decide +kernel, by decide +kernel, by decide +kernel⟩,
   ⟨((11 : Fin 12)), (ss (fun e => { e with ctr := { e.ctr with net := -55, counted := true } })), runs_of (by decide +kernel)⟩,
   ⟨((7 : Fin 8)), true, 99, (ps id), ((ps id).prb 7), runs_of (by decide +kernel), rfl, by decide +kernel⟩,
   ⟨((7 : Fin 8)), false, 99, (ps (fun p => { p with fifo := List.replicate 8 { time := 1, pos := 2, rising := true, interp := false } })), ((ps fun p => { p with fifo := List.replicate 8 { time := 1, pos := 2, rising := true, interp := false } }).prb 7), runs_of (by decide +kernel), rfl, by decide +kernel⟩,
   ⟨((7 : Fin 8)), true, 99, (ps id), ((ps id).prb 7), runs_of (by decide +kernel), rfl, by decide +kernel⟩⟩

end FeedbackEvents

namespace ControlEvents
def loT : State := let s := loS 3 .regulating; { s with cle := { s.cle with tick := 8191 } }
def loF : State := loT.setLoop 3 fun l => { l with sp := 655360, r := 655360 }
def loP : Bytes := loopFill loPay
def loA : Bytes := loopFill (wP 96 [(0,1,1),(1,1,2),(2,2,31),(5,1,7),(6,1,0),(12,4,65536),(20,4,65536),(32,4,0),(36,4,0),(40,4,6553600),(52,4,65536),(56,4,65536),(60,4,2147418112),(64,2,10),(66,1,1),(88,4,4095)])
def loAS (f : Loop → Loop) : State := svc.setLoop 0 fun l => f { l with set := some loA, state := .ramp, u := 5, sp := 6553600 }
def ainL (v : Nat) : List (BitVec 16) := (List.range 32).map fun k => if k = 31 then BitVec.ofNat 16 v else 0
def loX (p : Bytes) (rv : Int) (l : Loop) : Loop := (loopStep p (loopScale p rv).1 (if l.fresh then loopBegin p (loopScale p rv).1 l else l)).1
def loL (p : Bytes) (rv : Int) (l : Loop) : Loop := if l.fresh then loopBegin p (loopScale p rv).1 l else l
def zS (p : Bytes) (f : Zone → Zone) : State := { svc with thm := { svc.thm with zones := upd svc.thm.zones 7 fun x => f { x with set := some p, enabled := true, pLim := 100 } } }
def zP : Bytes := wP 64 [(0,1,1),(4,2,100),(6,2,100),(11,1,7),(12,2,100),(14,2,200),(16,2,300),(18,2,400),(20,1,2),(21,1,3),(24,4,100),(28,4,200),(36,4,500)]
def thP : Bytes := wP 16 [(0,1,1),(1,1,7),(5,1,3),(8,2,100),(10,2,60000)]
def thS (f : State → State) : State := f { svc with thm := { svc.thm with ths := upd svc.thm.ths 23 fun t => { t with set := thP, status := 1 }, curves := [[], [], [], (List.range 33).map (fun k : Nat => 65536 * (k : Int))] } }
def zm (p : Bytes) (tm : Int) (pw : Nat) (ld : Bool) : Int × Int := modelTm p tm pw ld none

/-- States and operands that meet the premises of `Obligations.ControlEvents`, clause by clause. -/
theorem witness_ControlEvents :
    (∃ (ain : List (BitVec 16)) (s : State) (n : Nat) (p : Bytes) (rv : Int) (l : Loop) (l1 : Loop) (x : Loop), Runs s ∧ l = s.loop n ∧ l1 = (if l.fresh then loopBegin p (loopScale p rv).1 l else l) ∧ x = (loopStep p (loopScale p rv).1 l1).1 ∧ n < 64 ∧ n < s.cle.lps.length ∧ l.set = some p ∧ loopDue n s = true ∧ (∀ k < 64, (s.loop k).wait = []) ∧ (∀ k < 64, k ≠ n → loopDue k s = false) ∧ l.state.feeds = true ∧ loopRaw l.rimSeen ain p s = some rv ∧ lq p 84 ≤ rv ∧ rv ≤ lq p 88 ∧ x.fe < u16At p 64)
    ∧ (∃ (ain : List (BitVec 16)) (s : State) (n : Nat) (p : Bytes) (rv : Int) (l : Loop) (l1 : Loop) (x : Loop), Runs s ∧ l = s.loop n ∧ l1 = (if l.fresh then loopBegin p (loopScale p rv).1 l else l) ∧ x = (loopStep p (loopScale p rv).1 l1).1 ∧ n < 64 ∧ n < s.cle.lps.length ∧ l.set = some p ∧ loopDue n s = true ∧ (∀ k < 64, (s.loop k).wait = []) ∧ (∀ k < 64, k ≠ n → loopDue k s = false) ∧ l.state.feeds = true ∧ loopRaw l.rimSeen ain p s = some rv ∧ lq p 84 ≤ rv ∧ rv ≤ lq p 88 ∧ u16At p 64 ≤ x.fe)
    ∧ (∃ (ain : List (BitVec 16)) (s : State) (n : Nat), Runs s ∧ n < 64 ∧ n < s.cle.lps.length ∧ loopDue n s = true ∧ (∀ k < 64, k ≠ n → loopDue k s = false) ∧ (∀ k < 64, (s.loop k).wait = []) ∧ (s.loop n).skipRun = 0)
    ∧ (∃ (zc : Fin 2) (s : State), Runs s)
    ∧ (∃ (z : Fin 8) (load : Bool) (s : State) (x : Zone) (power : Nat) (ts : Option Int) (m : Int × Int), Runs s ∧ x = s.zone z.val ∧ power = (if x.pCnt = 0 then x.p else x.pSum / x.pCnt) ∧ ts = (if validTemps z.val s = [] then none else some (sensorMean (validTemps z.val s))) ∧ m = modelTm x.pay x.tm power load ts ∧ z.val < s.thm.zones.length ∧ x.enabled = true ∧ atLeast32 m.2 (zThr x.pay 3) = false)
    ∧ (∃ (z : Fin 8) (load : Bool) (s : State) (x : Zone) (power : Nat) (ts : Option Int) (m : Int × Int), Runs s ∧ x = s.zone z.val ∧ power = (if x.pCnt = 0 then x.p else x.pSum / x.pCnt) ∧ ts = (if validTemps z.val s = [] then none else some (sensorMean (validTemps z.val s))) ∧ m = modelTm x.pay x.tm power load ts ∧ z.val < s.thm.zones.length ∧ x.enabled = true ∧ atLeast32 m.2 (zThr x.pay 3) = true ∧ 1 ≤ x.shutRun ∧ x.fault ≠ 7 ∧ s.thm.latch = none)
    ∧ (∃ (j : Fin 24) (raw : BitVec 16) (s : State) (p : Bytes) (c : Int) (x : Zone), Runs s ∧ p = (s.th j.val).set ∧ c = (if s.thm.curves.getD (byteAt p 5) [] = [] then freeVal .thermal 0 s else curveTemp (s.thm.curves.getD (byteAt p 5) []) raw.toNat) ∧ x = s.zone (byteAt p 1) ∧ j.val < s.thm.ths.length ∧ byteAt p 0 = 1 ∧ (s.th j.val).status = 1 ∧ (s.th j.val).shutRun = 0 ∧ x.enabled = false ∧ u16At p 8 ≤ raw.toNat ∧ raw.toNat ≤ u16At p 10)
    ∧ (∃ (j : Fin 24) (raw : BitVec 16) (s : State) (p : Bytes) (c : Int) (x : Zone), Runs s ∧ p = (s.th j.val).set ∧ c = (if s.thm.curves.getD (byteAt p 5) [] = [] then freeVal .thermal 0 s else curveTemp (s.thm.curves.getD (byteAt p 5) []) raw.toNat) ∧ x = s.zone (byteAt p 1) ∧ j.val < s.thm.ths.length ∧ byteAt p 0 = 1 ∧ (s.th j.val).status = 1 ∧ (s.th j.val).shutRun = 0 ∧ (raw.toNat < u16At p 8 ∨ u16At p 10 < raw.toNat))
    ∧ (∃ (z : Fin 8) (s : State), Runs s ∧ z.val < s.thm.zones.length ∧ (s.zone z.val).enabled = true ∧ (s.zone z.val).fault = 0 ∧ (s.zone z.val).fire = false ∧ zRated (s.zone z.val).pay < 16 * (s.zone z.val).p ∧ validOf z.val z.val s = [])
    ∧ (∃ (z : Fin 8) (s : State) (x : Zone) (step : Nat), Runs s ∧ x = s.zone z.val ∧ step = zMax x.pay * byteAt x.pay 11 / 100 ∧ z.val < s.thm.zones.length ∧ x.enabled = true ∧ anyTemp z.val (zThr x.pay 2) s = true)
    ∧ (∃ (z : Fin 8) (s : State) (x : Zone) (step : Nat), Runs s ∧ x = s.zone z.val ∧ step = zMax x.pay * byteAt x.pay 11 / 100 ∧ z.val < s.thm.zones.length ∧ x.enabled = true ∧ anyTemp z.val (zThr x.pay 2) s = false ∧ anyTemp z.val ((zThr x.pay 2 : Int) - 10 * byteAt x.pay 21) s = true)
    ∧ (∃ (z : Fin 8) (s : State) (x : Zone) (step : Nat), Runs s ∧ x = s.zone z.val ∧ step = zMax x.pay * byteAt x.pay 11 / 100 ∧ z.val < s.thm.zones.length ∧ x.enabled = true ∧ anyTemp z.val (zThr x.pay 2) s = false ∧ anyTemp z.val ((zThr x.pay 2 : Int) - 10 * byteAt x.pay 21) s = false)
    ∧ (∃ (z : Fin 8) (s : State), Runs s ∧ (s.zone z.val).fast = true ∧ anyTemp z.val (fastLimit (s.zone z.val).pay 2) s = false)
    ∧ (∃ (ain : List (BitVec 16)) (s : State) (n : Nat) (p : Bytes), Runs s ∧ n < 64 ∧ n < s.cle.lps.length ∧ (s.loop n).set = some p ∧ loopPhase n s = true ∧ (∀ k < 64, k ≠ n → loopDue k s = false ∧ (s.loop k).wait = []) ∧ (s.loop n).wait = [.stop 1] ∧ (s.loop n).state ≠ .off ∧ (s.loop n).state ≠ .fault)
    ∧ (∃ (ain : List (BitVec 16)) (s : State) (n : Nat) (p : Bytes), Runs s ∧ n < 64 ∧ n < s.cle.lps.length ∧ (s.loop n).set = some p ∧ loopPhase n s = true ∧ (∀ k < 64, k ≠ n → loopDue k s = false ∧ (s.loop k).wait = []) ∧ (s.loop n).wait = [.start] ∧ (s.loop n).state = .off ∧ s.saf.inhibit = false) :=
  ⟨⟨(ainL 0), loT, 3, loP, 0, (loT.loop 3), (loL loP 0 (loT.loop 3)), (loX loP 0 (loT.loop 3)), runs_of (by decide +kernel), rfl, rfl, rfl, by decide +kernel⟩,
   ⟨(ainL 0), loF, 3, loP, 0, (loF.loop 3), (loL loP 0 (loF.loop 3)), (loX loP 0 (loF.loop 3)), runs_of (by decide +kernel), rfl, rfl, rfl, by decide +kernel⟩,
   ⟨(ainL 0), loT, 3, runs_of (by decide +kernel), by decide +kernel⟩,
   ⟨((0 : Fin 2)), (zS zP id), runs_of (by decide +kernel)⟩,
   ⟨((7 : Fin 8)), true, (zS zP id), ((zS zP id).zone 7), 0, none, (zm zP 0 0 true), runs_of (by decide +kernel), rfl, by decide +kernel, rfl, rfl, by decide +kernel⟩,
   ⟨((7 : Fin 8)), false, (zS zP (fun z => { z with shutRun := 1, tm := 270000000000 })), ((zS zP (fun z => { z with shutRun := 1, tm := 270000000000 })).zone 7), 0, none, (zm zP 270000000000 0 false), runs_of (by decide +kernel), rfl, by decide +kernel, rfl, rfl, by decide +kernel⟩,
   ⟨((23 : Fin 24)), 100, (thS id), thP, (curveTemp ((thS id).thm.curves.getD 3 []) 100), ((thS id).zone 7), runs_of (by decide +kernel), rfl, by decide +kernel, rfl, by decide +kernel⟩,
   ⟨((23 : Fin 24)), 99, (thS id), thP, (curveTemp ((thS id).thm.curves.getD 3 []) 99), ((thS id).zone 7), runs_of (by decide +kernel), rfl, by decide +kernel, rfl, by decide +kernel⟩,
   ⟨((7 : Fin 8)), (zS zP fun z => { z with p := 7 }), runs_of (by decide +kernel), by decide +kernel⟩,
   ⟨((7 : Fin 8)), (zS zP (fun z => { z with tm := 200 * 4294967296 })), ((zS zP (fun z => { z with tm := 200 * 4294967296 })).zone 7), 7, runs_of (by decide +kernel), rfl, by decide +kernel, by decide +kernel⟩,
   ⟨((7 : Fin 8)), (zS zP (fun z => { z with tm := 29 * 4294967296 })), ((zS zP (fun z => { z with tm := 29 * 4294967296 })).zone 7), 7, runs_of (by decide +kernel), rfl, by decide +kernel, by decide +kernel⟩,
   ⟨((7 : Fin 8)), (zS zP (fun z => { z with tm := 20 * 4294967296, pLim := 50 })), ((zS zP (fun z => { z with tm := 20 * 4294967296, pLim := 50 })).zone 7), 7, runs_of (by decide +kernel), rfl, by decide +kernel, by decide +kernel⟩,
   ⟨((7 : Fin 8)), (zS zP fun z => { z with fast := true }), runs_of (by decide +kernel), by decide +kernel⟩,
   ⟨(ainL 0), (loT.setLoop 3 fun l => { l with wait := [.stop 1] }), 3, loP, runs_of (by decide +kernel), by decide +kernel⟩,
   ⟨(ainL 0), (loT.setLoop 3 fun l => { l with state := .off, wait := [.start] }), 3, loP, runs_of (by decide +kernel), by decide +kernel⟩⟩

end ControlEvents

namespace DieAndSafetyEvents
def dS (f : Thermal → Thermal) : State := { svc with thm := f svc.thm }

/-- States and operands that meet the premises of `Obligations.DieAndSafetyEvents`, clause by clause. -/
theorem witness_DieAndSafetyEvents :
    (∃ (a : Int) (b : Int) (c : Int) (d : Int) (s : State) (l : List Int), Runs s ∧ l = [a, b, c, d] ∧ (∀ i < 4, (l.getD i 0 - (sortInt (l.eraseIdx i)).getD 1 0).natAbs ≤ 40) ∧ (∀ i < 4, l.getD i 0 < 500))
    ∧ (∃ (a : Int) (b : Int) (c : Int) (d : Int) (s : State) (l : List Int) (i : Nat), Runs s ∧ l = [a, b, c, d] ∧ (∀ i < 4, (l.getD i 0 - (sortInt (l.eraseIdx i)).getD 1 0).natAbs ≤ 40) ∧ i < 4 ∧ (∀ k < 4, 500 ≤ l.getD k 0 ↔ k = i) ∧ 1 ≤ s.thm.dieRun.getD i 0 ∧ s.thm.latch = none)
    ∧ (∃ (a : Int) (b : Int) (c : Int) (d : Int) (s : State) (l : List Int) (i : Nat), Runs s ∧ l = [a, b, c, d] ∧ i < 4 ∧ (∀ k < 4, l.getD k 0 < 500) ∧ s.thm.dieDev.getD i false = false ∧ (∀ k < 4, 40 < (l.getD k 0 - (sortInt (l.eraseIdx k)).getD 1 0).natAbs ↔ k = i))
    ∧ (∃ (s : State) (thr : Int) (step : Nat), Runs s ∧ thr = (byteAt s.thm.dieSet 0 : Int) ∧ step = 16000 * byteAt s.thm.dieSet 1 ∧ thr * 4 ≤ tDie s)
    ∧ (∃ (s : State) (thr : Int) (step : Nat), Runs s ∧ thr = (byteAt s.thm.dieSet 0 : Int) ∧ step = 16000 * byteAt s.thm.dieSet 1 ∧ tDie s < (thr - 5) * 4)
    ∧ (∃ (s : State) (thr : Int) (step : Nat), Runs s ∧ thr = (byteAt s.thm.dieSet 0 : Int) ∧ step = 16000 * byteAt s.thm.dieSet 1 ∧ (thr - 5) * 4 ≤ tDie s ∧ tDie s < thr * 4)
    ∧ (∃ (s : State), Runs s ∧ 440 < tDie s)
    ∧ (∃ (s : State), Runs s ∧ tDie s ≤ 440)
    ∧ (∃ (i : Fin 4) (s : State), s.shs.lateDue = false ∧ i.val < s.saf.ilk.length)
    ∧ (∃ (i : Fin 4) (s : State), s.shs.lateDue = false ∧ (s.saf.ilk.getD i.val {}).active = true)
    ∧ (∃ (p : Fin 2) (s : State), Runs s)
    ∧ (∃ (p : Fin 2) (s : State), Runs s)
    ∧ (∃ (r : SramRegion) (s : State) (i : Fin 5) (k : Nat), Runs s ∧ r = .lineStore i k)
    ∧ (∃ (r : SramRegion) (s : State) (i : Fin 5), Runs s ∧ (r = .screenStore i ∨ r = .corrTables i) ∧ i.val < s.img.stations.length)
    ∧ (∃ (r : SramRegion) (s : State), Runs s ∧ (∀ i k, r ≠ .lineStore i k) ∧ (∀ i, r ≠ .screenStore i ∧ r ≠ .corrTables i)) :=
  ⟨⟨499, 499, 460, 459, svc, ([499, 499, 460, 459]), runs_of (by decide +kernel), rfl, by decide +kernel⟩,
   ⟨500, 499, 498, 497, (dS (fun x => { x with dieRun := [1, 0, 0, 0] })), ([500, 499, 498, 497]), (0), runs_of (by decide +kernel), rfl, by decide +kernel⟩,
   ⟨0, 0, 0, 41, svc, ([0, 0, 0, 41]), 3, runs_of (by decide +kernel), rfl, by decide +kernel⟩,
   ⟨(dS (fun x => { x with die := [400, 0, 0, 0] })), 100, 160000, runs_of (by decide +kernel), by decide +kernel, by decide +kernel, by decide +kernel⟩,
   ⟨(dS (fun x => { x with die := [379, 0, 0, 0], vPerm := 300000 })), 100, 160000, runs_of (by decide +kernel), by decide +kernel, by decide +kernel, by decide +kernel⟩,
   ⟨(dS (fun x => { x with die := [380, 399, 0, 0], vPerm := 300000 })), 100, 160000, runs_of (by decide +kernel), by decide +kernel, by decide +kernel, by decide +kernel⟩,
   ⟨(dS (fun x => { x with die := [0, 0, 441, 0] })), runs_of (by decide +kernel), by decide +kernel⟩,
   ⟨(dS (fun x => { x with die := [0, 0, 440, 0] })), runs_of (by decide +kernel), by decide +kernel⟩,
   ⟨((3 : Fin 4)), svc, by decide +kernel⟩,
   ⟨((3 : Fin 4)), ({ svc with saf := { svc.saf with ilk := upd svc.saf.ilk 3 fun x => { x with active := true, latch := true } } }), by decide +kernel⟩,
   ⟨((1 : Fin 2)), svc, runs_of (by decide +kernel)⟩,
   ⟨((0 : Fin 2)), svc, runs_of (by decide +kernel)⟩,
   ⟨(.lineStore 4 7), svc, (4), (7), runs_of (by decide +kernel), rfl⟩,
   ⟨(.screenStore 4), svc, (4), runs_of (by decide +kernel), by decide +kernel⟩,
   ⟨.tcm, svc, runs_of (by decide +kernel), nofun, fun _ => ⟨nofun, nofun⟩⟩⟩

end DieAndSafetyEvents

namespace RimEvents
def rm (f : Rim → Rim) : State := { svc with rim := f svc.rim }
def nd : RimNode := { upNode with timeSent := true }
def c0 : RimCopy := { hops := 1, wrapped := false, slots := [], alerts := [0] }
def trl (d : Bytes) (c : Nat) : Bytes := let t : Bytes := [0x0F, BitVec.ofNat 8 c, 0xFE, 0xFF, 0, 0]; t ++ le 2 (crc16 (d ++ t))
def dat : Bytes := (List.range 16).map fun k => BitVec.ofNat 8 (k + 1)
def sl : RimSlot := { kind := .fast, index := 7, data := dat, trailer := trl dat 300 }
def cA : RimCopy := { c0 with slots := [sl] }
def cW (h : Nat) : RimCopy := { hops := h, wrapped := true, slots := [], alerts := [0, 0, 0] }
def rn (l : List RimNode) (c : Nat := 300) : State := rm fun r => { r with state := .run, nodes := l, flying := [{ cycle := c, grants := [] }] }
def n3 : List RimNode := [0, 1, 2].map fun a => { nd with addr := a, fast := 255 }
def rT : State := rm fun r => { r with state := .run, nodes := [nd] }
def wn : BlWindow := { count := 65535, lo := 0, hi := 2, raised := 3 }
def ue : BlEvent := { count := 7, lo := 1, hi := 1, root := 0 }
def ec (n l : Nat) : EnumCopy := { nodes := n, loopNs := l, idents := List.replicate n (zeros 24) }
def en (o : Option EnumCopy) : State := rm fun r => { r with state := .enum, enumLast := o, enumFrames := 15 }
def kr (s : State) : Rim := { s.rim with state := .enum, broken := false, fault := 0, nodes := [], servedA := 0, enumLast := none, enumFrames := 0, flying := [], topo := (match s.rim.config with | some c => some c | none => s.rim.topo), config := none }
def bx (t : Nat) (b : Bytes) (ms : List RimMsg) : RimNode := { nd with inbox := [(t, b)], msgs := ms, roleOk := false }
def mg (r : Bool) : RimMsg := { why := .roleSet, tag := 5, bytes := [0x83] ++ zeros 11, next := 1, retried := r }

/-- States and operands that meet the premises of `Obligations.RimEvents`, clause by clause. -/
theorem witness_RimEvents :
    (∃ (s : State) (c : Nat), Runs s ∧ c = (s.rim.cycle + 1) % 2 ^ 32 ∧ s.rim.state ≠ .down ∧ s.rim.state ≠ .enum ∧ s.outputsOwned = true)
    ∧ (∃ (a : Option RimCopy) (b : Option RimCopy) (s : State) (f : RimFrame) (fs : List RimFrame) (n : RimNode) (x : RimSlot), Runs s ∧ (∃ c, a = some c ∧ c.wrapped = false) ∧ s.rim.state = .run ∧ s.rim.flying = f :: fs ∧ f.grants = [] ∧ s.rim.nodes = [n] ∧ s.rim.broken = false ∧ alertOf a b 0 = some n.alert ∧ n.roleOk = true ∧ n.timeSent = true ∧ n.state = .operational ∧ n.fast < 128 ∧ f.cycle % 20 ≠ n.addr / 52 ∧ (mergeSlot f.cycle .fast n.fast a b).1 = some x)
    ∧ (∃ (a : Option RimCopy) (b : Option RimCopy) (s : State) (f : RimFrame) (fs : List RimFrame) (ra : Nat) (rb : Nat), Runs s ∧ (∀ p n, s.rim.nodes[p]? = some n → 128 ≤ n.fast ∧ f.cycle % 20 ≠ n.addr / 52 ∧ alertOf a b p = some n.alert) ∧ (∀ c, a = some c → c.wrapped = true) ∧ (∀ c, b = some c → c.wrapped = true) ∧ s.rim.state = .run ∧ s.rim.flying = f :: fs ∧ f.grants = [] ∧ reach s.rim.nodes.length a b = some (ra, rb) ∧ ra + rb = s.rim.nodes.length ∧ evenHops a = true ∧ evenHops b = true ∧ s.rim.broken = false)
    ∧ (∃ (a : Option RimCopy) (b : Option RimCopy) (s : State) (f : RimFrame) (fs : List RimFrame) (ra : Nat) (rb : Nat), Runs s ∧ (∀ p n, s.rim.nodes[p]? = some n → 128 ≤ n.fast ∧ f.cycle % 20 ≠ n.addr / 52 ∧ alertOf a b p = some n.alert) ∧ (∀ c, a = some c → c.wrapped = true) ∧ (∀ c, b = some c → c.wrapped = true) ∧ s.rim.state = .run ∧ s.rim.flying = f :: fs ∧ f.grants = [] ∧ reach s.rim.nodes.length a b = some (ra, rb) ∧ ra + rb ≠ s.rim.nodes.length)
    ∧ (∃ (c : Fin 16) (drained : Bool) (s : State) (w : BlWindow), Runs s ∧ c.val < s.rim.undrained.length ∧ s.rim.windows.getD c.val none = some w ∧ (drained = true ∨ s.rim.undrained.getD c.val none = none))
    ∧ (∃ (c : Fin 16) (drained : Bool) (s : State) (w : BlWindow) (e : BlEvent), Runs s ∧ drained = false ∧ c.val < s.rim.undrained.length ∧ s.rim.windows.getD c.val none = some w ∧ s.rim.undrained.getD c.val none = some e ∧ w.count + e.count < 65536)
    ∧ (∃ (s : State) (k : Rim), Runs s ∧ k = { s.rim with state := .enum, broken := false, fault := 0, nodes := [], servedA := 0, enumLast := none, enumFrames := 0, flying := [], topo := (match s.rim.config with | some c => some c | none => s.rim.topo), config := none } ∧ s.rim.state = .down)
    ∧ (∃ (s : State) (k : Rim), Runs s ∧ k = { s.rim with state := .enum, broken := false, fault := 0, nodes := [], servedA := 0, enumLast := none, enumFrames := 0, flying := [], topo := (match s.rim.config with | some c => some c | none => s.rim.topo), config := none } ∧ s.rim.state = .down ∧ s.rim.lockB = true)
    ∧ (∃ (s : State) (k : Rim), Runs s ∧ k = { s.rim with state := .enum, broken := false, fault := 0, nodes := [], servedA := 0, enumLast := none, enumFrames := 0, flying := [], topo := (match s.rim.config with | some c => some c | none => s.rim.topo), config := none } ∧ s.rim.state = .down ∧ s.rim.lockA = true)
    ∧ (∃ (s : State) (k : Rim), Runs s ∧ k = { s.rim with state := .enum, broken := false, fault := 0, nodes := [], servedA := 0, enumLast := none, enumFrames := 0, flying := [], topo := (match s.rim.config with | some c => some c | none => s.rim.topo), config := none } ∧ s.rim.state ≠ .down)
    ∧ (∃ (e : EnumCopy) (s : State), Runs s ∧ (∀ x, s.rim.enumLast = some x → x.nodes ≠ e.nodes ∨ x.idents ≠ e.idents) ∧ s.rim.state = .enum ∧ s.rim.enumFrames < 16)
    ∧ (∃ (e : EnumCopy) (s : State) (x : EnumCopy), Runs s ∧ s.rim.state = .enum ∧ s.rim.enumFrames < 16 ∧ s.rim.enumLast = some x ∧ x.nodes = e.nodes ∧ x.idents = e.idents ∧ e.loopNs ≤ 41500 ∧ enumMismatch s e = false ∧ e.nodes ≠ 0)
    ∧ (∃ (e : EnumCopy) (s : State) (x : EnumCopy), Runs s ∧ s.rim.state = .enum ∧ s.rim.enumFrames < 16 ∧ s.rim.enumLast = some x ∧ x.nodes = e.nodes ∧ x.idents = e.idents ∧ 41500 < e.loopNs)
    ∧ (∃ (e : EnumCopy) (s : State) (x : EnumCopy), Runs s ∧ s.rim.state = .enum ∧ s.rim.enumFrames < 16 ∧ s.rim.enumLast = some x ∧ x.nodes = e.nodes ∧ x.idents = e.idents ∧ e.loopNs ≤ 41500 ∧ enumMismatch s e = true)
    ∧ (∃ (s : State), Runs s ∧ s.rim.state = .enum)
    ∧ (∃ (addr : BitVec 10) (s : State) (p : Nat) (n : RimNode) (tag : Nat) (bytes : Bytes) (rest : List (Nat × Bytes)), Runs s ∧ nodePos addr.toNat s = some p ∧ s.rim.nodes[p]? = some n ∧ n.inbox = (tag, bytes) :: rest ∧ byteAt bytes 0 = 0x40)
    ∧ (∃ (addr : BitVec 10) (s : State) (p : Nat) (n : RimNode) (tag : Nat) (bytes : Bytes) (rest : List (Nat × Bytes)), Runs s ∧ nodePos addr.toNat s = some p ∧ s.rim.nodes[p]? = some n ∧ n.inbox = (tag, bytes) :: rest ∧ byteAt bytes 0 = 0x41)
    ∧ (∃ (addr : BitVec 10) (s : State) (p : Nat) (n : RimNode) (tag : Nat) (bytes : Bytes) (rest : List (Nat × Bytes)) (m : RimMsg) (ms : List RimMsg), Runs s ∧ nodePos addr.toNat s = some p ∧ s.rim.nodes[p]? = some n ∧ n.inbox = (tag, bytes) :: rest ∧ n.msgs = m :: ms ∧ m.tag = tag ∧ m.why = .roleSet ∧ byteAt bytes 0 = byteAt m.bytes 0 ∧ byteAt bytes 0 ≠ 0x40 ∧ byteAt bytes 0 ≠ 0x41 ∧ byteAt bytes 1 = 0)
    ∧ (∃ (addr : BitVec 10) (s : State) (p : Nat) (n : RimNode) (m : RimMsg) (ms : List RimMsg), Runs s ∧ nodePos addr.toNat s = some p ∧ s.rim.nodes[p]? = some n ∧ n.msgs = m :: ms ∧ m.why ≠ .answer ∧ m.frags ≤ m.next ∧ m.retried = false)
    ∧ (∃ (addr : BitVec 10) (s : State) (p : Nat) (n : RimNode) (m : RimMsg) (ms : List RimMsg), Runs s ∧ nodePos addr.toNat s = some p ∧ s.rim.nodes[p]? = some n ∧ n.msgs = m :: ms ∧ m.why ≠ .answer ∧ m.frags ≤ m.next ∧ m.retried = true)
    ∧ (∃ (s : State) (c : Nat), Runs s ∧ c = (s.rim.cycle + 1) % 2 ^ 32 ∧ s.rim.state ≠ .down ∧ s.rim.state ≠ .enum ∧ s.outputsOwned = false) :=
  ⟨⟨(rm fun r => { r with state := .run, cycle := 4294967295 }), _, runs_of (by decide +kernel), rfl, by decide +kernel⟩,
   ⟨(some cA), none, (rn [nd]), ({ cycle := 300, grants := [] }), ([]), nd, sl, runs_of (by decide +kernel), ⟨_, rfl, rfl⟩, by decide +kernel⟩,
   ⟨(some (cW 2)), (some (cW 4)), (rn n3 301), ({ cycle := 301, grants := [] }), ([]), 1, 2, runs_of (by decide +kernel), idx_of (by decide +kernel), opt_of (by decide +kernel), opt_of (by decide +kernel), by decide +kernel⟩,
   ⟨(some (cW 2)), (some (cW 2)), (rn n3 301), ({ cycle := 301, grants := [] }), ([]), 1, 1, runs_of (by decide +kernel), idx_of (by decide +kernel), opt_of (by decide +kernel), opt_of (by decide +kernel), by decide +kernel⟩,
   ⟨((15 : Fin 16)), false, (rm (fun r => { r with windows := upd r.windows 15 fun _ => some wn })), wn, runs_of (by decide +kernel), by decide +kernel⟩,
   ⟨((0 : Fin 16)), false, (rm (fun r => { r with windows := upd r.windows 0 fun _ => some { wn with count := 65528 }, undrained := upd r.undrained 0 fun _ => some ue })), ({ wn with count := 65528 }), (ue), runs_of (by decide +kernel), rfl, by decide +kernel⟩,
   ⟨svc, (kr svc), runs_of (by decide +kernel), rfl, by decide +kernel⟩,
   ⟨(rm (fun r => { r with lockB := true, config := some rimPay })), (kr (rm (fun r => { r with lockB := true, config := some rimPay }))), runs_of (by decide +kernel), rfl, by decide +kernel⟩,
   ⟨(rm (fun r => { r with lockA := true })), (kr (rm (fun r => { r with lockA := true }))), runs_of (by decide +kernel), rfl, by decide +kernel⟩,
   ⟨(rm (fun r => { r with state := .run })), (kr (rm (fun r => { r with state := .run }))), runs_of (by decide +kernel), rfl, by decide +kernel⟩,
   ⟨(ec 2 100), (en none), runs_of (by decide +kernel), opt_of (by decide +kernel), by decide +kernel⟩,
   ⟨(ec 2 41500), (en (some (ec 2 7))), (ec 2 7), runs_of (by decide +kernel), by decide +kernel⟩,
   ⟨(ec 2 41501), (en (some (ec 2 7))), (ec 2 7), runs_of (by decide +kernel), by decide +kernel⟩,
   ⟨(ec 2 41500), ({ en (some (ec 2 7)) with rim := { (en (some (ec 2 7))).rim with topo := some (((fit 48 rimPay).set 2 1).set 0 3) } }), (ec 2 7), runs_of (by decide +kernel), by decide +kernel⟩,
   ⟨(en (some (ec 2 7))), runs_of (by decide +kernel), by decide +kernel⟩,
   ⟨1023, (rm (fun r => { r with nodes := [bx 9 (0x40 :: zeros 30) []] })), 0, (bx 9 (0x40 :: zeros 30) []), 9, ((0x40 :: zeros 30)), ([]), runs_of (by decide +kernel), by decide +kernel⟩,
   ⟨1023, (rm (fun r => { r with nodes := [bx 9 (0x41 :: dat ++ dat) []] })), 0, (bx 9 (0x41 :: dat ++ dat) []), 9, ((0x41 :: dat ++ dat)), ([]), runs_of (by decide +kernel), by decide +kernel⟩,
   ⟨1023, (rm (fun r => { r with nodes := [bx 5 (0x83 :: zeros 30) [mg false]] })), 0, (bx 5 (0x83 :: zeros 30) [mg false]), 5, ((0x83 :: zeros 30)), ([]), (mg false), ([]), runs_of (by decide +kernel), by decide +kernel⟩,
   ⟨1023, (rm (fun r => { r with nextTag := 255, nodes := [bx 5 [] [mg false]] })), 0, ({ bx 5 [] [mg false] with inbox := [(5, [])] }), (mg false), ([]), runs_of (by decide +kernel), by decide +kernel⟩,
   ⟨1023, (rm (fun r => { r with nodes := [bx 5 [] [mg true]] })), 0, (bx 5 [] [mg true]), (mg true), ([]), runs_of (by decide +kernel), by decide +kernel⟩,
   ⟨({ rm (fun r => { r with state := .run, cycle := 7 }) with pair := { svc.pair with paired := true, own := false } }), _, runs_of (by decide +kernel), rfl, by decide +kernel⟩⟩

end RimEvents

namespace BootEvents
def bt (f : State → State) : State := f (wC .boot { svc with saf := { svc.saf with internalReset := true }, pwr := { svc.pwr with seq := .chipOn }, clk := { svc.clk with rpll := .locked } })
def rs (f : State → State) : State := f (wC .boot { svc with boot := { svc.boot with released := true, berrilOk := false, life := .field, flash := [[(0, zeros 4096)], [], [(0, zeros 4096)], []] }, pwr := { svc.pwr with seq := .chipOn } })
def rsB : State := rs fun s => { s with boot := { s.boot with berrilOk := true } }
def rsK (s : State) : State := { s with led := { s.led with boot := (s.led.boot + 1) % 2 ^ 32 }, boot := { s.boot with started := s.io.time } }
def rsU (s : State) : State := let k := rsK s
  layLedger (startBerril { k with led := { k.led with queue := bootRecords k ++ k.led.bootCaptures ++ k.led.queue, bootCaptures := [] }, saf := { k.saf with firstFault := 0, inhTestFail := false } })

/-- States and operands that meet the premises of `Obligations.BootEvents`, clause by clause. -/
theorem witness_BootEvents :
    (∃ (s : State), s.shs.lateDue = false ∧ chipOn s = true ∧ s.clk.rpll = .locked ∧ s.saf.nmrstLow = false ∧ s.saf.ctrl = .boot ∧ s.saf.internalReset = true ∧ s.boot.bootFail = false ∧ s.boot.recs.length = 2)
    ∧ (∃ (s : State), s.shs.lateDue = false ∧ chipOn s = true ∧ s.saf.nmrstLow = false ∧ s.boot.bootFail = true ∧ s.boot.recs.length = 2)
    ∧ (∃ (ok : Bool) (s : State), Runs s ∧ s.boot.released = true ∧ s.saf.ctrl = .boot ∧ (s.bootRec 1).booted = 0 ∧ s.boot.berrilOk = false ∧ (∀ r ∈ s.boot.recs, r.trialFailed = false) ∧ (∀ i < 4, (s.saf.ilk.getD i {}).latch = false) ∧ s.boot.life ≠ .blank)
    ∧ (∃ (s : State) (k : State) (u : State), Runs s ∧ k = ({ s with led := { s.led with boot := (s.led.boot + 1) % 2 ^ 32 }, boot := { s.boot with started := s.io.time } } : State) ∧ u = layLedger (startBerril { k with led := { k.led with queue := bootRecords k ++ k.led.bootCaptures ++ k.led.queue, bootCaptures := [] }, saf := { k.saf with firstFault := 0, inhTestFail := false } }) ∧ s.boot.released = true ∧ s.saf.ctrl = .boot ∧ u.boot.berrilOk = true ∧ (∀ r ∈ u.boot.recs, r.trialFailed = false) ∧ (∀ i < 4, (u.saf.ilk.getD i {}).latch = false) ∧ u.thm.latch = none ∧ u.pwr.seq = .chipOn ∧ u.shs.lateDue = false ∧ u.shs.jobs = [])
    ∧ (∃ (s : State), s.shs.lateDue = false ∧ s.boot.released = true ∧ s.saf.ctrl = .boot ∧ (∃ r ∈ s.boot.recs, r.booted ≠ 0 ∧ r.booted = r.trial))
    ∧ (∃ (s : State), s.shs.lateDue = false ∧ debugIsOpen s = true)
    ∧ (∃ (s : State), s.shs.lateDue = false ∧ debugIsOpen s = true)
    ∧ (∃ (s : State), s.shs.lateDue = false ∧ debugIsOpen s = false)
    ∧ (∃ (s : State), True)
    ∧ (∃ (s : State), True)
    ∧ (∃ (s : State), s.shs.lateDue = false) :=
  ⟨⟨(bt id), by decide +kernel⟩,
   ⟨(bt fun s => { s with boot := { s.boot with bootFail := true } }), by decide +kernel⟩,
   ⟨true, (rs id), runs_of (by decide +kernel), by decide +kernel⟩,
   ⟨rsB, (rsK rsB), (rsU rsB), runs_of (by decide +kernel), rfl, rfl, by decide +kernel⟩,
   ⟨(rs fun s => { s with boot := { s.boot with recs := [{ booted := 2, trial := 2 }, {}] } }), by decide +kernel⟩,
   ⟨({ svc with boot := { svc.boot with debugOpen := true, life := .field } }), by decide +kernel⟩,
   ⟨(wC .run { svc with boot := { svc.boot with debugOpen := true, life := .field } }), by decide +kernel⟩,
   ⟨({ svc with boot := { svc.boot with debugOpen := false, life := .field } }), by decide +kernel⟩,
   ⟨svc, trivial⟩,
   ⟨svc, trivial⟩,
   ⟨svc, by decide +kernel⟩⟩

end BootEvents

namespace ClockEvents
def cs (f : Clocks → Clocks) : State := { svc with clk := f svc.clk }
def okL : List Nat := (List.range 64).map fun b => 800 + 16 * b
def rl (r : Rpll) : State := { svc with pwr := { svc.pwr with seq := .chipOn }, clk := { svc.clk with refIrc := false, rpll := r } }

/-- States and operands that meet the premises of `Obligations.ClockEvents`, clause by clause. -/
theorem witness_ClockEvents :
    (∃ (s : State), s.shs.lateDue = false ∧ s.clk.ircRunning = false ∧ s.saf.ctrl ≠ .clockHold ∧ s.clk.aonRef = false)
    ∧ (∃ (s : State), s.shs.lateDue = false ∧ s.clk.ircRunning = false ∧ s.saf.ctrl ≠ .clockHold ∧ s.clk.aonRef = true)
    ∧ (∃ (s : State), s.shs.lateDue = false ∧ s.clk.proven = false ∧ s.saf.ctrl ≠ .clockHold)
    ∧ (∃ (s : State), s.shs.lateDue = false ∧ s.clk.proven = true ∧ s.saf.ctrl ≠ .clockHold)
    ∧ (∃ (s : State), s.shs.lateDue = false ∧ s.saf.ctrl = .clockHold)
    ∧ (∃ (s : State), s.shs.lateDue = false ∧ s.clk.xtalOn = true)
    ∧ (∃ (s : State), s.shs.lateDue = false ∧ s.clk.xtalOn = true ∧ s.clk.xokRisen = true ∧ s.clk.ircRunning = false ∧ s.saf.ctrl ≠ .clockHold)
    ∧ (∃ (s : State), s.shs.lateDue = false ∧ s.clk.xtalOn = true ∧ s.clk.ircRunning = true ∧ s.clk.proven = true)
    ∧ (∃ (s : State), s.shs.lateDue = false ∧ s.clk.xtalOn = true ∧ s.clk.proven = false ∧ s.clk.ircRunning = true)
    ∧ (∃ (s : State), s.shs.lateDue = false ∧ s.clk.xtalOn = true ∧ s.clk.xok = true)
    ∧ (∃ (n : Nat) (s : State), s.shs.lateDue = false ∧ s.clk.xtalOn = true ∧ s.clk.startCounted = true ∧ s.clk.ircRunning = true ∧ s.clk.proven = false ∧ (n < 248 ∨ 264 < n))
    ∧ (∃ (n : Nat) (s : State), s.shs.lateDue = false ∧ s.clk.xtalOn = true ∧ s.clk.startCounted = true ∧ s.clk.ircRunning = true ∧ s.clk.proven = false ∧ 248 ≤ n ∧ n ≤ 264 ∧ s.clk.goodWindows < 3)
    ∧ (∃ (n : Nat) (s : State), s.shs.lateDue = false ∧ s.clk.xtalOn = true ∧ s.clk.startCounted = true ∧ s.clk.ircRunning = true ∧ s.clk.proven = false ∧ 248 ≤ n ∧ n ≤ 264 ∧ 3 ≤ s.clk.goodWindows ∧ s.saf.ctrl ≠ .clockHold)
    ∧ (∃ (n : Nat) (s : State), s.shs.lateDue = false ∧ s.clk.xtalOn = true ∧ s.clk.startCounted = true ∧ s.clk.ircRunning = true ∧ s.clk.proven = true ∧ (n < 248 ∨ 264 < n))
    ∧ (∃ (s : State), s.shs.lateDue = false ∧ s.clk.xtalOn = true ∧ s.clk.proven = false ∧ s.clk.failedStarts < 2)
    ∧ (∃ (s : State), s.shs.lateDue = false ∧ s.clk.xtalOn = true ∧ s.clk.proven = false ∧ 2 ≤ s.clk.failedStarts ∧ (s.pwr.seq = .xtalStart ∨ s.saf.ctrl = .clockHold))
    ∧ (∃ (s : State), s.shs.lateDue = false ∧ s.clk.xtalOn = true ∧ s.clk.proven = false ∧ 2 ≤ s.clk.failedStarts ∧ s.pwr.seq ≠ .xtalStart ∧ s.saf.ctrl ≠ .clockHold)
    ∧ (∃ (s : State), s.shs.lateDue = false ∧ s.clk.xtalPause = true)
    ∧ (∃ (l : List Nat) (s : State) (b : Nat), s.shs.lateDue = false ∧ rpllMay s = true ∧ bandSearch (fun b => l.getD b 0) = some b)
    ∧ (∃ (l : List Nat) (s : State) (b : Nat), s.shs.lateDue = false ∧ rpllMay s = true ∧ bandSearch (fun b => l.getD b 0) = some b ∧ s.clk.rpll = .bypass)
    ∧ (∃ (l : List Nat) (s : State) (b : Nat), s.shs.lateDue = false ∧ rpllMay s = true ∧ bandSearch (fun b => l.getD b 0) = some b ∧ s.clk.rpll = .bypass ∧ s.clk.relockFails < 7)
    ∧ (∃ (l : List Nat) (s : State), s.shs.lateDue = false ∧ rpllMay s = true ∧ bandSearch (fun b => l.getD b 0) = none ∧ s.clk.relockFails < 7)
    ∧ (∃ (l : List Nat) (s : State), s.shs.lateDue = false ∧ rpllMay s = true ∧ bandSearch (fun b => l.getD b 0) = none ∧ 7 ≤ s.clk.relockFails)
    ∧ (∃ (s : State), s.shs.lateDue = false ∧ s.clk.rpll = .locked)
    ∧ (∃ (d : Fin 8) (s : State), s.shs.lateDue = false ∧ (chipOn s = true ∨ 6 ≤ d.val))
    ∧ (∃ (s : State), s.shs.lateDue = false ∧ s.pwr.resetDue = some 4)
    ∧ (∃ (s : State), s.shs.lateDue = false ∧ s.pwr.resetDue ≠ some 4) :=
  ⟨⟨(cs fun c => { c with ircRunning := false, aonRef := false }), by decide +kernel⟩,
   ⟨(cs fun c => { c with ircRunning := false, aonRef := true }), by decide +kernel⟩,
   ⟨(cs fun c => { c with proven := false, ircRestarts := 65535 }), by decide +kernel⟩,
   ⟨(cs fun c => { c with proven := true, ircRunning := true }), by decide +kernel⟩,
   ⟨(wC .clockHold (cs fun c => { c with proven := true })), by decide +kernel⟩,
   ⟨(cs fun c => { c with xtalOn := true }), by decide +kernel⟩,
   ⟨(cs fun c => { c with xtalOn := true, xokRisen := true, ircRunning := false }), by decide +kernel⟩,
   ⟨(cs fun c => { c with xtalOn := true, ircRunning := true, proven := true, rpll := .locked }), by decide +kernel⟩,
   ⟨(cs fun c => { c with xtalOn := true, ircRunning := true, proven := false }), by decide +kernel⟩,
   ⟨(cs fun c => { c with xtalOn := true, xok := true }), by decide +kernel⟩,
   ⟨247, (cs fun c => { c with xtalOn := true, startCounted := true, ircRunning := true, goodWindows := 2 }), by decide +kernel⟩,
   ⟨248, (cs fun c => { c with xtalOn := true, startCounted := true, ircRunning := true, goodWindows := 2 }), by decide +kernel⟩,
   ⟨264, (cs fun c => { c with xtalOn := true, startCounted := true, ircRunning := true, goodWindows := 3 }), by decide +kernel⟩,
   ⟨265, (cs fun c => { c with xtalOn := true, startCounted := true, ircRunning := true, proven := true }), by decide +kernel⟩,
   ⟨(cs fun c => { c with xtalOn := true, failedStarts := 1 }), by decide +kernel⟩,
   ⟨({ (wC .powerUp (cs fun c => { c with xtalOn := true, failedStarts := 2 })) with pwr := { svc.pwr with seq := .xtalStart } }), by decide +kernel⟩,
   ⟨({ (cs fun c => { c with xtalOn := true, failedStarts := 2 }) with pwr := { svc.pwr with seq := .chipOn } }), by decide +kernel⟩,
   ⟨(cs fun c => { c with xtalPause := true, xtalModeSet := 1 }), by decide +kernel⟩,
   ⟨okL, (rl .off), ((bandSearch fun b => okL.getD b 0).getD 0), by decide +kernel⟩,
   ⟨okL, (rl .bypass), ((bandSearch fun b => okL.getD b 0).getD 0), by decide +kernel⟩,
   ⟨okL, (rl .bypass), ((bandSearch fun b => okL.getD b 0).getD 0), by decide +kernel⟩,
   ⟨([]), (rl .bypass), by decide +kernel⟩,
   ⟨([]), ({ (rl .bypass) with clk := { (rl .bypass).clk with relockFails := 7 } }), by decide +kernel⟩,
   ⟨(cs fun c => { c with rpll := .locked, unlocks := 65535 }), by decide +kernel⟩,
   ⟨((0 : Fin 8)), ({ svc with pwr := { svc.pwr with seq := .chipOn } }), by decide +kernel⟩,
   ⟨({ svc with pwr := { svc.pwr with resetDue := some 4 } }), by decide +kernel⟩,
   ⟨({ svc with pwr := { svc.pwr with resetDue := some 2 } }), by decide +kernel⟩⟩

end ClockEvents

namespace PowerRequestEvents
def ps (q : Seq) (f : Power → Power) : State := { svc with pwr := f { svc.pwr with seq := q } }
def dr : State := ps .chipOn fun p => { p with grace := true, rails := p.rails.map fun r => { r with en := true, qualified := true } }
def offS (f : Power → Power) : State := wC .off (ps .off f)

/-- States and operands that meet the premises of `Obligations.PowerRequestEvents`, clause by clause. -/
theorem witness_PowerRequestEvents :
    (∃ (s : State), s.shs.lateDue = false ∧ s.pwr.forceHeld = false ∧ s.pwr.seq = .off ∧ s.pwr.minOffRuns = false ∧ s.pwr.nwakeLow = false)
    ∧ (∃ (s : State), s.shs.lateDue = false ∧ s.pwr.forceHeld = false ∧ s.pwr.seq = .off ∧ s.pwr.minOffRuns = true ∧ s.pwr.latched = none)
    ∧ (∃ (s : State), s.shs.lateDue = false)
    ∧ (∃ (x : Fin 4) (s : State), s.shs.lateDue = false ∧ s.pwr.forceHeld = true)
    ∧ (∃ (s : State), s.shs.lateDue = false ∧ s.pwr.seq ≠ .off)
    ∧ (∃ (s : State), s.shs.lateDue = false ∧ (s.pwr.button = false ∨ s.pwr.pressInOff = true ∨ s.pwr.forceHeld = true))
    ∧ (∃ (s : State), s.shs.lateDue = false ∧ s.pwr.button = true ∧ s.pwr.pressInOff = false ∧ s.pwr.forceHeld = false ∧ (s.pwr.seq = .chipOn ∨ s.pwr.seq = .engineOn) ∧ s.pwr.grace = false)
    ∧ (∃ (x : Fin 4) (s : State), s.shs.lateDue = false ∧ s.pwr.seq = .xtalStart)
    ∧ (∃ (x : Fin 4) (s : State), s.shs.lateDue = false ∧ (s.pwr.seq = .chipOn ∨ s.pwr.seq = .engineOn) ∧ s.pwr.grace = false ∧ s.saf.ctrl ≠ .run)
    ∧ (∃ (x : Fin 4) (s : State), s.shs.lateDue = false ∧ (s.pwr.seq = .chipOn ∨ s.pwr.seq = .engineOn) ∧ s.pwr.grace = false ∧ s.saf.ctrl = .run)
    ∧ (∃ (s : State), s.shs.lateDue = false ∧ s.pwr.button = true ∧ s.pwr.forceHeld = false)
    ∧ (∃ (s : State), s.shs.lateDue = false ∧ s.saf.ctrl = .clockHold)
    ∧ (∃ (s : State), s.shs.lateDue = false ∧ s.saf.ctrl ≠ .clockHold)
    ∧ (∃ (s : State) (n : Nat) (m : Nat) (l : List Nat), s.shs.lateDue = false ∧ s.pwr.grace = true ∧ downRails { s with pwr := { s.pwr with downFor := .off } } = n :: m :: l ∧ noneRunning s = true)
    ∧ (∃ (s : State), s.shs.lateDue = false ∧ s.pwr.minOffRuns = true ∧ s.pwr.seq = .off ∧ s.pwr.latched = none)
    ∧ (∃ (s : State) (x : OnSource), s.shs.lateDue = false ∧ s.pwr.minOffRuns = true ∧ s.pwr.seq = .off ∧ s.pwr.latched = some x ∧ (x = .nwake → s.pwr.nwakeLow = true) ∧ s.pwr.button = false)
    ∧ (∃ (s : State), s.shs.lateDue = false ∧ s.pwr.minOffRuns = true ∧ s.pwr.seq = .chipUp ∧ s.saf.powerDown = false ∧ (s.rail 3).qualified = false) :=
  ⟨⟨(offS id), by decide +kernel⟩,
   ⟨(offS fun p => { p with minOffRuns := true }), by decide +kernel⟩,
   ⟨svc, by decide +kernel⟩,
   ⟨((3 : Fin 4)), (offS fun p => { p with forceHeld := true }), by decide +kernel⟩,
   ⟨(ps .chipOn id), by decide +kernel⟩,
   ⟨(ps .chipOn id), by decide +kernel⟩,
   ⟨(ps .chipOn fun p => { p with button := true }), by decide +kernel⟩,
   ⟨((0 : Fin 4)), (wC .powerUp (ps .xtalStart id)), by decide +kernel⟩,
   ⟨((1 : Fin 4)), (ps .chipOn id), by decide +kernel⟩,
   ⟨((3 : Fin 4)), (wC .run (ps .engineOn id)), by decide +kernel⟩,
   ⟨(ps .chipOn fun p => { p with button := true }), by decide +kernel⟩,
   ⟨(wC .clockHold (ps .chipOn id)), by decide +kernel⟩,
   ⟨(ps .chipOn id), by decide +kernel⟩,
   ⟨dr, ((downRails { dr with pwr := { dr.pwr with downFor := .off } }).getD 0 0), ((downRails { dr with pwr := { dr.pwr with downFor := .off } }).getD 1 0), ((downRails { dr with pwr := { dr.pwr with downFor := .off } }).drop 2), by decide +kernel⟩,
   ⟨(offS fun p => { p with minOffRuns := true, forceHeld := true }), by decide +kernel⟩,
   ⟨(offS (fun p => { p with minOffRuns := true, latched := some .nwake, nwakeLow := true })), .nwake, by decide +kernel⟩,
   ⟨(wC .powerUp (ps .chipUp fun p => { p with minOffRuns := true })), by decide +kernel⟩⟩

end PowerRequestEvents

namespace RailEvents
def rl (q : Seq) (n : Nat) (f : Rail → Rail) (g : Power → Power := id) : State := { svc with pwr := g { svc.pwr with seq := q, rails := upd svc.pwr.rails n f } }
def onP (l : List Nat) (p : Power) : Power := { p with rails := (p.rails.zipIdx).map fun x => if l.contains x.2 then { x.1 with en := true, pg := true, qualified := true } else x.1 }
def fin16 (o : Option Nat) : Fin 16 := ⟨o.getD 0 % 16, Nat.mod_lt _ (by decide)⟩
def eUp (q : Seq) (n : Nat) : State := { svc with pwr := (fun p : Power => { p with rails := upd p.rails n fun r => { r with en := true, pg := true, qualified := false } }) (onP (List.range 16) { svc.pwr with seq := q }) }
def kq (n : Nat) (s : State) : State := { s with pwr := { s.pwr with rails := upd s.pwr.rails n fun r => { r with qualified := true } } }
def pd (l : List Nat) (d : DownFor) (q : Seq) : State := { svc with saf := { svc.saf with powerDown := true }, pwr := onP l { svc.pwr with seq := q, downFor := d } }

/-- States and operands that meet the premises of `Obligations.RailEvents`, clause by clause. -/
theorem witness_RailEvents :
    (∃ (n : Fin 16) (s : State), s.shs.lateDue = false ∧ phaseUp s = true ∧ nextRail s = some n.val ∧ (s.rail n.val).en = false ∧ n.val < s.pwr.rails.length)
    ∧ (∃ (n : Fin 16) (s : State), s.shs.lateDue = false ∧ n.val < s.pwr.rails.length ∧ (s.rail n.val).en = true ∧ (s.rail n.val).used.pgUsed = true ∧ s.pwr.seq ≠ .off)
    ∧ (∃ (n : Fin 16) (s : State) (k : State) (m : Nat), k = ({ s with pwr := { s.pwr with rails := upd s.pwr.rails n.val fun r => { r with qualified := true } } } : State) ∧ s.shs.lateDue = false ∧ n.val < s.pwr.rails.length ∧ phaseUp s = true ∧ (s.rail n.val).en = true ∧ (s.rail n.val).qualified = false ∧ ((s.rail n.val).pg = true ∨ (s.rail n.val).used.pgUsed = false) ∧ nextRail k = some m)
    ∧ (∃ (n : Fin 16) (s : State) (k : State), k = ({ s with pwr := { s.pwr with rails := upd s.pwr.rails n.val fun r => { r with qualified := true } } } : State) ∧ s.shs.lateDue = false ∧ n.val < s.pwr.rails.length ∧ phaseUp s = true ∧ (s.rail n.val).en = true ∧ (s.rail n.val).qualified = false ∧ ((s.rail n.val).pg = true ∨ (s.rail n.val).used.pgUsed = false) ∧ nextRail k = none ∧ s.pwr.seq = .engineUp ∧ s.saf.ctrl = .idle ∧ bootWaits s = false)
    ∧ (∃ (n : Fin 16) (s : State) (k : State), k = ({ s with pwr := { s.pwr with rails := upd s.pwr.rails n.val fun r => { r with qualified := true } } } : State) ∧ s.shs.lateDue = false ∧ n.val < s.pwr.rails.length ∧ phaseUp s = true ∧ (s.rail n.val).en = true ∧ (s.rail n.val).qualified = false ∧ ((s.rail n.val).pg = true ∨ (s.rail n.val).used.pgUsed = false) ∧ nextRail k = none ∧ s.pwr.seq = .chipUp)
    ∧ (∃ (n : Fin 16) (s : State), s.shs.lateDue = false ∧ phaseUp s = true ∧ (s.rail n.val).en = true ∧ (s.rail n.val).qualified = false ∧ (s.rail n.val).used.pgUsed = true)
    ∧ (∃ (s : State), s.shs.lateDue = false ∧ s.saf.powerDown = false)
    ∧ (∃ (s : State) (n : Nat) (m : Nat) (l : List Nat), s.shs.lateDue = false ∧ s.saf.powerDown = true ∧ downRails s = n :: m :: l)
    ∧ (∃ (s : State) (n : Nat), s.shs.lateDue = false ∧ s.saf.powerDown = true ∧ downRails s = [n])
    ∧ (∃ (s : State), s.shs.lateDue = false ∧ chipOn s = true ∧ s.saf.ctrl ≠ .clockHold)
    ∧ (∃ (s : State), s.shs.lateDue = false ∧ (chipOn s = false ∨ s.saf.ctrl = .clockHold))
    ∧ (∃ (s : State), Runs s ∧ chipOn s = true ∧ s.saf.ctrl ≠ .clockHold) :=
  ⟨⟨(fin16 (nextRail (rl .chipUp 0 id))), (rl .chipUp 0 id), by decide +kernel⟩,
   ⟨((3 : Fin 16)), (rl .chipOn 3 fun r => { r with en := true }), by decide +kernel⟩,
   ⟨(fin16 (nextRail (rl .chipUp 0 id))), (rl .chipUp ((nextRail (rl .chipUp 0 id)).getD 0) (fun r => { r with en := true, pg := true })), (kq ((nextRail (rl .chipUp 0 id)).getD 0) (rl .chipUp ((nextRail (rl .chipUp 0 id)).getD 0) (fun r => { r with en := true, pg := true }))), ((nextRail (kq ((nextRail (rl .chipUp 0 id)).getD 0) (rl .chipUp ((nextRail (rl .chipUp 0 id)).getD 0) (fun r => { r with en := true, pg := true })))).getD 0), rfl, by decide +kernel⟩,
   ⟨((10 : Fin 16)), (eUp .engineUp 10), (kq 10 (eUp .engineUp 10)), rfl, by decide +kernel⟩,
   ⟨((6 : Fin 16)), (wC .powerUp (eUp .chipUp 6)), (kq 6 (wC .powerUp (eUp .chipUp 6))), rfl, by decide +kernel⟩,
   ⟨((3 : Fin 16)), (wC .powerUp (rl .chipUp 3 fun r => { r with en := true })), by decide +kernel⟩,
   ⟨svc, by decide +kernel⟩,
   ⟨(pd [0,1,2,3] .off .chipOn), ((downRails (pd [0,1,2,3] .off .chipOn)).getD 0 0), ((downRails (pd [0,1,2,3] .off .chipOn)).getD 1 0), ((downRails (pd [0,1,2,3] .off .chipOn)).drop 2), by decide +kernel⟩,
   ⟨(pd [3] .off .chipOn), ((downRails (pd [3] .off .chipOn)).getD 0 0), by decide +kernel⟩,
   ⟨(rl .chipOn 0 id), by decide +kernel⟩,
   ⟨(wC .off (rl .off 0 id)), by decide +kernel⟩,
   ⟨(rl .chipOn 0 id), runs_of (by decide +kernel), by decide +kernel⟩⟩

end RailEvents

namespace BackgroundEvents
def bg (f : Background → Background) : State := { svc with bg := f svc.bg }
def er (r : SramRegion) (u : Bool) : SramErr := { region := r, addr := 77, ue := u }
def dr (p : DramPlace) (u : Bool) : DramErr := { addr := 4096 * 9 + 8, place := p, ue := u }
def tb (k : Fin 6) (s : State) : Bytes := le 4 ((s.bg.telSeq + 1) % 2 ^ 32) ++ le 1 (k.val + 1) ++ zeros 3 ++ le 8 s.io.time ++ freeBytes .background 48 0 s

/-- States and operands that meet the premises of `Obligations.BackgroundEvents`, clause by clause. -/
theorem witness_BackgroundEvents :
    (∃ (n : Nat) (s : State), Runs s ∧ s.saf.ctrl.serving = true ∧ (∀ k < 8, s.io.time ≤ (s.bg.jobs.getD k { period := 1 }).since + 2 * (s.bg.jobs.getD k { period := 1 }).period * 1000000000))
    ∧ (∃ (e : SramErr) (s : State), Runs s ∧ s.saf.ctrl.serving = true ∧ e.ue = false ∧ regionOf e.region < s.bg.ecc.length)
    ∧ (∃ (e : SramErr) (s : State), Runs s ∧ (∀ i k, e.region ≠ .lineStore i k) ∧ (∀ i, e.region ≠ .screenStore i ∧ e.region ≠ .corrTables i) ∧ s.saf.ctrl.serving = true ∧ e.ue = true)
    ∧ (∃ (s : State), Runs s ∧ s.saf.ctrl.serving = true)
    ∧ (∃ (e : DramErr) (s : State), Runs s ∧ s.saf.ctrl.serving = true ∧ e.ue = true ∧ e.place = .unused)
    ∧ (∃ (e : DramErr) (s : State), Runs s ∧ s.saf.ctrl.serving = true ∧ e.ue = true ∧ e.place = .firmware)
    ∧ (∃ (e : DramErr) (s : State) (g : Nat), Runs s ∧ g = e.addr.toNat / 4096 ∧ s.saf.ctrl.serving = true ∧ e.ue = false ∧ (s.bg.granules.any fun x => x.1 == g && x.2.head? == some s.io.time) = false ∧ g ∉ s.bg.retired ∧ (granulePasses g s).length < 3)
    ∧ (∃ (e : DramErr) (s : State) (g : Nat), Runs s ∧ g = e.addr.toNat / 4096 ∧ s.saf.ctrl.serving = true ∧ e.ue = false ∧ (s.bg.granules.any fun x => x.1 == g && x.2.head? == some s.io.time) = false ∧ g ∉ s.bg.retired ∧ 3 ≤ (granulePasses g s).length ∧ s.bg.retired.length < 256)
    ∧ (∃ (k : Nat) (o : Int) (g : Int) (s : State), Runs s ∧ s.saf.ctrl.serving = true ∧ k < 256)
    ∧ (∃ (i : Fin 5) (k : Nat) (v : Int) (s : State), Runs s ∧ s.saf.ctrl.serving = true ∧ k < 64 ∧ ((s.wvr i.val).state = .off ∨ (s.wvr i.val).state = .locked) ∧ (((coeffOf s.bg.pass (256 + i.val)).getD []).length = 0 ∨ ((coeffOf s.bg.pass (256 + i.val)).getD []).length = 128))
    ∧ (∃ (i : Fin 5) (k : Nat) (v : Int) (s : State), Runs s ∧ s.saf.ctrl.serving = true ∧ k < 64 ∧ (s.wvr i.val).state ≠ .off ∧ (s.wvr i.val).state ≠ .locked)
    ∧ (∃ (i : Option (Fin 5)) (s : State), Runs s ∧ s.saf.ctrl.serving = true ∧ passCoeffs i s ≠ [])
    ∧ (∃ (i : Option (Fin 5)) (s : State), Runs s ∧ s.saf.ctrl.serving = true ∧ passCoeffs i s = [])
    ∧ (∃ (s : State) (k : Nat) (n : Nat), Runs s ∧ s.saf.ctrl.serving = true ∧ s.bg.erases = [(k, n)] ∧ k ∉ s.bg.worn ∧ k ∉ s.bg.sectors ∧ norEndurance s * 80 ≤ n * 100)
    ∧ (∃ (s : State) (k : Nat) (n : Nat), Runs s ∧ s.saf.ctrl.serving = true ∧ s.bg.erases = [(k, n)] ∧ k ∉ s.bg.worn ∧ k ∉ s.bg.sectors ∧ n * 100 < norEndurance s * 80)
    ∧ (∃ (l : List Nat) (s : State), Runs s ∧ s.saf.ctrl.serving = true)
    ∧ (∃ (l : List Nat) (s : State), Runs s ∧ s.saf.ctrl.serving = true)
    ∧ (∃ (k : Fin 6) (s : State) (b : Bytes), Runs s ∧ b = le 4 ((s.bg.telSeq + 1) % 2 ^ 32) ++ le 1 (k.val + 1) ++ zeros 3 ++ le 8 s.io.time ++ freeBytes .background 48 0 s ∧ s.saf.ctrl.serving = true ∧ s.bg.telemetry.length < 4096)
    ∧ (∃ (e : SramErr) (s : State), Runs s ∧ s.saf.ctrl.serving = true ∧ e.ue = false ∧ regionOf e.region < s.bg.ecc.length) :=
  ⟨⟨501, svc, runs_of (by decide +kernel), by decide +kernel⟩,
   ⟨(er (.screenStore 4) false), svc, runs_of (by decide +kernel), by decide +kernel⟩,
   ⟨(er .tcm true), svc, runs_of (by decide +kernel), nofun, fun _ => ⟨nofun, nofun⟩, by decide +kernel⟩,
   ⟨svc, runs_of (by decide +kernel), by decide +kernel⟩,
   ⟨(dr .unused true), svc, runs_of (by decide +kernel), by decide +kernel⟩,
   ⟨(dr .firmware true), svc, runs_of (by decide +kernel), by decide +kernel⟩,
   ⟨(dr .unused false), svc, 9, runs_of (by decide +kernel), by decide +kernel, by decide +kernel⟩,
   ⟨(dr .unused false), ({ (bg fun b => { b with granules := [(9, [1, 2, 3])] }) with io := { svc.io with time := 86400000000000 } }), 9, runs_of (by decide +kernel), by decide +kernel, by decide +kernel⟩,
   ⟨255, (-3), 7, svc, runs_of (by decide +kernel), by decide +kernel⟩,
   ⟨((4 : Fin 5)), 63, 9, svc, runs_of (by decide +kernel), by decide +kernel⟩,
   ⟨((4 : Fin 5)), 63, 9, (svc.setWvr 4 fun w => { w with state := .acquire }), runs_of (by decide +kernel), by decide +kernel⟩,
   ⟨none, (bg fun b => { b with pass := [(3, [1, 2])] }), runs_of (by decide +kernel), by decide +kernel⟩,
   ⟨(some 3), svc, runs_of (by decide +kernel), by decide +kernel⟩,
   ⟨(bg (fun b => { b with erases := [(5, 100000)] })), 5, 100000, runs_of (by decide +kernel), by decide +kernel⟩,
   ⟨(bg (fun b => { b with erases := [(5, 1)] })), 5, 1, runs_of (by decide +kernel), by decide +kernel⟩,
   ⟨([1, 2, 18446744073709551615]), (bg fun b => { b with life := b.life.map fun _ => 5 }), runs_of (by decide +kernel), by decide +kernel⟩,
   ⟨(List.replicate 320 1000), (svc.setStn 4 fun x => { x with apc := x.apc }), runs_of (by decide +kernel), by decide +kernel⟩,
   ⟨((5 : Fin 6)), svc, (tb 5 svc), runs_of (by decide +kernel), rfl, by decide +kernel⟩,
   ⟨(er (.lineStore 4 7) false), svc, runs_of (by decide +kernel), by decide +kernel⟩⟩

end BackgroundEvents

namespace PairEvents
def pr (f : Pair → Pair) : State := { svc with pair := f { svc.pair with paired := true, link := true, peerSerial := List.replicate 16 9 } }
def sb (f : Pair → Pair) : State := pr fun p => f { p with role := .standby, roleTaken := true, joined := true, fit := 31 }
def hb (r : Nat) : Heartbeat := { role := BitVec.ofNat 2 r, cls := 3, time := 99, groups := [1, 2, 3, 4, 5], fit := 17, pages := [] }
def pk : Bytes := wP 40 [(2,2,3),(8,8,0)]
def sbS : State := (sb id).setStrm 3 fun x => { x with state := .opened, low := 1 }
def rp (d : Bytes) : SweepReport := { station := 4, sweep := 0, strobed := 0, digest := d }
def hc (r : PRole) (f : Pair → Pair) : State := pr fun p => f { p with role := r, declared := some (5, 2) }

/-- States and operands that meet the premises of `Obligations.PairEvents`, clause by clause. -/
theorem witness_PairEvents :
    (∃ (i : Instr) (s : State) (h : Heartbeat) (p : Fin 3) (b : Bytes) (q : BitVec 64) (w : Bytes) (m : Mirrored) (st : Fin 5) (sw : BitVec 27) (sb : BitVec 12) (d : Bytes) (x : BitVec 64) (ha : Bytes) (sg : Bytes), Runs s ∧ i ∈ [Instr.heartbeatRx false h, .forwardRx false p b, .mirrorRx false q w m, .reportRx false st sw sb d, .declareRx false x, .ckptRx false q ha sg])
    ∧ (∃ (s : State), Runs s ∧ s.pair.paired = true)
    ∧ (∃ (s : State), Runs s ∧ s.pair.paired = true ∧ s.pair.roleTaken = false ∧ s.saf.ctrl.serving = true ∧ s.pair.peerHb = false)
    ∧ (∃ (h : Heartbeat) (s : State), Runs s ∧ s.pair.link = true ∧ h.pages = [] ∧ s.pair.peerPages = [] ∧ s.pair.role = .standby ∧ s.pair.roleTaken = true)
    ∧ (∃ (h : Heartbeat) (s : State), Runs s ∧ s.pair.link = true ∧ h.pages = [] ∧ s.pair.peerPages = [] ∧ s.pair.role ≠ .active ∧ s.pair.roleTaken = false ∧ s.saf.ctrl.serving = true ∧ h.role.toNat = 1)
    ∧ (∃ (h : Heartbeat) (s : State), Runs s ∧ s.pair.link = true ∧ h.pages = [] ∧ s.pair.peerPages = [] ∧ s.pair.role ≠ .active ∧ s.pair.roleTaken = false ∧ s.saf.ctrl.serving = true ∧ h.role.toNat ≠ 1 ∧ leAt s.reg.serial 0 16 < leAt s.pair.peerSerial 0 16)
    ∧ (∃ (h : Heartbeat) (s : State), Runs s ∧ s.pair.link = true ∧ h.pages = [] ∧ s.pair.peerPages = [] ∧ s.pair.role = .active ∧ h.role.toNat = 1)
    ∧ (∃ (p : Fin 3) (b : Bytes) (s : State) (n : Nat) (k : State), Runs s ∧ n = u16At b 2 ∧ k = dropPacket n ((countForward b.length s).setStrm n fun x => { x with lastPort := if p.val < 2 then p.val else x.lastPort }) ∧ s.pair.link = true ∧ s.pair.role = .standby ∧ n < 256 ∧ s.shs.jobs = [] ∧ seqMarked (s.strm n) (u64At b 8) = true ∧ stagingDiffers k = false)
    ∧ (∃ (q : BitVec 64) (w : Bytes) (m : Mirrored) (s : State), Runs s ∧ (∀ a p st sg, m ≠ .axis a p st sg) ∧ s.pair.link = true)
    ∧ (∃ (st : Fin 5) (sw : BitVec 27) (sb : BitVec 12) (d : Bytes) (s : State), Runs s ∧ s.pair.link = true ∧ s.pair.role = .standby)
    ∧ (∃ (i : Fin 5) (s : State) (r : SweepReport), Runs s ∧ s.pair.role = .standby ∧ s.pair.joined = true ∧ s.pair.reports = [r] ∧ r.station = i.val ∧ r.sweep = (s.stn i.val).weaver.sweep ∧ r.strobed = (s.stn i.val).lastStrobed ∧ r.digest = (s.stn i.val).bandDigest)
    ∧ (∃ (i : Fin 5) (s : State) (r : SweepReport), Runs s ∧ s.pair.role = .standby ∧ s.pair.joined = true ∧ s.pair.reports = [r] ∧ r.station = i.val ∧ r.digest ≠ (s.stn i.val).bandDigest)
    ∧ (∃ (x : BitVec 64) (s : State), Runs s ∧ s.pair.link = true ∧ s.pair.role = .standby)
    ∧ (∃ (q : BitVec 64) (ha : Bytes) (sg : Bytes) (s : State), Runs s ∧ s.pair.link = true)
    ∧ (∃ (s : State), Runs s ∧ s.pair.paired = true ∧ mayTakeOver s = true ∧ s.pair.role = .standby)
    ∧ (∃ (s : State), Runs s ∧ s.pair.paired = true ∧ mayTakeOver s = false ∧ s.pair.role = .standby)
    ∧ (∃ (s : State) (x : Nat) (c : Nat), Runs s ∧ s.pair.declared = some (x, c) ∧ s.pair.role = .standby ∧ mayTakeOver s = true ∧ c ≠ 1)
    ∧ (∃ (s : State) (x : Nat) (c : Nat), Runs s ∧ s.pair.declared = some (x, c) ∧ s.pair.role = .active ∧ peerIsFit s = true)
    ∧ (∃ (s : State) (x : Nat) (c : Nat), Runs s ∧ s.pair.declared = some (x, c) ∧ ((s.pair.role = .standby ∧ mayTakeOver s = false) ∨ (s.pair.role = .active ∧ peerIsFit s = false)))
    ∧ (∃ (d : Bytes) (f : Int) (e : Word) (s : State), Runs s ∧ d = s.pair.peerSerial ∧ s.pair.paired = true ∧ s.pair.link = false)
    ∧ (∃ (s : State), Runs s ∧ s.pair.link = true)
    ∧ (∃ (s : State), Runs s ∧ s.pair.link = false)
    ∧ (∃ (f : Int) (s : State), Runs s ∧ s.pair.role = .standby ∧ s.pair.link = true ∧ 5 < (f - s.pair.ofs).natAbs)
    ∧ (∃ (f : Int) (s : State), Runs s ∧ (f - s.pair.ofs).natAbs ≤ 5)
    ∧ (∃ (s : State), Runs s ∧ s.pair.paired = false)
    ∧ (∃ (a : Fin 20) (p : BitVec 48) (st : Bool) (sg : Bytes) (s : State) (q : BitVec 64) (w : Bytes), Runs s ∧ s.pair.link = true ∧ s.pair.role = .standby ∧ ((s.axis a.val).state = .off ∨ ((s.axis a.val).state = .hold ∧ sg.length < 24)) ∧ a.val < s.axs.axs.length)
    ∧ (∃ (s : State), Runs s ∧ s.pair.paired = true ∧ mayTakeOver s = false ∧ s.pair.role = .standby) :=
  ⟨⟨(.heartbeatRx false (hb 1)), (sb id), (hb 1), 2, ([1]), 7, ([2]), .capture, 4, 5, 6, ([3]), 8, ([4]), ([5]), runs_of (by decide +kernel), by decide +kernel⟩,
   ⟨(pr fun p => { p with role := .active }), runs_of (by decide +kernel), by decide +kernel⟩,
   ⟨(pr fun p => { p with link := false }), runs_of (by decide +kernel), by decide +kernel⟩,
   ⟨(hb 1), (sb id), runs_of (by decide +kernel), by decide +kernel⟩,
   ⟨(hb 1), (pr fun p => { p with role := .standby }), runs_of (by decide +kernel), by decide +kernel⟩,
   ⟨(hb 2), ({ pr (fun p => { p with role := .standby }) with reg := { svc.reg with serial := List.replicate 16 8 } }), runs_of (by decide +kernel), by decide +kernel⟩,
   ⟨(hb 1), (pr fun p => { p with role := .active }), runs_of (by decide +kernel), by decide +kernel⟩,
   ⟨1, pk, sbS, 3, (dropPacket 3 ((countForward 40 sbS).setStrm 3 fun x => { x with lastPort := 1 })), runs_of (by decide +kernel), by decide +kernel, rfl, by decide +kernel⟩,
   ⟨7, ([1,2]), (.register 5 6), (sb id), runs_of (by decide +kernel), nofun, by decide +kernel⟩,
   ⟨4, 134217727, 4095, ([1,2]), (sb fun p => { p with reports := [rp [1], { rp [2] with station := 3 }] }), runs_of (by decide +kernel), by decide +kernel⟩,
   ⟨4, (sb (fun p => { p with reports := [rp (svc.stn 4).bandDigest] })), (rp (svc.stn 4).bandDigest), runs_of (by decide +kernel), by decide +kernel⟩,
   ⟨4, (sb (fun p => { p with reports := [rp [1]], mismatch := 65535 })), (rp [1]), runs_of (by decide +kernel), by decide +kernel⟩,
   ⟨5000, (sb fun p => { p with ofs := -45 }), runs_of (by decide +kernel), by decide +kernel⟩,
   ⟨77, ([1]), ([2]), (pr id), runs_of (by decide +kernel), by decide +kernel⟩,
   ⟨(sb id), runs_of (by decide +kernel), by decide +kernel⟩,
   ⟨({ sb id with saf := { svc.saf with faults := faultS.saf.faults } }), runs_of (by decide +kernel), by decide +kernel⟩,
   ⟨(hc .standby (fun p => { p with joined := true, fit := 31 })), 5, 2, runs_of (by decide +kernel), by decide +kernel⟩,
   ⟨(hc .active (fun p => { p with peerHb := true, peerRole := .standby, peerFit := 31 })), 5, 2, runs_of (by decide +kernel), by decide +kernel⟩,
   ⟨(hc .active id), 5, 2, runs_of (by decide +kernel), by decide +kernel⟩,
   ⟨(List.replicate 16 9), (-1234567), 250, (sb fun p => { p with link := false, unsent := [(1, [], [])] }), runs_of (by decide +kernel), rfl, by decide +kernel⟩,
   ⟨(sb id), runs_of (by decide +kernel), by decide +kernel⟩,
   ⟨svc, runs_of (by decide +kernel), by decide +kernel⟩,
   ⟨6, (sb id), runs_of (by decide +kernel), by decide +kernel⟩,
   ⟨(-5), (sb id), runs_of (by decide +kernel), by decide +kernel⟩,
   ⟨svc, runs_of (by decide +kernel), by decide +kernel⟩,
   ⟨((19 : Fin 20)), (2 ^ 48 - 1), true, (zeros 48), ((sb id).setAxis 19 fun a => { a with pos := 5 }), 7, ([1]), runs_of (by decide +kernel), by decide +kernel⟩,
   ⟨({ sb id with saf := { svc.saf with faults := faultS.saf.faults } }), runs_of (by decide +kernel), by decide +kernel⟩⟩

end PairEvents

/-! ## Commands whose checks need an outcome that the model leaves open -/

theorem applies_of {op : Op} {f : Frame} {s : State}
    (h1 : (isChange op && op != .cmdAbort && s.ready && !s.shs.lateDue && (s.io.hamper f.hamper.val).flights.isEmpty
      && f.seq != 0xFFFFFFFF && decide (f.hamper.val < s.io.hampers.length)
      && (orElse (earlyFault f (takeSlot f.hamper.val s)) (sessionFault (specOf op) f (takeSlot f.hamper.val s))).isNone
      && !sizeBad op (heldFlight op f s).cmd (heldState op f s) && s.led.queue.isEmpty && !ckptDue s
      && s.pwr.resetDue != some 5 && spaceFor .ordinary (recordedState op f s)) = true)
    (h2 : lateFault op (heldFlight op f s).cmd (acceptSeq f (takeSlot f.hamper.val s)) = none)
    (h3 : (specOf op).post (heldFlight op f s).cmd (heldState op f s) = none)
    (h4 : applyFault op (heldFlight op f s).cmd (committedState op f s) = none) : applies op f s = true := by
  simp only [Bool.and_eq_true] at h1
  simp only [applies, passes, h2, h3, h4, Option.isNone_none, Bool.and_eq_true, and_true]
  simp only [and_assoc] at h1 ⊢
  exact h1

/-! FW_ACTIVATE -/
def fwHead : Bytes :=
  ascii "TRLIMG01" ++ [1, 1, 0, 0] ++ le 4 7 ++ le 8 1 ++ le 4 1 ++ zeros 20 ++ sha384 [0xAB] ++ [4] ++ zeros 199
def fwS : State :=
  { wS .vendor 0 with boot := { (wS .vendor 0).boot with
      flash := upd (wS .vendor 0).boot.flash 1 fun _ => [(0, fwHead ++ zeros 3800), (4096, [0xAB])]
      vk := [sha384 ([4] ++ zeros 96)] } }
def fwF : Frame := wF 0 1 (zeros 4)
theorem slotHeader_fw {s : State} (hb : s.boot = fwS.boot) : slotHeader 0 1 s = fwHead ++ zeros 3800 := by
  have hf : s.boot.flash.getD (slotNo 0 1) [] = [(0, fwHead ++ zeros 3800), (4096, [0xAB])] := by rw [hb]; rfl
  have hl : (fwHead ++ zeros 3800).length = 4096 := by decide +kernel
  rw [slotHeader, slotRead, hf]
  generalize fwHead ++ zeros 3800 = b at hl
  apply List.ext_getElem
  · simp [hl]
  · intro i h1 h2
    have h3 : ¬ 4096 ≤ i := by omega
    simp [slotByte, h2, h3]

theorem imageFault_fw {s : State} (hb : s.boot = fwS.boot) (hr : s.reg = fwS.reg)
    (h : Config.ecdsaOk ([4] ++ zeros 96) (sha384 (fwHead.take 200)) (sub fwHead 200 96) = true) : imageFault 0 1 s = 0 := by
  have e := slotHeader_fw hb
  have e2 : slotBody 0 1 s = [0xAB] := by
    rw [slotBody, e, slotRead, hb]; decide +kernel
  have k1 : sub (fwHead ++ zeros 3800) 96 97 = [4] ++ zeros 96 := by decide +kernel
  have k2 : (fwHead ++ zeros 3800).take 200 = fwHead.take 200 := by decide +kernel
  have k3 : sub (fwHead ++ zeros 3800) 200 96 = sub fwHead 200 96 := by decide +kernel
  have k4 : headerOk 0 (fwHead ++ zeros 3800) = true := by decide +kernel
  unfold imageFault
  dsimp only
  rw [e, e2, k1, k2, k3, h, k4]
  unfold State.bootRec
  rw [hb, hr]
  decide +kernel

theorem applies_fw (h : Config.ecdsaOk ([4] ++ zeros 96) (sha384 (fwHead.take 200)) (sub fwHead 200 96) = true) :
    applies .fwActivate fwF fwS = true := by
  have hp : ∀ s' : State, s'.boot = fwS.boot → s'.reg = fwS.reg →
      (specOf .fwActivate).pre (heldFlight .fwActivate fwF fwS).cmd s' = none := by
    intro s' hb hr
    have e : inactiveSlot 0 s' = some 1 := by rw [inactiveSlot, State.bootRec, hb]; decide +kernel
    have ek : imgKind (heldFlight .fwActivate fwF fwS).cmd = 0 := by decide +kernel
    show (match inactiveSlot (imgKind _) s' with | none => _ | some a => _) = none
    rw [ek, e]
    show orElse (failIf (imageFault 0 1 s' != 0) stDeniedState (imageFault 0 1 s')) (failIf ((_ == 1) && _) stDeniedState 0) = none
    rw [imageFault_fw hb hr h]
    rfl
  apply applies_of
  · decide +kernel
  · rw [lateFault, stateFault, hp _ (by decide +kernel) (by decide +kernel)]
    decide +kernel
  · decide +kernel
  · rw [applyFault, stateFault, hp _ (by decide +kernel) (by decide +kernel)]
    decide +kernel

/-! SESSION_OPEN -/
def openF : Frame := { wF 7 0 (wP 68 [(0,2,9),(2,1,1)]) with session := 0, seq := 0 }
def openS : State :=
  { svc with
    io := svc.io.setHamper 7 fun h => { h with nonce := some { value := zeros 32, slot := 15 } }
    boot := { svc.boot with roleKeys := [{ keyId := 9, role := .operator, curve := 1, key := zeros 65 }] } }
def openM : Bytes := ascii "VELOV-OPEN-1" ++ openS.reg.serial ++ zeros 32 ++ [1, 7, 9, 0]
theorem applies_open (h : Config.ecdsaOk (zeros 65) (sha256 openM) (zeros 64) = true) :
    applies .sessionOpen openF openS = true := by
  have hp : ∀ s' : State, s'.boot = openS.boot → s'.reg = openS.reg → (s'.io.hamper 7).nonce = some { value := zeros 32, slot := 15 } →
      (specOf .sessionOpen).post (heldFlight .sessionOpen openF openS).cmd s' = none := by
    intro s' hb hr hn
    have ev : openVerified (heldFlight .sessionOpen openF openS).cmd (zeros 32) s' = true := by
      have ee : enrolled 9 1 s' = some { keyId := 9, role := .operator, curve := 1, key := zeros 65 } := by
        rw [enrolled, hb]; decide +kernel
      have e0 : (heldFlight .sessionOpen openF openS).cmd.u16 0 = 9 := by decide +kernel
      have e1 : (heldFlight .sessionOpen openF openS).cmd.u8 2 = 1 := by decide +kernel
      have e2 : (heldFlight .sessionOpen openF openS).cmd.pl.drop 4 = zeros 64 := by decide +kernel
      have e4 : ascii "VELOV-OPEN-1" ++ openS.reg.serial ++ zeros 32 ++ le 1 1
        ++ le 1 (heldFlight .sessionOpen openF openS).cmd.hamper ++ le 2 9 = openM := by decide +kernel
      unfold openVerified
      dsimp only
      rw [e0, e1, ee, hr, e4]
      dsimp only
      rw [e2, if_pos rfl, h]
    have er : (hamperRoles (heldFlight .sessionOpen openF openS).cmd.hamper).contains
        ((heldFlight .sessionOpen openF openS).cmd.u8 2) = true := by decide +kernel
    have eh : (heldFlight .sessionOpen openF openS).cmd.hamper = 7 := by decide +kernel
    show openCheck (heldFlight .sessionOpen openF openS).cmd s' = none
    unfold openCheck
    rw [er, eh, hn]
    dsimp only
    rw [ev]
    decide +kernel
  apply applies_of
  · decide +kernel
  · decide +kernel
  · exact hp _ (by decide +kernel) (by decide +kernel) (by decide +kernel)
  · have := hp (committedState .sessionOpen openF openS) (by decide +kernel) (by decide +kernel) (by decide +kernel)
    rw [applyFault, this]
    decide +kernel

/-! LEDGER_IDENT -/
theorem certificate_length : certificate.length < 65536 := by
  simp only [certificate, List.length_map, List.length_range]
  exact Nat.mod_lt _ (by decide)
def identF : Frame := wR 0 0 [] 100000
theorem passes_ident : passes .ledgerIdent identF svc = true := by
  have hc := certificate_length
  have hs : sizeBad .ledgerIdent (heldFlight .ledgerIdent identF svc).cmd (heldState .ledgerIdent identF svc) = false := by
    have e1 : (heldFlight .ledgerIdent identF svc).cmd.f.rbuf = true := by decide +kernel
    have e2 : (heldFlight .ledgerIdent identF svc).cmd.f.rbufSize = 100000 := by decide +kernel
    rw [sizeBad, e1, e2]
    show (decide (40 < 112 + certificate.length) && (!true || decide (100000 < 112 + certificate.length))) = false
    simp
    omega
  rw [passes, hs]
  decide +kernel

theorem byteAt_zeros (n i : Nat) : byteAt (zeros n) i = 0 := by
  by_cases h : i < n <;> simp [byteAt, zeros, List.getD, h]
theorem leAt_zeros (n k : Nat) : ∀ i, leAt (zeros n) i k = 0 := by
  induction k with
  | zero => intro i; rfl
  | succ k h => intro i; rw [leAt, h, byteAt_zeros]
theorem ecmFault_zeros (n : Nat) : ecmFault (zeros n) = none := by
  have h : (List.range 6240).find? (fun i => if i < 6144 then ecmBad (u32At (zeros n) (4 * i))
      else decide (63 < byteAt (zeros n) (24576 + (i - 6144)))) = none := by
    rw [List.find?_eq_none]
    intro i _
    rw [u32At, leAt_zeros, byteAt_zeros]
    have : ecmBad 0 = false := by decide
    simp [this]
  unfold ecmFault
  simp only [h]

/-! ECM_LOAD of a bank of zeros -/

def ecmF : Frame := { hamper := 0, flags := 1, length := 24672, target := 4, session := 7, seq := 1, fetch := .bytes [] }
theorem ecm_pl : (heldFlight .ecmLoad ecmF svc).cmd.pl = zeros 24672 := by
  have hl : frameLen ecmF = 24672 := by decide
  have hr : ecmF.ref = true := by decide
  have hf : ecmF.fetch = .bytes [] := rfl
  have hm : (heldFlight .ecmLoad ecmF svc).cmd.pl = framePayload ecmF := rfl
  rw [hm, framePayload, hr, hl, hf, if_pos rfl]
  dsimp only
  rw [fit, List.take_nil, List.nil_append, List.length_nil, Nat.sub_zero]
theorem specOf_ecm : specOf .ecmLoad = ecmLoadSpec := rfl
theorem post_ecm {c : Cmd} {s : State} {n : Nat} (hl : c.pl = zeros n) (h : ecmInUse c.stn s = false) :
    (specOf .ecmLoad).post c s = none := by
  rw [specOf_ecm]
  unfold ecmLoadSpec
  dsimp only
  rw [hl, ecmFault_zeros, h]
  rfl
theorem again_ecm {c : Cmd} {s : State} {n : Nat} {i : Io} {g : Safety} {l : Ledger} (hl : c.pl = zeros n)
    (h : ecmInUse c.stn s = false) (hc : g.ctrl = s.saf.ctrl)
    (hs : (stnTarget 0 c s && s.saf.ctrl.serving && !standbyRefuses .ecmLoad s) = true) :
    applyFault .ecmLoad c (withParts s i g l) = none := by
  simp only [Bool.and_eq_true, Bool.not_eq_true'] at hs
  unfold applyFault stateFault
  rw [post_ecm (s := withParts s i g l) hl h]
  rw [specOf_ecm]
  show orElse (failIf (!stnTarget 0 c s) stBadTarget 0)
    (orElse (orElse (failIf (!CState.serving g.ctrl || standbyRefuses .ecmLoad s) stDeniedState 0) none)
      (orElse none none)) = none
  rw [hs.1.1, hs.2, hc, hs.1.2]
  rfl
theorem space_same (s : State) (i : Io) (q : List Rec) :
    spaceFor .ordinary { s with io := i, led := { s.led with queue := q } } = spaceFor .ordinary s := rfl
theorem applies_ecm : applies .ecmLoad ecmF svc = true := by
  have e3 : ecmInUse (heldFlight .ecmLoad ecmF svc).cmd.stn svc = false := by decide +kernel
  have e5 : spaceFor .ordinary (recordedState .ecmLoad ecmF svc) = true := by
    obtain ⟨hs, ss, he⟩ := recordedState_eq .ecmLoad ecmF svc (by decide) rfl
    rw [he, space_same]
    decide +kernel
  apply applies_of
  · rw [e5]
    decide +kernel
  · decide +kernel
  · exact post_ecm ecm_pl (by decide +kernel)
  · rw [committedState_parts .ecmLoad ecmF svc (by decide) rfl]
    exact again_ecm ecm_pl e3 (committedState_kept .ecmLoad ecmF svc (by decide) rfl).2.2.2.2.1 (by decide +kernel)

/-- ECM_LOAD applies: the premise of its clause of `Obligations.StationChangesTakeEffect`. -/
theorem witness_ecmLoad : applies .ecmLoad ecmF svc = true := applies_ecm

/-- SESSION_OPEN applies, and FW_ACTIVATE applies, where the signature verifies (assumption 13). -/
theorem witness_verified :
    (Config.ecdsaOk (zeros 65) (sha256 openM) (zeros 64) = true → applies .sessionOpen openF openS = true)
    ∧ (Config.ecdsaOk ([4] ++ zeros 96) (sha384 (fwHead.take 200)) (sub fwHead 200 96) = true →
        applies .fwActivate fwF fwS = true) :=
  ⟨applies_open, applies_fw⟩

/-- A packet meets the premises of the clauses of `Obligations.IntakeEvents` on a decrypted packet, whatever the
decryption answers: nothing, or a text of at most 17 bytes (assumption 13). -/
theorem witness_decrypted :
    ∃ (n : Fin 256) (s : State) (k : StreamKey) (port : Nat) (b : Bytes) (rest : List (Nat × Bytes)), Runs s
      ∧ (s.pair.link = false ∧ cryptoNext s = some n.val ∧ n.val < s.itk.streams.length ∧ (s.strm n.val).queue = (port, b) :: rest
        ∧ (s.strm n.val).state = .opened ∧ port < 2 ∧ keyFor (s.strm n.val) (u16At b 4) (u64At b 8) = some k
        ∧ (s.strm n.val).next = none ∧ seqMarked (s.strm n.val) (u64At b 8) = false ∧ byteAt b 0 % 16 = 1
        ∧ s.page n.val (u32At b 16) = none ∧ recordFree s = true ∧ fits n.val (granules (u32At b 28)) s = true)
      ∧ (∀ text : Bytes, text.length ≤ 17 → u32At b 24 + text.length ≤ u32At b 28) := by
  refine ⟨3, IntakeEvents.inQ17, { epoch := 1, salt := zeros 3, key := zeros 32 }, 1, IntakeEvents.data17, [],
    runs_of (by decide +kernel), by decide +kernel, fun text h => ?_⟩
  have e1 : u32At IntakeEvents.data17 24 = 0 := by decide +kernel
  have e2 : u32At IntakeEvents.data17 28 = 17 := by decide +kernel
  omega

/-- LEDGER_IDENT passes with a buffer that holds every certificate. -/
theorem witness_ident : passes .ledgerIdent identF svc = true := passes_ident

def propS : State := { svc with shs := { svc.shs with proposal := some {
  kind := 1, regs := List.replicate 5 (0, 0), ecms := List.replicate 5 [], apcs := [], clamped := false } } }
def resultF : Frame := wR 0 0 [] 4096
theorem freeBits_lt (p : FreeSite) (n i : Nat) (s : State) : freeBits p n i s < 2 ^ n := by
  have h : (0 : Int) < 2 ^ n := Int.pow_pos (by decide)
  have h1 := Int.emod_lt_of_pos (freeVal p i s) h
  have h2 := Int.emod_nonneg (freeVal p i s) (Int.ne_of_gt h)
  simp only [freeBits]
  exact (Int.toNat_lt h2).2 (by rw [Int.natCast_pow]; exact h1)
/-- CAL_RESULT passes with a buffer that holds every proposal. -/
theorem witness_proposal : passes .calResult resultF propS = true := by
  have hc := freeBits_lt .calibration 12 0 (heldState .calResult resultF propS)
  have hs : sizeBad .calResult (heldFlight .calResult resultF propS).cmd (heldState .calResult resultF propS) = false := by
    have e1 : (heldFlight .calResult resultF propS).cmd.f.rbuf = true := by decide +kernel
    have e2 : (heldFlight .calResult resultF propS).cmd.f.rbufSize = 4096 := by decide +kernel
    have e3 : (specOf .calResult).size (heldFlight .calResult resultF propS).cmd (heldState .calResult resultF propS)
      = freeBits .calibration 12 0 (heldState .calResult resultF propS) := rfl
    rw [sizeBad, e1, e2, e3]
    simp
    omega
  rw [passes, hs]
  decide +kernel

/-! ## Premises beyond `applies` and `passes` -/

/-- The premises of the clauses of `Obligations.PowerChangesTakeEffect`. -/
theorem witness_PowerPremises :
    (∃ (f : Frame) (s : State), applies .enginePower f s = true ∧ byteAt f.pay 0 = 1 ∧ s.pwr.seq = .chipOn)
    ∧ (∃ (f : Frame) (s : State), applies .enginePower f s = true ∧ engineThere (byteAt f.pay 0) s = true)
    ∧ (∃ (f : Frame) (s : State), applies .powerControl f s = true ∧ byteAt f.pay 0 ≠ 3 ∧ s.pwr.seq ≠ .chipUp
        ∧ s.pwr.seq ≠ .engineUp)
    ∧ (∃ (f : Frame) (s : State), applies .powerControl f s = true ∧ byteAt f.pay 0 = 3) :=
  ⟨⟨wF 0 0 [1], onS .chipOn, by decide +kernel⟩, ⟨wF 0 0 [1], wC .warm (onS .engineOn), by decide +kernel⟩,
   ⟨wF 0 0 [2], wC .ready (onS .engineOn), by decide +kernel⟩, ⟨wF 0 0 [3], wC .ready (onS .engineOn), by decide +kernel⟩⟩

def abortF : Frame := { hamper := 0, target := 9, session := 7, seq := 2, tag := 3 }
def abortX : Flight := { heldFlight .rimEnum { wF 0 0 [] with tag := 9 } nodeS with stage := .running }
def abortS : State := { nodeS with io := nodeS.io.setHamper 0 fun h => { h with flights := [abortX] } }
/-- A running RIM_ENUM that a CMD_ABORT ends. -/
theorem witness_AbortEndsARunningCommand :
    ∃ (f : Frame) (x : Flight) (s : State), aborts f x s = true ∧ (∀ c k, (specOf x.op).canAbort c k = true)
      ∧ (specOf x.op).abortPosts = true :=
  ⟨abortF, abortX, abortS, by decide +kernel, fun _ _ => rfl, rfl⟩

/-- The premises of `Obligations.LongQueriesComplete`. -/
theorem witness_LongQueriesComplete :
    (∃ (f : Frame) (s : State), passes .prbRead f s = true ∧ (s.prb (f.tgt - 32)).fifo ≠ [] ∧ hasRoom f.hamper.val s = true
      ∧ s.io.windows.wf = true ∧ s.io.host.wf = true)
    ∧ (∃ (f : Frame) (s : State), passes .sessionChallenge f s = true)
    ∧ (∃ (f : Frame) (s : State), passes .nodeRead f s = true)
    ∧ (∃ (f : Frame) (s : State), passes .ledgerRead f s = true ∧ s.io.finals = [])
    ∧ (∃ (f : Frame) (s : State), passes .ledgerSeal f s = true ∧ s.io.finals = [] ∧ s.io.host.wf = true ∧ quietLines s = true
      ∧ (s.io.hamper f.hamper.val).ring.enabled = false ∧ f.evcopy = false) :=
  ⟨⟨wR 0 39 [] 48, svc.setPrb 7 fun p => { p with fifo := List.replicate 2 { time := 1, pos := 2, rising := true, interp := false } },
     by decide +kernel⟩,
   ⟨{ wF 3 0 [] with session := 0, seq := 0 }, svc, by decide +kernel⟩, ⟨wF 0 1023 (wP 8 [(0,1,2),(6,2,4)]), nodeS, by decide +kernel⟩,
   ⟨wR 1 0 (wP 16 [(0,8,1),(8,4,4096)]) 4096, aud, by decide +kernel⟩,
   ⟨{ wR 1 0 [] 176 with flags := 3, length := 32, fetch := .bytes (zeros 32) }, aud, by decide +kernel⟩⟩

/-- A query with a result of more than 40 bytes in its RBUF buffer: the premises of the last clause of `Answers`. -/
theorem witness_AnswerInABuffer :
    ∃ (f : Frame) (s : State), passes .motorGet f s = true ∧ hasRoom f.hamper.val s = true ∧ s.io.windows.wf = true
      ∧ s.io.host.wf = true ∧ quietLines s = true ∧ f.evcopy = false ∧ f.rbuf = true
      ∧ 40 < (((s.motor (chIdx f.tgt)).set).getD (zeros 80)).length
      ∧ (((s.motor (chIdx f.tgt)).set).getD (zeros 80)).length ≤ f.rbufSize :=
  ⟨wR 0 25 [] 80, smS .off, by decide +kernel⟩

/-! ## The hamper unit -/

/-- The premises of `Obligations.OversizedDoorbellIsIgnored`, at the smallest distance. -/
theorem witness_OversizedDoorbellIsIgnored :
    ∃ (n : Fin 8) (v : BitVec 32) (s : State), Runs s ∧ (s.ready = true
      ∧ 64 < (v.toNat % 128 + 128 - (s.io.hamper n.val).ci) % 128 ∧ n.val < s.io.hampers.length) :=
  ⟨7, 65, oper, runs_of (by decide +kernel), by decide +kernel⟩

/-- The premises of `Obligations.EarlyRefusals`: a reserved FLAGS bit, a session that does not exist; a hamper that is
not READY. -/
theorem witness_EarlyRefusals :
    (∃ (c : Instr) (op : Op) (f : Frame) (s : State) (st d : Nat), commandOf c = some (op, f) ∧ (s.ready = true
      ∧ s.shs.lateDue = false ∧ f.hamper.val < s.io.hampers.length ∧ hasRoom f.hamper.val s = true ∧ s.io.windows.wf = true
      ∧ orElse (earlyFault f (takeSlot f.hamper.val s)) (sessionFault (specOf op) f (takeSlot f.hamper.val s)) = some (st, d)))
    ∧ (∃ (c : Instr) (op : Op) (f : Frame) (s : State) (st d : Nat), commandOf c = some (op, f) ∧ (s.ready = true
      ∧ s.shs.lateDue = false ∧ f.hamper.val < s.io.hampers.length ∧ hasRoom f.hamper.val s = true ∧ s.io.windows.wf = true
      ∧ orElse (earlyFault f (takeSlot f.hamper.val s)) (sessionFault (specOf op) f (takeSlot f.hamper.val s)) = some (st, d)))
    ∧ (∃ (c : Instr) (op : Op) (f : Frame) (s : State), commandOf c = some (op, f) ∧ s.ready = false ∧ s.shs.lateDue = false) :=
  ⟨⟨.portSet { wF 0 1 (zeros 32) with flags := 16 }, .portSet, { wF 0 1 (zeros 32) with flags := 16 }, svc, stBadParam, 0, rfl,
     by decide +kernel⟩,
   ⟨.portSet { wF 0 1 (zeros 32) with session := 8 }, .portSet, { wF 0 1 (zeros 32) with session := 8 }, svc, stDeniedRole, 1,
     rfl, by decide +kernel⟩,
   ⟨.portSet (wF 0 1 (zeros 32)), .portSet, wF 0 1 (zeros 32), State.reset, rfl, by decide +kernel⟩⟩

/-- The premises of `Obligations.LateRefusals`: a LENGTH that PORT_SET does not have. -/
theorem witness_LateRefusals :
    ∃ (c : Instr) (op : Op) (f : Frame) (s : State) (st d : Nat), commandOf c = some (op, f) ∧ (s.ready = true
      ∧ s.shs.lateDue = false ∧ f.hamper.val < s.io.hampers.length ∧ hasRoom f.hamper.val s = true ∧ s.io.windows.wf = true
      ∧ f.seq ≠ 0xFFFFFFFF
      ∧ orElse (earlyFault f (takeSlot f.hamper.val s)) (sessionFault (specOf op) f (takeSlot f.hamper.val s)) = none
      ∧ lateFault op (newFlight op f (takeSlot f.hamper.val s)).cmd (acceptSeq f (takeSlot f.hamper.val s)) = some (st, d)) :=
  ⟨.portSet (wF 0 1 (zeros 31)), .portSet, wF 0 1 (zeros 31), svc, stBadLength, 0, rfl, by decide +kernel⟩

/-- The premises of `Obligations.StartRefusals`: an MTU of 0. -/
theorem witness_StartRefusals :
    ∃ (c : Instr) (op : Op) (f : Frame) (s : State) (st d : Nat), commandOf c = some (op, f) ∧ (checked op f s = true
      ∧ hasRoom f.hamper.val s = true ∧ s.io.windows.wf = true
      ∧ (specOf op).post (heldFlight op f s).cmd (heldState op f s) = some (st, d)) :=
  ⟨.portSet (wF 0 1 (zeros 32)), .portSet, wF 0 1 (zeros 32), svc, stBadParam, 4, rfl, by decide +kernel⟩

/-- The premises of `Obligations.OversizedResultsHaveNoEffect`: no buffer, and one of 79 bytes for 80. -/
theorem witness_OversizedResultsHaveNoEffect :
    (∃ (c : Instr) (op : Op) (f : Frame) (s : State), commandOf c = some (op, f) ∧ (checked op f s = true
      ∧ hasRoom f.hamper.val s = true ∧ s.io.windows.wf = true
      ∧ (specOf op).post (heldFlight op f s).cmd (heldState op f s) = none
      ∧ 40 < (specOf op).size (heldFlight op f s).cmd (heldState op f s) ∧ f.rbuf = false))
    ∧ (∃ (c : Instr) (op : Op) (f : Frame) (s : State), commandOf c = some (op, f) ∧ (checked op f s = true
      ∧ hasRoom f.hamper.val s = true ∧ s.io.windows.wf = true
      ∧ (specOf op).post (heldFlight op f s).cmd (heldState op f s) = none
      ∧ 40 < (specOf op).size (heldFlight op f s).cmd (heldState op f s)
      ∧ f.rbufSize < (specOf op).size (heldFlight op f s).cmd (heldState op f s))) :=
  ⟨⟨.motorGet (wF 0 25 []), .motorGet, wF 0 25 [], smS .off, rfl, by decide +kernel⟩,
   ⟨.motorGet (wR 0 25 [] 79), .motorGet, wR 0 25 [] 79, smS .off, rfl, by decide +kernel⟩⟩

/-- The premises of `Obligations.ChangesAreRecordedFirst`. -/
theorem witness_ChangesAreRecordedFirst :
    ∃ (c : Instr) (op : Op) (f : Frame) (s : State), commandOf c = some (op, f) ∧ applies op f s = true :=
  ⟨.loopSp (wF 0 62 (leI 4 (-1))), .loopSp, wF 0 62 (leI 4 (-1)), loS 62 .off, rfl, by decide +kernel⟩

/-- 24 refused writes wait in the recorder's queue. -/
def fullS : State := { svc with led := { svc.led with
  queue := List.replicate 24 (guardRec .refused .svcCmd 1 1 (.host 5) .ordinary .none svc) } }

/-- The commands of `Obligations.LockedWritesAreRefused`, each with its register, value and origin. -/
def locked (c : Instr) (g : Guarded) (v : Nat) (q : BitVec 16) : Prop :=
  (∃ r k x, c = .dmaSetupWrite r k x (.host q) ∧ g = .ring r k ∧ v = x.toNat)
    ∨ (c = .haltReq (.host q) ∧ g = .svcCmd ∧ v = 1)
    ∨ (∃ h, c = .stopReq h (.host q) ∧ g = .svcCmd ∧ v = if h then 3 else 2)
    ∨ (c = .inhForceSet (.host q) ∧ g = .svcInh ∧ v = 1) ∨ (c = .inhForceClear (.host q) ∧ g = .svcInh ∧ v = 0)

/-- The premises of the two clauses of `Obligations.LockedWritesAreRefused`. -/
theorem witness_LockedWritesAreRefused :
    (∃ (c : Instr) (g : Guarded) (v : Nat) (q : BitVec 16) (s : State), Runs s ∧ locked c g v q
      ∧ (s.guard g.block).isOpen = false ∧ capturePlaces s < 24)
    ∧ (∃ (c : Instr) (g : Guarded) (v : Nat) (q : BitVec 16) (s : State), Runs s ∧ locked c g v q
      ∧ (s.guard g.block).isOpen = false ∧ 24 ≤ capturePlaces s) :=
  ⟨⟨.haltReq (.host 5), .svcCmd, 1, 5, svc, runs_of (by decide +kernel), Or.inr (Or.inl ⟨rfl, rfl, rfl⟩), by decide +kernel⟩,
   ⟨.haltReq (.host 5), .svcCmd, 1, 5, fullS, runs_of (by decide +kernel), Or.inr (Or.inl ⟨rfl, rfl, rfl⟩), by decide +kernel⟩⟩

/-- The premise of `Obligations.SessionIdentifiersAreFresh`. -/
theorem witness_SessionIdentifiersAreFresh : ∃ s : State, s.io.usedIds.length + 2 < 2 ^ 32 :=
  ⟨{ svc with io := { svc.io with usedIds := [1, 2, 2 ^ 32 - 1] } }, by decide +kernel⟩

/-! ## Faults and the machine -/

/-- The premises of the clauses of `Obligations.InhibitStopsTheUnits`. -/
theorem witness_InhibitStopsTheUnits :
    (∃ (s : State) (i : Nat), i < 16 ∧ (s.motor i).state ≠ .off ∧ (s.motor i).state ≠ .fault)
    ∧ (∃ (s : State) (i : Nat), i < 20 ∧ (s.axis i).state ≠ .off)
    ∧ (∃ (s : State) (i : Nat) (p : Bytes), i < 64 ∧ (s.loop i).set = some p ∧ lDrives p = true ∧ (s.loop i).state ≠ .off) :=
  ⟨⟨smS .closed, 15, by decide +kernel⟩, ⟨axS .hold, 11, by decide +kernel⟩,
   ⟨(svc.setLoop 60 fun l => { l with set := some (loopFill (putLe (putLe loPay 1 1 2) 5 1 7)), state := .ramp }), 60,
     loopFill (putLe (putLe loPay 1 1 2) 5 1 7), by decide +kernel⟩⟩

/-- The premises of the clauses of `Obligations.FaultClearKeepsWhatPersists`. -/
theorem witness_FaultClearKeepsWhatPersists :
    (∃ s : State, s.saf.ctrl = .halted ∧ ∃ e ∈ (clearFaults s).saf.faults, 3 ≤ e.cls.code)
    ∧ (∃ s : State, s.saf.ctrl = .halted ∧ s.saf.faults ≠ [] ∧ ∀ e ∈ (clearFaults s).saf.faults, e.cls.code < 3)
    ∧ (∃ s : State, s.saf.ctrl = .safe ∧ (clearFaults s).saf.inhForce = true)
    ∧ (∃ s : State, s.saf.ctrl = .safe ∧ ∃ x ∈ (clearFaults s).saf.ilk, x.latch = true) :=
  ⟨⟨stuckS, by decide +kernel⟩,
   ⟨wC .halted { svc with saf := { svc.saf with faults := [{ cls := .halt, line := 236, index := 0, cause := 5, time := 0 }] } },
     by decide +kernel⟩,
   ⟨wC .safe { svc with saf := { svc.saf with inhForce := true } }, by decide +kernel⟩,
   ⟨wC .safe { svc with saf := { svc.saf with ilk := upd svc.saf.ilk 3 fun x => { x with active := true, latch := true } } },
     by decide +kernel⟩⟩

/-- The premises of the statements about a step. -/
theorem witness_Steps :
    (∃ (s : State) (c : Instr) (l : List Instr), s.pending = c :: l) ∧ (∃ s : State, s.pending = [])
    ∧ (∃ (c : Instr) (s t : State), exec c s = .next t) ∧ (∃ s t : State, Machine.Inv s ∧ step s = .next t) :=
  ⟨⟨{ svc with pending := [.pairLinkDown, .ownDrop] }, .pairLinkDown, [.ownDrop], rfl⟩, ⟨State.reset, rfl⟩,
   ⟨.pairLinkDown, State.reset, State.reset, rfl⟩,
   ⟨State.reset, _, by unfold Machine.Inv; decide +kernel, rfl⟩⟩

end Sys2Proof.Tests
end

section
/-!
PROOFS. The rules of a station's update: what a station reads as after an update, how updates of one station compose, and
what a row answers whose whole effect is the update of one station.
-/
namespace Sys2Proof.Machine

/-! ## Replacing one unit of a family -/

/-- Updates that agree on the unit they replace agree. -/
theorem upd_congr {α : Type} (l : List α) (i : Nat) (f g : α → α) (d : α) (h : f (l.getD i d) = g (l.getD i d)) :
    upd l i f = upd l i g := by
  induction l generalizing i with
  | nil => rfl
  | cons x l ih =>
    cases i with
    | zero => simpa [upd] using h
    | succ i => simp [upd, ih i (by simpa using h)]

theorem upd_id {α : Type} (l : List α) (i : Nat) : upd l i (fun x => x) = l := by
  induction l generalizing i with
  | nil => rfl
  | cons x l ih => cases i <;> simp [upd, ih]

/-! ## Replacing one station -/

section
variable {s : State} {i : Nat}

theorem stn_setStn_same (hi : i < s.img.stations.length) (f : Station → Station) :
    (s.setStn i f).stn i = f (s.stn i) := getD_upd_eq _ _ _ hi

@[simp] theorem setStn_stations_length (f : Station → Station) :
    (s.setStn i f).img.stations.length = s.img.stations.length := length_upd _ _ _

@[simp] theorem setStn_setStn (f g : Station → Station) :
    (s.setStn i f).setStn i g = s.setStn i fun x => g (f x) := by
  simp only [State.setStn, upd_upd]

theorem setStn_congr {f g : Station → Station} (h : f (s.stn i) = g (s.stn i)) : s.setStn i f = s.setStn i g := by
  simp only [State.setStn, upd_congr _ i f g {} h]

theorem setStn_eq_self {f : Station → Station} (h : f (s.stn i) = s.stn i) : s.setStn i f = s := by
  exact (setStn_congr (g := fun x => x) h).trans (by simp only [State.setStn, upd_id])

@[simp] theorem stn_withPair (p : Pair) : ({ s with pair := p } : State).stn i = s.stn i := rfl

end

/-! ## Rows that update one station -/

/-- The logic runs and the event leaves no late spoil due: the row answers what the event makes of the state. -/
theorem onChip_of_runs {f : State → State} {s : State} (hs : Runs s) (h : (f s).shs.lateDue = false) :
    onChip f s = .next (f s) := by
  obtain ⟨hreset, -⟩ := hs
  simp [onChip, hreset, lateSpoils_none h]

/-- A row whose event updates station `i` answers a state in which that station alone has changed. -/
theorem onChip_setStn {f : State → State} {s : State} {i : Nat} {g : Station → Station} (hs : Runs s)
    (hi : i < s.img.stations.length) (hf : f s = s.setStn i g) :
    ∃ t, onChip f s = .next t ∧ t = { s with img := { s.img with stations := t.img.stations } }
      ∧ t.stn i = g (s.stn i) := by
  refine ⟨s.setStn i g, ?_, rfl, stn_setStn_same hi g⟩
  rw [onChip_of_runs hs (by rw [hf]; exact hs.2), hf]

/-! ## Counters and lanes -/

theorem satInc_16 (x : Nat) : satInc 16 x = min (x + 1) 65535 := by
  unfold satInc; split <;> omega

/-- A lane that a station updates by the lane alone; an absent lane reads DOWN. -/
theorem getD_map_lanes (l : List Lane) (m : Nat) (f : Lane → Lane) (h : f {} = {}) :
    (l.map f).getD m {} = f (l.getD m {}) := by
  simp only [List.getD_eq_getElem?_getD, List.getElem?_map]
  cases l[m]? with
  | none => exact h.symm
  | some x => rfl

/-- A lane that a station updates by the lane and its number. -/
theorem getD_zipIdx_map_lanes (l : List Lane) {m : Nat} (f : Lane × Nat → Lane) (hm : m < l.length) :
    (l.zipIdx.map f).getD m {} = f (l.getD m {}, m) := by
  simp [hm]

/-- A lane keeps the last 64 control blocks that it has sent. -/
theorem put_sent_length_le (l : Lane) (bs : List (Nat × Nat)) : (l.put bs).sent.length ≤ 64 := by
  simp only [Lane.put, List.length_drop, List.length_append]; omega

/-- The last block sent is the one just put. -/
theorem last_put_singleton (l : Lane) (b : Nat × Nat) : (l.put [b]).last = b := by
  have h : l.sent.length + 1 - 64 ≤ l.sent.length := by omega
  rw [Lane.last, Lane.put, List.length_singleton, List.drop_append_of_le_length h, List.getLastD_concat]

/-- Nothing more is sent on a lane that holds at most 64 blocks. -/
theorem put_nil (l : Lane) (h : l.sent.length ≤ 64) : l.put [] = l := by
  simp only [Lane.put, List.append_nil, List.length_nil, Nat.add_zero, Nat.sub_eq_zero_of_le h, List.drop_zero]

end Sys2Proof.Machine
end

section
/-!
PROOFS. Events of the station pipeline: decoded bands, sweeps and their groups, laser power exchanges (chapters 05 and 07).
-/
namespace Sys2Proof.Machine

/-! ## Decoded bands (R109, R112) -/

section
variable {i : Nat} {s : State} {d : Side} {k : Nat} {ks : List Nat}

/-- A station whose decoder passes the absence mark of band `k` of side `d` (R112, R134). -/
def Station.withAbsent (d : Side) (k cause : Nat) (x : Station) : Station := { x with
  sides := x.sides.map fun y => if y.sheet == d.sheet && y.side == d.side
    then { y with absent := y.absent ++ [(k, cause)], decoding := y.decoding.filter (· != k) } else y
  decCause := cause, decErr := satInc 16 x.decErr, lsAbsent := satAdd 16 x.lsAbsent 64
  slots := putSlots (absentSlots d.sheet d.side k) x.slots }

theorem bandAbsent_eq (cause : Nat) : bandAbsent i d k cause s = s.setStn i (Station.withAbsent d k cause) :=
  setStn_setStn _ _

theorem bandDone_ok {b : Bytes} {syms : List Nat} {cost : Nat}
    (hfind : ((s.stn i).sides.find? fun d => d.decoding != []) = some d) (hk : d.decoding = k :: ks)
    (hb : fetchBand i d k s = some b) (hdec : decodeBand b d.bits d.width = .ok syms cost) :
    bandDone i false s = s.setStn i fun x => { x with
      decBands := (x.decBands + 1) % 2 ^ 32
      slots := putSlots (bandSlots d.sheet d.side k d.width d.profile x.screens syms) x.slots
      sides := x.sides.map fun y => if y.sheet == d.sheet && y.side == d.side
        then { y with decoding := y.decoding.drop 1, peak := max y.peak (bandCost d.width cost) } else y } := by
  simp only [bandDone, hfind, hk, hb, hdec, Bool.false_eq_true, if_false, State.setSide, setStn_setStn]

theorem bandDone_fail {b : Bytes} {c : Nat}
    (hfind : ((s.stn i).sides.find? fun d => d.decoding != []) = some d) (hk : d.decoding = k :: ks)
    (hb : fetchBand i d k s = some b) (hdec : decodeBand b d.bits d.width = .fail c) :
    bandDone i false s = s.setStn i (Station.withAbsent d k c) := by
  simp only [bandDone, hfind, hk, hb, hdec, Bool.false_eq_true, if_false, bandAbsent_eq]

/-- A band that the band store does not hold is reported with the tag of the sweep it was expected in (R12). -/
theorem bandDone_missing
    (hfind : ((s.stn i).sides.find? fun d => d.decoding != []) = some d) (hk : d.decoding = k :: ks)
    (hb : fetchBand i d k s = none) :
    bandDone i false s = s.setStn i fun x => Station.withAbsent d k dcTag { x with
      tagReport := some { expected := workTag i d.sheet d.side k (s.wvr i).sweep, received := none } } := by
  simp only [bandDone, hfind, hk, hb, Bool.false_eq_true, if_false, bandAbsent_eq, reportTag, setStn_setStn]

end

/-! ## Slot groups and the start of a sweep (R159 to R161, R164) -/

section
variable {i : Nat} {s : State} {y : Sweep} {d : Side}

/-- A complete slot group carries the codes of the sweep as they are. -/
theorem sendGroup_complete (hy : (s.stn i).sweep = some y)
    (hd : (s.stn i).sides.head? = some d) (hsent : y.sent = true) (hg : y.groups.length < groupCount d.wa) :
    sendGroup i true s = s.setStn i fun x => { x with sweep := some { y with
      groups := y.groups ++ [groupAll (sideClass x d) y.codes d.tail y.groups.length] } } := by
  have hguard : ¬(y.sent = false ∨ groupCount d.wa ≤ y.groups.length) := fun h =>
    h.elim (fun h => Bool.noConfusion (hsent.symm.trans h)) (Nat.not_le_of_gt hg)
  simp only [sendGroup, hy, Station.side?, hd, if_neg hguard, if_true]
  exact setStn_congr rfl

/-- The first `n` groups of a sweep, as far as it has that many. -/
def firstGroups (x : Station) (d : Side) (codes : List (List Nat)) (n : Nat) : List Bytes :=
  (List.range (min n (groupCount d.wa))).map (groupAll (sideClass x d) codes d.tail)

theorem firstGroups_length (x : Station) (codes : List (List Nat)) {n : Nat} (h : n ≤ groupCount d.wa) :
    (firstGroups x d codes n).length = n := by simp [firstGroups, h]

theorem firstGroups_succ (x : Station) (codes : List (List Nat)) {n : Nat} (h : n < groupCount d.wa) :
    firstGroups x d codes (n + 1) = firstGroups x d codes n ++ [groupAll (sideClass x d) codes d.tail n] := by
  simp only [firstGroups, Nat.min_eq_left (Nat.succ_le_of_lt h), Nat.min_eq_left (Nat.le_of_lt h), List.range_succ, List.map_append,
    List.map_cons, List.map_nil]

theorem firstGroups_succ_of_le (x : Station) (codes : List (List Nat)) {n : Nat} (h : groupCount d.wa ≤ n) :
    firstGroups x d codes (n + 1) = firstGroups x d codes n := by
  simp only [firstGroups, Nat.min_eq_right h, Nat.min_eq_right (Nat.le_succ_of_le h)]

/-- The first groups go out one after another (R161). -/
theorem sendFirstGroups (hi : i < s.img.stations.length) (hy : (s.stn i).sweep = some y)
    (hd : (s.stn i).sides.head? = some d) (hsent : y.sent = true) (hnone : y.groups = []) (n : Nat) :
    (List.range n).foldl (fun s g => if g < groupCount d.wa then sendGroup i true s else s) s
      = s.setStn i fun x => { x with sweep := some { y with groups := firstGroups x d y.codes n } } := by
  induction n with
  | zero =>
    refine (setStn_eq_self ?_).symm
    cases y; subst hnone
    simp [firstGroups, ← hy]
  | succ n ih =>
    rw [List.range_succ, List.foldl_append, ih, List.foldl_cons, List.foldl_nil]
    split
    case isTrue h =>
      have hlen := firstGroups_length (s.stn i) y.codes (Nat.le_of_lt h)
      rw [sendGroup_complete (y := { y with groups := firstGroups (s.stn i) d y.codes n }) (d := d)
        (by rw [stn_setStn_same hi]) (by rw [stn_setStn_same hi]; exact hd) hsent (by simpa only [hlen] using h), setStn_setStn]
      refine setStn_congr ?_
      simp only [hlen, firstGroups_succ _ _ h]
      rfl
    case isFalse h =>
      simp only [firstGroups_succ_of_le _ _ (Nat.le_of_not_lt h)]

/-- The SWEEP_START block of a sweep (R159, R161). -/
def startBlock (i : Nat) (s : State) (y : Sweep) (d : Side) : Nat :=
  sweepStartBlock (s.wvr i).sweep (groupCount d.wa)
    (if byteAt (((s.poly (polyOf i)).set).getD []) 1 = 0 then 0 else i8At (s.wvr i).facets (s.wvr i).facet)
    (s.wvr i).period (y.n == 0)

/-- SWEEP_START carries the low 16 bits of the sweep's work tag (R159). -/
theorem startBlock_mod : startBlock i s y d % 65536 = (s.wvr i).sweep % 65536 := by
  unfold startBlock sweepStartBlock; omega

/-- A station that has sent SWEEP_START of a sweep in which no beam line was clamped. -/
def Station.started (block : Nat) (y : Sweep) (trims : Nat) (tag : Option TagReport) (x : Station) : Station :=
  { sendUp 0x33 block x with
    sweep := some y, clamp := satAdd 16 x.clamp 0, trimSat := satAdd 16 x.trimSat trims, tagReport := tag }

/-- SWEEP_START and the first groups leave; a line whose tag differs may be reported with it (R12, R161). -/
theorem sweepSend_eq {lines : List (List Nat)} {trims : Nat} (hi : i < s.img.stations.length)
    (hy : (s.stn i).sweep = some y) (hd : (s.stn i).sides.head? = some d) (hsent : y.sent = false) (hnone : y.groups = [])
    (hinh : s.saf.inhibit = false) (hlines : sweepLines (s.stn i) d y.n = (lines, [], 0, 0, trims)) :
    ∃ tag, sweepSend i [] s = s.setStn i fun x => x.started (startBlock i s y d) { y with
        sent := true, codes := lines, groups := firstGroups x d lines 3
        causes := if s.shadow || (s.stn i).lanes.all (fun l => l.state == .up) then [] else [0x16] } trims tag := by
  have hguard : ¬(y.sent = true ∨ s.saf.inhibit = true) := by simp [hsent, hinh]
  have groups : ∀ block causes tag f,
      f (s.stn i) = (s.stn i).started block { y with sent := true, codes := lines, causes := causes } trims tag →
      (List.range 3).foldl (fun s g => if g < groupCount d.wa then sendGroup i true s else s) (s.setStn i f)
        = s.setStn i fun x => x.started block { y with
          sent := true, codes := lines, groups := firstGroups x d lines 3, causes := causes } trims tag := by
    intro block causes tag f hf
    rw [sendFirstGroups (y := { y with sent := true, codes := lines, causes := causes }) (d := d) (by simpa using hi)
      (by rw [stn_setStn_same hi, hf]; rfl) (by rw [stn_setStn_same hi, hf]; exact hd) rfl hnone, setStn_setStn]
    exact setStn_congr (by rw [hf]; rfl)
  simp only [sweepSend, hy, Station.side?, hd, hlines, if_neg hguard, underruns, List.range_zero, List.foldl_nil,
    Nat.lt_irrefl, false_and, if_false, List.contains_nil, Bool.not_false]
  split
  · split
    · rw [reportTag, setStn_setStn]
      exact ⟨_, groups _ _ _ _ rfl⟩
    · exact ⟨_, groups _ _ (s.stn i).tagReport _ rfl⟩
  · exact ⟨_, groups _ _ (s.stn i).tagReport _ rfl⟩

/-! ## The end of a sweep (R157, R161, R163, R459) -/

/-- A side after its next sweep, of which `strobed` groups were strobed (R151, R157). -/
def Side.swept (d : Side) (codes : List (List Nat)) (groups : List Bytes) (strobed : Nat) (x : Side) : Side := { x with
  done := d.done + 1, tail := if strobed = 0 then [] else (codes.drop 60).map (cutLine (8 * strobed))
  digest := x.digest ++ (groups.take strobed).flatMap id ++ zeros (384 * (groupCount d.wa - strobed)) }

theorem swept_whole {codes : List (List Nat)} {groups : List Bytes} (hall : groups.length = groupCount d.wa) :
    d.swept codes groups (groupCount d.wa) d = { d with
      done := d.done + 1, tail := if groupCount d.wa = 0 then [] else (codes.drop 60).map (cutLine (8 * groupCount d.wa))
      digest := d.digest ++ groups.flatMap id } := by
  simp only [Side.swept, List.take_of_length_le (Nat.le_of_eq hall), Nat.sub_self, Nat.mul_zero, zeros, List.replicate_zero,
    List.append_nil]

/-- The end of a sweep, not the last one, of a side that is not captured. -/
theorem closeSweep_uncaptured (codes : List (List Nat)) (groups : List Bytes) (strobed : Nat) (bad raw : List Nat)
    (ecc : Bool) (hcap : d.capset = none) (hlast : d.done + 1 ≠ d.bands) :
    closeSweep i d codes groups strobed bad raw ecc s = reportSend i ((d.n0 + d.done) % 2 ^ 27) (s.setStn i fun x => { x with
      sides := x.sides.map fun y => if y.sheet == d.sheet && y.side == d.side then d.swept codes groups strobed y else y
      sweep := none, lastStrobed := strobed, bandDigest := bandDigestOf d i d.done codes }) := by
  simp only [closeSweep, hcap, Option.isSome_none, Bool.false_and, Bool.or_false, Bool.false_eq_true, if_false,
    if_neg hlast, State.setSide, setStn_setStn]
  rfl

theorem reportSend_eq (sweep : Nat) : reportSend i sweep s = { s with
    pair := (if s.pair.role = .active then s.pair.send (.report {
        station := i, sweep := sweep, strobed := (s.stn i).lastStrobed, digest := (s.stn i).bandDigest })
      else s.pair) } := by
  unfold reportSend; dsimp only; split <;> rfl

/-- A station that waits for the status round of its sweep, whose work-tag SWEEP is `sweep` (R163, R168). -/
def Station.judging (y : Sweep) (d : Side) (sweep : Nat) (x : Station) : Station :=
  { x with judged := some { sheet := d.sheet, side := d.side, causes := y.causes, sweep := sweep } }

/-- A sweep whose groups have all gone out ends with every group strobed (R163). -/
theorem sweepEnd_whole (n : Nat) (bad raw : List Nat) (ecc : Bool) (hy : (s.stn i).sweep = some y)
    (hd : (s.stn i).sides.head? = some d) (hsent : y.sent = true) (hstop : y.stop = false)
    (hall : y.groups.length = groupCount d.wa) :
    sweepEnd i n bad raw ecc s = closeSweep i d y.codes y.groups (groupCount d.wa) bad raw ecc
      (s.setStn i fun x => endOnLanes y.groups (groupCount d.wa) (groupCount d.wa) (x.judging y d (s.wvr i).sweep)) := by
  simp only [sweepEnd, finishSweep, hy, Station.side?, hd, hsent, hstop, hall, Bool.true_eq_false, Bool.false_eq_true,
    if_false, if_true, Station.judging]

/-- SWEEP_END of a sweep whose groups were all strobed has ABORT 0 (R163). -/
theorem sweepEndPayload_whole (m : Nat) (groups : List Bytes) (g : Nat) :
    sweepEndPayload m groups g g = crc32 (laneData m groups) + g % 2 ^ 12 * 2 ^ 32 := by
  have habort : b2n (decide (g < g)) = 0 := by rw [decide_eq_false (Nat.lt_irrefl g)]; rfl
  rw [sweepEndPayload, habort, Nat.zero_mul, Nat.add_zero]

theorem waitless_of_wait {l : Lane} (h : l.wait = []) : { l with wait := [] } = l := by
  cases l; cases h; rfl

/-- SWEEP_END is the last block on an UP lane on which nothing has waited for it. -/
theorem endOnLanes_up {x : Station} {m : Nat} (groups : List Bytes) (strobed g : Nat) (hm : m < x.lanes.length)
    (hup : (x.lanes.getD m {}).state = .up) (hwait : (x.lanes.getD m {}).wait = []) :
    (endOnLanes groups strobed g x).lanes.getD m {}
      = (x.lanes.getD m {}).put [(0x66, sweepEndPayload m groups strobed g)] := by
  have hempty : ((x.lanes.getD m {}).put [(0x66, sweepEndPayload m groups strobed g)]).wait = [] := hwait
  rw [endOnLanes, getD_zipIdx_map_lanes _ _ hm]
  simp only [hup, if_true, hempty, put_nil _ (put_sent_length_le _ _)]
  exact waitless_of_wait hempty

end

/-! ## Laser power exchanges (R169 to R171) -/

section
variable {i : Nat} {s : State}

theorem takeApc_none (h : (s.stn i).apcNext = none) : takeApc i s = s :=
  setStn_eq_self (by simp only [h])

theorem takeApc_some {p : Bytes} (h : (s.stn i).apcNext = some p) : takeApc i s = s.setStn i (applyApc p) :=
  setStn_congr (by simp only [h])

/-- A station that has sent APC_MEASURE of its exchange (R169). -/
def Station.apcMeasured (x : Station) : Station := { x with
  apcRuns := true, apcK := (x.apcK + 1) % 16
  lanes := x.lanes.zipIdx.map fun l => if l.1.state = .up ∧ apcT x (16 * l.2 + x.apcK) ≠ 0
    then l.1.put [(0x78, 3 + x.apcK * 2 ^ 8 + x.drive.getD (16 * l.2 + x.apcK) 0 * 2 ^ 12 + 50 * 2 ^ 24)] else l.1 }

/-- In a blanking interval with no lane in LPI and no payload waiting, the exchange runs or is skipped (R169, R170, R173). -/
theorem apcExchange_eq (fits : Bool) (hsweep : (s.stn i).sweep = none) (hnext : (s.stn i).apcNext = none)
    (hlpi : ∀ l ∈ (s.stn i).lanes, l.state ≠ .lpi) :
    apcExchange i fits s = s.setStn i fun x =>
      if fits then x.apcMeasured else { x with apcSkipped := satInc 16 x.apcSkipped } := by
  have hidle : ¬((s.stn i).sweep.isSome = true ∨ ((s.stn i).lanes.any fun l => l.state == .lpi) = true) := by
    simpa [hsweep] using hlpi
  simp only [apcExchange, takeApc_none hnext, ite_self, if_neg hidle]
  cases fits <;> rfl

/-- A payload that has waited comes into force before the exchange, whatever becomes of that (R171). -/
theorem apcExchange_takes {p : Bytes} (fits : Bool) (hjudged : (s.stn i).judged = none)
    (hnext : (s.stn i).apcNext = some p) :
    ∃ g : Station → Station, apcExchange i fits s = s.setStn i g
      ∧ (g (s.stn i)).apc = p ∧ (g (s.stn i)).apcNext = none := by
  simp only [apcExchange, hjudged, Option.isNone_none, if_true, takeApc_some hnext]
  split
  · exact ⟨applyApc p, rfl, rfl, rfl⟩
  · split
    · exact ⟨_, setStn_setStn _ _, rfl, rfl⟩
    · exact ⟨_, setStn_setStn _ _, rfl, rfl⟩

end
end Sys2Proof.Machine
end

section
/-!
PROOFS. The statement about the events of the station pipeline.
-/
namespace Sys2Proof.Machine

/-- Settles O26: each event updates its station alone, by the lemma on its operation; the end of a sweep also reports to
the peer of an ACTIVE. -/
theorem pipelineEvents : Obligations.PipelineEvents := by
  refine ⟨?_, ?_, ?_, ?_, ?_, ?_, ?_, ?_⟩
  · -- a band decodes
    intro i s d k ks b syms cost hs hi hfind hk hb hdec
    exact onChip_setStn hs hi (bandDone_ok hfind hk hb hdec)
  · -- a band fails to decode
    intro i s d k ks b c hs hi hfind hk hb hdec
    obtain ⟨t, ht, hframe, hstn⟩ := onChip_setStn hs hi (bandDone_fail hfind hk hb hdec)
    refine ⟨t, ht, hframe, ?_⟩
    rw [hstn]
    exact ⟨rfl, satInc_16 _, rfl, rfl⟩
  · -- the band store does not hold the band
    intro i s d k ks hs hi hfind hk hb
    obtain ⟨t, ht, hframe, hstn⟩ := onChip_setStn hs hi (bandDone_missing hfind hk hb)
    refine ⟨t, ht, hframe, ?_⟩
    rw [hstn]
    exact ⟨rfl, rfl, satInc_16 _⟩
  · -- a sweep starts
    intro i s y d lines trims hs hi hy hd hsent hnone hinh hlines
    obtain ⟨tag, hsend⟩ := sweepSend_eq hi hy hd hsent hnone hinh hlines
    obtain ⟨t, ht, hframe, hstn⟩ := onChip_setStn hs hi hsend
    have hlane (m : Nat) : t.lane i.val m = if (s.lane i.val m).state = .up
        then (s.lane i.val m).put [(0x33, startBlock i.val s y d)] else s.lane i.val m := by
      rw [State.lane, hstn]
      exact getD_map_lanes _ _ _ rfl
    refine ⟨t, ht, hframe, by rw [hstn]; rfl, ?_, ?_⟩
    · intro m _ hup
      exact ⟨_, by rw [hlane, if_pos hup, last_put_singleton], startBlock_mod⟩
    · intro m _ hup
      rw [hlane, if_neg hup]
  · -- a complete slot group
    intro i s y d hs hi hy hd hsent hg
    exact onChip_setStn hs hi (sendGroup_complete hy hd hsent hg)
  · -- a whole sweep ends
    intro i n bad raw e s y d hs hi hy hsides hsent hstop hall hcap hlast
    have hend := sweepEnd_whole (i := i.val) n bad raw e hy (by rw [hsides]; rfl) hsent hstop hall
    rw [closeSweep_uncaptured _ _ _ _ _ _ hcap hlast, setStn_setStn, reportSend_eq, stn_setStn_same hi] at hend
    have hlate : (sweepEnd i.val n bad raw e s).shs.lateDue = false := by rw [hend]; exact hs.2
    refine ⟨_, (onChip_of_runs hs hlate).trans (congrArg _ hend), rfl, rfl, ?_⟩
    simp only [State.lane, stn_withPair, stn_setStn_same hi, true_and]
    refine ⟨?_, rfl, ?_⟩
    · intro m hm hup hwait
      rw [← sweepEndPayload_whole]
      exact endOnLanes_up (x := (s.stn i.val).judging y d (s.wvr i.val).sweep) _ _ _ hm hup hwait
    · have hsame : (endOnLanes y.groups (groupCount d.wa) (groupCount d.wa)
          ((s.stn i.val).judging y d (s.wvr i.val).sweep)).sides = [d] := hsides
      simp [hsame, swept_whole hall]
  · -- an exchange, run or skipped
    intro i s hs hi hsweep hnext hlpi
    have hrun := apcExchange_eq true hsweep hnext hlpi
    have hskip := apcExchange_eq false hsweep hnext hlpi
    obtain ⟨t, ht, hframe, hstn⟩ := onChip_setStn hs hi hrun
    refine ⟨⟨t, ht, hframe, by rw [hstn]; rfl, by rw [hstn]; rfl, ?_⟩, ?_⟩
    · intro m hm hup hregulated
      have hsend : (s.lane i.val m).state = .up ∧ apcT (s.stn i.val) (16 * m + (s.stn i.val).apcK) ≠ 0 :=
        ⟨hup, hregulated⟩
      rw [State.lane, hstn]
      exact (getD_zipIdx_map_lanes _ _ hm).trans (if_pos hsend)
    · refine (onChip_of_runs hs (by rw [hskip]; exact hs.2)).trans (congrArg _ (hskip.trans ?_))
      simp only [Bool.false_eq_true, if_false, satInc_16]
      rfl
  · -- a payload that has waited
    intro i fits s p hs hi _ hjudged hnext
    obtain ⟨g, hg, hapc, hempty⟩ := apcExchange_takes fits hjudged hnext
    obtain ⟨t, ht, hframe, hstn⟩ := onChip_setStn hs hi hg
    exact ⟨t, ht, hframe, by rw [hstn, hapc], by rw [hstn, hempty]⟩

end Sys2Proof.Machine
end

section
/-!
PROOFS. The statement about the events of the beam link fails: its clause of the IDENT frame does not say that the POLL
answered is none of a status round.
-/
namespace Sys2Proof.Machine

/-- An IDENT POLL that is marked as one of a status round. -/
def roundIdentPoll : Poll := { lane := 0, kind := 2, seq := 0, round := true }

/-- A station whose lane 0 is in IDENT, whose POLL is `roundIdentPoll`, and whose status round judges sweep 1. -/
def roundIdentState : State :=
  { State.reset with
    saf := { State.reset.saf with internalReset := false }
    img := { stations := [{
      lanes := [{ state := .ident }], polls := [roundIdentPoll]
      judged := some { sheet := 0, side := 0, causes := [], sweep := 1 } }] } }

/-- The IDENT frame of a module with 16 beams, MAKER 0 and MODEL 0, without its CRC (R167). -/
def identFields : Bytes := [0xA5, 0, 2, 0, 0, 0, 0, 0, 1, 16] ++ zeros 8

/-- That frame with its CRC. -/
def identAnswer : Bytes := identFields ++ le 2 (crc16 identFields)

/-- The MODEL of the frame is read as the SWEEP of a STATUS frame; it differs from the sweep judged, so the frame counts as
absent and the lane stays in IDENT (R12, R167). -/
theorem frameRx_roundIdent_lane : ((frameRx 0 identAnswer roundIdentState).lane 0 0).state = .ident := by
  decide +kernel

/-- Refutes O27: the clause of the IDENT frame lacks the premise `p.round = false`. In `roundIdentState`, which meets its
premises, the frame counts as one of another sweep and the lane does not go to CONFIG. -/
theorem not_linkEvents : ¬ Obligations.LinkEvents := by
  intro h
  obtain ⟨-, -, -, hident, -⟩ := h
  have hs : Runs roundIdentState := ⟨rfl, rfl⟩
  have hvalid : frameValid 0 roundIdentPoll identAnswer = true := by decide +kernel
  obtain ⟨t, ht, -, hconfig, -⟩ := hident 0 identAnswer roundIdentState roundIdentPoll [] hs (by decide) rfl hvalid rfl
    (by decide) rfl rfl rfl
  have hrx : onChip (frameRx 0 identAnswer) roundIdentState = .next (frameRx 0 identAnswer roundIdentState) :=
    onChip_of_runs hs (by decide +kernel)
  have htx : t = frameRx 0 identAnswer roundIdentState := Host.Outcome.next.inj (ht.symm.trans hrx)
  have hstays : (t.lane 0 0).state = .ident := htx ▸ frameRx_roundIdent_lane
  exact absurd (hstays.symm.trans hconfig) (by decide)

end Sys2Proof.Machine
end

section
/-!
PROOFS. The rules of raster intake's updates: what a stream, a port and a page read as after an update (chapter 04).
-/
namespace Sys2Proof.Machine

theorem satInc_32 (x : Nat) : satInc 32 x = min (x + 1) (2 ^ 32 - 1) := by
  unfold satInc; split <;> omega

/-! ## Replacing one stream or port -/

section
variable {s : State} {n : Nat}

theorem strm_setStrm_same (hn : n < s.itk.streams.length) (f : Stream → Stream) :
    (s.setStrm n f).strm n = f (s.strm n) := getD_upd_eq _ _ _ hn

/-- A number beyond the streams reads as a CLOSED stream. -/
theorem strm_closed_of_le (hn : s.itk.streams.length ≤ n) : (s.strm n).state = .closed := by
  rw [State.strm, List.getD_eq_getElem?_getD, List.getElem?_eq_none hn]; rfl

@[simp] theorem setStrm_setStrm (f g : Stream → Stream) :
    (s.setStrm n f).setStrm n g = s.setStrm n fun x => g (f x) := by
  simp only [State.setStrm, upd_upd]

theorem setStrm_congr {f g : Stream → Stream} (h : f (s.strm n) = g (s.strm n)) : s.setStrm n f = s.setStrm n g := by
  simp only [State.setStrm, upd_congr _ n f g {} h]

theorem port_setPort_same (hn : n < s.itk.ports.length) (f : Port → Port) : (s.setPort n f).port n = f (s.port n) :=
  getD_upd_eq _ _ _ hn

@[simp] theorem strm_setPort_setStrm (m : Nat) (f : Stream → Stream) (g : Port → Port) :
    ((s.setPort m g).setStrm n f).strm n = (s.setStrm n f).strm n := rfl

/-- A stream that is replaced and then enters another state: EV241 follows (R98). -/
theorem streamState_setStrm {f : Stream → Stream} {st : StrState} (hf : (f (s.strm n)).state ≠ st)
    (hn : n < s.itk.streams.length ∨ (s.strm n).state ≠ st) :
    streamState n st (s.setStrm n f)
      = (s.setStrm n fun x => { f x with state := st }).pulse 241 (n + st.code * 2 ^ 8) := by
  have hstate : ((s.setStrm n f).strm n).state ≠ st := by
    rcases Nat.lt_or_ge n s.itk.streams.length with h | h
    · rwa [strm_setStrm_same h]
    · have hsame : (s.setStrm n f).strm n = s.strm n := by
        rw [State.setStrm, State.strm, getD_upd, if_neg (by omega)]; rfl
      rw [hsame]
      exact hn.resolve_left (by omega)
  rw [streamState, if_neg hstate, setStrm_setStrm]

/-- A stream enters another state. -/
theorem streamState_of_ne {st : StrState} (h : (s.strm n).state ≠ st) :
    streamState n st s = (s.setStrm n fun x => { x with state := st }).pulse 241 (n + st.code * 2 ^ 8) := by
  rw [streamState, if_neg h]

end

/-! ## Replacing one page -/

/-- The first entry that meets a test, after each such entry was replaced by one that meets it too. -/
theorem find?_map_replace {α : Type} (q : α → Bool) (f : α → α) (hf : ∀ x, q x = true → q (f x) = true) (l : List α) :
    (l.map fun x => if q x then f x else x).find? q = (l.find? q).map f := by
  induction l with
  | nil => rfl
  | cons x l ih =>
    by_cases hx : q x = true
    · simp [hx, hf x hx]
    · simp [hx, ih]

section
variable {s t : State} {st id : Nat}

/-- What a page reads as after it was replaced by one of the same stream and PAGE_ID. -/
theorem page_setPage_same {f : Page → Page} (hf : ∀ p, (f p).stream = p.stream ∧ (f p).id = p.id) :
    (s.setPage st id f).page st id = (s.page st id).map f := by
  refine find?_map_replace (fun p => p.stream == st && p.id == id) f (fun p hp => ?_) s.itk.pages
  simpa [(hf p).1, (hf p).2] using hp

theorem page_congr (h : t.itk = s.itk) : t.page st id = s.page st id := by
  rw [State.page, h]; rfl

@[simp] theorem page_pageEvent (st' id' state reason : Nat) :
    (pageEvent st' id' state reason s).page st id = s.page st id := rfl

/-- A page that the band store does not hold yet is appended and then replaced. -/
theorem setPage_append {p : Page} (f : Page → Page) (hnone : s.page st id = none) (hp : p.stream = st ∧ p.id = id) :
    ({ s with itk := { s.itk with pages := s.itk.pages ++ [p] } } : State).setPage st id f
      = { s with itk := { s.itk with pages := s.itk.pages ++ [f p] } } := by
  have hother : ∀ q ∈ s.itk.pages, ¬(q.stream == st && q.id == id) = true := by
    simpa [State.page] using hnone
  have hmap : (s.itk.pages.map fun q => if q.stream == st && q.id == id then f q else q) = s.itk.pages :=
    (List.map_congr_left fun q hq => if_neg (hother q hq)).trans (List.map_id' _)
  simp only [State.setPage, List.map_append, hmap, List.map_cons, List.map_nil, hp.1, hp.2, beq_self_eq_true, Bool.and_self,
    if_true]

end

end Sys2Proof.Machine
end

section
/-!
PROOFS. The statement about the changes of raster intake.
-/
namespace Sys2Proof.Machine

/-- The stream that STREAM_OPEN leaves (R101). -/
def openedStream (f : Frame) (x : Stream) : Stream := {
  state := .opened, pcie := byteAt f.pay 0 == 1, ports := byteAt f.pay 1, peerUdp := u16At f.pay 2
  weight := byteAt f.pay 4, quota := u32At f.pay 8, peer := sub f.pay 12 16
  cur := some { epoch := u16At f.pay 28, salt := sub f.pay 30 3, key := sub f.pay 48 32 }
  authFail := x.authFail, dropped := x.dropped, dupFrag := x.dupFrag, vtime := x.vtime }

/-- STREAM_OPEN replaces its stream, whose state is reported on EV241. -/
theorem streamOpen_effect (f : Frame) (s : State) :
    EffectIs f.hamper.val ((specOf .streamOpen).eff (heldFlight .streamOpen f s).cmd) s
      (s.setStrm f.tgt (openedStream f)) := by
  refine .io fun i g l _ => ?_
  have hrange : f.tgt < s.itk.streams.length ∨ ((withParts s i g l).strm f.tgt).state ≠ .opened := by
    refine (Nat.lt_or_ge f.tgt s.itk.streams.length).imp id fun h => ?_
    show (s.strm f.tgt).state ≠ .opened
    rw [strm_closed_of_le h]; decide
  exact ⟨_, streamState_setStrm (s := withParts s i g l) (n := f.tgt)
    (f := fun x => { openedStream f x with state := .closed })
    (show StrState.closed ≠ .opened by decide) hrange, .pulse _ _ _ _⟩

/-- The stream that STREAM_CLOSE leaves (R81). -/
def closedStream (x : Stream) : Stream := { x with
  state := .closed, cur := none, next := none, old := none, queue := [], gaps := [], reports := [], ackDue := false }

/-- What STREAM_CLOSE leaves of the pages (R94, R95). -/
def closePages (n : Nat) (s : State) : State :=
  { s with itk := { s.itk with pages := s.itk.pages.map (closePage n fun st id => pageNeeded st id s) } }

/-- STREAM_CLOSE of a stream that is CLOSED changes nothing; any other gives up its keys and its pages that are not
COMPLETE, and its state is reported on EV241. -/
theorem streamClose_effect (f : Frame) (s : State) :
    EffectIs f.hamper.val ((specOf .streamClose).eff (heldFlight .streamClose f s).cmd) s
      (if (s.strm f.tgt).state = .closed then s else (closePages f.tgt s).setStrm f.tgt closedStream) := by
  by_cases hclosed : (s.strm f.tgt).state = .closed
  · rw [if_pos hclosed]
    exact .rfl fun i g l => if_pos hclosed
  · rw [if_neg hclosed]
    refine .io fun i g l _ => ?_
    exact ⟨_, (if_neg hclosed).trans (streamState_setStrm (s := closePages f.tgt (withParts s i g l)) (n := f.tgt)
      (f := fun x => { closedStream x with state := x.state }) hclosed (.inr hclosed)), .pulse _ _ _ _⟩

/-- Settles O1: each change has the effect of its clause outside the host interface; STREAM_OPEN and STREAM_CLOSE also
report the stream's state. -/
theorem intakeChangesTakeEffect : Obligations.IntakeChangesTakeEffect := by
  refine ⟨?portSet, ?streamOpen, ?streamRekey, ?streamClose, ?pageRelease⟩
  case portSet | streamRekey | pageRelease =>
    exact sets_of (fun _ _ => rfl) (fun _ _ _ => .rfl fun _ _ _ => rfl) (fun _ _ => .inl rfl) fun _ _ => .inl rfl
  case streamOpen =>
    exact sets_of (fun _ _ => rfl) (fun f s _ => streamOpen_effect f s) (fun _ _ => .inl rfl) fun _ _ => .inl rfl
  case streamClose =>
    refine sets_of (fun _ _ => rfl) (fun f s _ => streamClose_effect f s) (fun f s => .inl ?_) fun f s => .inl ?_
    · split <;> rfl
    · split <;> rfl

end Sys2Proof.Machine
end

section
/-!
PROOFS. The statement about the queries of faults, ledger, intake and sheets.
-/
namespace Sys2Proof.Machine

/-- TARGET of a JOB_STATUS that passes its checks names a job (R40). -/
theorem job_of_passes {f : Frame} {s : State} (h : passes .jobStatus f s = true) : (s.job f.tgt).isSome = true := by
  obtain ⟨-, -, -, hseq, -, -, hlate, -⟩ := (passes_iff _ _ _).1 h
  obtain ⟨l, hl⟩ := acceptSeq_rest f (takeSlot f.hamper.val s) hseq
  simp only [lateFault, orElse_none, hl] at hlate
  obtain ⟨-, -, -, htarget, -⟩ := hlate
  have hjob : failIf (!(s.job f.tgt).isSome) stBadTarget 0 = none := htarget
  cases hsome : (s.job f.tgt).isSome with
  | true => rfl
  | false => simp [hsome, failIf] at hjob

/-- Settles O15: no result depends on the host interface, and none of these queries has an effect; a JOB_STATUS names a
job that exists. -/
theorem hostAndSheetQueriesAnswer : Obligations.HostAndSheetQueriesAnswer := by
  refine ⟨?faultList, ?ledgerStatus, ?ledgerIdent, ?streamStatus, ?pageStatus, fun f s => job_of_passes, ?jobStatus,
    ?sheetGet, ?launchStatus, ?calResult⟩
  case faultList | ledgerStatus | ledgerIdent | streamStatus | launchStatus =>
    exact answers_of (fun _ _ => rfl) rfl (fun _ _ _ _ => rfl) fun _ _ => rfl
  case pageStatus =>
    refine answers_of (fun _ _ => rfl) rfl (fun f s _ io => ?_) fun _ _ => rfl
    show (match s.page f.tgt (u32At f.pay 0) with | some p => ansResult (stagingReport p) | none => ansDone) = _
    cases s.page f.tgt (u32At f.pay 0) <;> rfl
  case jobStatus =>
    refine answers_of (fun _ _ => rfl) rfl (fun f s _ io => ?_) fun _ _ => rfl
    show (match s.job f.tgt with | none => ansDone | some j => _) = _
    cases s.job f.tgt <;> rfl
  case sheetGet =>
    refine answers_of (fun _ _ => rfl) rfl (fun f s _ io => ?_) fun _ _ => rfl
    show (match s.sheet f.tgt with | none => ansDone | some x => ansResult (sheetRecord x)) = _
    cases s.sheet f.tgt <;> rfl
  case calResult =>
    refine answers_of (fun _ _ => rfl) rfl (fun f s _ io => ?_) fun _ _ => rfl
    show (if s.shs.proposal.isSome then ansResult (freeBytes .calibration (freeBits .calibration 12 0 s) 1 s)
      else ansResult []) = _
    split <;> rfl

end Sys2Proof.Machine
end

section
/-!
PROOFS. Events of raster intake: received packets, packets authenticated and applied, ACK and NACK (chapter 04).
-/
namespace Sys2Proof.Machine

/-! ## Packets received (R83) -/

section
variable {s : State} {n port : Nat} {b : Bytes} {rest : List (Nat × Bytes)}

/-- A packet that passes steps 1 to 5 of the inbound-packet table waits in its stream's queue (R83, R96). -/
theorem trtReceive_queued {src : Bytes} {udp : Nat} (hport : port ≠ 2) (hwf : trtWellFormed b = true)
    (hopen : (s.strm (u16At b 2)).state = .opened) (hpcie : (s.strm (u16At b 2)).pcie = false)
    (hpeer : (s.strm (u16At b 2)).peer = src ∧ (s.strm (u16At b 2)).peerUdp = udp
      ∧ bit (s.strm (u16At b 2)).ports port = true)
    (hkey : (keyFor (s.strm (u16At b 2)) (u16At b 4) (u64At b 8)).isSome = true)
    (hseq : seqMarked (s.strm (u16At b 2)) (u64At b 8) = false ∧ u64At b 8 ≤ (s.strm (u16At b 2)).low + 1023)
    (hroom : (s.strm (u16At b 2)).queue.length < 64) :
    trtReceive port src udp b s = s.setStrm (u16At b 2) fun x => { x with
      queue := x.queue ++ [(port, b)], vtime := if x.queue = [] then max x.vtime (minActive s) else x.vtime } := by
  obtain ⟨hsrc, hudp, hbit⟩ := hpeer
  obtain ⟨hfresh, hwindow⟩ := hseq
  have hkeep : ¬((s.strm (u16At b 2)).state = .broken
      ∨ (keyFor (s.strm (u16At b 2)) (u16At b 4) (u64At b 8)).isNone = true
      ∨ seqMarked (s.strm (u16At b 2)) (u64At b 8) = true ∨ (s.strm (u16At b 2)).low + 1023 < u64At b 8
      ∨ 64 ≤ (s.strm (u16At b 2)).queue.length) := by
    simp only [hopen, hfresh, Option.isNone_eq_false_iff.2 hkey, reduceCtorEq, Bool.false_eq_true, false_or]
    omega
  have hmatched : ((s.strm (u16At b 2)).state != .closed && (s.strm (u16At b 2)).pcie == (port == 2)
      && (port == 2 || ((s.strm (u16At b 2)).peer == src && (s.strm (u16At b 2)).peerUdp == udp
        && bit (s.strm (u16At b 2)).ports port))) = true := by
    simp [hopen, hpcie, hsrc, hudp, hbit, hport]
  simp only [trtReceive, hwf, hmatched, if_neg hkeep, Bool.not_true, Bool.false_eq_true, if_false]

/-! ## Packets authenticated (R81, R83) -/

/-- A stream whose oldest packet, from port `port`, has been authenticated (R83, R96). -/
def Stream.decrypted (len port : Nat) (rest : List (Nat × Bytes)) (x : Stream) : Stream :=
  { chargeStream len x with queue := rest, lastPort := if port < 2 then port else x.lastPort }

/-- A packet whose tag fails is charged to its stream and counted (R83). -/
theorem trtDecrypt_failed {k : StreamKey} (hqueue : (s.strm n).queue = (port, b) :: rest)
    (hopen : (s.strm n).state = .opened) (hkey : keyFor (s.strm n) (u16At b 4) (u64At b 8) = some k)
    (htag : Config.gcmOpen k.key (trtNonce false k (u64At b 8)) (b.take 32) (b.drop 32) = none) :
    trtDecrypt n s = (s.setStrm n fun x =>
      { chargeStream (u16At b 6) x with queue := rest, authFail := satInc 32 x.authFail }, none) := by
  simp only [trtDecrypt, hqueue, hopen, hkey, htag, ne_eq, not_true_eq_false, if_false, setStrm_setStrm]
  rfl

/-- A packet that is authenticated while no next key waits is applied (R83). -/
theorem trtDecrypt_authentic {k : StreamKey} {text : Bytes} (hn : n < s.itk.streams.length)
    (hqueue : (s.strm n).queue = (port, b) :: rest) (hopen : (s.strm n).state = .opened)
    (hkey : keyFor (s.strm n) (u16At b 4) (u64At b 8) = some k) (hnext : (s.strm n).next = none)
    (htag : Config.gcmOpen k.key (trtNonce false k (u64At b 8)) (b.take 32) (b.drop 32) = some text)
    (hfresh : seqMarked (s.strm n) (u64At b 8) = false) :
    trtDecrypt n s = (trtApply n b text (s.setStrm n (Stream.decrypted (u16At b 6) port rest)), some (b, text)) := by
  have hfresh' : seqMarked ((s.setStrm n (Stream.decrypted (u16At b 6) port rest)).strm n) (u64At b 8) = false := by
    rw [strm_setStrm_same hn]; exact hfresh
  have hswitch : ∀ g : Stream → Stream, g (s.strm n) = Stream.decrypted (u16At b 6) port rest (s.strm n) →
      s.setStrm n g = s.setStrm n (Stream.decrypted (u16At b 6) port rest) := fun g hg => setStrm_congr hg
  simp only [trtDecrypt, hqueue, hopen, hkey, htag, ne_eq, not_true_eq_false, if_false, setStrm_setStrm]
  rw [hswitch _ (by simp only [Stream.decrypted, chargeStream, hnext]; cases (s.strm n).cur <;> rfl), hfresh']
  rfl

/-! ## Pages (R90, R93) -/

/-- The page that the first fragment of its first band starts (R90, R92). -/
def firstBand (n : Nat) (b text : Bytes) (s : State) : Page := {
  stream := n, id := u32At b 16
  bands := [{ station := byteAt b 20 % 8, side := byteAt b 20 / 8, band := u16At b 22, len := u32At b 28
              units := fragUnits (text.length + 1) (u32At b 24 / 64) text
              grans := pickGranules (granules (u32At b 28)) s }] }

/-- DATA for a page that the store does not hold: its record and its band are made where they fit, and the page is
RECEIVING (R90, R93). -/
theorem trtApply_firstBand {text : Bytes} (hdata : byteAt b 0 % 16 = 1) (hnone : s.page n (u32At b 16) = none)
    (hrecord : recordFree s = true) (hfits : fits n (granules (u32At b 28)) s = true)
    (hlen : u32At b 24 + text.length ≤ u32At b 28) :
    trtApply n b text s = (pageEvent n (u32At b 16) 1 0 { advanceFree s with itk := { s.itk with
      pages := s.itk.pages ++ [firstBand n b text s] } }).setStrm n (markSeq (u64At b 8)) := by
  have happend := fun f : Page → Page => setPage_append (s := advanceFree s)
    (p := { stream := n, id := u32At b 16 }) f hnone ⟨rfl, rfl⟩
  have hpage : ({ advanceFree s with itk := { s.itk with
      pages := s.itk.pages ++ [{ stream := n, id := u32At b 16 }] } } : State).page n (u32At b 16)
        = some { stream := n, id := u32At b 16 } := by
    have hnone' : s.itk.pages.find? (fun p => p.stream == n && p.id == u32At b 16) = none := hnone
    simp [State.page, List.find?_append, hnone']
  have hband := happend fun p => { p with bands := p.bands ++ (firstBand n b text s).bands }
  have happly : applyData n (u32At b 16) (byteAt b 20 % 8) (byteAt b 20 / 8) (u16At b 22) (u32At b 24) (u32At b 28) text s
      = some (pageEvent n (u32At b 16) 1 0 { advanceFree s with itk := { s.itk with
        pages := s.itk.pages ++ [firstBand n b text s] } }) := by
    simp only [applyData, hnone, hrecord, hfits, Bool.and_self, if_true, page_pageEvent, hpage, List.find?_nil,
      if_neg (Nat.not_lt.2 hlen)]
    exact congrArg (fun a => some (pageEvent n (u32At b 16) 1 0 a)) hband
  simp only [trtApply, hdata, happly, Nat.reduceEqDiff, if_false]

/-- What a stream's quota lets a reservation take does not depend on its queue, its keys or its counters (R93). -/
theorem fits_setStrm {g : Nat} {f : Stream → Stream} (hn : n < s.itk.streams.length)
    (hquota : (f (s.strm n)).quota = (s.strm n).quota) : fits n g (s.setStrm n f) = fits n g s := by
  simp only [fits, strm_setStrm_same hn, hquota]
  rfl

/-! ## The window of a stream (R82) -/

/-- L advances over marked SEQs: each SEQ that was marked or below the window still is. -/
theorem advanceLow_eq (k : Nat) (x : Stream) : ∃ low marks, advanceLow k x = { x with low := low, marks := marks }
    ∧ ∀ q, seqMarked x q = true → seqMarked (advanceLow k x) q = true := by
  induction k generalizing x with
  | zero => exact ⟨x.low, x.marks, rfl, fun _ h => h⟩
  | succ k ih =>
    rw [advanceLow]
    split
    · obtain ⟨low, marks, heq, hkept⟩ := ih { x with low := x.low + 1, marks := x.marks.filter (· != x.low) }
      refine ⟨low, marks, heq, fun q hq => hkept q ?_⟩
      simp only [seqMarked, Bool.or_eq_true, decide_eq_true_eq, List.contains_iff_mem, List.mem_filter, bne_iff_ne] at hq ⊢
      rcases hq with hbelow | hmark
      · exact .inl (by omega)
      · by_cases hlow : q = x.low
        · exact .inl (by omega)
        · exact .inr ⟨hmark, hlow⟩
    · exact ⟨x.low, x.marks, rfl, fun _ h => h⟩

/-- A SEQ that is marked changes the window, the gaps, the former key and what the next ACK reports, and nothing else of
its stream. -/
theorem markSeq_eq (seq : Nat) (x : Stream) : ∃ low marks old,
    markSeq seq x = { x with
      low := low, marks := marks, old := old, high := max x.high seq, ackDue := true
      gaps := x.gaps.filter fun g => g.seq != seq }
    ∧ seqMarked (markSeq seq x) seq = true := by
  obtain ⟨low, marks, heq, hkept⟩ := advanceLow_eq (x.marks.length + 1) { x with
    marks := seq :: x.marks, high := max x.high seq, ackDue := true, gaps := x.gaps.filter fun g => g.seq != seq }
  have hmarked := hkept seq (by simp [seqMarked])
  simp only [markSeq]
  rw [heq] at hmarked ⊢
  exact ⟨low, marks, _, rfl, hmarked⟩

/-! ## ACK and NACK (R85, R86) -/

/-- The header of an outbound packet (R79, R80). -/
def trtHead (n ty : Nat) (k : StreamKey) (seq len time : Nat) : Bytes :=
  le 1 (16 + ty) ++ le 1 0 ++ le 2 n ++ le 2 k.epoch ++ le 2 len ++ le 8 seq ++ le 8 time ++ zeros 8

theorem trtHead_length (ty : Nat) (k : StreamKey) (seq len time : Nat) : (trtHead n ty k seq len time).length = 32 := by
  simp only [trtHead, List.length_append, le_length, zeros, List.length_replicate]

/-- A packet leaves through the stream's last port and takes the next outbound SEQ (R80, R86). -/
theorem sendTrt_eq {k : StreamKey} (ty : Nat) (payload : Bytes) (hcur : (s.strm n).cur = some k) :
    sendTrt n ty payload s = (s.setPort (s.strm n).lastPort fun p => { p with
        sent := trtHead n ty k (s.strm n).outSeq payload.length s.io.time ++ Config.gcmSeal k.key
          (trtNonce true k (s.strm n).outSeq) (trtHead n ty k (s.strm n).outSeq payload.length s.io.time) payload }).setStrm n
      fun x => { x with outSeq := x.outSeq + 1 } := by
  simp only [sendTrt, hcur]
  rfl

/-- The payload of an ACK (R86). -/
def ackPayload (n : Nat) (s : State) : Bytes :=
  le 8 ((s.strm n).low - 1) ++ le 8 (credit n s) ++ le 8 (s.strm n).high ++ le 1 ((s.strm n).reports.take 8).length ++ zeros 7
    ++ fit 64 (((s.strm n).reports.take 8).flatMap fun r => le 4 r.page ++ le 1 r.state ++ le 1 r.reason ++ zeros 2)

theorem ackPayload_length : (ackPayload n s).length = 96 := by
  simp only [ackPayload, List.length_append, le_length, fit_length, zeros, List.length_replicate]

theorem ackPayload_take : (ackPayload n s).take 24
    = le 8 ((s.strm n).low - 1) ++ le 8 (credit n s) ++ le 8 (s.strm n).high := by
  have hlen : 24 = (le 8 ((s.strm n).low - 1) ++ le 8 (credit n s) ++ le 8 (s.strm n).high).length := by
    simp only [List.length_append, le_length]
  simp only [ackPayload, List.append_assoc] at hlen ⊢
  rw [hlen]
  simp only [← List.append_assoc]
  exact List.take_left' rfl

/-- An ACK that is due leaves (R86). -/
theorem ackSend_eq (hstate : (s.strm n).state ≠ .closed) (hpcie : (s.strm n).pcie = false)
    (hdue : (s.strm n).ackDue = true) (hanswer : mayAnswer n s = true) :
    ackSend n s = (sendTrt n 8 (ackPayload n s) s).setStrm n fun x => { x with
      ackDue := false, reports := x.reports.drop 8 } := by
  simp only [ackSend, hstate, hpcie, hdue, hanswer]
  rfl

/-- A stream whose gaps `due` have been requested once more (R85). -/
def Stream.requested (due : List Nat) (x : Stream) : Stream := { x with
  gaps := (x.gaps.filter fun g => !due.contains g.seq)
    ++ due.map fun q => { seq := q, requests := gapRequests x q + 1 } }

/-- Each gap that is requested counts one more request. -/
theorem gapRequests_requested {due : List Nat} {q : Nat} (x : Stream) (hq : q ∈ due) :
    gapRequests (x.requested due) q = gapRequests x q + 1 := by
  have hearlier : (x.gaps.filter fun g => !due.contains g.seq).find? (fun g => g.seq == q) = none := by
    rw [List.find?_eq_none]
    intro g hg heq
    have hout : g.seq ∉ due := by simpa using (List.mem_filter.1 hg).2
    exact hout (by rwa [eq_of_beq heq])
  have hfound : due.find? (fun a => a == q) = some q := by
    cases hfind : due.find? (fun a => a == q) with
    | none => exact absurd (List.find?_eq_none.1 hfind q hq) (by simp)
    | some a => rw [show a = q by simpa using List.find?_some hfind]
  have hnew : (due.map fun a => ({ seq := a, requests := gapRequests x a + 1 } : Gap)).find? (fun g => g.seq == q)
      = some { seq := q, requests := gapRequests x q + 1 } := by
    rw [List.find?_map]
    exact congrArg (Option.map _) hfound
  rw [gapRequests, Stream.requested, List.find?_append, hearlier, hnew]
  rfl

/-- Gaps that are due and within their limit are requested in one NACK, which takes the next outbound SEQ (R85). -/
theorem nackDue_eq {k : StreamKey} {seqs : List Nat} (hopen : (s.strm n).state = .opened)
    (hpcie : (s.strm n).pcie = false) (hcur : (s.strm n).cur = some k) (hanswer : mayAnswer n s = true)
    (hdue : seqs.filter (isGap (s.strm n)) ≠ [])
    (hlimit : ∀ q ∈ seqs.filter (isGap (s.strm n)), gapRequests (s.strm n) q < s.boot.settings.getD 6 64) :
    ∃ pkt, nackDue n seqs s = (s.setPort (s.strm n).lastPort fun p => { p with sent := pkt }).setStrm n fun x => {
      x.requested (seqs.filter (isGap (s.strm n))) with outSeq := x.outSeq + 1 } := by
  have hnow : ¬((s.strm n).state ≠ .opened ∨ (s.strm n).pcie = true ∨ seqs.filter (isGap (s.strm n)) = []
      ∨ (!mayAnswer n s) = true) := by
    simp only [hopen, hpcie, hanswer, hdue]; decide
  have hwithin : ((seqs.filter (isGap (s.strm n))).any fun q =>
      decide (s.boot.settings.getD 6 64 ≤ gapRequests (s.strm n) q)) = false := by
    rw [List.any_eq_false]
    intro q hq
    have := hlimit q hq
    simpa using this
  simp only [nackDue, if_neg hnow, hwithin, Bool.false_eq_true, if_false]
  rw [sendTrt_eq _ _ hcur, setStrm_setStrm]
  exact ⟨_, setStrm_congr rfl⟩

end

end Sys2Proof.Machine
end

section
/-!
PROOFS. What follows the verification of a page: the launch gate repeats its staging checks and a STANDBY compares its
staging reports, neither of which touches raster intake (R90, R204, R460).
-/
namespace Sys2Proof.Machine

/-! ## Staging checks leave all but the host interface and the sheets -/

/-- State `t` comes from `s` by events and by changes of sheets that leave no late spoil due. -/
structure SheetsOnly (s t : State) : Prop where
  same : t = { s with io := t.io, shs := t.shs }
  late : t.shs.lateDue = s.shs.lateDue

section
variable {s t u : State}

theorem SheetsOnly.refl (s : State) : SheetsOnly s s := ⟨rfl, rfl⟩

theorem SheetsOnly.trans (h : SheetsOnly s t) (k : SheetsOnly t u) : SheetsOnly s u where
  same := by rw [k.same, h.same]
  late := k.late.trans h.late

theorem SheetsOnly.itk (h : SheetsOnly s t) : t.itk = s.itk := by rw [h.same]

theorem setSheet_sheetsOnly (id : Nat) (f : Sheet → Sheet) : SheetsOnly s (s.setSheet id f) := ⟨rfl, rfl⟩

theorem sheetEvent_sheetsOnly (line cause : Nat) (x : Sheet) : SheetsOnly s (sheetEvent line cause x s) := ⟨rfl, rfl⟩

theorem sheetState_sheetsOnly (id : Nat) (st : ShState) : SheetsOnly s (sheetState id st s) := by
  unfold sheetState
  split
  · exact .refl s
  · dsimp only
    split
    · exact (setSheet_sheetsOnly _ _).trans (sheetEvent_sheetsOnly _ _ _)
    · exact setSheet_sheetsOnly _ _

theorem stageOne_sheetsOnly (j : Job) (a : State × Bool) (id : Nat) : SheetsOnly a.1 (stageOne j a id).1 := by
  unfold stageOne
  split
  · exact .refl _
  · split
    · exact .refl _
    · split
      · exact .refl _
      · split
        · dsimp only
          split
          · exact (setSheet_sheetsOnly _ _).trans (sheetState_sheetsOnly _ _)
          · exact setSheet_sheetsOnly _ _
        · split
          · dsimp only
            split
            · exact setSheet_sheetsOnly _ _
            · exact (setSheet_sheetsOnly _ _).trans (sheetEvent_sheetsOnly _ _ _)
          · exact setSheet_sheetsOnly _ _

theorem stageJob_sheetsOnly (j : Job) (ids : List Nat) (a : State × Bool) :
    SheetsOnly a.1 (ids.foldl (stageOne j) a).1 := by
  induction ids generalizing a with
  | nil => exact .refl _
  | cons id ids ih => exact (stageOne_sheetsOnly j a id).trans (ih _)

theorem restage_sheetsOnly (s : State) : SheetsOnly s (restage s) := by
  unfold restage
  generalize s.shs.jobs = jobs
  induction jobs generalizing s with
  | nil => exact .refl s
  | cons j jobs ih => exact (stageJob_sheetsOnly j j.sheets (s, false)).trans (ih _)

/-! ## The comparison of staging reports -/

theorem takeRole_kept (r : PRole) : (takeRole r s).itk = s.itk ∧ (takeRole r s).shs = s.shs := by
  unfold takeRole; dsimp only; split <;> exact ⟨rfl, rfl⟩

theorem becomeUnfit_kept (cause : Nat) : (becomeUnfit cause s).itk = s.itk ∧ (becomeUnfit cause s).shs = s.shs := by
  unfold becomeUnfit
  split
  · exact ⟨rfl, rfl⟩
  · dsimp only
    rw [(raise_note _ 208 0 cause rfl).same]
    exact takeRole_kept .unfit

theorem stagingCheck_kept : (stagingCheck s).itk = s.itk ∧ (stagingCheck s).shs = s.shs := by
  unfold stagingCheck
  split
  · exact becomeUnfit_kept 6
  · exact ⟨rfl, rfl⟩

/-- PAGE_VERIFY_DONE leaves of raster intake what the verification leaves. -/
theorem pageVerifyDone_itk {n : Fin 256} {pg : Word} {ecc : Bool} (hs : Runs s)
    (hshs : (verifyPage n.val pg.toNat ecc s).shs = s.shs) :
    ∃ t, exec (.pageVerifyDone n pg ecc) s = .next t ∧ t.itk = (verifyPage n.val pg.toNat ecc s).itk := by
  have hstage := restage_sheetsOnly (verifyPage n.val pg.toNat ecc s)
  obtain ⟨hitk, hshs'⟩ := stagingCheck_kept (s := restage (verifyPage n.val pg.toNat ecc s))
  have hlate : (stagingCheck (restage (verifyPage n.val pg.toNat ecc s))).shs.lateDue = false := by
    rw [hshs', hstage.late, hshs]; exact hs.2
  exact ⟨_, onChip_of_runs (f := fun s => stagingCheck (restage (verifyPage n.val pg.toNat ecc s))) hs hlate,
    hitk.trans hstage.itk⟩

end

/-! ## The verification of a page (R90, R95) -/

section
variable {s : State} {n id : Nat} {p : Page} {m : Bytes}

/-- A page that a verification read rejects for an uncorrectable error (R95). -/
theorem verifyPage_ecc (hpage : s.page n id = some p) (hman : p.manifest = some m) (hstate : p.state = .receiving)
    (hfull : pageFull p = true) : verifyPage n id true s = rejectPage n id 9 s := by
  simp [verifyPage, hpage, hman, hstate, hfull]

/-- A page that is rejected gives up what it holds. -/
theorem rejectPage_page (reason : Nat) (hpage : s.page n id = some p) : (rejectPage n id reason s).page n id
    = some { p.empty with state := .rejected, reason := reason } := by
  rw [rejectPage, page_pageEvent, page_setPage_same (fun _ => by exact ⟨rfl, rfl⟩), hpage]
  rfl

/-- The entries that a family has for each of its numbers, in order. -/
theorem filterMap_all_some {α : Type} (g : Nat → Option α) {l : List Nat} (h : ∀ b ∈ l, (g b).isSome = true) :
    (l.filterMap g).map some = l.map g := by
  induction l with
  | nil => rfl
  | cons b l ih =>
    obtain ⟨x, hx⟩ := Option.isSome_iff_exists.1 (h b (by simp))
    simp [hx, ih fun c hc => h c (by simp [hc])]

/-- A band of a plane that is complete stands at its own number. -/
theorem band_of_mem_zipIdx {α : Type} {g : Nat → Option α} {k : Nat} (h : ∀ b < k, (g b).isSome = true) {x : α × Nat}
    (hx : x ∈ ((List.range k).filterMap g).zipIdx) : g x.2 = some x.1 := by
  have hat : ((List.range k).filterMap g)[x.2]? = some x.1 := List.mem_zipIdx_iff_getElem?.1 hx
  have hmap := filterMap_all_some g (l := List.range k) fun b hb => h b (List.mem_range.1 hb)
  have hlook : ((List.range k).map g)[x.2]? = some (some x.1) := by rw [← hmap, List.getElem?_map, hat]; rfl
  rw [List.getElem?_map, Option.map_eq_some_iff] at hlook
  obtain ⟨b, hb, hgb⟩ := hlook
  rwa [← (List.getElem?_eq_some_iff.1 hb).2, List.getElem_range] at hgb

/-- Every listed band of a full page is held. -/
theorem band_isSome_of_pageFull (hman : p.manifest = some m) (hfull : pageFull p = true) :
    ∀ pl ∈ manPlanes m, ∀ b < pl.bands, (p.band pl.station pl.side b).isSome = true := by
  intro pl hpl b hb
  simp only [pageFull, hman, List.all_eq_true, List.mem_range] at hfull
  have hband := hfull pl hpl b hb
  cases hheld : p.band pl.station pl.side b with
  | some x => rfl
  | none => simp [hheld] at hband

/-- What the verification finds of each band, plane by plane: a reject reason or 0 with its cost, and its length. -/
def planeResults (p : Page) (m : Bytes) : List (List ((Nat × Nat) × Nat)) :=
  (manPlanes m).map fun pl => ((List.range pl.bands).filterMap fun b => p.band pl.station pl.side b).zipIdx.map fun x =>
    (verifyBand m pl x.2 x.1, x.1.len)

/-- No band of a full page is rejected where none of them verifies badly. -/
theorem planeResults_good (hman : p.manifest = some m) (hfull : pageFull p = true)
    (hgood : ∀ pl ∈ manPlanes m, ∀ b x, p.band pl.station pl.side b = some x → (verifyBand m pl b x).1 = 0) :
    (planeResults p m).flatten.find? (fun r => r.1.1 != 0) = none := by
  rw [List.find?_eq_none]
  intro r hr
  obtain ⟨l, hl, hrl⟩ := List.mem_flatten.1 hr
  obtain ⟨pl, hpl, rfl⟩ := List.mem_map.1 hl
  obtain ⟨x, hx, rfl⟩ := List.mem_map.1 hrl
  have hband := band_of_mem_zipIdx (band_isSome_of_pageFull hman hfull pl hpl) hx
  simp [hgood pl hpl x.2 x.1 hband]

/-- A full page all of whose bands verify becomes COMPLETE with the costs of its planes (R90, R110). -/
theorem verifyPage_good (hpage : s.page n id = some p) (hman : p.manifest = some m) (hstate : p.state = .receiving)
    (hfull : pageFull p = true)
    (hgood : ∀ pl ∈ manPlanes m, ∀ b x, p.band pl.station pl.side b = some x → (verifyBand m pl b x).1 = 0) :
    ∃ costs, verifyPage n id false s
        = pageEvent n id 2 0 (s.setPage n id fun p => { p with state := .complete, costs := costs })
      ∧ costs.length = (manPlanes m).length := by
  have hnone := planeResults_good hman hfull hgood
  refine ⟨(planeResults p m).map fun l =>
    (l.foldl (fun k r => max k r.2) 0, l.foldl (fun k r => max k r.1.2) 0), ?_, by simp [planeResults]⟩
  unfold planeResults at hnone ⊢
  simp [verifyPage, hpage, hman, hstate, hfull, hnone]

end

end Sys2Proof.Machine
end

section
/-!
PROOFS. A NOTE as it is raised: the controller state stays, the fault is listed or counted, and its record waits
(R437, R448, R449).
-/
namespace Sys2Proof.Machine

theorem mem_insertRec_self (r : Rec) (l : List Rec) : r ∈ insertRec r l := by
  induction l with
  | nil => simp [insertRec]
  | cons x l ih => unfold insertRec; split <;> simp [ih]

theorem mem_countFault {line index cause : Nat} {l : List FaultEntry} {e : FaultEntry} (he : e ∈ l)
    (hkey : e.line = line ∧ e.index = index ∧ e.cause = cause) :
    ({ e with count := min (e.count + 1) 65535 } : FaultEntry) ∈ countFault line index cause l :=
  List.mem_map.2 ⟨e, he, by rw [if_pos hkey, satInc_16]⟩

theorem addFault_of_room {l : List FaultEntry} (e : FaultEntry) (h : l.length < 120) : addFault e l = (l ++ [e], true) := by
  rw [addFault, if_pos (by omega)]

/-- The PROTECT record of a NOTE (R362). -/
def noteRec (line index cause : Nat) (s : State) : Rec where
  kind := .protect
  time := s.io.time
  origin := 8
  detail := line
  subject := 0
  body := le 1 line ++ le 1 index ++ le 1 cause ++ le 1 Cls.note.code ++ le 4 s.saf.ctrl.code ++ le 4 s.saf.ctrl.code
  draw := .protective
  act := .fault line index cause

section
variable {s : State} {line index cause : Nat}

/-- A NOTE that is active already counts (R448). -/
theorem raise_note_active (h : declares line index cause = false)
    (hactive : (s.saf.faults.any fun x => x.line = line && x.index = index && x.cause = cause) = true) :
    s.raise .note line index cause
      = { s with saf := { s.saf with faults := countFault line index cause s.saf.faults } } := by
  simp only [State.raise, h, Bool.false_eq_true, if_false, classEffect, classState, setCtrl_same, hactive, if_true]

/-- A NOTE that is not active enters the list and hands its record over (R448, R449). -/
theorem raise_note_new (h : declares line index cause = false)
    (hnew : (s.saf.faults.any fun x => x.line = line && x.index = index && x.cause = cause) = false) :
    (s.raise .note line index cause).saf.faults
        = (addFault { cls := .note, line := line, index := index, cause := cause, time := s.io.time } s.saf.faults).1
      ∧ (s.raise .note line index cause).led.queue = insertRec (noteRec line index cause s) s.led.queue := by
  simp only [State.raise, h, Bool.false_eq_true, if_false, classEffect, classState, setCtrl_same, hnew]
  split <;> exact ⟨rfl, rfl⟩

theorem raised_note (h : declares line index cause = false) :
    Raised .note line index cause s (s.raise .note line index cause) := by
  have hctrl := (raise_note s line index cause h).ctrl
  refine ⟨hctrl, ?_⟩
  cases hactive : s.saf.faults.any fun x => x.line = line && x.index = index && x.cause = cause with
  | true =>
    obtain ⟨e, he, hkey⟩ := List.any_eq_true.1 hactive
    have hkey' : e.line = line ∧ e.index = index ∧ e.cause = cause := by simpa [and_assoc] using hkey
    rw [if_pos rfl, raise_note_active h hactive]
    exact fun _ => ⟨e, he, hkey'.1, hkey'.2.1, hkey'.2.2, mem_countFault he hkey'⟩
  | false =>
    obtain ⟨hfaults, hqueue⟩ := raise_note_new h hactive
    rw [if_neg (by decide), hfaults, hqueue, hctrl]
    refine ⟨fun hroom => ?_, noteRec line index cause s, mem_insertRec_self _ _, rfl, rfl, rfl⟩
    rw [addFault_of_room _ hroom]
    simp

end

/-- A controller that has lost PTP master `m` (R100). -/
def withoutMaster (m : PtpMaster) (s : State) : State := { s with itk := { s.itk with
  master := none, ptp := {}, foreign := s.itk.foreign.filter fun y => !(y.src == m.src && y.port == m.port) } }

theorem ptpLost_eq {s : State} {m : PtpMaster} (hmaster : s.itk.master = some m) :
    ptpLost s = (withoutMaster m s).raise .note 236 0 0x28 := by
  simp only [ptpLost, hmaster]
  rfl

end Sys2Proof.Machine
end

section
/-!
PROOFS. The statement about the events of raster intake.
-/
namespace Sys2Proof.Machine

/-- A controller without a link to a peer forwards nothing (R97). -/
theorem decryptAndForward_alone {s : State} {n : Nat} (hnext : cryptoNext s = some n) (hlink : s.pair.link = false) :
    decryptAndForward n s = (trtDecrypt n s).1 := by
  simp only [decryptAndForward, hnext, hlink, ne_eq, not_true_eq_false, if_false, Bool.false_eq_true, and_false]
  split <;> rfl

/-- A stream that holds one more page report for its next ACKs (R86). -/
def Stream.reported (r : PageReport) (x : Stream) : Stream := { x with reports := x.reports ++ [r] }

/-- A packet that is authenticated and whose fragment starts a page (R83, R90, R93, R96). -/
theorem trtDecrypt_firstBand {s : State} {n port : Nat} {b text : Bytes} {rest : List (Nat × Bytes)} {k : StreamKey}
    (hauth : n < s.itk.streams.length ∧ (s.strm n).queue = (port, b) :: rest ∧ (s.strm n).state = .opened
      ∧ keyFor (s.strm n) (u16At b 4) (u64At b 8) = some k ∧ (s.strm n).next = none
      ∧ Config.gcmOpen k.key (trtNonce false k (u64At b 8)) (b.take 32) (b.drop 32) = some text
      ∧ seqMarked (s.strm n) (u64At b 8) = false)
    (hpage : byteAt b 0 % 16 = 1 ∧ s.page n (u32At b 16) = none ∧ recordFree s = true
      ∧ fits n (granules (u32At b 28)) s = true ∧ u32At b 24 + text.length ≤ u32At b 28) :
    ∃ r t, (trtDecrypt n s).1 = t ∧ t = { s with io := t.io, itk := t.itk, free := s.free + 1 }
      ∧ t.itk.pages = s.itk.pages ++ [firstBand n b text s]
      ∧ t.strm n = markSeq (u64At b 8) ((Stream.decrypted (u16At b 6) port rest (s.strm n)).reported r) := by
  obtain ⟨hn, hqueue, hopen, hkey, hnext, htag, hfresh⟩ := hauth
  obtain ⟨hdata, hnone, hrecord, hfits, hlen⟩ := hpage
  have hfits' : fits n (granules (u32At b 28)) (s.setStrm n (Stream.decrypted (u16At b 6) port rest)) = true :=
    (fits_setStrm hn rfl).trans hfits
  rw [trtDecrypt_authentic hn hqueue hopen hkey hnext htag hfresh,
    trtApply_firstBand (s := s.setStrm n (Stream.decrypted (u16At b 6) port rest)) hdata hnone hrecord hfits' hlen]
  refine ⟨{ page := u32At b 16, state := 1, reason := 0 }, _, rfl, rfl, rfl, ?_⟩
  calc _ = ((((s.setStrm n (Stream.decrypted (u16At b 6) port rest)).setStrm n
          (Stream.reported { page := u32At b 16, state := 1, reason := 0 }))).setStrm n (markSeq (u64At b 8))).strm n := rfl
    _ = _ := by rw [setStrm_setStrm, setStrm_setStrm, strm_setStrm_same hn]

/-- Settles O25: each event does what the lemma on its operation says, and no event leaves a late spoil due; what follows a
page's verification leaves raster intake as it is. -/
theorem intakeEvents : Obligations.IntakeEvents := by
  refine ⟨?badFrame, ?packet, ?link, ?failed, ?other, ?firstBand, ?nack, ?ack, ?pcieGap, ?eccPage, ?goodPage, ?lostMaster,
    ?anchor⟩
  case badFrame =>
    intro p f s hs
    refine (onChip_of_runs hs hs.2).trans (congrArg _ ?_)
    simp only [ethReceive, Bool.not_false, if_true, satInc_32]
    rfl
  case packet =>
    intro p f s src udp b hs hactive huse hwf hopen hpcie hpeer hudp hports hkey hfresh hwindow hroom
    have hrx : ethReceive p.val true (!s.shadow) f s = trtReceive p.val src udp b s := by
      simp only [ethReceive, huse, hactive, Bool.not_true, Bool.not_false, Bool.false_eq_true, if_false, if_true]
    rw [trtReceive_queued (by omega) hwf hopen hpcie ⟨hpeer, hudp, hports⟩ hkey ⟨hfresh, hwindow⟩ hroom] at hrx
    exact (onChip_of_runs (f := fun s => ethReceive p.val true (!s.shadow) f s) hs (by rw [hrx]; exact hs.2)).trans
      (congrArg _ hrx)
  case link =>
    intro p up s hs
    exact onChip_of_runs (f := fun s => s.setPort p.val fun x => { x with link := up }) hs hs.2
  case failed =>
    intro n s k port b rest hs hnext hqueue hopen hkey htag
    have hdec := trtDecrypt_failed hqueue hopen hkey htag
    simp only [satInc_32] at hdec
    have hrun : decryptAndForward n.val s = (trtDecrypt n.val s).1 := by
      simp only [decryptAndForward, hnext, hdec, ne_eq, not_true_eq_false, if_false]
    rw [hdec] at hrun
    exact (onChip_of_runs hs (by rw [hrun]; exact hs.2)).trans (congrArg _ hrun)
  case other =>
    intro n s hs hother
    have hrun : decryptAndForward n.val s = s := if_pos hother
    exact (onChip_of_runs hs (by rw [hrun]; exact hs.2)).trans (congrArg _ hrun)
  case firstBand =>
    intro n s k port b rest text hs hlink hnext hn hqueue hopen hport hkey hnokey htag hfresh hdata hnone hrecord hfits hlen
    obtain ⟨r, t, ht, hframe, hpages, hstrm⟩ := trtDecrypt_firstBand
      ⟨hn, hqueue, hopen, hkey, hnokey, htag, hfresh⟩ ⟨hdata, hnone, hrecord, hfits, hlen⟩
    obtain ⟨low, marks, old, hmark, hmarked⟩ := markSeq_eq (u64At b 8)
      ((Stream.decrypted (u16At b 6) port rest (s.strm n.val)).reported r)
    have hrun := (decryptAndForward_alone hnext hlink).trans ht
    have hlate : t.shs.lateDue = false := by rw [hframe]; exact hs.2
    refine ⟨t, (onChip_of_runs hs (by rw [hrun]; exact hlate)).trans (congrArg _ hrun), hframe, hpages, ?_, ?_, ?_⟩
    · rw [hstrm, hmark]; rfl
    · rw [hstrm]; exact hmarked
    · rw [hstrm, hmark]
      exact ⟨rfl, rfl, if_pos hport⟩
  case nack =>
    intro n seqs s k hs hn hopen hpcie hcur hanswer hdue hlimit
    obtain ⟨pkt, hnack⟩ := nackDue_eq hopen hpcie hcur hanswer hdue hlimit
    refine ⟨_, (onChip_of_runs hs (by rw [hnack]; exact hs.2)).trans (congrArg _ hnack), rfl, rfl, ?_⟩
    rw [strm_setPort_setStrm, strm_setStrm_same hn]
    exact ⟨rfl, hopen, fun q hq => gapRequests_requested (s.strm n.val) hq⟩
  case ack =>
    intro n s k hs hstate hpcie hdue hcur hanswer hn hport
    have hack := ackSend_eq hstate hpcie hdue hanswer
    rw [sendTrt_eq _ _ hcur, setStrm_setStrm] at hack
    refine ⟨_, trtHead n.val 8 k (s.strm n.val).outSeq (ackPayload n.val s).length s.io.time, ackPayload n.val s,
      (onChip_of_runs hs (by rw [hack]; exact hs.2)).trans (congrArg _ hack), rfl, ?_, ackPayload_take, ackPayload_length,
      ?_, ?_⟩
    · rw [strm_setPort_setStrm, strm_setStrm_same hn]
    · exact trtHead_length 8 k _ _ _
    · exact congrArg Port.sent (port_setPort_same hport _)
  case pcieGap =>
    intro n s hs hopen hpcie hmarks
    have hgap : pcieGap n.val s = streamState n.val .broken s := if_pos ⟨hopen, hpcie, hmarks⟩
    rw [streamState_of_ne (by rw [hopen]; decide)] at hgap
    exact (onChip_of_runs hs (by rw [hgap]; exact hs.2)).trans (congrArg _ hgap)
  case eccPage =>
    intro n pg p m s hs hpage hman hstate hfull
    have hverify := verifyPage_ecc hpage hman hstate hfull
    obtain ⟨t, ht, hitk⟩ := pageVerifyDone_itk hs (by rw [hverify]; rfl)
    refine ⟨t, ht, ?_⟩
    rw [page_congr hitk, hverify, rejectPage_page 9 hpage]
    rfl
  case goodPage =>
    intro n pg p m s hs hpage hman hstate hfull hgood
    obtain ⟨costs, hverify, hlen⟩ := verifyPage_good hpage hman hstate hfull hgood
    obtain ⟨t, ht, hitk⟩ := pageVerifyDone_itk hs (by rw [hverify]; rfl)
    refine ⟨t, costs, ht, ?_, hlen⟩
    rw [page_congr hitk, hverify, page_pageEvent, page_setPage_same (fun _ => by exact ⟨rfl, rfl⟩), hpage]
    rfl
  case lostMaster =>
    intro s m hs hmaster
    have hlost := ptpLost_eq hmaster
    have hraised := raised_note (s := withoutMaster m s) (line := 236) (index := 0) (cause := 0x28) rfl
    have hsame := (raise_note (withoutMaster m s) 236 0 0x28 rfl).same
    rw [← hlost] at hraised hsame
    refine ⟨_, onChip_of_runs hs (by rw [hsame]; exact hs.2), hraised, ?_, ?_⟩
    · rw [hsame]; rfl
    · rw [hsame]; rfl
  case anchor =>
    intro sec ns u r s m hs hmaster
    refine (onChip_of_runs hs ?_).trans (congrArg _ ?_)
    · simp only [ptpAnchor, hmaster]; exact hs.2
    · simp only [ptpAnchor, hmaster]

end Sys2Proof.Machine
end

section
/-!
PROOFS. The changes of a station that depend on it: LINK_SET and APC_TARGET as updates of one station (R169 to R173).
-/
namespace Sys2Proof.Machine

/-! ## Lanes of a station (R172) -/

/-- Training of lane `m` starts: `startLocking` as an update of its station (R172). -/
def Station.locking (m : Nat) (again : Bool) (x : Station) : Station := { x with
  lanes := upd x.lanes m fun l => { l.put [(0x1E, 0)] with state := .locking }
  retrains := if again then satInc 16 x.retrains else x.retrains
  polls := x.polls.filter fun p => p.lane != m || p.round }

/-- Lane `m` is DOWN without a failed attempt, and none of its frames is awaited (R172). -/
def Station.laneOff (m : Nat) (x : Station) : Station := { x with
  lanes := upd x.lanes m fun l => { l with state := .down, bad := 0 }
  polls := x.polls.filter fun p => p.lane != m }

/-- What LINK_SET does to lane `m`: a disabled lane goes DOWN, and with RETRAIN an enabled one that is not DOWN is trained
(R172). -/
def Station.linkSetLane (p : Bytes) (m : Nat) (x : Station) : Station :=
  if bit (byteAt p 0) m = false then x.laneOff m
  else if byteAt p 1 = 1 ∧ (x.lanes.getD m {}).state ≠ .down then
    Station.locking m true { x with lanes := upd x.lanes m fun l => { l with bad := 0 } }
  else x

/-- An enabled lane that is DOWN starts training (R172). -/
def Station.startLane (m : Nat) (x : Station) : Station :=
  if (x.lanes.getD m {}).state = .down ∧ bit x.laneMask m = true then x.locking m false else x

/-- An update of a station lane by lane (R172). -/
def Station.eachLane (g : Nat → Station → Station) (x : Station) : Station :=
  (List.range 4).foldl (fun y m => g m y) x

/-- What LINK_SET does to its station; `trains` says whether the station's lanes may train (R172, R173). -/
def Station.linkSet (p : Bytes) (trains : Bool) (x : Station) : Station :=
  let y := Station.eachLane (Station.linkSetLane p) { x with laneMask := byteAt p 0, lpiMin := u16At p 2 }
  if trains then y.eachLane Station.startLane else y

/-- Lanes of station `i` may train: it is enabled and the module rail has qualified (R172). -/
def lanesTrain (i : Nat) (s : State) : Bool := bit (stationsOn s) i && moduleRail s

section
variable {s : State} {i : Nat}

theorem startLocking_eq (m : Nat) (again : Bool) : startLocking i m again s = s.setStn i (Station.locking m again) :=
  setStn_setStn _ _

/-- Steps that each update station `i` by its lane number update it lane by lane. -/
theorem eachLane_setStn {step : State → Nat → State} {g : Nat → Station → Station}
    (h : ∀ t m, step t m = t.setStn i (g m)) : (List.range 4).foldl step s = s.setStn i (Station.eachLane g) := by
  unfold Station.eachLane
  generalize List.range 4 = ms
  induction ms generalizing s with
  | nil => exact (setStn_eq_self rfl).symm
  | cons m ms ih => rw [List.foldl_cons, h, ih, setStn_setStn]; rfl

theorem startLanes_eq : startLanes i s
    = s.setStn i fun x => if lanesTrain i s then x.eachLane Station.startLane else x := by
  have hstep : ∀ (t : State) (m : Nat), (if (t.lane i m).state = .down ∧ bit (t.stn i).laneMask m = true
      then startLocking i m false t else t) = t.setStn i (Station.startLane m) := by
    intro t m
    split <;> rename_i hlane
    · exact (startLocking_eq m false).trans (setStn_congr (if_pos hlane).symm)
    · exact (setStn_eq_self (f := Station.startLane m) (if_neg hlane)).symm
  unfold startLanes
  rw [eachLane_setStn hstep]
  by_cases htrain : lanesTrain i s = true
  · have hgo : (!bit (stationsOn s) i || !moduleRail s) = false := by simpa [lanesTrain] using htrain
    simp [htrain, hgo]
  · have hstop : (!bit (stationsOn s) i || !moduleRail s) = true := by
      simpa [lanesTrain, Decidable.imp_iff_not_or] using htrain
    simp only [hstop, if_true, htrain]
    exact (setStn_eq_self rfl).symm

/-- LINK_SET updates its station alone (R172, R173). -/
theorem linkSet_eff (c : Cmd) : linkSetSpec.eff c s = s.setStn c.stn (Station.linkSet c.pl (lanesTrain c.stn s)) := by
  have hstep : ∀ (t : State) (m : Nat), (if bit (c.u8 0) m = false then
        (t.setLane c.stn m fun l => { l with state := .down, bad := 0 }).setStn c.stn fun x =>
          { x with polls := x.polls.filter fun p => p.lane != m }
      else if c.u8 1 = 1 ∧ (t.lane c.stn m).state ≠ .down then
        startLocking c.stn m true (t.setLane c.stn m fun l => { l with bad := 0 })
      else t) = t.setStn c.stn (Station.linkSetLane c.pl m) := by
    intro t m
    split <;> rename_i hoff
    · exact (setStn_setStn _ _).trans (setStn_congr (if_pos hoff).symm)
    · split <;> rename_i hretrain
      · rw [startLocking_eq]
        exact (setStn_setStn _ _).trans (setStn_congr ((if_neg hoff).trans (if_pos hretrain)).symm)
      · exact (setStn_eq_self (f := Station.linkSetLane c.pl m) ((if_neg hoff).trans (if_neg hretrain))).symm
  simp only [linkSetSpec]
  rw [eachLane_setStn hstep, startLanes_eq, setStn_setStn, setStn_setStn]
  rfl

end

/-! ## What LINK_SET leaves of a station -/

section
variable {x : Station} {m k : Nat}

theorem locking_lane_ne (again : Bool) (h : m ≠ k) :
    (x.locking k again).lanes.getD m {} = x.lanes.getD m {} := getD_upd_ne _ _ _ h

/-- A lane that is switched off is DOWN, and so reads a lane that does not exist. -/
theorem laneOff_down : ((x.laneOff m).lanes.getD m {}).state = .down := by
  show ((upd x.lanes m _).getD m {}).state = _
  rw [getD_upd]
  split
  · rfl
  · rename_i h
    have habsent : x.lanes[m]? = none := List.getElem?_eq_none (by omega)
    rw [List.getD_eq_getElem?_getD, habsent]
    rfl

/-- A disabled lane goes DOWN (R172). -/
theorem linkSetLane_off {p : Bytes} (h : bit (byteAt p 0) m = false) :
    ((Station.linkSetLane p m x).lanes.getD m {}).state = .down := by
  rw [Station.linkSetLane, if_pos h]; exact laneOff_down

theorem linkSetLane_lane_ne (p : Bytes) (h : m ≠ k) :
    (Station.linkSetLane p k x).lanes.getD m {} = x.lanes.getD m {} := by
  unfold Station.linkSetLane
  split
  · exact getD_upd_ne _ _ _ h
  · split
    · exact (locking_lane_ne true h).trans (getD_upd_ne _ _ _ h)
    · rfl

/-- A lane that the mask leaves out does not start training (R172). -/
theorem startLane_lane_of_off (h : bit x.laneMask m = false) :
    (Station.startLane k x).lanes.getD m {} = x.lanes.getD m {} := by
  unfold Station.startLane
  split <;> rename_i hk
  · exact locking_lane_ne false fun e => by simp [← e, h] at hk
  · rfl

/-- The settings of the link of a station (R172, R173). -/
def Station.LinkIs (mask lpi : Nat) (x : Station) : Prop := x.laneMask = mask ∧ x.lpiMin = lpi

theorem linkSetLane_linkIs {mask lpi : Nat} (p : Bytes) (h : x.LinkIs mask lpi) :
    (Station.linkSetLane p k x).LinkIs mask lpi := by
  unfold Station.linkSetLane
  split
  · exact h
  · split <;> exact h

theorem startLane_linkIs {mask lpi : Nat} (h : x.LinkIs mask lpi) : (Station.startLane k x).LinkIs mask lpi := by
  unfold Station.startLane
  split <;> exact h

/-- What the update of each lane keeps, the updates of all lanes keep. -/
theorem eachLane_keeps {P : Station → Prop} {g : Nat → Station → Station} (hkeep : ∀ y k, P y → P (g k y)) (h : P x) :
    P (x.eachLane g) := List.foldlRecOn _ _ h fun y hy k _ => hkeep y k hy

/-- What the update of lane `m` brings about and the others keep holds after the updates of all lanes. -/
theorem eachLane_brings {P : Station → Prop} {g : Nat → Station → Station} (hm : m < 4) (hbring : ∀ y, P (g m y))
    (hkeep : ∀ y k, P y → P (g k y)) : P (x.eachLane g) := by
  obtain ⟨before, after, hsplit⟩ := List.append_of_mem (List.mem_range.2 hm)
  rw [Station.eachLane, hsplit, List.foldl_append, List.foldl_cons]
  exact List.foldlRecOn _ _ (hbring _) fun y hy k _ => hkeep y k hy

/-- LINK_SET stores its mask and LPI_MIN (R172, R173). -/
theorem linkSet_linkIs (p : Bytes) (trains : Bool) : (x.linkSet p trains).LinkIs (byteAt p 0) (u16At p 2) := by
  have hlanes : (Station.eachLane (Station.linkSetLane p)
      { x with laneMask := byteAt p 0, lpiMin := u16At p 2 }).LinkIs (byteAt p 0) (u16At p 2) :=
    eachLane_keeps (fun _ _ => linkSetLane_linkIs p) ⟨rfl, rfl⟩
  unfold Station.linkSet
  cases trains
  · exact hlanes
  · exact eachLane_keeps (fun _ _ => startLane_linkIs) hlanes

/-- LINK_SET leaves a lane that its mask leaves out DOWN (R172). -/
theorem linkSet_down {p : Bytes} (trains : Bool) (hm : m < 4) (hoff : bit (byteAt p 0) m = false) :
    ((x.linkSet p trains).lanes.getD m {}).state = .down := by
  have hset : ∀ y : Station, (y.lanes.getD m {}).state = .down →
      ∀ k, ((Station.linkSetLane p k y).lanes.getD m {}).state = .down := fun y hy k => by
    by_cases hk : m = k
    · subst hk; exact linkSetLane_off hoff
    · rw [linkSetLane_lane_ne p hk]; exact hy
  have hstart : ∀ (y : Station) (k : Nat), (y.lanes.getD m {}).state = .down ∧ y.LinkIs (byteAt p 0) (u16At p 2) →
      ((Station.startLane k y).lanes.getD m {}).state = .down
        ∧ (Station.startLane k y).LinkIs (byteAt p 0) (u16At p 2) := fun y k ⟨hdown, hlink⟩ =>
    ⟨by rw [startLane_lane_of_off (hlink.1 ▸ hoff)]; exact hdown, startLane_linkIs hlink⟩
  have hlanes : ((Station.eachLane (Station.linkSetLane p)
      { x with laneMask := byteAt p 0, lpiMin := u16At p 2 }).lanes.getD m {}).state = .down :=
    eachLane_brings hm (fun _ => linkSetLane_off hoff) fun y k hy => hset y hy k
  cases trains
  · exact hlanes
  · exact (eachLane_keeps hstart ⟨hlanes, linkSet_linkIs p false⟩).1

end

/-! ## Laser power targets (R169, R171) -/

/-- What APC_TARGET does to its station (R171). -/
def Station.apcLoaded (p : Bytes) (x : Station) : Station :=
  if x.apcRuns then { x with apcNext := some p, corrOut := false } else { applyApc p x with corrOut := false }

/-- DRIVE is 0 where a payload in force has T = 0, and as before elsewhere (R171). -/
theorem applyApc_drive (p : Bytes) (x : Station) (b : Nat) :
    (applyApc p x).drive.getD b 0 = if u16At p (2 * b) = 0 then 0 else x.drive.getD b 0 := by
  by_cases hb : b < x.drive.length
  · simp [applyApc, hb]
  · simp [applyApc, Nat.le_of_not_lt hb]

/-- A loaded payload waits where an exchange is in progress and is in force where none is (R169, R171). -/
theorem apcLoaded_spec (p : Bytes) (x : Station) :
    (x.apcLoaded p).corrOut = false
      ∧ if x.apcRuns then
          (x.apcLoaded p).apcNext = some p ∧ (x.apcLoaded p).apc = x.apc ∧ (x.apcLoaded p).drive = x.drive
        else
          (x.apcLoaded p).apc = p ∧ (x.apcLoaded p).apcNext = none ∧ (x.apcLoaded p).weak = List.replicate 64 false
            ∧ ∀ b, (x.apcLoaded p).drive.getD b 0 = if u16At p (2 * b) = 0 then 0 else x.drive.getD b 0 := by
  unfold Station.apcLoaded
  split
  · exact ⟨rfl, rfl, rfl, rfl⟩
  · exact ⟨rfl, rfl, rfl, rfl, applyApc_drive p x⟩

end Sys2Proof.Machine
end

section
/-!
PROOFS. The statement about the changes of a station.
-/
namespace Sys2Proof.Machine

/-- What is left where a change's effect is the update of station `k`: that station alone has changed. -/
theorem leaves_setStn {f : Frame} {s u : State} {k : Nat} {g : Station → Station} (h : Leaves f s u (s.setStn k g)) :
    (∀ i, i ≠ k → u.stn i = s.stn i) ∧ Leaves f s u { s with img := { s.img with stations := u.img.stations } }
      ∧ (k < s.img.stations.length → u.stn k = g (s.stn k)) := by
  have hstations : u.img.stations = (s.setStn k g).img.stations := by rw [h.1]
  refine ⟨fun i hi => ?_, ?_, fun hk => ?_⟩
  · exact (congrArg (·.getD i {}) hstations).trans (getD_upd_ne _ _ _ hi)
  · rw [hstations]; exact h
  · exact (congrArg (·.getD k {}) hstations).trans (stn_setStn_same hk g)

/-- SCREEN_LOAD: its slot is LOADING until the final status, which is due (R148). -/
theorem screenLoad_effect (f : Frame) (s : State) :
    EffectIs f.hamper.val ((specOf .screenLoad).eff (heldFlight .screenLoad f s).cmd) s
      (s.setScreen (f.tgt % 8) (f.tgt / 8) fun k => { k with state := .loading }) :=
  .finals fun i g l => finishOne_io
    ((withParts s i g l).setScreen (f.tgt % 8) (f.tgt / 8) fun k => { k with state := .loading }) _ _ _ _ _

/-- ECM_LOAD: the bank carries the SEQ of the change's entry, the head of the ledger when it takes effect (R140). -/
theorem ecmLoad_effect (f : Frame) (s : State) :
    EffectIs f.hamper.val ((specOf .ecmLoad).eff (heldFlight .ecmLoad f s).cmd) s
      (loadEcm (f.tgt % 8) f.pay (s.led.head + 1) s) :=
  .head fun i g l h => congrArg (fun n => loadEcm (f.tgt % 8) f.pay n (withParts s i g l)) h

/-- HISTORY_LOAD: likewise (R153). -/
theorem historyLoad_effect (f : Frame) (s : State) :
    EffectIs f.hamper.val ((specOf .historyLoad).eff (heldFlight .historyLoad f s).cmd) s
      (loadHistory (f.tgt % 8) (f.tgt / 8) f.pay (s.led.head + 1) s) :=
  .head fun i g l h => congrArg (fun n => loadHistory (f.tgt % 8) (f.tgt / 8) f.pay n (withParts s i g l)) h

/-- DELAY_LOAD: likewise (R175). -/
theorem delayLoad_effect (f : Frame) (s : State) :
    EffectIs f.hamper.val ((specOf .delayLoad).eff (heldFlight .delayLoad f s).cmd) s
      (s.setStn (f.tgt % 8) fun x => { x with delayNext := some (f.pay, s.led.head + 1) }) :=
  .head fun i g l h => congrArg (fun n =>
    (withParts s i g l).setStn (f.tgt % 8) fun x => { x with delayNext := some (f.pay, n) }) h

/-- APC_TARGET: its payload is in force or waits for the exchange in progress (R171). -/
theorem apcTarget_effect (f : Frame) (s : State) :
    EffectIs f.hamper.val ((specOf .apcTarget).eff (heldFlight .apcTarget f s).cmd) s
      (s.setStn (f.tgt % 8) (Station.apcLoaded (fit 136 f.pay))) := .rfl fun _ _ _ => rfl

/-- LINK_SET: what it does to the lanes depends on the station and on the supply of its lanes alone (R172, R173). -/
theorem linkSet_effect (f : Frame) (s : State) :
    EffectIs f.hamper.val ((specOf .linkSet).eff (heldFlight .linkSet f s).cmd) s
      (s.setStn (f.tgt % 8) (Station.linkSet f.pay (lanesTrain (f.tgt % 8) s))) :=
  .rfl fun i g l => linkSet_eff (s := withParts s i g l) (heldFlight .linkSet f s).cmd

/-- Settles O3: each change updates its station alone; the banks and the delays carry the SEQ of their entry, which is the
head of the ledger when the change takes effect. -/
theorem stationChangesTakeEffect : Obligations.StationChangesTakeEffect := by
  refine ⟨?screenLoad, ?ecmLoad, ?profileSet, ?historyLoad, ?delayLoad, ?apcTarget, ?linkSet⟩
  case screenLoad =>
    exact sets_of (fun _ _ => rfl) (fun f s _ => screenLoad_effect f s) (fun _ _ => .inl rfl) fun _ _ => .inl rfl
  case ecmLoad =>
    exact sets_of (fun _ _ => rfl) (fun f s _ => ecmLoad_effect f s) (fun _ _ => .inl rfl) fun _ _ => .inl rfl
  case profileSet =>
    exact sets_of (fun _ _ => rfl) (fun _ _ _ => .rfl fun _ _ _ => rfl) (fun _ _ => .inl rfl) fun _ _ => .inl rfl
  case historyLoad =>
    exact sets_of (fun _ _ => rfl) (fun f s _ => historyLoad_effect f s) (fun _ _ => .inl rfl) fun _ _ => .inl rfl
  case delayLoad =>
    exact sets_of (fun _ _ => rfl) (fun f s _ => delayLoad_effect f s) (fun _ _ => .inl rfl) fun _ _ => .inl rfl
  case apcTarget =>
    intro f s happlies
    obtain ⟨hrecorded, u, hcommitted, hleaves⟩ := change_sets happlies (apcTarget_effect f s) (.inl rfl) (.inl rfl)
    obtain ⟨hothers, hrest, hstation⟩ := leaves_setStn hleaves
    refine ⟨hrecorded, u, hcommitted, hothers, hrest, fun hk => ?_⟩
    rw [hstation hk]
    exact apcLoaded_spec _ _
  case linkSet =>
    intro f s happlies
    obtain ⟨hrecorded, u, hcommitted, hleaves⟩ := change_sets happlies (linkSet_effect f s) (.inl rfl) (.inl rfl)
    obtain ⟨hothers, hrest, hstation⟩ := leaves_setStn hleaves
    refine ⟨hrecorded, u, hcommitted, hothers, hrest, fun hk => ?_⟩
    simp only [State.lane, hstation hk]
    obtain ⟨hmask, hlpi⟩ := linkSet_linkIs (x := s.stn (f.tgt % 8)) f.pay (lanesTrain (f.tgt % 8) s)
    exact ⟨hmask, hlpi, fun m hm hoff => linkSet_down _ hm hoff⟩

end Sys2Proof.Machine
end

section
/-!
PROOFS. The rules of a Weaver's updates and of its station's mirror at a sweep start (chapter 08, R75, R490).
-/
namespace Sys2Proof.Machine

/-! ## Replacing one Weaver -/

section
variable {s : State} {i : Nat}

theorem wvr_setStn_same (hi : i < s.img.stations.length) (f : Station → Station) :
    (s.setStn i f).wvr i = (f (s.stn i)).weaver := congrArg Station.weaver (stn_setStn_same hi f)

theorem wvr_setWvr_same (hi : i < s.img.stations.length) (f : Weaver → Weaver) :
    (s.setWvr i f).wvr i = f (s.wvr i) := wvr_setStn_same hi _

/-- Updates that agree on the Weaver they replace agree. -/
theorem setWvr_congr {f g : Weaver → Weaver} (h : f (s.wvr i) = g (s.wvr i)) : s.setWvr i f = s.setWvr i g :=
  setStn_congr (congrArg (fun w => { s.stn i with weaver := w }) h)

theorem setWvr_eq_self {f : Weaver → Weaver} (h : f (s.wvr i) = s.wvr i) : s.setWvr i f = s :=
  setStn_eq_self (congrArg (fun w => { s.stn i with weaver := w }) h)

theorem setWvr_setWvr (f g : Weaver → Weaver) : (s.setWvr i f).setWvr i g = s.setWvr i fun w => g (f w) :=
  setStn_setStn _ _

@[simp] theorem stn_pulse (line d : Nat) : (s.pulse line d).stn i = s.stn i := rfl

/-- An update that leaves its station's work-tag SWEEP leaves what is read of it, whether the station exists or not. -/
theorem sweep_setStn {f : Station → Station} (hf : ∀ x, (f x).weaver.sweep = x.weaver.sweep) :
    ((s.setStn i f).wvr i).sweep = (s.wvr i).sweep := by
  simp only [State.wvr, State.stn, State.setStn, getD_upd]
  split
  · exact hf _
  · rfl

end

/-! ## Words of a mirror (R75) -/

/-- No word is stored below the first one. -/
theorem mirrorRead_below {lo y : Nat} {l : List (Nat × Word)} (w : mirrorsWfFrom lo l = true) (h : y < lo) :
    mirrorRead l y = 0 := by
  cases l with
  | nil => rfl
  | cons c l =>
    simp only [mirrorsWfFrom, Bool.and_eq_true, decide_eq_true_eq] at w
    rw [mirrorRead, if_neg (by omega), if_pos (by omega)]

/-- What a mirror word reads as after a word was stored. -/
theorem mirrorRead_mirrorWrite {lo : Nat} {l : List (Nat × Word)} (x y : Nat) (v : Word)
    (w : mirrorsWfFrom lo l = true) : mirrorRead (mirrorWrite l x v) y = if y = x then v else mirrorRead l y := by
  induction l generalizing lo with
  | nil =>
    simp only [mirrorWrite]
    split <;> simp_all [mirrorRead]
  | cons c l ih =>
    obtain ⟨a, u⟩ := c
    simp only [mirrorsWfFrom, Bool.and_eq_true, decide_eq_true_eq] at w
    obtain ⟨-, hrest⟩ := w
    have hbelow : ∀ z, z < a + 1 → mirrorRead l z = 0 := fun z => mirrorRead_below hrest
    have hlater := ih hrest
    simp only [mirrorWrite]
    split
    · grind [mirrorRead]
    · split
      · grind [mirrorRead]
      · grind [mirrorRead]

/-- A word below the words stored reads as before. -/
theorem mirrorRead_mirrorWriteAll_below {l : List (Nat × Word)} {o y : Nat} (vs : List Nat)
    (w : mirrorsWfFrom 0 l = true) (h : y < o) : mirrorRead (mirrorWriteAll l o vs) y = mirrorRead l y := by
  induction vs generalizing l o with
  | nil => rfl
  | cons v vs ih =>
    rw [mirrorWriteAll, ih (mirrorWrite_wf o _ w) (by omega), mirrorRead_mirrorWrite _ _ _ w, if_neg (by omega)]

/-- A refresh of a block changes stored mirror words alone, and takes its generation word two further (R75). -/
theorem mirrorRefresh_gen {o : Nat} {s : State} {ws : List Nat} (ho : o ≠ 0x81000) (hws : blockWords o s = some ws) :
    ∃ l, mirrorRefresh o s = { s with reg := { s.reg with mirrors := l } }
      ∧ (mirrorsWfFrom 0 s.reg.mirrors = true → mirrorRead l o = mirrorRead s.reg.mirrors o + 2) := by
  refine ⟨_, by simp only [mirrorRefresh, if_neg ho, hws]; rfl, fun hwf => ?_⟩
  have hodd := mirrorWrite_wf o (mirrorRead s.reg.mirrors o + 1) hwf
  rw [mirrorRead_mirrorWrite _ _ _ (mirrorWriteAll_wf _ _ hodd), if_pos rfl,
    mirrorRead_mirrorWriteAll_below _ hodd (by omega), mirrorRead_mirrorWrite _ _ _ hwf, if_pos rfl]
  bv_omega

/-- The mirror block of a station. -/
theorem blockWords_station {i : Nat} (hi : i < 5) (s : State) :
    blockWords (0x40000 + 0x2000 * i) s = some (stationWords i s) := by
  have hunit : unitOf 0x40000 0x2000 5 (0x40000 + 0x2000 * i) = some i := by
    rw [unitOf, if_pos (by omega)]; congr 1; omega
  simp only [blockWords, hunit]

/-! ## Rows of a Weaver: the mirror follows a sweep start (R490) -/

section
variable {s : State} {i : Nat} {f : State → State}

/-- An event that is no sweep start answers what it makes of the state. -/
theorem onChip_sweepMirror_same (hs : Runs s) (hsweep : ((f s).wvr i).sweep = (s.wvr i).sweep)
    (hlate : (f s).shs.lateDue = false) : onChip (sweepMirror i f) s = .next (f s) := by
  have hsame : sweepMirror i f s = f s := if_neg (not_not_intro hsweep)
  exact (onChip_of_runs hs (by rw [hsame]; exact hlate)).trans (congrArg _ hsame)

/-- An event that updates its station and is no sweep start. -/
theorem onChip_sweepMirror_setStn {g : Station → Station} (hs : Runs s) (hf : f s = s.setStn i g)
    (hg : ∀ x, (g x).weaver.sweep = x.weaver.sweep) : onChip (sweepMirror i f) s = .next (s.setStn i g) := by
  rw [onChip_sweepMirror_same hs (by rw [hf]; exact sweep_setStn hg) (by rw [hf]; exact hs.2), hf]

/-- A sweep start answers what it makes of the state, with its station's block refreshed once after it. -/
theorem onChip_sweepMirror_start (hs : Runs s) (hi : i < 5) (hsweep : ((f s).wvr i).sweep ≠ (s.wvr i).sweep)
    (hlate : (f s).shs.lateDue = false) :
    ∃ l, onChip (sweepMirror i f) s = .next { f s with reg := { (f s).reg with mirrors := l } }
      ∧ (mirrorsWfFrom 0 (f s).reg.mirrors = true → mirrorRead l (0x40000 + 0x2000 * i)
          = mirrorRead (f s).reg.mirrors (0x40000 + 0x2000 * i) + 2) := by
  obtain ⟨l, hl, hgen⟩ := mirrorRefresh_gen (by omega) (blockWords_station hi (f s))
  have hstart : sweepMirror i f s = { f s with reg := { (f s).reg with mirrors := l } } := (if_pos hsweep).trans hl
  exact ⟨l, (onChip_of_runs hs (by rw [hstart]; exact hlate)).trans (congrArg _ hstart), hgen⟩

end

end Sys2Proof.Machine
end

section
/-!
PROOFS. Edges, sweep starts outside LOCKED and the light of a Weaver (R173, R179, R181 to R185, R197).
-/
namespace Sys2Proof.Machine

section
variable {s : State} {i : Nat}

/-! ## The light of the beam-detect beam (R173, R179, R197) -/

/-- The payload of the CMD block BD_LIGHT of `dur` x 0.1 us (R179, R197). -/
def bdLightBlock (i dur : Nat) (s : State) : Nat :=
  4 + byteAt (s.wvr i).b 8 % 16 * 2 ^ 8
    + min (u16At (s.wvr i).b 10) (s.lane i (bdLane (s.wvr i))).driveMax * 2 ^ 12 + dur * 2 ^ 24

/-- BD_LIGHT goes out on the lane of the beam. -/
theorem bdLight_eq (dur : Nat) : bdLight i dur s = s.setLane i (bdLane (s.wvr i))
    (sendCmds (linkBusy (s.stn i)) [(0x78, bdLightBlock i dur s)]) := by
  unfold bdLight bdLightBlock bdDrive Weaver.b
  cases (s.wvr i).set <;> rfl

/-- A Weaver in ACQUIRE without a side in progress lights its unlit beam on an UP lane. -/
theorem acquireLight_lights (hstate : (s.wvr i).state = .acquire) (hlit : (s.wvr i).lit = false)
    (hsides : (s.stn i).sides = []) (hup : (s.lane i (bdLane (s.wvr i))).state = .up) :
    acquireLight i s = (bdLight i 255 s).setWvr i fun w => { w with lit := true } :=
  if_pos ⟨hstate, hlit, by rw [hsides]; rfl, hup⟩

/-- A Weaver waits unlit while a side is in progress or its lane is not UP (R185). -/
theorem acquireLight_waits (h : (s.stn i).sides ≠ [] ∨ (s.lane i (bdLane (s.wvr i))).state ≠ .up) :
    acquireLight i s = s := by
  refine if_neg fun ⟨_, _, hsides, hup⟩ => ?_
  exact h.elim (fun h => h (List.isEmpty_iff.1 hsides)) fun h => h hup

/-- `t` comes from `s` by an update of station `i` that leaves its Weaver as it is but for the light. -/
def LightsAt (i : Nat) (s t : State) : Prop :=
  ∃ g, t = s.setStn i g ∧ ∀ x, ∃ b, (g x).weaver = { x.weaver with lit := b }

theorem wakeLane_lightsAt (m : Nat) : LightsAt i s (wakeLane i m s) := by
  unfold wakeLane
  split
  · exact ⟨_, setStn_setStn _ _, fun x => ⟨x.weaver.lit, rfl⟩⟩
  · exact ⟨_, (setStn_eq_self (f := fun x => x) rfl).symm, fun x => ⟨x.weaver.lit, rfl⟩⟩

theorem acquireLight_lightsAt : LightsAt i s (acquireLight i s) := by
  unfold acquireLight
  dsimp only
  split
  · exact ⟨_, setStn_setStn _ _, fun x => ⟨true, rfl⟩⟩
  · exact ⟨_, (setStn_eq_self (f := fun x => x) rfl).symm, fun x => ⟨x.weaver.lit, rfl⟩⟩

theorem LightsAt.trans {t u : State} (h : LightsAt i s t) (k : LightsAt i t u) : LightsAt i s u := by
  obtain ⟨f, rfl, hf⟩ := h
  obtain ⟨g, rfl, hg⟩ := k
  refine ⟨_, setStn_setStn _ _, fun x => ?_⟩
  obtain ⟨a, ha⟩ := hf x
  obtain ⟨b, hb⟩ := hg (f x)
  exact ⟨b, by rw [hb, ha]⟩

/-! ## ACQUIRE (R184, R185) -/

/-- A Weaver as it enters a state of its search for edges: `enterScan` as an update of the Weaver (R184). -/
def Weaver.entered (st : WState) (w : Weaver) : Weaver := { w with
  state := st, that := none, edges := [], count := 0, locked := 0, valid := 0, missing := 0, ident := none, gathered := 0
  idFails := 0, idBad := 0, indexSeen := false, acqFails := 0, lit := false, speedRun := 0 }

/-- A Weaver enters ACQUIRE; what else changes of its station are lanes and polls. -/
theorem enterAcquire_eq : ∃ g, enterAcquire i s = s.setStn i g
    ∧ ∀ x, ∃ b, (g x).weaver = { x.weaver.entered .acquire with lit := b } := by
  obtain ⟨g, hg, hlit⟩ := (wakeLane_lightsAt (i := i) (s := enterScan i .acquire s) (bdLane (s.wvr i))).trans
    acquireLight_lightsAt
  exact ⟨_, hg.trans (setStn_setStn _ _), fun x => hlit _⟩

/-! ## Edges (R182 to R184, R186, R187) -/

/-- The first edge of a search identifies nothing: INDEX has latched no pulse, and SIGNATURE has no interval (R186, R187). -/
theorem identStep_first (hn : 1 < (s.poly (polyOf i)).n)
    (hident : (s.wvr i).ident = none) (hindex : (s.wvr i).indexSeen = false) (hcount : (s.wvr i).count = 1)
    (hgathered : (s.wvr i).gathered = 0) : identStep i s = s := by
  have hkeep : (s.setWvr i fun w => { w with gathered := if 2 ≤ w.count then w.gathered + 1 else 0 }) = s := by
    have hsame : (if 2 ≤ (s.wvr i).count then (s.wvr i).gathered + 1 else 0) = (s.wvr i).gathered := by
      rw [hcount, hgathered]; rfl
    exact setWvr_eq_self (by simp only [hsame])
  have hfew : (s.wvr i).gathered < 4 * (s.poly (polyOf i)).n := by omega
  unfold identStep
  dsimp only
  split
  · simp only [hident, hindex, Bool.false_eq_true, if_false]
  · rw [hkeep]
    simp only [hident, if_pos hfew]
  · rfl

/-- One edge gives FACET_LEARN no interval (R199). -/
theorem learnStep_single {t : Nat} (hedges : (s.wvr i).edges = [t]) : learnStep i s = s := by
  unfold learnStep
  dsimp only
  rw [hedges]
  split
  · rename_i htwo
    exact absurd htwo (by simp)
  · rfl

/-- A Weaver in TRACKING that has taken its first edge, at `t` (R183). -/
def Weaver.firstEdge (t : Nat) (w : Weaver) : Weaver := { w.entered .tracking with edges := [t], count := 1 }

/-- Neither the identification nor FACET_LEARN makes anything of the first edge. -/
theorem learnStep_identStep_firstEdge {t : Nat} (hi : i < s.img.stations.length) (hn : 1 < (s.poly (polyOf i)).n) :
    learnStep i (identStep i (s.setWvr i (Weaver.firstEdge t))) = s.setWvr i (Weaver.firstEdge t) := by
  have hwvr : (s.setWvr i (Weaver.firstEdge t)).wvr i = (s.wvr i).firstEdge t := wvr_setWvr_same hi _
  have hident : identStep i (s.setWvr i (Weaver.firstEdge t)) = s.setWvr i (Weaver.firstEdge t) := by
    refine identStep_first hn ?_ ?_ ?_ ?_ <;> rw [hwvr] <;> rfl
  rw [hident]
  exact learnStep_single (by rw [hwvr]; rfl)

/-- The first edge after ACQUIRE is taken and predicts the next one by the measured speed (R183, R184). -/
theorem takeEdge_first {t : Nat} (at_ : Nat) (hi : i < s.img.stations.length) (hn : 1 < (s.poly (polyOf i)).n) :
    takeEdge i t at_ true (enterScan i .tracking s) = s.setWvr i fun w =>
      { w.firstEdge t with that := some (tuAdd t (facetPeriod (polyOf i) s)) } := by
  have hwvr : (s.setWvr i (Weaver.firstEdge t)).wvr i = (s.wvr i).firstEdge t := wvr_setWvr_same hi _
  unfold takeEdge
  extract_lets y n w edges trev missing noted counted locked bridged learned k facet numbered started done
  have hw : w = (s.wvr i).entered .tracking := wvr_setWvr_same hi _
  have hsize : 1 < n := Nat.lt_of_lt_of_le hn (Nat.le_max_right _ _)
  have hedges : edges = [t] := by simp [edges, hw, Weaver.entered]
  have hnone : edges[n]? = none := by rw [hedges]; exact List.getElem?_eq_none (Nat.le_of_lt hsize)
  have hnoted : noted = s.setWvr i (Weaver.firstEdge t) := by
    have htrev : trev = (s.wvr i).trev := by simp only [trev, hnone, hw, Weaver.entered]
    refine (setWvr_setWvr _ _).trans (setWvr_congr ?_)
    simp only [hedges, htrev]
    rfl
  have hcounted : counted = s.setWvr i (Weaver.firstEdge t) :=
    (if_neg (by simp [hw, Weaver.entered, Nat.mod_eq_of_lt hsize])).trans hnoted
  have hlocked : locked = s.setWvr i (Weaver.firstEdge t) :=
    (if_neg (by rw [hcounted, hwvr]; exact fun h => Nat.not_succ_le_zero 31 h.2)).trans hcounted
  have hlearned : learned = s.setWvr i (Weaver.firstEdge t) := by
    have hbridged : bridged = s.setWvr i (Weaver.firstEdge t) := (if_neg Nat.zero_ne_one).trans hlocked
    simp only [learned, hbridged, learnStep_identStep_firstEdge hi hn]
  have hdone : done = s.setWvr i (Weaver.firstEdge t) :=
    (if_neg (by rw [hlearned, hwvr]; exact WState.noConfusion)).trans hlearned
  rw [if_neg (by simp), if_neg (by simp [missing]), if_pos (.inl (by rw [hdone, hwvr]; rfl)), hdone, hnone]
  exact setWvr_setWvr _ _

/-- The lead station of a polygon counts each revolution of its edges (R383). -/
def countRev (i : Nat) (s : State) : State :=
  if isLead i s = true ∧ ((s.wvr i).count + 1) % max 1 (s.poly (polyOf i)).n = 0
  then s.setPoly (polyOf i) fun y => { y with lifeRevs := y.lifeRevs + 1 } else s

@[simp] theorem countRev_stn (k : Nat) : (countRev i s).stn k = s.stn k := by
  unfold countRev; split <;> rfl

theorem countRev_eq : countRev i s = { s with img := { s.img with polygons :=
    (if isLead i s = true ∧ ((s.wvr i).count + 1) % max 1 (s.poly (polyOf i)).n = 0
      then upd s.img.polygons (polyOf i) fun y => { y with lifeRevs := y.lifeRevs + 1 } else s.img.polygons) } } := by
  unfold countRev; split <;> rfl

/-- An edge that is missing in TRACKING sends its Weaver to ACQUIRE (R182, R184). -/
theorem takeEdge_missing_tracking {t : Nat} (at_ : Nat) (hstate : (s.wvr i).state = .tracking) :
    ∃ g, takeEdge i t at_ false s = (countRev i s).setStn i g
      ∧ ∀ x, ∃ b c, (g x).weaver = { x.weaver.entered .acquire with trev := b, lit := c } := by
  unfold takeEdge
  extract_lets y n w edges trev missing noted counted
  rw [if_pos ⟨hstate, rfl⟩]
  obtain ⟨g, hg, hweaver⟩ := enterAcquire_eq (i := i) (s := counted)
  have hcounted : ∃ f, counted = (countRev i s).setWvr i f ∧ ∀ w, f w = { w with
      edges := edges, count := w.count + 1, valid := 0, missing := missing, trev := trev, that := none } := by
    refine ⟨_, ?_, fun w => rfl⟩
    have hturn : (isLead i noted && (w.count + 1) % n == 0) = true
        ↔ isLead i s = true ∧ ((s.wvr i).count + 1) % max 1 (s.poly (polyOf i)).n = 0 := by
      rw [Bool.and_eq_true, beq_iff_eq]; rfl
    by_cases h : isLead i s = true ∧ ((s.wvr i).count + 1) % max 1 (s.poly (polyOf i)).n = 0
    · rw [countRev, if_pos h]; exact if_pos (hturn.2 h)
    · rw [countRev, if_neg h]; exact if_neg (mt hturn.1 h)
  obtain ⟨f, hf, hfields⟩ := hcounted
  refine ⟨_, hg.trans (by rw [hf]; exact setStn_setStn _ _), fun x => ?_⟩
  obtain ⟨b, hb⟩ := hweaver { x with weaver := f x.weaver }
  exact ⟨trev, b, by rw [hb, hfields]; rfl⟩

/-! ## Sweep starts outside LOCKED (R184, R210, R490) -/

/-- A sweep start of a station without a side in progress changes the work tag, and where the controller is UNFIT what its
lanes await (R11, R460). -/
theorem pipelineSweep_sideless (aborted : Bool) (hsides : (s.stn i).sides = []) (hsweep : (s.stn i).sweep = none) :
    ∃ lanes polls judged, pipelineSweep i aborted s = s.setStn i fun x => { x with
      lanes := lanes, polls := polls, judged := judged, tag := workTag i 0 0 0 (s.wvr i).sweep } := by
  have hclosed : closeOpen i s = s := by simp only [closeOpen, hsweep]
  have hdecoded : decoderSweep i s = s := by simp only [decoderSweep, hsides, List.foldl_nil]
  unfold pipelineSweep
  split
  · rw [unfitSweep, hclosed]
    exact ⟨_, _, _, (setStn_setStn _ _).trans (setStn_congr rfl)⟩
  · simp only [runSweep, hclosed, hdecoded, Station.side?, hsides, List.head?_nil]
    exact ⟨(s.stn i).lanes, (s.stn i).polls, (s.stn i).judged, setStn_congr rfl⟩

/-- A Weaver that counts sweep start `sweep` at `at_` and latches the belt count with its position (R184, R196, R210). -/
def Weaver.started (sweep at_ : Nat) (count belt16 : Int) (next : List Nat) (w : Weaver) : Weaver := { w with
  sweep := sweep, lifeSweeps := w.lifeSweeps + 1, lastStart := some at_, pos := count, belt16 := belt16, next := next }

/-- A sweep start outside LOCKED of a station without a side in progress counts and latches the belt, and no more. -/
theorem sweepStart_sideless (tbd at_ : Nat) (hi : i < s.img.stations.length) (hlate : s.shs.lateDue = false)
    (hlocked : (s.wvr i).state ≠ .locked) (hsides : (s.stn i).sides = []) (hsweep : (s.stn i).sweep = none)
    (hsheets : s.shs.sheets = []) :
    ∃ lanes polls judged belt16 next, sweepStart i tbd at_ true true s = (s.setStn i fun x => { x with
      lanes := lanes, polls := polls, judged := judged, tag := workTag i 0 0 0 (((s.wvr i).sweep + 1) % 2 ^ 27)
      weaver := x.weaver.started (((s.wvr i).sweep + 1) % 2 ^ 27) at_ (beltCount (s.poly (polyOf i)).beltQe s) belt16 next
      }).pulse (stLine i 0) 0 := by
  have hnoSide : ∀ n, sideAt i n s = none := fun n => by simp only [sideAt, Station.side?, hsides, List.head?_nil]
  unfold sweepStart
  extract_lets p y w fires per inRange fired aborted count d16 tracked regulated sweep interval full next counted cut
    spoiled piped fixed
  have hfires : fires = false := by simp [fires, w]
  have hfired : fired = s := if_neg (by simp [hfires])
  have hregulated : regulated = s := by
    have htracked : tracked = s := by simp only [tracked, trackSide, hfired, hnoSide]
    simp only [regulated, htracked, hfired, if_true]
    split <;> rfl
  have hcounted : counted = s.setWvr i (Weaver.started sweep at_ count (belt16Of y.l16pc count) next) := by
    simp only [counted, hregulated]; rfl
  have hstn : counted.stn i = { s.stn i with
      weaver := (s.wvr i).started sweep at_ count (belt16Of y.l16pc count) next } := by
    rw [hcounted]; exact stn_setStn_same hi _
  have hside : sideAt i sweep counted = none := by simp only [sideAt, Station.side?, hstn, hsides, List.head?_nil]
  have hcut : cut = counted := if_neg (by simp [hside, w, hlocked])
  have hspoiled : spoiled = counted := by simp only [spoiled, hcut, hside]
  obtain ⟨lanes, polls, judged, hpipe⟩ := pipelineSweep_sideless (i := i) (s := counted.pulse (stLine i 0) 0) aborted
    ((congrArg Station.sides hstn).trans hsides) ((congrArg Station.sweep hstn).trans hsweep)
  have hpiped : piped = ((counted.setStn i fun x => { x with
      lanes := lanes, polls := polls, judged := judged, tag := workTag i 0 0 0 sweep }).pulse (stLine i 0) 0) := by
    simp only [piped, hspoiled, hpipe]
    rw [show ((counted.pulse (stLine i 0) 0).wvr i).sweep = sweep from congrArg (fun x => x.weaver.sweep) hstn]
    rfl
  have hshs : piped.shs = s.shs := by rw [hpiped, hcounted]; rfl
  have hfixed : fixed = piped := by
    simp only [fixed, fixTests, hshs, hsheets, List.foldl_nil]
  refine ⟨lanes, polls, judged, belt16Of y.l16pc count, next, ?_⟩
  rw [if_pos rfl, hfixed, lateSpoils_none (by rw [hshs]; exact hlate), hpiped, hcounted, State.setWvr, setStn_setStn]
  simp only [count, hfired]
  rfl

/-- The work tag of a sweep start without a side in progress (R11). -/
theorem workTag_sideless (n : Nat) : workTag i 0 0 0 n = i * 2 ^ 17 + n % 2 ^ 27 * 2 ^ 37 := by
  simp only [workTag, lineTag]; omega

/-! ## What the rows of a Weaver make of the state (R179 to R185) -/

/-- An edge that is not in the polarity BD_POL, or while CLK_IMG is gated, changes nothing (R181, R401). -/
theorem bdEdge_ignored {t hold : Nat} {up : Bool} (h : imgGated i s = true ∨ bdActive i up s = false) :
    bdEdge i t up hold s = s := if_pos (by simpa using h)

/-- A Weaver that has counted one more stray edge (R181). -/
def Weaver.strayed (w : Weaver) : Weaver := { w with stray := min (w.stray + 1) 65535 }

/-- An edge that is not valid is stray (R181, R184). -/
theorem bdEdge_stray {t hold : Nat} {up : Bool} (hgate : imgGated i s = false) (hactive : bdActive i up s = true)
    (hinvalid : (s.wvr i).state = .off ∨ (s.wvr i).state = .spinup ∨ (s.wvr i).state = .fault
      ∨ ((s.wvr i).state = .acquire ∧ hold < minWidth i s)
      ∨ (((s.wvr i).state = .tracking ∨ (s.wvr i).state = .locked) ∧ ∃ th, (s.wvr i).that = some th
        ∧ (hold < minWidth i s ∨ inWindow i (t % 2 ^ 48) th s = false))) :
    bdEdge i t up hold s = s.setWvr i Weaver.strayed := by
  have hwindow : ∀ th, (hold < minWidth i s ∨ inWindow i (t % 2 ^ 48) th s = false) →
      (decide (minWidth i s ≤ hold) && inWindow i (t % 2 ^ 48) th s) = false := fun th h => by
    rcases h with h | h
    · rw [decide_eq_false (Nat.not_le.2 h), Bool.false_and]
    · rw [h, Bool.and_false]
  simp only [bdEdge, hgate, hactive, satInc_16, Bool.not_true, Bool.or_self, Bool.false_eq_true, if_false]
  rcases hinvalid with h | h | h | ⟨h, hhold⟩ | ⟨h | h, th, hthat, hedge⟩
  · rw [h]; rfl
  · rw [h]; rfl
  · rw [h]; rfl
  · simp only [h, decide_eq_false (Nat.not_le.2 hhold), Bool.not_false, Bool.true_or, if_true]; rfl
  · simp only [h, hthat, hwindow th hedge, Bool.false_eq_true, if_false]; rfl
  · simp only [h, hthat, hwindow th hedge, Bool.false_eq_true, if_false]; rfl

/-- A valid edge in ACQUIRE, with no side in progress, is the first edge of TRACKING (R184, R185). -/
theorem bdEdge_acquires {t hold : Nat} {up : Bool} (hi : i < s.img.stations.length) (hgate : imgGated i s = false)
    (hactive : bdActive i up s = true) (hheld : minWidth i s ≤ hold) (hstate : (s.wvr i).state = .acquire)
    (hsides : (s.stn i).sides = []) (hn : 1 < (s.poly (polyOf i)).n) :
    bdEdge i t up hold s = s.setWvr i fun w =>
      { w.firstEdge (t % 2 ^ 48) with that := some (tuAdd (t % 2 ^ 48) (facetPeriod (polyOf i) s)) } := by
  rw [← takeEdge_first (t % 2 ^ 48) hi hn]
  simp only [bdEdge, hgate, hactive, hstate, hheld, Station.side?, hsides, Bool.not_true, Bool.or_self, Bool.false_eq_true,
    if_false, decide_true, List.head?_nil, Option.isSome_none]

/-- A window that closes in TRACKING without a valid edge (R182, R184). -/
theorem bdWindowClose_tracking {th : Nat} (hstate : (s.wvr i).state = .tracking) (hthat : (s.wvr i).that = some th) :
    ∃ g, bdWindowClose i s = (countRev i s).setStn i g
      ∧ ∀ x, ∃ b c, (g x).weaver = { x.weaver.entered .acquire with trev := b, lit := c } := by
  simp only [bdWindowClose, hthat, hstate, true_or, if_true]
  exact takeEdge_missing_tracking _ hstate

/-- BD_LIGHT goes out for a facet whose edge is predicted (R179). -/
theorem bdLightSend_eq (hstate : (s.wvr i).state = .tracking ∨ (s.wvr i).state = .locked)
    (hthat : (s.wvr i).that.isSome = true) (hup : (s.lane i (bdLane (s.wvr i))).state = .up) :
    bdLightSend i s = bdLight i (byteAt (s.wvr i).b 15) s := if_pos ⟨hstate, hthat, hup⟩

/-- A Weaver that has counted a failed lighting and is to light again (R185). -/
def Weaver.unlit (w : Weaver) : Weaver := { w with acqFails := w.acqFails + 1, lit := false }

/-- A lighting that has failed is repeated before the tenth failure (R184, R185). -/
theorem acquireRetry_again (hi : i < s.img.stations.length) (hstate : (s.wvr i).state = .acquire)
    (hsides : (s.stn i).sides = []) (hlit : (s.wvr i).lit = true) (hfails : (s.wvr i).acqFails + 1 < 10)
    (hup : (s.lane i (bdLane (s.wvr i))).state = .up) :
    acquireRetry i s = (s.setLane i (bdLane (s.wvr i))
        (sendCmds (linkBusy (s.stn i)) [(0x78, bdLightBlock i 255 s)])).setWvr i fun w =>
      { w with acqFails := w.acqFails + 1 } := by
  have hretry : acquireRetry i s = acquireLight i (s.setWvr i Weaver.unlit) := by
    simp only [acquireRetry, hstate, hlit, hfails, ne_eq, not_true_eq_false, Bool.true_eq_false, if_false, if_true]
    exact congrArg (acquireLight i) (setWvr_congr rfl)
  have hstn : (s.setWvr i Weaver.unlit).stn i = { s.stn i with weaver := (s.wvr i).unlit } := stn_setStn_same hi _
  have hwvr : (s.setWvr i Weaver.unlit).wvr i = (s.wvr i).unlit := wvr_setWvr_same hi _
  have hlane : ∀ m, (s.setWvr i Weaver.unlit).lane i m = s.lane i m := fun m => by simp only [State.lane, hstn]
  have hblock : bdLightBlock i 255 (s.setWvr i Weaver.unlit) = bdLightBlock i 255 s := by
    simp only [bdLightBlock, hwvr, hlane]; rfl
  have hlights : acquireLight i (s.setWvr i Weaver.unlit)
      = (bdLight i 255 (s.setWvr i Weaver.unlit)).setWvr i fun w => { w with lit := true } := by
    refine acquireLight_lights ?_ ?_ ?_ ?_
    · rw [hwvr]; exact hstate
    · rw [hwvr]; rfl
    · rw [hstn]; exact hsides
    · rw [hlane, hwvr]; exact hup
  rw [hretry, hlights, bdLight_eq, hblock, hstn, hwvr]
  refine (congrArg (State.setWvr · i _) (setStn_setStn _ _)).trans ?_
  refine (setStn_setStn _ _).trans ((setStn_congr ?_).trans (setStn_setStn _ _).symm)
  have hsame : ({ (s.stn i).weaver.unlit with lit := true } : Weaver)
      = { (s.stn i).weaver with acqFails := (s.stn i).weaver.acqFails + 1 } := by
    simp only [Weaver.unlit, ← hlit]; rfl
  simp only [hsame]
  rfl

/-- The tenth lighting that fails is the fault BD_ACQ_FAIL (R184). -/
theorem acquireRetry_tenth (hstate : (s.wvr i).state = .acquire) (hlit : (s.wvr i).lit = true)
    (hfails : (s.wvr i).acqFails = 9) :
    acquireRetry i s = lateSpoils
      (((enterScan i .fault s).finish .scanStart (polyOf i) stFaulted 0x0218).raise .halt 236 i 0x18) := by
  simp only [acquireRetry, hstate, hlit, hfails, ne_eq, not_true_eq_false, Bool.true_eq_false, if_false,
    Nat.reduceAdd, Nat.lt_irrefl]

/-- BD_ACQ_FAIL is no fault with which an ACTIVE declares itself (R462). -/
theorem declares_bdAcqFail (n : Nat) : declares 236 n 0x18 = false := by
  simp [declares, supervisorFault]

/-- A nominal sweep start of a station without a side in progress, outside LOCKED (R184). -/
theorem nominalStart_sideless {t0 : Nat} (hi : i < s.img.stations.length) (hlate : s.shs.lateDue = false)
    (hlast : (s.wvr i).lastStart = some t0) (hwas : (s.wvr i).wasLocked = true) (hoff : (s.wvr i).state ≠ .off)
    (hlocked : (s.wvr i).state ≠ .locked) (hsides : (s.stn i).sides = []) (hsweep : (s.stn i).sweep = none)
    (hsheets : s.shs.sheets = []) :
    ∃ t, nominalStart i s = t ∧ t = { s with io := t.io, img := { s.img with stations := t.img.stations } }
      ∧ (t.wvr i).sweep = ((s.wvr i).sweep + 1) % 2 ^ 27
      ∧ (t.wvr i).lastStart = some (tuAdd t0 (s.poly (polyOf i)).tNom)
      ∧ (t.wvr i).pos = beltCount (s.poly (polyOf i)).beltQe s
      ∧ (t.stn i).tag = i * 2 ^ 17 + ((s.wvr i).sweep + 1) % 2 ^ 27 * 2 ^ 37 := by
  have hstart : nominalStart i s = sweepStart i (tuAdd t0 (s.poly (polyOf i)).tNom) (tuAdd t0 (s.poly (polyOf i)).tNom)
      true true s := by
    simp only [nominalStart, hlast, hwas, hoff, hlocked, Bool.true_eq_false, or_self, if_false]
  obtain ⟨lanes, polls, judged, belt16, next, hend⟩ := sweepStart_sideless (tuAdd t0 (s.poly (polyOf i)).tNom)
    (tuAdd t0 (s.poly (polyOf i)).tNom) hi hlate hlocked hsides hsweep hsheets
  refine ⟨_, hstart.trans hend, rfl, ?_⟩
  simp only [State.wvr, stn_pulse, stn_setStn_same hi, workTag_sideless, Nat.mod_mod]
  exact ⟨rfl, rfl, rfl, trivial⟩

end
end Sys2Proof.Machine
end

section
/-!
PROOFS. A fault of class HALT as it is raised: ADMITTED sheets return to STAGED, the controller is HALTED, the fault is
listed or counted, and its record waits (R207, R437, R448, R449).
-/
namespace Sys2Proof.Machine

/-- State `t` comes from `s` by events, by changes of sheets that leave no late spoil due, and by reservations of the
ledger that are released. -/
structure Unadmits (s t : State) : Prop where
  same : t = { s with io := t.io, shs := t.shs, led := { s.led with resv := t.led.resv } }
  late : t.shs.lateDue = s.shs.lateDue

section
variable {s t u : State}

theorem Unadmits.refl (s : State) : Unadmits s s := ⟨rfl, rfl⟩

theorem Unadmits.trans (h : Unadmits s t) (k : Unadmits t u) : Unadmits s u where
  same := by rw [k.same, h.same]
  late := k.late.trans h.late

theorem SheetsOnly.unadmits (h : SheetsOnly s t) : Unadmits s t := ⟨by rw [h.same], h.late⟩

theorem unadmit_unadmits (id : Nat) : Unadmits s (unadmit id s) := by
  refine Unadmits.trans ?_ (sheetState_sheetsOnly id .staged).unadmits
  exact ⟨rfl, rfl⟩

theorem unadmitAll_unadmits : Unadmits s (unadmitAll s) :=
  List.foldlRecOn _ _ (.refl s) fun _ h _ _ => h.trans (unadmit_unadmits _)

end

section
variable {s : State} {c : Cls} {line index cause : Nat}

theorem setCtrl_eq (x : CState) : ∃ io, s.setCtrl x = { s with io := io, saf := { s.saf with ctrl := x } } := by
  unfold State.setCtrl
  split
  case isTrue h => exact ⟨s.io, by rw [← h]⟩
  case isFalse => exact ⟨_, rfl⟩

/-- The state after the class effect of a fault, with the controller in the state of its class (R437). -/
def classed (c : Cls) (line index cause : Nat) (s : State) : State :=
  (classEffect c (supervisorFault line index cause) s).setCtrl (classState c s.saf.ctrl)

theorem classed_ctrl : (classed c line index cause s).saf.ctrl = classState c s.saf.ctrl := by
  obtain ⟨io, h⟩ := setCtrl_eq (s := classEffect c (supervisorFault line index cause) s) (classState c s.saf.ctrl)
  rw [classed, h]

/-- The PROTECT record of a fault (R362). -/
def faultRec (c : Cls) (line index cause : Nat) (s : State) : Rec where
  kind := .protect
  time := s.io.time
  origin := 8
  detail := line
  subject := 0
  body := le 1 line ++ le 1 index ++ le 1 cause ++ le 1 c.code ++ le 4 s.saf.ctrl.code
    ++ le 4 (classState c s.saf.ctrl).code
  draw := .protective
  act := .fault line index cause

/-- A fault that is active already counts (R448). -/
theorem raise_active (h : declares line index cause = false)
    (hactive : (s.saf.faults.any fun x => x.line = line && x.index = index && x.cause = cause) = true) :
    s.raise c line index cause = { classed c line index cause s with
      saf := { (classed c line index cause s).saf with
        faults := countFault line index cause (classed c line index cause s).saf.faults } } := by
  simp only [State.raise, h, Bool.false_eq_true, if_false, hactive, if_true]
  rfl

/-- A fault that is not active enters the list and hands its record over (R448, R449). -/
theorem raise_new (h : declares line index cause = false)
    (hnew : (s.saf.faults.any fun x => x.line = line && x.index = index && x.cause = cause) = false) :
    ∃ io saf, s.raise c line index cause = { classed c line index cause s with
        io := io, saf := saf
        led := { (classed c line index cause s).led with
          queue := insertRec (faultRec c line index cause s) (classed c line index cause s).led.queue } }
      ∧ saf.ctrl = classState c s.saf.ctrl
      ∧ saf.faults = (addFault { cls := c, line := line, index := index, cause := cause, time := s.io.time }
          (classed c line index cause s).saf.faults).1 := by
  have hctrl := classed_ctrl (c := c) (line := line) (index := index) (cause := cause) (s := s)
  simp only [faultRec, ← hctrl]
  simp only [State.raise, h, Bool.false_eq_true, if_false, hnew]
  split
  · exact ⟨_, _, rfl, rfl, rfl⟩
  · exact ⟨_, _, rfl, rfl, rfl⟩

/-- A fault whose class effect leaves the fault list as it is, is raised. -/
theorem raised_of_faults (h : declares line index cause = false)
    (hfaults : (classed c line index cause s).saf.faults = s.saf.faults) :
    Raised c line index cause s (s.raise c line index cause) := by
  unfold Raised
  cases hactive : s.saf.faults.any fun x => x.line = line && x.index = index && x.cause = cause with
  | true =>
    obtain ⟨e, he, hkey⟩ := List.any_eq_true.1 hactive
    have hkey' : e.line = line ∧ e.index = index ∧ e.cause = cause := by simpa [and_assoc] using hkey
    rw [if_pos rfl, raise_active h hactive, hfaults]
    exact ⟨classed_ctrl, fun _ => ⟨e, he, hkey'.1, hkey'.2.1, hkey'.2.2, mem_countFault he hkey'⟩⟩
  | false =>
    obtain ⟨io, saf, hraise, hctrl, hlist⟩ := raise_new (c := c) h hactive
    rw [if_neg (by decide), hraise]
    refine ⟨hctrl, fun hroom => ?_, faultRec c line index cause s, mem_insertRec_self _ _, rfl, rfl, ?_⟩
    · simp only [hlist, hfaults, addFault_of_room _ hroom, List.mem_append, List.mem_singleton, or_true]
    · simp only [faultRec, hctrl]

/-- A raise leaves what its class effect leaves of the stations and of the sheets. -/
theorem raise_img_shs (h : declares line index cause = false) :
    (s.raise c line index cause).img = (classed c line index cause s).img
      ∧ (s.raise c line index cause).shs = (classed c line index cause s).shs := by
  cases hactive : s.saf.faults.any fun x => x.line = line && x.index = index && x.cause = cause with
  | true => rw [raise_active h hactive]; exact ⟨rfl, rfl⟩
  | false =>
    obtain ⟨io, saf, hraise, -, -⟩ := raise_new (c := c) h hactive
    rw [hraise]; exact ⟨rfl, rfl⟩

/-- The class effect of a HALT that is no fault of a supervisor pair (R10, R207). -/
theorem classed_halt (h : declares line index cause = false) :
    ∃ io, classed .halt line index cause s
      = { unadmitAll s with io := io, saf := { s.saf with ctrl := classState .halt s.saf.ctrl } } := by
  have hsup : supervisorFault line index cause = false := (Bool.or_eq_false_iff.1 h).1
  have hsaf : (unadmitAll s).saf = s.saf := by rw [unadmitAll_unadmits.same]
  obtain ⟨io, hset⟩ := setCtrl_eq (s := unadmitAll s) (classState .halt s.saf.ctrl)
  rw [hsaf] at hset
  refine ⟨io, Eq.trans ?_ hset⟩
  rw [classed, hsup]
  rfl

/-- A fault of class HALT is raised and leaves the stations as they are, and no late spoil due. -/
theorem raised_halt (h : declares line index cause = false) :
    Raised .halt line index cause s (s.raise .halt line index cause)
      ∧ (s.raise .halt line index cause).img = s.img
      ∧ (s.raise .halt line index cause).shs.lateDue = s.shs.lateDue := by
  obtain ⟨io, hclassed⟩ := classed_halt (s := s) h
  obtain ⟨himg, hshs⟩ := raise_img_shs (c := .halt) (s := s) h
  rw [himg, hshs, hclassed]
  refine ⟨raised_of_faults h (by rw [hclassed]), ?_, unadmitAll_unadmits.late⟩
  rw [unadmitAll_unadmits.same]

/-- What is raised depends on the faults, the controller state and the time alone. -/
theorem Raised.of_saf {k t : State} (h : Raised c line index cause k t) (hsaf : k.saf = s.saf)
    (htime : k.io.time = s.io.time) : Raised c line index cause s t := by
  unfold Raised at h ⊢
  rwa [hsaf, htime] at h

end
end Sys2Proof.Machine
end

section
/-!
PROOFS. The statement about the events of the Weavers.
-/
namespace Sys2Proof.Machine

/-- Settles O28: each event is what the lemma on its operation says; the one sweep start among them refreshes its station's
mirror after it. -/
theorem weaverEvents : Obligations.WeaverEvents := by
  refine ⟨?acquires, ?ignored, ?stray, ?windowClose, ?nominal, ?light, ?retry, ?waits, ?fails, ?timeout⟩
  case acquires =>
    intro i t up hold s hs hi hgate hactive hheld hstate hsides hn
    exact onChip_sweepMirror_setStn hs (bdEdge_acquires hi hgate hactive hheld hstate hsides hn) fun _ => rfl
  case ignored =>
    intro i t up hold s hs hignored
    have hsame := bdEdge_ignored (t := t) (hold := hold) hignored
    exact (onChip_sweepMirror_same hs (by rw [hsame]) (by rw [hsame]; exact hs.2)).trans (congrArg _ hsame)
  case stray =>
    intro i t up hold s hs hgate hactive hinvalid
    exact onChip_sweepMirror_setStn hs (bdEdge_stray hgate hactive hinvalid) fun _ => rfl
  case windowClose =>
    intro i th s hs hi hstate hthat
    obtain ⟨g, hclose, hweaver⟩ := bdWindowClose_tracking hstate hthat
    obtain ⟨trev, lit, hacquire⟩ := hweaver (s.stn i.val)
    have hwvr : (bdWindowClose i.val s).wvr i.val = { (s.wvr i.val).entered .acquire with trev := trev, lit := lit } := by
      rw [hclose, wvr_setStn_same (by rw [countRev_eq]; exact hi), countRev_stn, hacquire]; rfl
    have hshs : (bdWindowClose i.val s).shs = s.shs := by rw [hclose, countRev_eq]; rfl
    refine ⟨_, onChip_sweepMirror_same hs (by rw [hwvr]; rfl) (by rw [hshs]; exact hs.2), ?_, ?_, ?_⟩
    · rw [hclose, countRev_eq]; rfl
    · rw [hclose, countRev_eq]; rfl
    · rw [hwvr]; exact ⟨rfl, rfl, rfl⟩
  case nominal =>
    intro i t0 s hs hi hlast hwas hoff hlocked hsides hsweep hsheets
    obtain ⟨t, ht, hframe, hnumber, hrest⟩ := nominalStart_sideless hi hs.2 hlast hwas hoff hlocked hsides hsweep hsheets
    have hmoves : ((nominalStart i.val s).wvr i.val).sweep ≠ (s.wvr i.val).sweep := by rw [ht, hnumber]; omega
    obtain ⟨l, hexec, hgen⟩ := onChip_sweepMirror_start hs i.isLt hmoves (by rw [ht, hframe]; exact hs.2)
    rw [ht] at hexec hgen
    have hreg : t.reg = s.reg := by rw [hframe]
    rw [hreg] at hexec hgen
    refine ⟨_, hexec, ?_, hgen, hnumber, hrest⟩
    rw [hframe]
  case light =>
    intro i s hs hi hstate hthat hm hup
    obtain ⟨t, ht, hframe, hstn⟩ := onChip_setStn hs hi ((bdLightSend_eq hstate hthat hup).trans (bdLight_eq _))
    refine ⟨t, ht, hframe, ?_⟩
    rw [State.lane, hstn]
    exact getD_upd_eq _ _ _ hm
  case retry =>
    intro i s hs hi hstate hsides hlit hfails hm hup hidle
    have hretry := acquireRetry_again hi hstate hsides hlit hfails hup
    obtain ⟨t, ht, hframe, hstn⟩ := onChip_setStn hs hi (hretry.trans (setStn_setStn _ _))
    refine ⟨t, ht, hframe, by rw [State.wvr, hstn]; rfl, ?_⟩
    rw [State.lane, hstn]
    refine (congrArg Lane.last (getD_upd_eq _ _ _ hm)).trans ?_
    rw [hidle]
    exact last_put_singleton _ _
  case waits =>
    intro i s hs hstate hlit hwaits
    have hsame : acquireRetry i.val s = s := by
      simp only [acquireRetry, hstate, hlit, ne_eq, not_true_eq_false, if_false, if_true]
      exact acquireLight_waits hwaits
    exact (onChip_of_runs hs (by rw [hsame]; exact hs.2)).trans (congrArg _ hsame)
  case fails =>
    intro i s hs hi hstate hlit hfails
    obtain ⟨hraised, himg, hlate⟩ := raised_halt (index := i.val)
      (s := (enterScan i.val .fault s).finish .scanStart (polyOf i.val) stFaulted 0x0218) (declares_bdAcqFail i.val)
    have hlate' := hlate.trans hs.2
    have htenth := (acquireRetry_tenth hstate hlit hfails).trans (lateSpoils_none hlate')
    refine ⟨_, (onChip_of_runs hs (by rw [htenth]; exact hlate')).trans (congrArg _ htenth), hraised.of_saf rfl rfl, ?_⟩
    rw [State.wvr, State.stn, himg]
    exact congrArg Weaver.state (wvr_setWvr_same hi (Weaver.entered .fault))
  case timeout =>
    intro p s x hs hfinals hflights hop hstage htarget
    refine (onChip_of_runs (f := fun s => s.finish .scanStart p.val stTimeout 0) hs hs.2).trans (congrArg _ ?_)
    simp [State.finish, finishAll, hfinals, hflights, hop, hstage, htarget]

end Sys2Proof.Machine
end

section
/-!
PROOFS. What a start or stop of units, the faults it raises and the sheets it moves leave alone: the flights of the hampers,
the time and the reset that is due. Events and final statuses are all that these write into the host interface.
-/
namespace Sys2Proof.Machine

/-- An ACTIVE declares itself for faults of the controller's own line alone (R462). -/
theorem declares_of_line_ne {line : Nat} (index cause : Nat) (h : line ≠ 236) :
    declares line index cause = false := by
  simp [declares, supervisorFault, h]

/-- No fault of a motor channel is a CUTOFF (R244). -/
theorem motorClass_ne_cutoff (p : Bytes) : motorClass p ≠ .cutoff := by
  unfold motorClass
  split
  · decide
  · decide
  · decide
  · split
    · decide
    · decide

/-- State `t` comes from `s` by events and final statuses and by changes of units: the flights of the hampers and the time
are as they were, and a reset is due where it was due. -/
structure FlightsKept (s t : State) : Prop where
  io : ∀ n, IoQuiet n s.io t.io
  reset : t.pwr.resetDue = s.pwr.resetDue

namespace FlightsKept
variable {s t u : State}

theorem refl (s : State) : FlightsKept s s := ⟨fun n => .refl n _, rfl⟩

theorem noneHeld {n : Nat} (h : FlightsKept s t) (k : NoneHeld n s.io) : NoneHeld n t.io := by
  unfold NoneHeld
  rw [(h.io n).flights n]
  exact k

/-- A change of units alone. -/
theorem of_same (h : FlightsKept s t) (hio : u.io = t.io) (hpwr : u.pwr = t.pwr) : FlightsKept s u :=
  ⟨fun n => by rw [hio]; exact h.io n, by rw [hpwr]; exact h.reset⟩

/-- What is kept in both branches is kept by the choice. -/
theorem ite {p : Prop} [Decidable p] (ht : FlightsKept s t) (hu : FlightsKept s u) : FlightsKept s (if p then t else u) := by
  split
  · exact ht
  · exact hu

theorem foldl {α : Type} {f : State → α → State} (h : FlightsKept s t)
    (hf : ∀ u a, FlightsKept s u → FlightsKept s (f u a)) (l : List α) : FlightsKept s (l.foldl f t) :=
  List.foldlRecOn l f h fun u hu a _ => hf u a hu

theorem pulse (h : FlightsKept s t) (line d : Nat) : FlightsKept s (t.pulse line d) :=
  ⟨fun n => (h.io n).trans (.pulse n line d t.io), h.reset⟩

theorem finishAll (h : FlightsKept s t) (op : Op) (p : Frame → Bool) (st d : Nat) (r : Bytes) :
    FlightsKept s { t with io := finishAll op p st d r t.io } :=
  ⟨fun n => (h.io n).trans (.finish n op p st d r t.io), h.reset⟩

theorem finish (h : FlightsKept s t) (op : Op) (a st d : Nat) : FlightsKept s (t.finish op a st d) :=
  h.finishAll op (fun f => f.target.toNat = a) st d []

theorem record (h : FlightsKept s t) (r : Rec) : FlightsKept s (t.record r) := h.of_same rfl rfl
theorem setStn (h : FlightsKept s t) (i : Nat) (f : Station → Station) : FlightsKept s (t.setStn i f) := h.of_same rfl rfl
theorem setSheet (h : FlightsKept s t) (id : Nat) (f : Sheet → Sheet) : FlightsKept s (t.setSheet id f) := h.of_same rfl rfl
theorem setJob (h : FlightsKept s t) (n : Nat) (f : Job → Job) : FlightsKept s (t.setJob n f) := h.of_same rfl rfl
theorem setPoly (h : FlightsKept s t) (p : Nat) (f : Polygon → Polygon) : FlightsKept s (t.setPoly p f) := h.of_same rfl rfl
theorem setMotor (h : FlightsKept s t) (i : Nat) (f : Motor → Motor) : FlightsKept s (t.setMotor i f) := h.of_same rfl rfl
theorem setAxis (h : FlightsKept s t) (i : Nat) (f : Axis → Axis) : FlightsKept s (t.setAxis i f) := h.of_same rfl rfl
theorem setLoop (h : FlightsKept s t) (i : Nat) (f : Loop → Loop) : FlightsKept s (t.setLoop i f) := h.of_same rfl rfl

theorem advanceFree (h : FlightsKept s t) : FlightsKept s (advanceFree t) := h.of_same rfl rfl
theorem withLed (h : FlightsKept s t) (x : Ledger) : FlightsKept s { t with led := x } := h.of_same rfl rfl
theorem withSaf (h : FlightsKept s t) (x : Safety) : FlightsKept s { t with saf := x } := h.of_same rfl rfl
theorem withThm (h : FlightsKept s t) (x : Thermal) : FlightsKept s { t with thm := x } := h.of_same rfl rfl

/-! ## Sheets -/

theorem firstCause (h : FlightsKept s t) (id st side cause : Nat) : FlightsKept s (firstCause id st side cause t) :=
  h.setSheet _ _

theorem sheetState (h : FlightsKept s t) (id : Nat) (st : ShState) : FlightsKept s (sheetState id st t) := by
  unfold Machine.sheetState
  split
  · exact h
  · dsimp only
    split
    · exact (h.setSheet _ _).pulse _ _
    · exact h.setSheet _ _

theorem postCause (h : FlightsKept s t) (id st side cause : Nat) : FlightsKept s (postCause id st side cause t) := by
  unfold Machine.postCause
  split
  · exact h
  · have hcause : FlightsKept s (Machine.firstCause id st side cause t) := h.firstCause _ _ _ _
    have hspeed : FlightsKept s (if cause = 0x21 ∨ cause = 0x22 then { Machine.firstCause id st side cause t with
        shs := { (Machine.firstCause id st side cause t).shs with speedHold := true } }
        else Machine.firstCause id st side cause t) :=
      ite (hcause.of_same rfl rfl) hcause
    exact ite h (ite (((hspeed.setSheet _ _).pulse _ _).of_same rfl rfl) hspeed)

theorem spoilSide (h : FlightsKept s t) (i sheet side cause : Nat) : FlightsKept s (spoilSide i sheet side cause t) := by
  unfold Machine.spoilSide stationCause
  exact ((ite (h.setStn _ _) h).pulse _ _).postCause _ _ _ _

theorem reprint (h : FlightsKept s t) (x : Sheet) : FlightsKept s (reprint x t) := by
  unfold Machine.reprint
  split
  · exact h
  · refine ite h ?_
    split
    · exact h
    · refine setJob ?_ _ _
      exact h.of_same rfl rfl

theorem checkEnded (h : FlightsKept s t) (n : Nat) : FlightsKept s (checkEnded n t) := by
  unfold Machine.checkEnded
  split
  · exact h
  · have hended := fun f d => (h.setJob n f).pulse 74 d
    exact ite (ite ((hended _ _).foldl (fun u p hu => ite hu (hu.record _)) _) (hended _ _)) h

theorem freePages (h : FlightsKept s t) : FlightsKept s (freePages t) := h.of_same rfl rfl

theorem endSheet (h : FlightsKept s t) (id : Nat) (st : ShState) : FlightsKept s (endSheet id st t) := by
  unfold Machine.endSheet
  have hstate := h.sheetState id st
  dsimp only
  split
  · exact hstate
  · exact checkEnded (freePages (record (ite hstate (hstate.reprint _)) _)) _

theorem acquireLight (h : FlightsKept s t) (i : Nat) : FlightsKept s (acquireLight i t) :=
  ite (h.of_same rfl rfl) h

theorem cutStation (h : FlightsKept s t) (id i : Nat) : FlightsKept s (cutStation id t i) := by
  unfold Machine.cutStation
  refine acquireLight (foldl (setStn ?_ _ _) (fun u d hu => (hu.setStn _ _).setSheet _ _) _) i
  split
  · exact h.setStn _ _
  · exact h

theorem loseSheet (h : FlightsKept s t) (cause id : Nat) : FlightsKept s (loseSheet cause id t) := by
  unfold Machine.loseSheet cutSides freeCapture
  exact endSheet (advanceFree (foldl ((h.firstCause id 6 0 cause).setSheet _ _) (fun _ i hu => hu.cutStation id i) _)) id .lost

theorem unadmit (h : FlightsKept s t) (id : Nat) : FlightsKept s (unadmit id t) := by
  unfold Machine.unadmit
  exact sheetState (withLed (h.setSheet id _) _) id .staged

theorem unadmitAll (h : FlightsKept s t) : FlightsKept s (unadmitAll t) := h.foldl (fun _ id hu => hu.unadmit id) _

theorem classSheets (h : FlightsKept s t) (c : Cls) (supervisor : Bool) : FlightsKept s (classSheets c supervisor t) := by
  cases c with
  | note | spoil => exact h
  | halt => exact ite h h.unadmitAll
  | stop | cutoff => exact h.unadmitAll.foldl (fun _ id hu => hu.loseSheet _ id) _

theorem stageOne (j : Job) {a : State × Bool} (h : FlightsKept s a.1) (id : Nat) : FlightsKept s (stageOne j a id).1 := by
  unfold Machine.stageOne
  split
  · exact h
  · split
    · exact h
    · split
      · exact h
      · split
        · exact ite ((h.setSheet _ _).sheetState _ _) (h.setSheet _ _)
        · split
          · exact ite (h.setSheet _ _) ((h.setSheet _ _).pulse _ _)
          · exact h.setSheet _ _

theorem restage (h : FlightsKept s t) : FlightsKept s (restage t) :=
  h.foldl (fun _ j hu => List.foldlRecOn (motive := fun a : State × Bool => FlightsKept s a.1) j.sheets (Machine.stageOne j)
    hu fun _ ha id _ => ha.stageOne j id) _

/-! ## Weavers, channels, axes and loops -/

theorem weaverLost (h : FlightsKept s t) (st : WState) (i : Nat) : FlightsKept s (weaverLost st t i) := by
  unfold Machine.weaverLost
  refine ite h (setStn ?_ _ _)
  split
  · exact ite h (h.spoilSide _ _ _ _)
  · exact h

theorem polygonLost (h : FlightsKept s t) (p : Nat) (st : WState) : FlightsKept s (polygonLost p st t) := by
  unfold Machine.polygonLost
  exact ((h.foldl (fun _ i hu => hu.weaverLost st i) _).finish _ _ _ _).setPoly _ _

theorem weaversReact (h : FlightsKept s t) (i : Nat) (old st : MState) : FlightsKept s (weaversReact i old st t) := by
  unfold Machine.weaversReact
  refine ite h ?_
  have hspinup := fun f => (h.setMotor i f).polygonLost i .spinup
  split
  · exact ((h.polygonLost i .fault).finish _ _ _ _).finish _ _ _ _
  · exact ite (hspinup _) h
  · exact ite (hspinup _) h
  · exact h.finish _ _ _ _
  · exact h

theorem motorState (h : FlightsKept s t) (i : Nat) (st : MState) : FlightsKept s (t.motorState i st) := by
  unfold State.motorState
  exact weaversReact (ite (h.setMotor _ _) ((h.setMotor _ _).pulse _ _)) _ _ _

theorem motorToFault (h : FlightsKept s t) (i cause : Nat) : FlightsKept s (t.motorToFault i cause) := by
  unfold State.motorToFault
  exact ite (ite (h.setMotor _ _) h) ((((h.setMotor _ _).motorState i .fault).finish _ _ _ _).finish _ _ _ _)

theorem axisToFault (h : FlightsKept s t) (i cause : Nat) : FlightsKept s (t.axisToFault i cause) := by
  unfold State.axisToFault
  have hends : ∀ f, FlightsKept s (((((t.setAxis i f).finish .axisMove (axTarget i) stFaulted cause).finish .axisStop
      (axTarget i) stFaulted cause).finish .axisHome (axTarget i) stFaulted cause)) := fun f =>
    (((h.setAxis i f).finish _ _ _ _).finish _ _ _ _).finish _ _ _ _
  refine ite (h.setAxis _ _) (ite (pulse ?_ _ _) (pulse ?_ _ _))
  · exact ite ((hends _).pulse _ _) (hends _)
  · exact ite ((hends _).pulse _ _) (hends _)

theorem loopState (h : FlightsKept s t) (i : Nat) (st : LState) : FlightsKept s (t.loopState i st) := by
  unfold State.loopState
  have hstate := fun f d => (h.setLoop i f).pulse 160 d
  exact ite h (ite ((hstate _ _).pulse _ _) (hstate _ _))

theorem loopToFault (h : FlightsKept s t) (i cause : Nat) : FlightsKept s (t.loopToFault i cause) := by
  unfold State.loopToFault
  exact ite (ite (h.setLoop _ _) h)
    (((((h.setLoop _ _).loopState i .fault).pulse _ _).finish _ _ _ _).finish _ _ _ _)

theorem inhibitMotion (h : FlightsKept s t) : FlightsKept s (inhibitMotion t) := by
  unfold Machine.inhibitMotion forEach
  refine withThm (foldl ?_ (fun u i hu => ?_) _) _
  · have hstopped : FlightsKept s { t with img := { t.img with stations := t.img.stations.map fun x =>
        { x with sweep := x.sweep.map fun y => { y with stop := true } } } } := h.of_same rfl rfl
    exact (hstopped.foldl (fun u i hu => ite hu (hu.motorToFault i 1)) _).foldl
      (fun u i hu => ite hu (hu.axisToFault i 1)) _
  · split
    · exact ite (hu.loopToFault i 1) hu
    · exact hu

/-! ## Faults -/

theorem setCtrl (h : FlightsKept s t) (x : CState) : FlightsKept s (t.setCtrl x) :=
  ite h (pulse (h.withSaf _) _ _)

theorem classEffect (h : FlightsKept s t) {c : Cls} (supervisor : Bool) (hc : c ≠ .cutoff) :
    FlightsKept s (classEffect c supervisor t) := by
  cases c with
  | note | spoil => exact h
  | halt => exact h.classSheets .halt supervisor
  | stop =>
    exact ((h.withSaf { t.saf with stopLatch := true }).classSheets .stop supervisor).inhibitMotion
  | cutoff => exact absurd rfl hc

/-- A fault that drops no rails and of which an ACTIVE does not declare itself (R437, R448, R449). -/
theorem raise (h : FlightsKept s t) {c : Cls} {line index cause : Nat} (hc : c ≠ .cutoff)
    (hd : declares line index cause = false) : FlightsKept s (t.raise c line index cause) := by
  have hclass : FlightsKept s (classed c line index cause t) := (h.classEffect _ hc).setCtrl _
  cases hactive : t.saf.faults.any fun x => x.line = line && x.index = index && x.cause = cause with
  | true =>
    rw [raise_active hd hactive]
    exact hclass.of_same rfl rfl
  | false =>
    simp only [State.raise, hd, Bool.false_eq_true, if_false, hactive]
    exact ite (pulse (record (hclass.withSaf _) _) _ _) (record (hclass.withSaf _) _)

/-! ## Polygons started and stopped -/

theorem motorFault (h : FlightsKept s t) {i cause : Nat} (hd : declares (96 + i) (chTarget i) cause = false) :
    FlightsKept s (t.motorFault i cause) := by
  have hfault := h.motorToFault i cause
  unfold State.motorFault
  refine ite hfault (setMotor (ite hfault (hfault.raise ?_ hd)) _ _)
  split
  · exact motorClass_ne_cutoff _
  · decide

theorem enterAlign (h : FlightsKept s t) (i : Nat) : FlightsKept s (enterAlign i t) :=
  ((h.setMotor i _).motorState i .align).advanceFree

theorem startChannel (h : FlightsKept s t) (i : Nat) (target : Int) : FlightsKept s (startChannel i target t) := by
  unfold Machine.startChannel
  split
  · exact h
  · have htarget := h.setMotor i
    dsimp only
    split
    next hlarge =>
      refine ite (motorFault (advanceFree (htarget _)) (declares_of_line_ne _ _ (by omega))) (ite ?_ ?_)
      · exact ((htarget _).advanceFree.setMotor i _).motorState i .catching
      · exact ((htarget _).advanceFree.setMotor i _).enterAlign i
    next => exact ite ((htarget _).motorState i .float) ((htarget _).enterAlign i)

theorem stopChannel (h : FlightsKept s t) (i mode : Nat) : FlightsKept s (stopChannel i mode t) := by
  unfold Machine.stopChannel
  have hended := ite (p := (t.motor i).startNs.isSome = true) (h.finish .motorStart (chTarget i) stFaulted 0x80) h
  refine ite ?_ (ite (finish (motorState (setMotor ?_ _ _) i .off) _ _ _ _) (setMotor ?_ _ _))
  all_goals exact hended.setMotor i _

theorem enterScan (h : FlightsKept s t) (i : Nat) (st : WState) : FlightsKept s (enterScan i st t) := h.setStn i _

theorem planSpeed (h : FlightsKept s t) (v : Nat) : FlightsKept s (planSpeed v t) := by
  unfold Machine.planSpeed
  have hplan : FlightsKept s { t with mot := { t.mot with planV := v } } := h.of_same rfl rfl
  refine hplan.foldl (fun u i hu => ?_) _
  split
  · exact ite (hu.record _) hu
  · exact hu

theorem runPolygon (h : FlightsKept s t) (p : Nat) (rpm : Int) : FlightsKept s (runPolygon p rpm t) :=
  ite ((h.setMotor p _).startChannel p _) ((h.setMotor p _).setMotor p _)

theorem startPolygon (h : FlightsKept s t) (p v : Nat) : FlightsKept s (startPolygon p v t) := by
  unfold Machine.startPolygon
  split
  · exact h
  · refine restage (planSpeed (runPolygon (foldl (h.setPoly p _) (fun u i hu => ?_) _) p _) v)
    exact (hu.enterScan i .spinup).setStn i _

theorem stopPolygon (h : FlightsKept s t) (p : Nat) : FlightsKept s (stopPolygon p t) := by
  unfold Machine.stopPolygon
  refine restage (ite (finish ?_ _ _ _ _) (stopChannel ?_ p 0))
  all_goals exact (foldl h (fun u i hu => hu.enterScan i .off) _ |>.setPoly p _).setMotor p _

theorem endScanCommands (h : FlightsKept s t) (p hamper tag : Nat) : FlightsKept s (endScanCommands p hamper tag t) := by
  have hended := fun p => ((h.finishAll .scanStart p stFaulted 0x80 []).finishAll .scanStop p stFaulted 0x80 []).finishAll
    .facetLearn p stFaulted 0 []
  exact hended _

end FlightsKept
end Sys2Proof.Machine
end

section
/-!
PROOFS. What a LATE_SPOIL leaves of all but the host interface depends on the host interface by its time alone, so the answer
of the command before it does not matter (R38, R207, R213).
-/
namespace Sys2Proof.Machine

/-- States `s` and `t` differ in the host interface alone, and show the same time. -/
inductive IoApart : State → State → Prop
  | intro (s : State) (io : Io) (htime : io.time = s.io.time) : IoApart s { s with io := io }

namespace IoApart
variable {s t : State}

theorem eq_withIo (h : IoApart s t) : t = { s with io := t.io } := by cases h; rfl

theorem pulse (h : IoApart s t) (line d : Nat) : IoApart (s.pulse line d) (t.pulse line d) := by
  cases h with
  | intro io htime =>
    refine .intro (s.pulse line d) (Machine.pulse line d io) ?_
    exact (pulse_only line d io).time.trans (htime.trans (pulse_only line d s.io).time.symm)

theorem sheetState (h : IoApart s t) (id : Nat) (st : ShState) : IoApart (sheetState id st s) (sheetState id st t) := by
  cases h with
  | intro io htime =>
    have hsheet : State.sheet { s with io := io } id = s.sheet id := rfl
    simp only [Machine.sheetState, hsheet, htime]
    cases s.sheet id with
    | none => exact .intro s io htime
    | some x =>
      cases stateLine st with
      | none => exact .intro (s.setSheet id _) io htime
      | some line => exact pulse (.intro (s.setSheet id _) io htime) _ _

theorem unadmit (h : IoApart s t) (id : Nat) : IoApart (unadmit id s) (unadmit id t) := by
  cases h with
  | intro io htime => exact sheetState (.intro { s.setSheet id _ with led := _ } io htime) id .staged

theorem unadmitAll (h : IoApart s t) : IoApart (unadmitAll s) (unadmitAll t) := by
  have hids : sheetIds (fun x => x.state == .admitted) t = sheetIds (fun x => x.state == .admitted) s := by cases h; rfl
  unfold Machine.unadmitAll
  rw [hids]
  clear hids
  generalize sheetIds (fun x => x.state == .admitted) s = ids
  induction ids generalizing s t with
  | nil => exact h
  | cons id ids ih => exact ih (h.unadmit id)

theorem setCtrl (h : IoApart s t) (x : CState) : IoApart (s.setCtrl x) (t.setCtrl x) := by
  cases h with
  | intro io htime =>
    show IoApart (if s.saf.ctrl = x then _ else _) (if s.saf.ctrl = x then _ else _)
    split
    · exact .intro s io htime
    · exact pulse (.intro { s with saf := { s.saf with ctrl := x } } io htime) 239 x.code

theorem classed_halt (h : IoApart s t) {line index cause : Nat} :
    IoApart (classed .halt line index cause s) (classed .halt line index cause t) := by
  have hctrl : t.saf.ctrl = s.saf.ctrl := by cases h; rfl
  unfold classed
  rw [hctrl]
  refine setCtrl ?_ _
  show IoApart (if supervisorFault line index cause then s else _) (if supervisorFault line index cause then t else _)
  split
  · exact h
  · exact h.unadmitAll

theorem raise_halt (h : IoApart s t) {line index cause : Nat} (hd : declares line index cause = false) :
    IoApart (s.raise .halt line index cause) (t.raise .halt line index cause) := by
  have hclass := h.classed_halt (line := line) (index := index) (cause := cause)
  cases h with
  | intro io htime =>
    simp only [State.raise, hd, Bool.false_eq_true, if_false, htime]
    unfold classed at hclass
    generalize (classEffect .halt (supervisorFault line index cause) s).setCtrl (classState .halt s.saf.ctrl) = a at hclass ⊢
    generalize (classEffect .halt (supervisorFault line index cause) { s with io := io }).setCtrl
      (classState .halt s.saf.ctrl) = b at hclass ⊢
    cases hclass with
    | intro io' htime' =>
      split
      · exact .intro { a with saf := _ } io' htime'
      · have hlisted := fun x r => intro (State.record { a with saf := x } r) io' htime'
        split
        · exact (hlisted _ _).pulse 236 _
        · exact hlisted _ _

/-- A LATE_SPOIL that is due is raised in both, and in neither where none is due (R213). -/
theorem lateSpoils (h : IoApart s t) : IoApart (lateSpoils s) (lateSpoils t) := by
  cases h with
  | intro io htime =>
    show IoApart (if s.shs.lateDue = true then _ else _) (if s.shs.lateDue = true then _ else _)
    split
    · exact raise_halt (.intro { s with shs := { s.shs with lateDue := false } } io htime) rfl
    · exact .intro s io htime

end IoApart

/-! ## Changes that are accepted -/

/-- A change that is accepted where its flight is the only one of its hamper: its start, and after it the LATE_SPOIL that
it leaves due (R43, R213). -/
theorem apply_starts {op : Op} {c : Cmd} {x : Flight} {n : Nat} {K : State} {E : State → State} (hop : x.op = op)
    (hcmd : x.cmd = c) (haborted : x.aborted = false) (hgone : x.gone = 0) (hne : op ≠ .cmdAbort)
    (happly : applyFault op c K = none) (hans : ((specOf op).ans c K).status = stAccepted)
    (hflights : (K.io.hamper x.f.hamper.val).flights = [x]) (hlen : x.f.hamper.val < K.io.hampers.length)
    (hE : (specOf op).eff c = E) (hkept : ∀ k, FlightsKept k (E k)) (hreset : K.pwr.resetDue ≠ some 5) :
    ∃ io, lateSpoils (dueReset (pump x.f.hamper.val (applyChange x n K)))
      = { lateSpoils (E (runningState x n K)) with io := io } := by
  have hstart := hkept (runningState x n K)
  have hnone := (hstart.noneHeld (running_noneHeld (n := n) hlen hflights hgone)).postResponse (m := x.f.hamper.val)
    (respOf op.code x.f stAccepted 0 0 n [] false (E (runningState x n K)))
  have htime := (postResponse_answered x.f.hamper.val (respOf op.code x.f stAccepted 0 0 n [] false (E (runningState x n K)))
    (E (runningState x n K)).io).1.time
  have hdue : (E (runningState x n K)).pwr.resetDue ≠ some 5 := by rw [hstart.reset]; exact hreset
  have happlied := applyChange_accepted' (n := n) hop hcmd haborted hne happly hans hgone (congrFun hE (runningState x n K))
  rw [happlied]
  clear happlied hstart
  generalize E (runningState x n K) = e at *
  unfold State.respond
  generalize postResponse x.f.hamper.val (respOf op.code x.f stAccepted 0 0 n [] false e) e.io = io at *
  rw [pump_noneHeld (s := { e with io := io }) hnone, dueReset_none (e := { e with io := io }) hdue]
  exact ⟨_, (IoApart.intro e io htime).lateSpoils.eq_withIo⟩

/-- The state in which a change of state `s` starts: the host interface, the fault list and the ledger are all that its
entry has touched. -/
structure StartsFrom (s k : State) : Prop where
  same : k = { s with io := k.io, saf := k.saf, led := k.led }
  saf : k.saf = { s.saf with faults := k.saf.faults, overflow := k.saf.overflow, firstFault := k.saf.firstFault }
  head : k.led.head = s.led.head + 1
  time : k.io.time = s.io.time

theorem committedState_startsFrom {op : Op} {f : Frame} {s : State} (hseq : f.seq ≠ 0xFFFFFFFF) (hqueue : s.led.queue = []) :
    StartsFrom s (committedState op f s) := by
  obtain ⟨htime, -, -, -, -, -, hhead⟩ := committedState_kept op f s hseq hqueue
  exact ⟨committedState_parts op f s hseq hqueue, committedState_saf op f s hseq hqueue, hhead, htime⟩

theorem StartsFrom.running {s k : State} (h : StartsFrom s k) (x : Flight) (n : Nat) : StartsFrom s (runningState x n k) := by
  obtain ⟨hs, hrunning⟩ := runningState_same x n k
  rw [hrunning]
  exact ⟨by rw [h.same], h.saf, h.head, h.time⟩

/-- The two rows of such a change. -/
theorem change_starts {op : Op} {f : Frame} {s : State} {E : State → State} (h : applies op f s = true)
    (hE : (specOf op).eff (heldFlight op f s).cmd = E)
    (hans : ∀ k, ((specOf op).ans (heldFlight op f s).cmd k).status = stAccepted) (hkept : ∀ k, FlightsKept k (E k)) :
    command op f s = .next (recordedState op f s) ∧ ∃ u k, exec .ledgerEntryCommit (recordedState op f s) = .next u
      ∧ StartsFrom s k ∧ u = { lateSpoils (E k) with io := u.io } := by
  obtain ⟨-, hop, hpasses, hqueue, -, hreset, -, happly⟩ := (applies_iff op f s).1 h
  obtain ⟨-, -, -, hseq, -⟩ := (passes_iff op f s).1 hpasses
  have hfrom := committedState_startsFrom (op := op) hseq hqueue
  have hflights := committedState_flights hpasses
  have hlen := committedState_length hpasses
  obtain ⟨hrecorded, hcommitted⟩ := change_runs' h rfl
  clear h hpasses hqueue hseq
  generalize committedState op f s = K at *
  have hdue : K.pwr.resetDue ≠ some 5 := by rw [hfrom.same]; exact hreset
  obtain ⟨io, hafter⟩ := apply_starts (n := s.led.head + 1) (recordingFlight_op op f s) (recordingFlight_cmd op f s)
    (recordingFlight_aborted op f s) (recordingFlight_gone op f s) hop happly (hans K) hflights hlen hE hkept hdue
  rw [recordingFlight_f] at hafter
  rw [hafter] at hcommitted
  exact ⟨hrecorded, _, runningState (recordingFlight op f s) (s.led.head + 1) K, hcommitted, hfrom.running _ _, rfl⟩

end Sys2Proof.Machine
end

section
/-!
PROOFS. The statements about the changes of polygons and Weavers and about the queries of stations and Weavers.
-/
namespace Sys2Proof.Machine

/-! ## A polygon stopped leaves no late spoil due (R198) -/

section
variable {s : State}

/-- Weavers are not lost where their channel goes OFF (R184, R195). -/
theorem weaversReact_off_shs (i : Nat) (old : MState) : (weaversReact i old .off s).shs = s.shs := by
  unfold weaversReact
  split
  · rfl
  · rfl

/-- A channel that goes OFF moves no sheet. -/
theorem motorState_off_shs (i : Nat) : (s.motorState i .off).shs = s.shs := by
  unfold State.motorState
  refine (weaversReact_off_shs i _).trans ?_
  dsimp only
  split
  · rfl
  · rfl

theorem stopChannel_shs (i mode : Nat) : (stopChannel i mode s).shs = s.shs := by
  unfold stopChannel
  have hended : (if (s.motor i).startNs.isSome then s.finish .motorStart (chTarget i) stFaulted 0x80 else s).shs = s.shs := by
    split <;> rfl
  dsimp only
  split
  · exact hended
  · split
    · exact (motorState_off_shs i).trans hended
    · exact hended

theorem stopPolygon_lateDue (p : Nat) : (stopPolygon p s).shs.lateDue = s.shs.lateDue := by
  have hoff : ((polyStations p s).foldl (fun s i => enterScan i .off s) s).shs = s.shs :=
    List.foldlRecOn (motive := fun t : State => t.shs = s.shs) _ _ rfl fun t ht i _ => ht
  unfold stopPolygon
  refine (restage_sheetsOnly _).late.trans (congrArg Sheets.lateDue ?_)
  split
  · exact hoff
  · exact (stopChannel_shs p 0).trans hoff

end

/-! ## Effects of the changes -/

/-- FACET_LOAD: both of its updates are of its station (R188). -/
theorem facetLoad_effect (f : Frame) (s : State) :
    EffectIs f.hamper.val ((specOf .facetLoad).eff (heldFlight .facetLoad f s).cmd) s
      (s.setStn f.tgt fun x => { x with
        weaver := { x.weaver with facetsNext := some (fit 16 f.pay) }, corrOut := false }) :=
  .rfl fun _ _ _ => setStn_setStn _ _

/-- POLYGON_SET: outside its polygon it makes final statuses of FACET_LEARN due alone (R199). -/
theorem polygonSet_effect (f : Frame) (s : State) :
    EffectIs f.hamper.val ((specOf .polygonSet).eff (heldFlight .polygonSet f s).cmd) s
      (s.setPoly f.tgt fun y => { y with set := some (fit 48 f.pay) }) :=
  .finals fun _ _ _ => ⟨_, rfl⟩

/-- What SCAN_START does at its start (R178, R184, R193, R198). -/
def scanStartEffect (f : Frame) (s : State) : State :=
  startPolygon f.tgt (u32At f.pay 0) (endScanCommands f.tgt f.hamper.val f.tag.toNat s)

/-- What SCAN_STOP does at its start (R198). -/
def scanStopEffect (f : Frame) (s : State) : State :=
  if weaversOff f.tgt s then s else stopPolygon f.tgt (endScanCommands f.tgt f.hamper.val f.tag.toNat s)

theorem scanStartEffect_kept (f : Frame) (s : State) : FlightsKept s (scanStartEffect f s) :=
  ((FlightsKept.refl s).endScanCommands _ _ _).startPolygon _ _

theorem scanStopEffect_kept (f : Frame) (s : State) : FlightsKept s (scanStopEffect f s) :=
  .ite (.refl s) (((FlightsKept.refl s).endScanCommands _ _ _).stopPolygon _)

theorem scanStopEffect_lateDue (f : Frame) (s : State) : (scanStopEffect f s).shs.lateDue = s.shs.lateDue := by
  unfold scanStopEffect
  split
  · rfl
  · exact stopPolygon_lateDue _

/-- Settles O4: the settings change their unit alone. SCAN_START, which is always accepted, keeps the flights, so that
after its answer only the LATE_SPOIL follows that its start leaves due; SCAN_STOP leaves none due. -/
theorem scanChangesTakeEffect : Obligations.ScanChangesTakeEffect := by
  refine ⟨?polygonSet, ?scanSet, ?facetLoad, ?facetLearn, ?scanStart, ?scanStop⟩
  case polygonSet =>
    exact sets_of (fun _ _ => rfl) (fun f s _ => polygonSet_effect f s) (fun _ _ => .inl rfl) fun _ _ => .inl rfl
  case scanSet | facetLearn =>
    exact sets_of (fun _ _ => rfl) (fun _ _ _ => .rfl fun _ _ _ => rfl) (fun _ _ => .inl rfl) fun _ _ => .inl rfl
  case facetLoad =>
    exact sets_of (fun _ _ => rfl) (fun f s _ => facetLoad_effect f s) (fun _ _ => .inl rfl) fun _ _ => .inl rfl
  case scanStart =>
    intro f s happlies _
    obtain ⟨hrecorded, u, k, hcommitted, hfrom, heffect⟩ := change_starts (E := scanStartEffect f) happlies rfl
      (fun _ => rfl) (scanStartEffect_kept f)
    exact ⟨hrecorded, u, k, hcommitted, hfrom.same, hfrom.saf, hfrom.head, hfrom.time, heffect⟩
  case scanStop =>
    intro f s happlies _
    exact change_takes (E := scanStopEffect f) happlies rfl
      (fun i g l hnone _ => (scanStopEffect_kept f (withParts s i g l)).noneHeld hnone)
      (fun i g l _ hlate => (scanStopEffect_lateDue f (withParts s i g l)).trans hlate)
      (fun i g l _ hreset => by rw [(scanStopEffect_kept f (withParts s i g l)).reset]; exact hreset)

/-- Settles O16: no result depends on the host interface, and none of these queries has an effect. -/
theorem imagingQueriesAnswer : Obligations.ImagingQueriesAnswer := by
  refine ⟨?screenInfo, ?ecmRead, ?profileGet, ?linkStatus, ?apcRead, ?scanPlan⟩
  case screenInfo | ecmRead | profileGet | linkStatus | apcRead =>
    exact answers_of (fun _ _ => rfl) rfl (fun _ _ _ _ => rfl) fun _ _ => rfl
  case scanPlan =>
    refine answers_of (fun _ _ => rfl) rfl (fun f s _ io => ?_) fun _ _ => rfl
    show (match scanPlan f.tgt (u32At f.pay 0) s with
      | .ok k => _
      | .error d => ansResult (le 1 0 ++ le 1 d ++ zeros 14)) = _
    cases scanPlan f.tgt (u32At f.pay 0) s <;> rfl

end Sys2Proof.Machine
end

section
/-!
PROOFS. The rules of a sheet's update: what a sheet reads as after it or another sheet was replaced, and after it has entered
a state, was returned to STAGED or has ended (R200, R207, R216 to R219).
-/
namespace Sys2Proof.Machine

section
variable {s t u : State} {id : Nat} {x : Sheet}

/-! ## Replacing one sheet -/

theorem sheet_id (h : s.sheet id = some x) : x.id = id := by
  simpa using List.find?_some h

theorem sheet_congr (h : t.shs = s.shs) : t.sheet id = s.sheet id := by
  rw [State.sheet, h]; rfl

/-- What a sheet reads as after it was replaced by one of the same SHEET_ID. -/
theorem sheet_setSheet_same (h : s.sheet id = some x) (f : Sheet → Sheet) (hf : ∀ y, y.id = id → (f y).id = id) :
    (s.setSheet id f).sheet id = some (f x) := by
  have hreplaced := find?_map_replace (fun y : Sheet => y.id == id) f
    (fun y hy => beq_iff_eq.2 (hf y (beq_iff_eq.1 hy))) s.shs.sheets
  exact hreplaced.trans (congrArg (Option.map f) h)

/-- What a sheet reads as after another one was replaced. -/
theorem sheet_setSheet_ne {k : Nat} (f : Sheet → Sheet) (hf : ∀ y, y.id = k → (f y).id = k) (hk : k ≠ id) :
    (s.setSheet k f).sheet id = s.sheet id := by
  unfold State.sheet State.setSheet
  dsimp only
  induction s.shs.sheets with
  | nil => rfl
  | cons y l ih =>
    rw [List.map_cons, List.find?_cons, List.find?_cons, ih]
    by_cases hy : y.id = k
    · simp [hy, hf y hy, beq_false_of_ne hk]
    · simp [hy]

/-- A SHEET_ID that no sheet has replaces none. -/
theorem setSheet_of_none {f : Sheet → Sheet} (h : s.sheet id = none) : s.setSheet id f = s := by
  have hother : ∀ y ∈ s.shs.sheets, ¬(y.id == id) = true := by simpa [State.sheet] using h
  have hmap : (s.shs.sheets.map fun y => if y.id == id then f y else y) = s.shs.sheets :=
    (List.map_congr_left fun y hy => if_neg (hother y hy)).trans (List.map_id' _)
  simp only [State.setSheet, hmap]

theorem setSheet_setSheet (id : Nat) (f g : Sheet → Sheet) (hf : ∀ y, y.id = id → (f y).id = id) :
    (s.setSheet id f).setSheet id g = s.setSheet id fun y => g (f y) := by
  simp only [State.setSheet, List.map_map]
  refine congrArg (fun l => ({ s with shs := { s.shs with sheets := l } } : State)) (List.map_congr_left fun y _ => ?_)
  by_cases hy : y.id = id
  · simp [hy, hf y hy]
  · simp [hy]

/-! ## A state entered (R200) -/

/-- A sheet that has entered a state at an instant (R200). -/
def Sheet.entered (st : ShState) (time : Nat) (x : Sheet) : Sheet := { x with
  state := st
  tCommit := if st = .committed then time else x.tCommit
  tEnd := if st.terminal then time else x.tEnd }

/-- Entering a state replaces the sheet, and delivers an event. -/
theorem sheetState_eq (id : Nat) (st : ShState) (s : State) :
    ∃ io, sheetState id st s = { s.setSheet id (Sheet.entered st s.io.time) with io := io } := by
  unfold sheetState
  split
  next h => exact ⟨s.io, (setSheet_of_none h).symm⟩
  next =>
    dsimp only
    split
    · exact ⟨_, rfl⟩
    · exact ⟨s.io, rfl⟩

/-- FUSED has no event line. -/
theorem sheetState_fused (h : s.sheet id = some x) :
    sheetState id .fused s = s.setSheet id (Sheet.entered .fused s.io.time) := by
  simp only [sheetState, h]
  rfl

theorem sheet_sheetState (h : s.sheet id = some x) (st : ShState) :
    (sheetState id st s).sheet id = some (x.entered st s.io.time) := by
  obtain ⟨io, hstate⟩ := sheetState_eq id st s
  rw [hstate]
  exact sheet_setSheet_same h (Sheet.entered st s.io.time) fun _ hy => hy

/-! ## A return to STAGED (R207) -/

/-- A sheet whose reservations are released (R207). -/
def Sheet.released (x : Sheet) : Sheet := { x with
  slots := [0, 0, 0, 0, 0], sides := x.sides.map fun r => { r with capset := 0xFFFF, granules := 0, profile := [] } }

/-- A return to STAGED replaces the sheet, releases its ledger unit and delivers an event. -/
theorem unadmit_eq (id : Nat) (s : State) :
    ∃ io, unadmit id s = { s.setSheet id fun x => x.released.entered .staged s.io.time with
      io := io, led := { s.led with resv := s.led.resv - 1 } } := by
  obtain ⟨io, hstate⟩ := sheetState_eq id .staged
    { s.setSheet id Sheet.released with led := { s.led with resv := s.led.resv - 1 } }
  refine ⟨io, ?_⟩
  rw [← setSheet_setSheet id Sheet.released (Sheet.entered .staged s.io.time) fun _ hy => hy]
  exact hstate

theorem sheet_unadmit_same (h : s.sheet id = some x) :
    (unadmit id s).sheet id = some (x.released.entered .staged s.io.time) := by
  obtain ⟨io, hback⟩ := unadmit_eq id s
  rw [hback]
  exact sheet_setSheet_same h (fun x => x.released.entered .staged s.io.time) fun _ hy => hy

/-- A return to STAGED keeps the cause of every sheet. -/
theorem unadmit_cause (k : Nat) (h : s.sheet id = some x) :
    ∃ y, (unadmit k s).sheet id = some y ∧ y.cause = x.cause := by
  by_cases hk : k = id
  · subst hk
    exact ⟨_, sheet_unadmit_same h, rfl⟩
  · obtain ⟨io, hback⟩ := unadmit_eq k s
    refine ⟨x, ?_, rfl⟩
    rw [hback]
    exact (sheet_setSheet_ne (fun x => x.released.entered .staged s.io.time) (fun _ hy => hy) hk).trans h

theorem unadmitAll_cause (h : s.sheet id = some x) :
    ∃ y, (unadmitAll s).sheet id = some y ∧ y.cause = x.cause := by
  refine List.foldlRecOn (motive := fun t : State => ∃ y, t.sheet id = some y ∧ y.cause = x.cause) _ _ ⟨x, h, rfl⟩ ?_
  intro t ⟨y, hy, hcause⟩ k _
  obtain ⟨z, hz, hkept⟩ := unadmit_cause k hy
  exact ⟨z, hz, hkept.trans hcause⟩

theorem unadmitAll_speedHold (s : State) : (unadmitAll s).shs.speedHold = s.shs.speedHold := by
  refine List.foldlRecOn (motive := fun t : State => t.shs.speedHold = s.shs.speedHold) _ _ rfl fun t ht k _ => ?_
  obtain ⟨io, hback⟩ := unadmit_eq k t
  rw [hback]
  exact ht

/-! ## The end of a sheet (R216 to R219) -/

theorem mem_insertRec_of_mem {r q : Rec} {l : List Rec} (h : q ∈ l) : q ∈ insertRec r l := by
  induction l with
  | nil => exact absurd h (by simp)
  | cons y l ih =>
    unfold insertRec
    split
    · exact List.mem_cons_of_mem _ h
    · rcases List.mem_cons.1 h with rfl | h
      · exact List.mem_cons_self
      · exact List.mem_cons_of_mem _ (ih h)

/-- State `t` comes from `s` by events, records, reprints and changes of pages and jobs: every sheet of `s` reads as it did,
no late spoil becomes due, the safety data stay, and so does what waits in the recorder's queue. -/
structure SheetsKept (s t : State) : Prop where
  sheet : ∀ id x, s.sheet id = some x → t.sheet id = some x
  late : t.shs.lateDue = s.shs.lateDue
  saf : t.saf = s.saf
  queue : ∀ r ∈ s.led.queue, r ∈ t.led.queue

namespace SheetsKept

theorem refl (s : State) : SheetsKept s s := ⟨fun _ _ h => h, rfl, rfl, fun _ h => h⟩

theorem trans (h : SheetsKept s t) (k : SheetsKept t u) : SheetsKept s u where
  sheet id x hx := k.sheet id x (h.sheet id x hx)
  late := k.late.trans h.late
  saf := k.saf.trans h.saf
  queue r hr := k.queue r (h.queue r hr)

theorem ite {p : Prop} [Decidable p] (ht : SheetsKept s t) (hu : SheetsKept s u) : SheetsKept s (if p then t else u) := by
  split
  · exact ht
  · exact hu

theorem record (r : Rec) : SheetsKept s (s.record r) := ⟨fun _ _ h => h, rfl, rfl, fun _ => mem_insertRec_of_mem⟩

theorem freePages : SheetsKept s (freePages s) := ⟨fun _ _ h => h, rfl, rfl, fun _ h => h⟩

theorem reprint (x : Sheet) : SheetsKept s (reprint x s) := by
  unfold Machine.reprint
  split
  · exact .refl s
  · refine ite (.refl s) ?_
    split
    · exact .refl s
    · refine ⟨fun id y hy => ?_, rfl, rfl, fun _ h => h⟩
      exact List.find?_append.trans (congrArg (Option.or · _) hy)

theorem checkEnded (n : Nat) : SheetsKept s (checkEnded n s) := by
  unfold Machine.checkEnded
  split
  · exact .refl s
  · have hended (j : Job) (f : Job → Job) : SheetsKept s (jobEvent j (s.setJob n f)) :=
      ⟨fun _ _ h => h, rfl, rfl, fun _ h => h⟩
    refine ite (ite ?_ (hended _ _)) (.refl s)
    exact List.foldlRecOn (motive := SheetsKept s) _ _ (hended _ _) fun t ht p _ => ite ht (ht.trans (.record _))

end SheetsKept

/-- A sheet that ends enters its state, and its record waits in the queue. -/
theorem endSheet_kept (h : s.sheet id = some x) (st : ShState) :
    SheetsKept (sheetState id st s) (endSheet id st s)
      ∧ ∃ r ∈ (endSheet id st s).led.queue, r.kind = .sheet ∧ r.draw = .sheet
        ∧ r.body = sheetRecord (x.entered st s.io.time) := by
  have hstate := sheet_sheetState h st
  unfold endSheet
  simp only [hstate]
  generalize sheetState id st s = k at *
  have hreprint : SheetsKept k (if st = .delivered then k else reprint (x.entered st s.io.time) k) :=
    .ite (.refl k) (.reprint _)
  generalize (if st = .delivered then k else reprint (x.entered st s.io.time) k) = m at *
  have hafter (r : Rec) : SheetsKept (m.record r) (checkEnded (x.entered st s.io.time).job (freePages (m.record r))) :=
    SheetsKept.freePages.trans (.checkEnded _)
  exact ⟨(hreprint.trans (.record _)).trans (hafter _), _, (hafter _).queue _ (mem_insertRec_self _ _), rfl, rfl, rfl⟩

theorem endSheet_saf (h : s.sheet id = some x) (st : ShState) : (endSheet id st s).saf = s.saf := by
  obtain ⟨io, hstate⟩ := sheetState_eq id st s
  rw [(endSheet_kept h st).1.saf, hstate]
  rfl

theorem endSheet_late (h : s.sheet id = some x) (st : ShState) : (endSheet id st s).shs.lateDue = s.shs.lateDue := by
  obtain ⟨io, hstate⟩ := sheetState_eq id st s
  rw [(endSheet_kept h st).1.late, hstate]
  rfl

theorem endSheet_queue (h : s.sheet id = some x) (st : ShState) : ∀ r ∈ s.led.queue, r ∈ (endSheet id st s).led.queue := by
  obtain ⟨io, hstate⟩ := sheetState_eq id st s
  have hkept := (endSheet_kept h st).1.queue
  rw [hstate] at hkept
  exact hkept

theorem sheet_endSheet (h : s.sheet id = some x) (st : ShState) :
    (endSheet id st s).sheet id = some (x.entered st s.io.time) :=
  (endSheet_kept h st).1.sheet id _ (sheet_sheetState h st)

end
end Sys2Proof.Machine
end

section
/-!
PROOFS. What the events of the launch gate make of the state: admission, launch, the windows, the route, the output,
withdrawn tokens, SPEED_HOLD, the print states and the calibration proposal (chapter 09, R431).
-/
namespace Sys2Proof.Machine

section
variable {s t u : State} {id : Nat} {x y : Sheet}

/-- A row of the logic that runs answers what its event makes of the state, where that leaves no late spoil due. -/
theorem onChip_of_eq {f : State → State} (hs : Runs s) (hf : f s = t) (hlate : t.shs.lateDue = false) :
    onChip f s = .next t := by
  subst hf
  exact onChip_of_runs hs hlate

/-! ## A sheet that becomes LOST (R209, R214) -/

/-- The first cause of a sheet that the launch gate posts. -/
theorem sheet_firstCause (h : s.sheet id = some x) (hnone : x.cause = 0) (cause : Nat) :
    ∃ y, (firstCause id 6 0 cause s).sheet id = some y ∧ y.cause = cause ∧ y.state = x.state ∧ y.blank = x.blank := by
  refine ⟨_, sheet_setSheet_same h _ fun _ hy => hy, ?_, rfl, rfl⟩
  exact if_pos hnone

/-- State `t` comes from `s` by changes of stations and of sheets that keep the cause of every sheet, and by free values. -/
structure SidesOnly (s t : State) : Prop where
  same : t = { s with free := t.free, img := t.img, shs := { s.shs with sheets := t.shs.sheets } }
  cause : ∀ id x, s.sheet id = some x → ∃ y, t.sheet id = some y ∧ y.cause = x.cause

namespace SidesOnly

theorem refl (s : State) : SidesOnly s s := ⟨rfl, fun _ x h => ⟨x, h, rfl⟩⟩

/-- A change of stations and of the free values. -/
theorem of_same (h : SidesOnly s t) (hu : u = { t with free := u.free, img := u.img }) : SidesOnly s u where
  same := by rw [hu, h.same]
  cause id x hx := by rw [hu]; exact h.cause id x hx

theorem setSheet (h : SidesOnly s t) (k : Nat) (f : Sheet → Sheet) (hf : ∀ y, (f y).id = y.id ∧ (f y).cause = y.cause) :
    SidesOnly s (t.setSheet k f) where
  same := by rw [h.same]; rfl
  cause id x hx := by
    obtain ⟨y, hy, hcause⟩ := h.cause id x hx
    have hid : ∀ z, z.id = k → (f z).id = k := fun z hz => (hf z).1.trans hz
    by_cases hk : k = id
    · subst hk
      exact ⟨_, sheet_setSheet_same hy f hid, (hf y).2.trans hcause⟩
    · exact ⟨y, (sheet_setSheet_ne f hid hk).trans hy, hcause⟩

theorem cutStation (h : SidesOnly s t) (id i : Nat) : SidesOnly s (cutStation id t i) := by
  have hlit {u : State} (hu : SidesOnly s u) : SidesOnly s (acquireLight i u) := by
    unfold acquireLight
    dsimp only
    split
    · exact hu.of_same rfl
    · exact hu
  have hstn {u : State} (hu : SidesOnly s u) (f : Station → Station) : SidesOnly s (u.setStn i f) := hu.of_same rfl
  unfold Machine.cutStation
  refine hlit (List.foldlRecOn (motive := SidesOnly s) _ _ (hstn ?_ _) fun u hu d _ =>
    (hstn hu _).setSheet _ _ fun _ => ⟨rfl, rfl⟩)
  split
  · exact hstn h _
  · exact h

theorem cutSides (h : SidesOnly s t) (id : Nat) : SidesOnly s (cutSides id t) := by
  have hcut := List.foldlRecOn (motive := SidesOnly s) (List.range 5) (Machine.cutStation id) h
    fun _ hu i _ => hu.cutStation id i
  unfold Machine.cutSides
  generalize (List.range 5).foldl (Machine.cutStation id) t = u at hcut
  exact hcut.of_same rfl

theorem freeCapture (h : SidesOnly s t) (id : Nat) : SidesOnly s (freeCapture id t) := by
  unfold Machine.freeCapture
  exact h.setSheet _ _ fun _ => ⟨rfl, rfl⟩

end SidesOnly

/-- A sheet without a cause becomes LOST with the one posted; the safety data stay, no late spoil becomes due, and what
waits in the recorder's queue stays. -/
theorem loseSheet_lost (h : s.sheet id = some x) (hnone : x.cause = 0) (cause : Nat) :
    (∃ y, (loseSheet cause id s).sheet id = some y ∧ y.state = .lost ∧ y.cause = cause)
      ∧ (loseSheet cause id s).saf = s.saf ∧ (loseSheet cause id s).shs.lateDue = s.shs.lateDue
      ∧ ∀ r ∈ s.led.queue, r ∈ (loseSheet cause id s).led.queue := by
  obtain ⟨y, hy, hcause, -⟩ := sheet_firstCause h hnone cause
  have hcut := ((SidesOnly.refl (firstCause id 6 0 cause s)).freeCapture id).cutSides id
  obtain ⟨z, hz, hkept⟩ := hcut.cause id y hy
  have hsame := hcut.same
  unfold loseSheet
  generalize cutSides id (freeCapture id (firstCause id 6 0 cause s)) = k at hz hsame
  refine ⟨⟨_, sheet_endSheet hz .lost, rfl, hkept.trans hcause⟩, ?_, ?_, ?_⟩
  · rw [endSheet_saf hz, hsame]; rfl
  · rw [endSheet_late hz, hsame]; rfl
  · have hqueue := endSheet_queue hz .lost
    rw [hsame] at hqueue ⊢
    exact hqueue

/-- A fault that was raised is raised still after what keeps the safety data and the recorder's queue. -/
theorem Raised.of_kept {c : Cls} {line index cause : Nat} (h : Raised c line index cause s t) (hsaf : u.saf = t.saf)
    (hqueue : ∀ r ∈ t.led.queue, r ∈ u.led.queue) : Raised c line index cause s u := by
  unfold Raised at h ⊢
  rw [hsaf]
  refine ⟨h.1, ?_⟩
  split
  next hactive => exact (if_pos hactive).mp h.2
  next hnew =>
    obtain ⟨hlisted, r, hr, hrec⟩ := (if_neg hnew).mp h.2
    exact ⟨hlisted, r, hqueue r hr, hrec⟩

/-- MISFEED is raised, and its sheet becomes LOST (R209). -/
theorem misfeed_lost (h : s.sheet id = some x) (hnone : x.cause = 0) :
    Raised .halt 236 0 0x21 s (misfeed id s) ∧ (misfeed id s).shs.lateDue = s.shs.lateDue
      ∧ ∃ y, (misfeed id s).sheet id = some y ∧ y.state = .lost ∧ y.cause = 0x52 := by
  have hd : declares 236 0 0x21 = false := by decide
  obtain ⟨hraised, -, hlate⟩ := raised_halt (s := s) hd
  obtain ⟨y, hy, hcause⟩ := unadmitAll_cause h
  obtain ⟨io, hclassed⟩ := classed_halt (s := s) hd
  have hsheet : (s.raise .halt 236 0 0x21).sheet id = some y := by
    rw [sheet_congr (raise_img_shs hd).2, hclassed]
    exact hy
  obtain ⟨hlost, hsaf, hlate', hqueue⟩ := loseSheet_lost hsheet (hcause.trans hnone) 0x52
  unfold misfeed
  exact ⟨hraised.of_kept hsaf hqueue, hlate'.trans hlate, hlost⟩

theorem windowMissed_front (h : s.sheet id = some x) (hstate : x.state = .launched) (hedge : x.frontEdge = false)
    (hclosed : x.gate + gtol16 s < belt16 s) : windowMissed id false s = misfeed id s := by
  simp [windowMissed, h, hstate, hedge, hclosed]

/-! ## Admission (R203, R205) -/

/-- A candidate is a sheet (R203). -/
theorem sheet_of_mem_candidates (h : x ∈ candidates s) : s.sheet x.id = some x := by
  unfold candidates at h
  simp only [List.mem_filter, List.mem_mergeSort, List.mem_filterMap] at h
  obtain ⟨⟨j, -, hj⟩, -⟩ := h
  split at hj
  · exact absurd hj (by simp)
  · obtain ⟨i, -, hi⟩ := List.mem_filterMap.1 (List.mem_of_find?_eq_some hj)
    rw [sheet_id hi]
    exact hi

/-- A sheet keeps its SHEET_ID over an admission. -/
theorem admitTry_id {j : Job} (h : admitTry x j s = .ok y) : y.id = x.id := by
  unfold admitTry at h
  split at h
  · exact absurd h (by simp)
  · dsimp only at h
    split at h
    · exact absurd h (by simp)
    · split at h
      · exact absurd h (by simp)
      · injection h with h
        subst h
        rfl

/-- The first candidate whose staging checks, reservations and tokens hold is admitted, and no other in the same attempt. -/
theorem foldl_admitOne_first {j : Job} {rest : List Sheet} (hjob : s.job x.job = some j) (hstaged : stageFail x j s = none)
    (htry : admitTry x j s = .ok y) :
    ((x :: rest).foldl admitOne (s, false)).1
      = sheetState x.id .admitted (reserveUnit (s.setSheet x.id fun _ => { y with wait := 0 })) := by
  have hfirst : admitOne (s, false) x
      = (sheetState x.id .admitted (reserveUnit (s.setSheet x.id fun _ => { y with wait := 0 })), true) := by
    simp [admitOne, hjob, hstaged, htry]
  have hrest : ∀ (l : List Sheet) (k : State), l.foldl admitOne (k, true) = (k, true) := by
    intro l k
    induction l with
    | nil => rfl
    | cons z l ih => exact ih
  rw [List.foldl_cons, hfirst, hrest]

/-- What admission makes of the state in which staging was checked again. -/
theorem admitted_sheet (hmem : x ∈ candidates s) {j : Job} (htry : admitTry x j s = .ok y) :
    (sheetState x.id .admitted (reserveUnit (s.setSheet x.id fun _ => { y with wait := 0 }))).sheet x.id
      = some { y with wait := 0, state := .admitted } := by
  have hset := sheet_setSheet_same (sheet_of_mem_candidates hmem) (fun _ => { y with wait := 0 }) fun _ _ =>
    show y.id = x.id from admitTry_id htry
  exact sheet_sheetState (s := reserveUnit (s.setSheet x.id fun _ => { y with wait := 0 })) hset .admitted

theorem admission_admits {j : Job} {rest : List Sheet} (hctrl : (restage s).saf.ctrl = .run)
    (hgrace : (restage s).pwr.grace = false) (hcands : candidates (restage s) = x :: rest)
    (hjob : (restage s).job x.job = some j) (hstaged : stageFail x j (restage s) = none)
    (htry : admitTry x j (restage s) = .ok y) :
    admission s = sheetState x.id .admitted (reserveUnit ((restage s).setSheet x.id fun _ => { y with wait := 0 })) := by
  rw [← foldl_admitOne_first (rest := rest) hjob hstaged htry, ← hcands]
  simp [admission, hctrl, hgrace]

/-! ## Token withdrawal (R207) -/

theorem tokenWithdrawn_one (hsheets : s.shs.sheets = [x]) (hflight : x.state.inFlight = true) :
    tokenWithdrawn s = lateSpoils (tokenReact s x.id) := by
  simp [tokenWithdrawn, sheetIds, hsheets, hflight]

theorem tokenReact_admitted (h : s.sheet id = some x) (hstate : x.state = .admitted)
    (htoken : (tokenFail x.stations s).isSome = true) :
    tokenReact s id = sheetEvent 73 x.cause x (unadmit id s) := by
  simp only [tokenReact, h, hstate, htoken, if_true]

theorem tokenReact_launched (h : s.sheet id = some x) (hstate : x.state = .launched) (hblank : x.blank = false)
    (htoken : (tokenFail x.stations s).isSome = true) :
    tokenReact s id = sheetEvent 73 0x41 x (firstCause id 6 0 0x41 (s.setSheet id fun x => { x with blank := true })) := by
  simp only [tokenReact, h, hstate, htoken, hblank, and_self, if_true]

/-! ## SPEED_HOLD (R218) -/

/-- Records that are handed over one after another wait in the queue, and nothing else has changed. -/
theorem foldl_record {α : Type} (f : State → α → Rec) (l : List α) (s : State) :
    (∃ q, l.foldl (fun s a => s.record (f s a)) s = { s with led := { s.led with queue := q } })
      ∧ (∀ r ∈ s.led.queue, r ∈ (l.foldl (fun s a => s.record (f s a)) s).led.queue)
      ∧ ∀ a ∈ l, ∃ t, f t a ∈ (l.foldl (fun s a => s.record (f s a)) s).led.queue := by
  induction l generalizing s with
  | nil => exact ⟨⟨s.led.queue, rfl⟩, fun _ h => h, fun _ h => absurd h (by simp)⟩
  | cons a l ih =>
    obtain ⟨⟨q, hq⟩, hold, hnew⟩ := ih (s.record (f s a))
    refine ⟨⟨q, hq⟩, fun r hr => hold r (mem_insertRec_of_mem hr), fun b hb => ?_⟩
    rcases List.mem_cons.1 hb with rfl | hb
    · exact ⟨s, hold _ (mem_insertRec_self _ _)⟩
    · exact hnew b hb

/-- A machine whose SPEED_HOLD has ended. -/
def State.holdEnded (s : State) : State := { s with shs := { s.shs with speedHold := false } }

/-- The recorded change by which Renune plans a speed on polygon `p` (R218). -/
def speedRec (b : Bytes) (s : State) (p : Nat) : Rec :=
  renuneRec s 0x0783 p b .ordinary (.renune .scanStart p b)

theorem speedLower_eq {v : Nat} (hhold : s.shs.speedHold = true)
    (hquiet : ∀ x ∈ s.shs.sheets, x.state.code < 4 ∨ 6 < x.state.code) (hplan : plannedV s = some v) :
    speedLower s = if v ≤ minV s then s.holdEnded.raise .halt 236 0 0x23
      else ((polysOn s).foldl (fun k p => k.record (speedRec (le 4 (lowerV v s)) k p)) s.holdEnded).pulse 75 0 := by
  have hnone : (s.shs.sheets.any fun x => decide (4 ≤ x.state.code) && decide (x.state.code ≤ 6)) = false := by
    rw [List.any_eq_false]
    intro x hx
    have := hquiet x hx
    simp only [Bool.and_eq_true, decide_eq_true_eq]
    omega
  simp only [speedLower, hhold, hnone, hplan, Bool.true_eq_false, Bool.false_eq_true, or_self, if_false]
  rfl

/-- SPEED_FLOOR is raised where no lower speed is left (R218). -/
theorem speedFloor_raised : Raised .halt 236 0 0x23 s (s.holdEnded.raise .halt 236 0 0x23)
    ∧ (s.holdEnded.raise .halt 236 0 0x23).shs.speedHold = false
    ∧ (s.holdEnded.raise .halt 236 0 0x23).shs.lateDue = s.shs.lateDue := by
  have hd : declares 236 0 0x23 = false := by decide
  obtain ⟨hraised, -, hlate⟩ := raised_halt (s := s.holdEnded) hd
  obtain ⟨io, hclassed⟩ := classed_halt (s := s.holdEnded) hd
  refine ⟨hraised.of_saf rfl rfl, ?_, hlate⟩
  rw [(raise_img_shs hd).2, hclassed]
  exact unadmitAll_speedHold s.holdEnded

/-! ## Print states (R431) -/

theorem moveState_moves (c : CState) (s : State) : Moves c s (s.moveState c) :=
  ⟨rfl, _, mem_insertRec_self _ _, rfl, rfl, rfl, rfl, rfl⟩

/-- A row that moves the controller state. -/
theorem onChip_moves {f : State → State} {c : CState} (hs : Runs s) (hf : f s = s.moveState c) :
    ∃ t, onChip f s = .next t ∧ Moves c s t :=
  ⟨_, onChip_of_eq hs hf hs.2, moveState_moves c s⟩

end
end Sys2Proof.Machine
end

section
/-!
PROOFS. The statement about the events of sheets, of the launch gate and of the print states.
-/
namespace Sys2Proof.Machine

/-- Settles O29: each event is what the lemma on its operation says, and none of them leaves a late spoil due. -/
theorem sheetEvents : Obligations.SheetEvents := by
  refine ⟨?proposal, ?admits, ?launches, ?misfeeds, ?routes, ?fuses, ?delivers, ?spoils, ?withdrawn, ?speed, ?drained,
    ?entry, ?exits⟩
  case proposal =>
    intro m s p hs hrun
    have hready : calReady m s = { s with io := (calReady m s).io, free := s.free + 1, shs := { s.shs with
        calRun := none, proposal := some (if byteAt p 0 = 1 then calRegister p m s else calDensity p m s) } } := by
      simp only [calReady, hrun]
      rfl
    exact ⟨_, onChip_of_runs hs (by rw [hready]; exact hs.2), hready⟩
  case admits =>
    intro s k x rest j y hs hk hctrl hgrace hcands hjob hstaged htry
    subst hk
    have hadmits := admission_admits hctrl hgrace hcands hjob hstaged htry
    have hstate := sheetState_sheetsOnly (s := reserveUnit ((restage s).setSheet x.id fun _ => { y with wait := 0 }))
      x.id .admitted
    have hlate := hstate.late.trans ((restage_sheetsOnly s).late.trans hs.2)
    refine ⟨_, onChip_of_eq hs hadmits hlate, ?_, hstate.same⟩
    exact admitted_sheet (by rw [hcands]; exact List.mem_cons_self) htry
  case launches =>
    intro id s x hs hx hstate hgate
    have hlaunch : launch id.toNat s = sheetState id.toNat .launched s := by
      simp only [launch, hx, hstate, hgate, and_self, if_true]
    have hsame := sheetState_sheetsOnly (s := s) id.toNat .launched
    exact ⟨_, onChip_of_eq hs hlaunch (hsame.late.trans hs.2), hsame.same, sheet_sheetState hx .launched⟩
  case misfeeds =>
    intro id s x hs hx hstate hedge hcause hclosed
    have hmissed := windowMissed_front hx hstate hedge hclosed
    obtain ⟨hraised, hlate, y, hy, hlost, hmisfeed⟩ := misfeed_lost hx hcause
    exact ⟨_, y, onChip_of_eq hs hmissed (hlate.trans hs.2), hraised, hy, hlost, hmisfeed⟩
  case routes =>
    intro id s x hs hx hstate hroute hgate
    have hrunning : x.state.running = true := by
      rcases hstate with h | h | h | h <;> rw [h] <;> rfl
    have hdecides : routeDecision id.toNat s = s.setSheet id.toNat fun x => { x with route := some (x.spoil || x.blank) } := by
      simp only [routeDecision, hx, hrunning, hroute, hgate, and_self, if_true]
    exact ⟨_, onChip_of_eq hs hdecides hs.2, rfl,
      sheet_setSheet_same hx (fun x => { x with route := some (x.spoil || x.blank) }) fun _ hy => hy⟩
  case fuses =>
    intro id s x hs hx hstate
    have hfused : sheetFused id.toNat s = s.setSheet id.toNat (Sheet.entered .fused s.io.time) := by
      rw [← sheetState_fused hx]
      simp only [sheetFused, hx, hstate, if_true]
    exact ⟨_, onChip_of_eq hs hfused hs.2, rfl, sheet_setSheet_same hx (Sheet.entered .fused s.io.time) fun _ hy => hy⟩
  case delivers =>
    intro id s x hs hx hstate hroute hspoil
    have hends : sheetOutput id.toNat s = endSheet id.toNat .delivered s := by
      simp [sheetOutput, hx, hroute, hstate, hspoil]
    exact ⟨_, onChip_of_eq hs hends ((endSheet_late hx _).trans hs.2),
      sheet_endSheet hx .delivered, (endSheet_kept hx .delivered).2⟩
  case spoils =>
    intro id s x hs hx hstate hroute
    have hends : sheetOutput id.toNat s = endSheet id.toNat .spoiled s := by
      simp [sheetOutput, hx, hroute, hstate]
    exact ⟨_, onChip_of_eq hs hends ((endSheet_late hx _).trans hs.2), sheet_endSheet hx .spoiled⟩
  case withdrawn =>
    intro s x hs hsheets htoken
    have hx : s.sheet x.id = some x := by simp [State.sheet, hsheets]
    have hrow {t : State} (hflight : x.state.inFlight = true) (hreact : tokenReact s x.id = t)
        (hlate : t.shs.lateDue = false) : exec .tokenWithdrawn s = .next t := by
      have hone : tokenWithdrawn s = t := by rw [tokenWithdrawn_one hsheets hflight, hreact, lateSpoils_none hlate]
      exact onChip_of_eq hs hone hlate
    constructor
    · intro hstate
      obtain ⟨io, hback⟩ := unadmit_eq x.id s
      refine ⟨_, _, hrow (by rw [hstate]; rfl) (tokenReact_admitted hx hstate htoken)
        ((unadmit_unadmits (s := s) x.id).late.trans hs.2), sheet_unadmit_same hx, rfl, rfl, ?_, ?_⟩
      · show (unadmit x.id s).led.resv = _
        rw [hback]
      · intro r hr
        obtain ⟨q, -, rfl⟩ := List.mem_map.1 hr
        exact ⟨rfl, rfl⟩
    · intro hstate hblank hcause
      have hset := sheet_setSheet_same hx (fun x => { x with blank := true }) fun _ hy => hy
      obtain ⟨y, hy, hfirst, hkept, hblanked⟩ := sheet_firstCause hset hcause 0x41
      exact ⟨_, y, hrow (by rw [hstate]; rfl) (tokenReact_launched hx hstate hblank htoken) hs.2, hy, hkept.trans hstate,
        hblanked, hfirst⟩
  case speed =>
    intro s v hs hhold hquiet hplan
    have hlower := speedLower_eq hhold hquiet hplan
    constructor
    · intro hv
      rw [if_neg (by omega)] at hlower
      obtain ⟨⟨q, hsame⟩, -, hrecords⟩ := foldl_record (speedRec (le 4 (lowerV v s))) (polysOn s) s.holdEnded
      refine ⟨_, onChip_of_eq hs hlower (by rw [pulse_shs, hsame]; exact hs.2), ?_, ?_⟩
      · rw [pulse_shs, hsame]; rfl
      · intro p hp
        obtain ⟨t, ht⟩ := hrecords p hp
        exact ⟨_, ht, rfl, rfl, rfl⟩
    · intro hv
      rw [if_pos hv] at hlower
      obtain ⟨hraised, hended, hlate⟩ := speedFloor_raised (s := s)
      exact ⟨_, onChip_of_eq hs hlower (hlate.trans hs.2), hended, hraised⟩
  case drained =>
    intro s hs hctrl hnone
    exact onChip_moves hs (by simp [drainComplete, hctrl, hnone])
  case entry =>
    intro s hs hctrl hholds
    exact onChip_moves hs (by simp [readyEntry, hctrl, hholds])
  case exits =>
    intro s hs hctrl hholds
    exact onChip_moves hs (by simp [readyExit, hctrl, hholds])

end Sys2Proof.Machine
end

section
/-!
PROOFS. The statement about the changes of jobs and sheets: what each effect keeps of the host interface, and that none
leaves a late spoil due (R201 to R203, R215, R220, R223, R224).
-/
namespace Sys2Proof.Machine

namespace FlightsKept
variable {s t : State}

theorem addCopies (h : FlightsKept s t) (n : Nat) (e : Bytes) (k : Nat) : FlightsKept s (addCopies n e k t) := by
  induction k generalizing t with
  | zero => exact h
  | succ k ih =>
    refine ih ?_
    unfold addSheet
    split
    · exact h
    · exact h.of_same rfl rfl

theorem closeJob (h : FlightsKept s t) (n : Nat) : FlightsKept s (closeJob n t) := by
  unfold Machine.closeJob
  split
  · exact ite ((h.setJob _ _).pulse _ _) h
  · exact h

theorem withdraw (h : FlightsKept s t) (id : Nat) : FlightsKept s (withdraw id t) := by
  unfold Machine.withdraw
  split
  · exact h
  · exact freePages ((ite (h.withLed _) h).of_same rfl rfl)

theorem abortSheet (h : FlightsKept s t) (id : Nat) : FlightsKept s (abortSheet id t) := by
  unfold Machine.abortSheet
  split
  · exact h
  · split
    · exact h.withdraw id
    · exact h.withdraw id
    · exact h.withdraw id
    · exact h.setSheet _ _
    · exact h.postCause _ _ _ _
    · exact h.postCause _ _ _ _
    · exact h.postCause _ _ _ _
    · exact h

theorem lateSpoils (h : FlightsKept s t) : FlightsKept s (lateSpoils t) := by
  refine ite (raise ?_ (by decide) (by decide)) h
  exact h.of_same rfl rfl

theorem calOpen (h : FlightsKept s t) (n : Nat) : FlightsKept s (calOpen n t) := by
  unfold Machine.calOpen
  split
  · exact h
  · extract_lets len on id page set j itk shs opened entry added shs' marked
    have hopened : FlightsKept s opened := h.of_same rfl rfl
    have hadded : FlightsKept s added := hopened.addCopies _ _ _
    have hmarked : FlightsKept s marked := hadded.of_same rfl rfl
    exact (hmarked.advanceFree.pulse _ _).restage

end FlightsKept

section
variable {s : State}

/-! ## No late spoil becomes due (R213) -/

theorem addCopies_lateDue (n : Nat) (e : Bytes) (k : Nat) : (addCopies n e k s).shs.lateDue = s.shs.lateDue := by
  induction k generalizing s with
  | zero => rfl
  | succ k ih =>
    refine ih.trans ?_
    unfold addSheet
    split <;> rfl

theorem closeJob_lateDue (n : Nat) : (closeJob n s).shs.lateDue = s.shs.lateDue := by
  unfold closeJob
  split
  · split <;> rfl
  · rfl

theorem lateSpoils_lateDue : (lateSpoils s).shs.lateDue = false := by
  unfold lateSpoils
  split
  next => exact (raised_halt (by decide)).2.2
  next h => exact Bool.not_eq_true _ |>.mp h

theorem calOpen_lateDue (n : Nat) : (calOpen n s).shs.lateDue = s.shs.lateDue := by
  unfold calOpen
  split
  · rfl
  · exact (restage_sheetsOnly _).late.trans (addCopies_lateDue _ _ _)

end

/-! ## Changes that keep the flights -/

/-- A change whose effect keeps the flights and leaves no late spoil due. -/
theorem takes_of_kept {row : Frame → Instr} {op : Op} {E : Frame → State → State}
    (hrow : ∀ f s, exec (row f) s = command op f s)
    (hE : ∀ f s k, k.shs.lateDue = false → (specOf op).eff (heldFlight op f s).cmd k = E f k)
    (hkept : ∀ f k, FlightsKept k (E f k)) (hlate : ∀ f k, k.shs.lateDue = false → (E f k).shs.lateDue = false) :
    Takes row op (fun _ _ => True) E := by
  intro f s happlies _
  obtain ⟨-, -, hpasses, -⟩ := (applies_iff op f s).1 happlies
  obtain ⟨-, hquiet, -⟩ := (passes_iff op f s).1 hpasses
  have hE' (i g l) : (specOf op).eff (heldFlight op f s).cmd (withParts s i g l) = E f (withParts s i g l) :=
    hE f s (withParts s i g l) hquiet
  rw [hrow]
  obtain ⟨hrecorded, u, k, hcommitted, hsame, hsaf, hhead, htime, heffect⟩ :=
    change_takes (E := (specOf op).eff (heldFlight op f s).cmd) happlies rfl
      (fun i g l hnone _ => by rw [hE']; exact (hkept f (withParts s i g l)).noneHeld hnone)
      (fun i g l _ hquiet => by rw [hE']; exact hlate f (withParts s i g l) hquiet)
      (fun i g l _ hreset => by rw [hE', (hkept f (withParts s i g l)).reset]; exact hreset)
  rw [hE f s k (by rw [hsame]; exact hquiet)] at heffect
  exact ⟨hrecorded, u, k, hcommitted, hsame, hsaf, hhead, htime, heffect⟩

/-! ## JOB_OPEN (R201) -/

/-- The number of a job that is opened. -/
theorem freeJob_spec {s : State} {n : Nat} (h : freeJob s = some n) : n < 256 ∧ s.job n = none ∧ ∀ m < n, s.job m ≠ none := by
  obtain ⟨hfree, hlt, hleast⟩ := List.find?_range_eq_some.1 h
  exact ⟨List.mem_range.1 hlt, Option.isNone_iff_eq_none.1 hfree, fun m hm hjob => by simpa [hjob] using hleast m hm⟩

/-- JOB_OPEN fails with BUSY where no job number is free (R201). -/
theorem freeJob_of_passes {f : Frame} {s : State} (h : passes .jobOpen f s = true) : ∃ n, freeJob s = some n := by
  obtain ⟨-, -, -, hseq, -, -, -, hpost, -⟩ := (passes_iff _ _ _).1 h
  obtain ⟨hs, ss, hheld⟩ := heldState_same .jobOpen f s hseq
  rw [hheld] at hpost
  obtain ⟨-, hbusy⟩ := orElse_none.1 hpost
  have hfree : failIf (freeJob s).isNone stBusy 0 = none := hbusy
  cases hjob : freeJob s with
  | none => simp [hjob, failIf] at hfree
  | some n => exact ⟨n, rfl⟩

/-- JOB_OPEN adds a job, and delivers its event. -/
theorem jobOpen_effect (f : Frame) {s : State} {n : Nat} (h : freeJob s = some n) :
    EffectIs f.hamper.val ((specOf .jobOpen).eff (heldFlight .jobOpen f s).cmd) s
      { s with shs := { s.shs with jobs := s.shs.jobs ++ [{ num := n, set := fit 16 f.pay }] } } := by
  refine .io fun i g l _ => ⟨pulse 74 (n * 2 ^ 16) i, ?_, .pulse _ _ _ _⟩
  have hfree : freeJob (withParts s i g l) = some n := h
  show (match freeJob (withParts s i g l) with
    | none => _
    | some n => _) = _
  rw [hfree]
  rfl

/-! ## Effects of the changes -/

/-- What SHEET_ADD does (R202 to R204). -/
def sheetAddEffect (f : Frame) (s : State) : State :=
  restage ((List.range (frameLen f / 16)).foldl
    (fun s k => addCopies f.tgt (sub f.pay (16 * k) 16) (byteAt f.pay (16 * k + 9)) s) s)

/-- What JOB_CLOSE does (R201). -/
def jobCloseEffect (f : Frame) (s : State) : State := checkEnded f.tgt (closeJob f.tgt s)

/-- What SHEET_ABORT does (R215). -/
def sheetAbortEffect (f : Frame) (s : State) : State := match s.sheet f.tgt with
  | some x => checkEnded x.job (lateSpoils (abortSheet f.tgt s))
  | none => s

/-- What JOB_ABORT does (R215). -/
def jobAbortEffect (f : Frame) (s : State) : State := checkEnded f.tgt (lateSpoils
  ((sheetIds (fun x => x.job == f.tgt && !x.state.terminal) s).foldl (fun s id => abortSheet id s) (closeJob f.tgt s)))

/-- What LAUNCH_CONTROL does (R431). -/
def launchControlEffect (f : Frame) (s : State) : State :=
  if byteAt f.pay 0 = 1 then s.setCtrl .run else unadmitAll (s.setCtrl .drain)

/-- What CAL_RUN does at its start (R220). -/
def calRunEffect (f : Frame) (s : State) : State := calOpen (byteAt f.pay 1) { s with
  io := finishAll .calRun (fun g => !(g.hamper.val == f.hamper.val && g.tag == f.tag)) stFaulted 0x80 [] s.io
  shs := { s.shs with calRun := some (fit 24 f.pay), proposal := none } }

/-- The record of a change of a proposal (R223). -/
def proposalRec (s : State) (x : Nat × Op × Nat × Bytes) : Rec :=
  renuneRec s x.1 x.2.2.1 x.2.2.2 .ordinary (.renune x.2.1 x.2.2.1 x.2.2.2)

/-- What CAL_APPLY does (R223). -/
def calApplyEffect (s : State) : State := match s.shs.proposal with
  | none => s
  | some y => (calChanges y s).reverse.foldl (fun s x => s.recordNext (proposalRec s x))
      { s with shs := { s.shs with proposal := none } }

section
variable (f : Frame) (s : State)

theorem sheetAddEffect_kept : FlightsKept s (sheetAddEffect f s) :=
  ((FlightsKept.refl s).foldl (fun _ _ hu => hu.addCopies _ _ _) _).restage

theorem sheetAddEffect_lateDue : (sheetAddEffect f s).shs.lateDue = s.shs.lateDue :=
  (restage_sheetsOnly _).late.trans <| List.foldlRecOn (motive := fun t : State => t.shs.lateDue = s.shs.lateDue) _ _ rfl
    fun _ ht _ _ => (addCopies_lateDue _ _ _).trans ht

theorem sheetAbortEffect_kept : FlightsKept s (sheetAbortEffect f s) := by
  unfold sheetAbortEffect
  split
  · exact ((FlightsKept.refl s).abortSheet _).lateSpoils.checkEnded _
  · exact .refl s

theorem sheetAbortEffect_lateDue (h : s.shs.lateDue = false) : (sheetAbortEffect f s).shs.lateDue = false := by
  unfold sheetAbortEffect
  split
  · exact (SheetsKept.checkEnded _).late.trans lateSpoils_lateDue
  · exact h

/-- A SHEET_ABORT whose sheet is gone does nothing. -/
theorem sheetAbort_eff (c : Cmd) (hc : c.f = f) (h : s.shs.lateDue = false) :
    sheetAbortSpec.eff c s = sheetAbortEffect f s := by
  subst hc
  show (match (s.sheet c.tgt).map (·.job) with
    | some n => checkEnded n (lateSpoils (abortSheet c.tgt s))
    | none => lateSpoils (abortSheet c.tgt s)) = _
  unfold sheetAbortEffect
  have htgt : c.f.tgt = c.tgt := rfl
  rw [htgt]
  cases hsheet : s.sheet c.tgt with
  | some x => rfl
  | none =>
    have hsame : abortSheet c.tgt s = s := by simp only [abortSheet, hsheet]
    rw [hsame, lateSpoils_none h]
    rfl

theorem jobAbortEffect_kept : FlightsKept s (jobAbortEffect f s) :=
  (((FlightsKept.refl s).closeJob _).foldl (fun _ _ hu => hu.abortSheet _) _).lateSpoils.checkEnded _

theorem launchControlEffect_kept : FlightsKept s (launchControlEffect f s) :=
  .ite ((FlightsKept.refl s).setCtrl _) ((FlightsKept.refl s).setCtrl _).unadmitAll

theorem launchControlEffect_lateDue : (launchControlEffect f s).shs.lateDue = s.shs.lateDue := by
  unfold launchControlEffect
  split
  · rw [setCtrl_shs]
  · rw [unadmitAll_unadmits.late, setCtrl_shs]

theorem calRunEffect_kept : FlightsKept s (calRunEffect f s) := by
  refine FlightsKept.calOpen ?_ _
  exact ((FlightsKept.refl s).finishAll .calRun _ stFaulted 0x80 []).of_same rfl rfl

theorem foldl_recordNext_same {α : Type} (r : State → α → Rec) (l : List α) :
    ∃ q, l.foldl (fun s a => s.recordNext (r s a)) s = { s with led := { s.led with queue := q } } := by
  induction l generalizing s with
  | nil => exact ⟨s.led.queue, rfl⟩
  | cons a l ih => exact ih _

theorem calApplyEffect_same : ∃ q p, calApplyEffect s
    = { s with led := { s.led with queue := q }, shs := { s.shs with proposal := p } } := by
  unfold calApplyEffect
  split
  · exact ⟨s.led.queue, s.shs.proposal, rfl⟩
  · obtain ⟨q, hq⟩ := foldl_recordNext_same { s with shs := { s.shs with proposal := none } } proposalRec _
    exact ⟨q, none, hq⟩

end

/-- Settles O2: the settings change what they name alone, and JOB_OPEN takes the number that its check has found free; the
other effects keep the flights of the hampers and leave no late spoil due. -/
theorem jobChangesTakeEffect : Obligations.JobChangesTakeEffect := by
  refine ⟨?jobOpen, ?jobHold, ?jobRelease, ?pathSet, ?regSet, ?sheetAdd, ?jobClose, ?sheetAbort, ?jobAbort, ?launchControl,
    ?calRun, ?calApply⟩
  case jobOpen =>
    intro f s happlies
    obtain ⟨-, -, hpasses, -⟩ := (applies_iff _ _ _).1 happlies
    obtain ⟨n, hfree⟩ := freeJob_of_passes hpasses
    obtain ⟨hlt, hnone, hleast⟩ := freeJob_spec hfree
    obtain ⟨hrecorded, u, hcommitted, hleaves⟩ := change_sets happlies (jobOpen_effect f hfree) (.inr (by
      obtain ⟨-, hlate, -⟩ := (passes_iff _ _ _).1 hpasses
      exact hlate)) (.inl rfl)
    exact ⟨hrecorded, u, hcommitted, n, hlt, hnone, hleast, hleaves⟩
  case jobHold | pathSet | regSet | jobRelease =>
    exact sets_of (fun _ _ => rfl) (fun _ _ _ => .rfl fun _ _ _ => rfl) (fun _ _ => .inr fun h => h) fun _ _ => .inl rfl
  case sheetAdd =>
    exact takes_of_kept (E := sheetAddEffect) (fun _ _ => rfl) (fun _ _ _ _ => rfl) sheetAddEffect_kept
      fun f k h => (sheetAddEffect_lateDue f k).trans h
  case jobClose =>
    exact takes_of_kept (E := jobCloseEffect) (fun _ _ => rfl) (fun _ _ _ _ => rfl)
      (fun f k => ((FlightsKept.refl k).closeJob f.tgt).checkEnded f.tgt)
      fun f k h => (SheetsKept.checkEnded f.tgt).late.trans ((closeJob_lateDue f.tgt).trans h)
  case sheetAbort =>
    exact takes_of_kept (E := sheetAbortEffect) (fun _ _ => rfl) (fun f _ k h => sheetAbort_eff f k _ rfl h)
      sheetAbortEffect_kept sheetAbortEffect_lateDue
  case jobAbort =>
    exact takes_of_kept (E := jobAbortEffect) (fun _ _ => rfl) (fun _ _ _ _ => rfl) jobAbortEffect_kept
      fun f _ _ => (SheetsKept.checkEnded f.tgt).late.trans lateSpoils_lateDue
  case launchControl =>
    exact takes_of_kept (E := launchControlEffect) (fun _ _ => rfl) (fun _ _ _ _ => rfl) launchControlEffect_kept
      fun f k h => (launchControlEffect_lateDue f k).trans h
  case calRun =>
    exact takes_of_kept (E := calRunEffect) (fun _ _ => rfl) (fun _ _ _ _ => rfl) calRunEffect_kept
      fun f k h => (calOpen_lateDue _).trans h
  case calApply =>
    refine takes_of_kept (E := fun _ => calApplyEffect) (fun _ _ => rfl) (fun _ _ _ _ => rfl) (fun _ k => ?_) fun _ k h => ?_
    · obtain ⟨q, p, hsame⟩ := calApplyEffect_same k
      exact (FlightsKept.refl k).of_same (by rw [hsame]) (by rw [hsame])
    · obtain ⟨q, p, hsame⟩ := calApplyEffect_same k
      rw [hsame]
      exact h

end Sys2Proof.Machine
end

section
/-!
PROOFS. The rules of an axis's update: how updates of one axis compose, and that the start of a move, of a homing and of a
stop replaces its axis by a function of itself (R259, R264, R265).
-/
namespace Sys2Proof.Machine

/-! ## Replacing one axis -/

section
variable {s : State} {n : Nat}

@[simp] theorem setAxis_setAxis (g h : Axis → Axis) : (s.setAxis n g).setAxis n h = s.setAxis n fun a => h (g a) := by
  simp only [State.setAxis, upd_upd]

theorem setAxis_congr {g h : Axis → Axis} (heq : g (s.axis n) = h (s.axis n)) : s.setAxis n g = s.setAxis n h := by
  simp only [State.setAxis, upd_congr _ n g h {} heq]

theorem setAxis_id : (s.setAxis n fun a => a) = s := by
  simp only [State.setAxis, upd_id]

/-- An update that decides on its axis decides on the axis that the state holds. -/
theorem setAxis_ite (c : Axis → Prop) [DecidablePred c] (g h : Axis → Axis) :
    (s.setAxis n fun a => if c a then g a else h a) = if c (s.axis n) then s.setAxis n g else s.setAxis n h := by
  by_cases hc : c (s.axis n)
  · rw [if_pos hc]
    exact setAxis_congr (if_pos hc)
  · rw [if_neg hc]
    exact setAxis_congr (if_neg hc)

end

/-- All that an effect does is to replace axis `n` by a function of itself. -/
def ReplacesAxis (n : Nat) (E : State → State) : Prop := ∃ g : Axis → Axis, ∀ s, E s = s.setAxis n g

namespace ReplacesAxis
variable {n : Nat} {E F : State → State}

theorem of_setAxis (n : Nat) (g : Axis → Axis) : ReplacesAxis n fun s => s.setAxis n g := ⟨g, fun _ => rfl⟩

theorem refl (n : Nat) : ReplacesAxis n fun s => s := ⟨fun a => a, fun _ => setAxis_id.symm⟩

theorem comp (hF : ReplacesAxis n F) (hE : ReplacesAxis n E) : ReplacesAxis n fun s => F (E s) := by
  obtain ⟨g, hg⟩ := hE
  obtain ⟨h, hh⟩ := hF
  exact ⟨fun a => h (g a), fun s => by
    show F (E s) = _
    rw [hh, hg, setAxis_setAxis]⟩

theorem ite {c : Axis → Prop} [DecidablePred c] (hE : ReplacesAxis n E) (hF : ReplacesAxis n F) :
    ReplacesAxis n fun s => if c (s.axis n) then E s else F s := by
  obtain ⟨g, hg⟩ := hE
  obtain ⟨h, hh⟩ := hF
  exact ⟨fun a => if c a then g a else h a, fun s => by
    show (if c (s.axis n) then E s else F s) = _
    rw [setAxis_ite, hg, hh]⟩

theorem shs (hE : ReplacesAxis n E) (s : State) : (E s).shs = s.shs := by
  obtain ⟨g, hg⟩ := hE
  rw [hg, setAxis_shs]

theorem pwr (hE : ReplacesAxis n E) (s : State) : (E s).pwr = s.pwr := by
  obtain ⟨g, hg⟩ := hE
  rw [hg, setAxis_pwr]

/-- It neither reads nor changes the host interface, the safety data and the ledger. -/
theorem comm_withParts (hE : ReplacesAxis n E) (s : State) (i : Io) (g : Safety) (l : Ledger) :
    E (withParts s i g l) = withParts (E s) i g l := by
  obtain ⟨h, hh⟩ := hE
  rw [hh, hh]
  rfl

end ReplacesAxis

/-! ## What starts and stops an axis -/

/-- A segment of the queue begins on its axis. -/
def Axis.begun (vIn : Nat) (a : Axis) : Axis := match a.queue with
  | [] => a
  | seg :: _ =>
    let v := a.joints.headD 0
    { a with
      start := a.pos * 65536, segT := 0, vIn := vIn, vOut := v, vPeak := peakSpeed vIn v seg (seg.len a.pos)
      joints := a.joints.drop 1 }

theorem beginSegment_eq (n vIn : Nat) (s : State) : beginSegment n vIn s = s.setAxis n (Axis.begun vIn) := by
  unfold beginSegment
  split
  · next hqueue =>
    refine Eq.trans setAxis_id.symm (setAxis_congr ?_)
    rw [Axis.begun, hqueue]
  · next seg rest hqueue =>
    refine setAxis_congr ?_
    rw [Axis.begun, hqueue]

/-- A move of given segments starts (R259). -/
theorem startMove_replacesAxis (n : Nat) (segs : List Seg) : ReplacesAxis n (startMove n segs) :=
  .comp (F := beginSegment n 0) ⟨_, beginSegment_eq n 0⟩ (.of_setAxis n _)

/-- What stopping the move or homing of axis `n` leaves of the axis: it decelerates, unless its homing has met its edge
and does so already (R264, R265). -/
def haltedAxis (n detail : Nat) (s : State) : State :=
  if (s.axis n).state = .moving ∨ (s.axis n).state = .homing then
    (if (s.axis n).homeHit then s else stopAxis n s).setAxis n fun a => { a with
      state := .stopping, home := none, homeHit := false, homed := a.homed && a.home.isNone, stopDetail := detail }
  else s

theorem haltedAxis_replacesAxis (n detail : Nat) : ReplacesAxis n (haltedAxis n detail) :=
  .ite (c := fun a => a.state = .moving ∨ a.state = .homing)
    (.comp (.of_setAxis n _) (.ite (c := fun a => a.homeHit = true) (.refl n) (.of_setAxis n _))) (.refl n)

/-- Beside its axis, a stop makes the final statuses of AXIS_MOVE and AXIS_HOME due and changes nothing. -/
theorem haltMove_eq (n detail : Nat) (s : State) :
    ∃ fs, haltMove n detail s = { haltedAxis n detail s with io := { s.io with finals := fs } } := by
  by_cases hmoves : (s.axis n).state = .moving ∨ (s.axis n).state = .homing
  · have hhalt : haltMove n detail s = haltedAxis n detail
        ((s.finish .axisMove (axTarget n) stFaulted detail).finish .axisHome (axTarget n) stFaulted detail) := by
      refine Eq.trans ?_ (if_pos hmoves).symm
      unfold haltMove
      rcases hmoves with hstate | hstate <;> rw [hstate]
    obtain ⟨g, hg⟩ := haltedAxis_replacesAxis n detail
    rw [hhalt, hg, hg]
    exact ⟨_, rfl⟩
  · refine ⟨s.io.finals, Eq.trans ?_ (congrArg (fun t : State => { t with io := s.io }) (if_neg hmoves).symm)⟩
    unfold haltMove
    split
    · next hstate => exact absurd (.inl hstate) hmoves
    · next hstate => exact absurd (.inr hstate) hmoves
    · rfl

end Sys2Proof.Machine
end

section
/-!
PROOFS. The statement about the changes of an axis.
-/
namespace Sys2Proof.Machine

/-- The state check of a change that applies has passed once more, in a state that differs from the one before in the host
interface, the safety data and the ledger alone (R44). -/
theorem pre_of_applies {op : Op} {f : Frame} {s : State} (h : applies op f s = true) :
    ∃ i g l, (specOf op).pre (heldFlight op f s).cmd (withParts s i g l) = none := by
  obtain ⟨-, -, hpasses, hqueue, -, -, -, happly⟩ := (applies_iff op f s).1 h
  obtain ⟨-, -, -, hseq, -⟩ := (passes_iff op f s).1 hpasses
  simp only [applyFault, stateFault, orElse_none] at happly
  obtain ⟨-, -, ⟨-, hpre⟩, -⟩ := happly
  rw [committedState_parts op f s hseq hqueue] at hpre
  exact ⟨_, _, _, hpre⟩

/-- An AXIS_HOME that applies finds a parameter set (R268). -/
theorem axisSet_of_axisHome {f : Frame} {s : State} (h : applies .axisHome f s = true) :
    ∃ p, (s.axis (axIdx f.tgt)).set = some p := by
  obtain ⟨i, g, l, hpre⟩ := pre_of_applies h
  have hdenied : failIf (hostMoveDenied (axIdx f.tgt) (withParts s i g l)) stDeniedState 0 = none := hpre
  have haxis : (withParts s i g l).axis (axIdx f.tgt) = s.axis (axIdx f.tgt) := rfl
  rw [hostMoveDenied, haxis] at hdenied
  cases hset : (s.axis (axIdx f.tgt)).set with
  | none => simp [hset, failIf] at hdenied
  | some p => exact ⟨p, rfl⟩

/-- The segment by which an axis with parameters `p` seeks its home: POS_MAX - POS_MIN from where it is (R265). -/
def homeSeg (p : Bytes) (f : Frame) (s : State) : Seg where
  pos := (s.axis (axIdx f.tgt)).pos + (if bit (byteAt f.pay 1) 0 then aMin p - aMax p else aMax p - aMin p)
  mark := false
  blend := false
  vmax := u32At f.pay 4
  acc := u32At p 44
  jerk := u32At p 48

/-- AXIS_HOME starts, the axis seeking its home by `seg` (R265). -/
def homeEffect (f : Frame) (seg : Seg) (s : State) : State :=
  (startMove (axIdx f.tgt) [seg] s).setAxis (axIdx f.tgt) fun a => { a with
    state := .homing, homed := false, homeHit := false
    home := some (byteAt f.pay 0, bit (byteAt f.pay 1) 0, bit (byteAt f.pay 1) 1, u32At f.pay 4,
      toSigned 48 (leAt f.pay 8 6)) }

theorem homeEffect_replacesAxis (f : Frame) (seg : Seg) : ReplacesAxis (axIdx f.tgt) (homeEffect f seg) :=
  .comp (F := fun s => s.setAxis (axIdx f.tgt) _) (.of_setAxis _ _) (startMove_replacesAxis _ _)

theorem axisMove_effect (f : Frame) (s : State) :
    EffectIs f.hamper.val ((specOf .axisMove).eff (heldFlight .axisMove f s).cmd) s
      (startMove (axIdx f.tgt) (parseSegs (frameLen f / 24) f.pay (s.axis (axIdx f.tgt)).pos) s) :=
  .rfl fun i g l => (startMove_replacesAxis _ _).comm_withParts s i g l

theorem axisStop_effect (f : Frame) (s : State) :
    EffectIs f.hamper.val ((specOf .axisStop).eff (heldFlight .axisStop f s).cmd) s (haltedAxis (axIdx f.tgt) 0x80 s) := by
  refine .finals fun i g l => ?_
  obtain ⟨fs, hhalt⟩ := haltMove_eq (axIdx f.tgt) 0x80 (withParts s i g l)
  rw [(haltedAxis_replacesAxis _ _).comm_withParts] at hhalt
  exact ⟨fs, hhalt⟩

theorem axisHome_effect (f : Frame) {s : State} {p : Bytes} (hset : (s.axis (axIdx f.tgt)).set = some p) :
    EffectIs f.hamper.val ((specOf .axisHome).eff (heldFlight .axisHome f s).cmd) s (homeEffect f (homeSeg p f s) s) := by
  refine .rfl fun i g l => Eq.trans ?_ ((homeEffect_replacesAxis f _).comm_withParts s i g l)
  show (match (s.axis (axIdx f.tgt)).set with
    | none => withParts s i g l
    | some _ => _) = _
  rw [hset]
  rfl

/-- AXIS_CLEAR leaves an axis that is not in FAULT as it is (R269). -/
theorem axisClear_effect (f : Frame) (s : State) :
    EffectIs f.hamper.val ((specOf .axisClear).eff (heldFlight .axisClear f s).cmd) s
      (s.setAxis (axIdx f.tgt) fun a =>
        if a.state = .fault then { a with state := .off, fault := 0, drive := false, running := false } else a) := by
  rw [setAxis_ite fun a => a.state = .fault, setAxis_id]
  refine .rfl fun i g l => ?_
  by_cases hfault : (s.axis (axIdx f.tgt)).state = .fault
  · rw [if_pos hfault]
    exact if_pos hfault
  · rw [if_neg hfault]
    exact if_neg hfault

/-- Settles O6: each change replaces its axis by a function of itself; a stop also makes final statuses due, and a homing
that applies has found the parameter set that says how far the axis may seek. -/
theorem axisChangesTakeEffect : Obligations.AxisChangesTakeEffect := by
  refine ⟨?axisSet, ?axisEnable, ?axisMove, ?axisStop, ?axisHome, ?axisClear⟩
  case axisSet | axisEnable =>
    exact sets_of (fun _ _ => rfl) (fun _ _ _ => .rfl fun _ _ _ => rfl) (fun _ _ => .inl rfl) fun _ _ => .inl rfl
  case axisMove =>
    exact sets_of (fun _ _ => rfl) (fun f s _ => axisMove_effect f s)
      (fun _ s => .inl ((startMove_replacesAxis _ _).shs s)) fun _ s => .inl ((startMove_replacesAxis _ _).pwr s)
  case axisStop =>
    exact sets_of (fun _ _ => rfl) (fun f s _ => axisStop_effect f s)
      (fun _ s => .inl ((haltedAxis_replacesAxis _ _).shs s)) fun _ s => .inl ((haltedAxis_replacesAxis _ _).pwr s)
  case axisHome =>
    intro f s happlies
    obtain ⟨p, hset⟩ := axisSet_of_axisHome happlies
    obtain ⟨hrecorded, u, hcommitted, hleaves⟩ := change_sets happlies (axisHome_effect f hset)
      (.inl ((homeEffect_replacesAxis _ _).shs s)) (.inl ((homeEffect_replacesAxis _ _).pwr s))
    exact ⟨hrecorded, u, hcommitted, p, hset, hleaves⟩
  case axisClear =>
    exact sets_of (fun _ _ => rfl) (fun f s _ => axisClear_effect f s) (fun _ _ => .inl rfl) fun _ _ => .inl rfl

end Sys2Proof.Machine
end
